-- ==== Sys2Proof/Word.lean ====
section
/-!
DEFINITION. The word types of the device and the bit fields of its registers (00_scope.md, R19, R20, R22).
-/
namespace Sys2Proof

/-- A 32-bit register word. -/
abbrev Word := BitVec 32

/-- One byte. -/
abbrev Byte := BitVec 8

/-- A bit field of a register or of a packed word: its lowest bit and its width. -/
structure Fld where
  lo : Nat
  width : Nat
deriving DecidableEq, Repr

/-- Access codes of register fields, Table 0.8 (R19). -/
inductive Acc where
  | rw | ro | wo | w1c | rwl
deriving DecidableEq, Repr

end Sys2Proof
end

