-- ==== Sys2Proof/Syntax/Fault.lean ====
section
/-!
DEFINITION. Operands of the fault and Guideline rows (18_faults.md).
-/
namespace Sys2Proof

/-- A fault as a FAULT frame names it (Table 18.5). -/
structure FaultIn where
  cls : BitVec 8
  code : BitVec 8
  unit : BitVec 8
  parcel : BitVec 8
  count : BitVec 32
  index : BitVec 64
  arg0 : BitVec 64
deriving DecidableEq, Repr

/-- A frame of the Guideline ring as it arrives: whether the Surveyor or the Warden originated the exchange, the station addressed or
answering, whether its CRC passes (Table 18.4). -/
structure GdlHead where
  surveyor : Bool
  station : Fin 64
  crcOk : Bool
deriving DecidableEq, Repr

end Sys2Proof
end

