-- ==== Sys2Proof/Syntax/Gallery.lean ====
section
/-!
DEFINITION. Operands of the Gallery rows: ECC errors that words come to hold, and where an arriving event stands.
-/
namespace Sys2Proof

/-- The words of 02_events_and_state.md that carry ECC. -/
inductive WordKind where
  | state | axon | syn | ring | bmap
deriving DecidableEq, Repr

/-- A word that holds an ECC error until it is read or written: correctable or not. `idx` is a neuron, axon or synapse word index, or,
for a ring group of four slots, 4 × neuron + slot div 4, or, for a slot bitmap word, taken as 64 bits of one plane (DESIGN CHOICE, log entry
18), 2,048 × slot + neuron div 64. -/
structure EccErr where
  kind : WordKind
  idx : Nat
  ue : Bool
deriving DecidableEq, Repr

/-- Where an arriving event stands: the head of a port's intake FIFO (port of the Gallery's column) or of the column's inbound trunk
buffer; one slot of an output of the Gallery's mesh node (0 to the west, 1 to the east, 2 to the other row, 3 to the own Gallery), which the
node gives to a network and an input (R182); a VN-S flit given by its PARCEL and its word; or a VN-M flit for the node, given by its PARCEL,
which enters the mesh at the management node. `bad` says that the parity of the flit fails. -/
inductive Arrival where
  | rail (port : Fin 4) (bad : Bool)
  | tri (bad : Bool)
  | mesh (out : Fin 4) (bad : Bool)
  | flit (parcel : BitVec 3) (ev : BitVec 64)
  | management (parcel : BitVec 3)
deriving DecidableEq, Repr

/-- A VN-Q job submission: its first flit (Table 7.7), its second one, which carries the source's staging reference (R218), and the PARCEL of
the sideband. -/
structure JobFlit where
  word : BitVec 64
  ref : BitVec 64
  parcel : BitVec 3
deriving DecidableEq, Repr

/-- A VN-P response to a submission (R191, R217): the staging tag and the staging reference of its request, and the PARCEL of the sideband. -/
structure JobAnswer where
  tag : BitVec 8
  ref : BitVec 64
  parcel : BitVec 3
deriving DecidableEq, Repr

/-- A weight word that meets an ECC error as it loads: its index among the set's words (R214). -/
structure WeightErr where
  word : Nat
  ue : Bool
deriving DecidableEq, Repr

/-- An abandoned request: a Compass unit's submission by its staging slot, a cold fetch by its slot, the plane's weight read over the stack
rail, or a request that waits at the node of the column's stack, by its port and its place there (R191, R337). -/
inductive MeshRequest where
  | submission (slot : Fin 32)
  | coldFetch (slot : Nat)
  | weightRead
  | queued (sys : Bool) (i : Nat)
deriving DecidableEq, Repr

end Sys2Proof
end

