-- ==== Sys2Proof/Syntax/Link.lean ====
section
/-!
DEFINITION. Operands of the Traverse link rows: messages, IDENT records, training outcomes (10_traverse_links.md).
-/
namespace Sys2Proof

/-- A message on Q, P or M: its header fields and data bytes (Table 10.6). -/
structure LinkMsg where
  typ : BitVec 8
  src : BitVec 6
  dst : BitVec 6
  tag : BitVec 8
  arg : BitVec 64
  data : List Byte
deriving DecidableEq, Repr

/-- An IDENT record (R310): `coord` is the chip coordinate's index, if one is set (0xFF otherwise); the protocol version is 1. -/
structure IdentRec where
  version : Nat := 1
  devId : BitVec 128
  port : Fin 6
  part : Nat
  lab : Bool
  role : Fin 3
  coord : Option (Fin 64)
deriving DecidableEq, Repr

/-- How a link training state ends (Table 10.8): its action is done, it failed or ran out of time, or the 500 ms of a retrain are over. -/
inductive LinkOutcome where
  | ok | failed | retrainOver
deriving DecidableEq, Repr

/-- What the partner sends in KEYX (R305): its ephemeral public key, its signature (r, s), and its device certificate. -/
structure KeyRec where
  pub : Nat × Nat
  sig : Nat × Nat
  cert : List Byte
deriving DecidableEq, Repr

/-- A link training state's end: the partner's IDENT record; the transmitter and receiver settings of the nine lanes that a full EQ found; the
physical lanes that failed; the round trips of VERIFY's ECHO exchanges in 0.125 ns; what the partner sent in KEYX. -/
structure LinkStep where
  outcome : LinkOutcome
  ident : IdentRec
  settings : List (Nat × Nat) := []
  badLanes : BitVec 9
  trips : List Nat := []
  key : KeyRec := { pub := (0, 0), sig := (0, 0), cert := [] }
deriving DecidableEq, Repr

/-- Where the trunk takes an S event from: hub `c`, or a channel of link `k` (R325). -/
inductive TrunkSrc where
  | hub (c : Fin 4)
  | link (k : Fin 6) (s1 : Bool)
deriving DecidableEq, Repr

/-- What a chip tells the others of its parcel of a slice (R241, R255, R319, R419): the slice, its Galleries, whether an image is loaded, the expert
table without biases (pool size, salt, entries), and the jobs in MODE 0 with K = 32 of each Gallery's plane, as a mask. -/
structure PeerSlice where
  slice : Nat
  gals : BitVec 8
  loaded : Bool := false
  pool : Nat := 0
  salt : BitVec 32 := 0#32
  experts : List (BitVec 64) := []
  jobs : List (Nat × BitVec 64) := []
deriving DecidableEq, Repr

/-- A chip's IDENT data and licences, as its firmware answers over GRP (R319, Table 10.10): the chip it was asked under, whether it answered in time, its
coordinate, sizes and mode where they are set, device ID, part, session mode, GROUP-64, owner lock and key, its ACTIVE torus links as (own port, partner,
partner's port), whether a parcel is in Run, and its parcels' slices. -/
structure PeerReply where
  chip : Nat
  answered : Bool := true
  coord : Option (Nat × Nat × Nat) := none
  sizes : Nat × Nat × Nat := (1, 1, 1)
  edge : Bool := false
  devId : BitVec 128
  part : Nat := 0
  lab : Bool := false
  group64 : Bool := false
  ownerLock : Bool := false
  ownerKey : Option (Nat × Nat) := none
  links : List (Nat × BitVec 128 × Nat) := []
  running : Bool := false
  slices : List PeerSlice := []
deriving DecidableEq, Repr

/-- What a group management message says (R241, R255, R259, R260, R320 to R322, R326, R330, Table 12.13). The firmware defines its coding, which the
spec does not print, so the model holds its content: discovery and its answer; a routing table, the links to forward markers on, and the Galleries of every
slice by chip; the answers to a table; the end of formation; abort; dissolution; the wires that a chip finds out of use; a reset of a chip; a chip's
Galleries by slice; Bearing settings of a slice and their acknowledgement; a bias for the leader; a request for the tick count and its answer, with the time
since that count's turn in 10 ns. -/
inductive GrpBody where
  | discover
  | reply (r : PeerReply)
  | table (entries : List (Fin 64 × BitVec 32)) (fwd : BitVec 6) (homes : List (Nat × Nat × Nat))
  | accept
  | refuse
  | commit
  | abort
  | dissolve
  | cuts (wires : List (Nat × Nat))
  | chipReset (c : Fin 64)
  | slices (homes : List (Nat × Nat))
  | bearing (slice : Fin 16) (b step tol lshift : Nat) (en : Bool)
  | bearingDone
  | bias (slice : Fin 16) (expert : Nat) (b : Int)
  | askCount
  | count (n : Nat) (age : Nat)
deriving DecidableEq, Repr

/-- What a chip that returns from a reset hears from the chips of its group (R330). -/
structure RejoinIn where
  peers : List PeerReply
deriving DecidableEq, Repr

end Sys2Proof
end

