-- ==== Sys2Proof/Syntax/Host.lean ====
section
/-!
DEFINITION. Operands of the host interface: who issues a command, the 64-byte descriptor, and what the outside world answers
(12_host_and_mailboxes.md, 13_firmware_commands.md).
-/
namespace Sys2Proof

/-- A PCIe function: 0 to 7 are VF0 to VF7, 8 is the PF (Table 6.10, FUNC). -/
abbrev Func := Fin 9

/-- The PF. -/
def pf : Func := 8

/-- Who issues a firmware command: a PCIe function, or the host-attach link (R386). -/
inductive Issuer where
  | fn (f : Func)
  | attach
deriving DecidableEq, Repr

/-- A data buffer as the engine transfers it (R378): its bytes; with SGL set, the entries of the scatter list and the bytes gathered through it; or a
failed transfer. For a buffer the command writes, only the length matters. -/
inductive Buf where
  | bytes (b : List Byte)
  | scattered (entries : List (BitVec 128)) (b : List Byte)
  | failed
deriving DecidableEq, Repr

/-- What the device's surroundings answer while a command runs: the Ledger, a second reading of the buffer (R401), domains that do
not become ready (R422), peers. -/
structure CmdEnv where
  ledgerOk : Bool := true
  second : Option Buf := none
  notReady : List Nat := []
  peers : List PeerReply := []
deriving DecidableEq, Repr

/-- A firmware command: its issuer, its ring index, the 64 descriptor bytes of Table 12.9 (byte 0 in bits 7:0), its buffer, and
what its surroundings answer. -/
structure Cmd where
  issuer : Issuer
  idx : Nat
  desc : BitVec 512
  buf : Buf := .bytes []
  env : CmdEnv := {}
deriving DecidableEq, Repr

/-- The result of a command fetch from host memory (R376). -/
inductive FetchResult where
  | got (desc : BitVec 512)
  | failed
deriving DecidableEq, Repr

/-- A host access through BAR2 or BAR4 (R368, R369), and the memory words that meet ECC errors in it, as (byte address in SA or byte offset,
uncorrectable). -/
structure BarAccess where
  func : Func
  bar4 : Bool
  off : Nat
  write : Option (List Byte)
  len : Nat
  errs : List (Nat × Bool) := []
deriving DecidableEq, Repr

/-- A host access to BAR0 (R370). -/
structure Bar0Access where
  func : Func
  off : Nat
  size : Nat
  write : Option Nat
deriving DecidableEq, Repr

/-- Who uses a lock through a window: a Surveyor core or a PCIe function (Table 12.13). -/
inductive LockUser where
  | core (c : Fin 2)
  | fn (f : Func)
deriving DecidableEq, Repr

/-- What training one stack at a start comes to (R338 to R340): a failure in PHYINIT or IDENT with its state's code, or READY with the
device ID read, whether the full path was taken, the lane repairs and calibration settings that the full path found, and the pseudo-channels
it retired. -/
structure StackOutcome where
  failed : Option Nat := none
  devId : Nat := 0
  full : Bool := false
  repairs : List Nat := []
  settings : List Nat := []
  badPcs : BitVec 32 := 0#32
deriving DecidableEq, Repr

/-- What a start meets on its way to ONLINE (Tables 17.2 and 17.3): the reference; the Ledger's answer and the slots whose bytes come
back damaged; parity failures of the fuse rows; the monitor whose PLL is not judged stable after one relock; what the march
finds (scratchpad banks, synapse banks by Gallery, the entries of failures that spare rows and columns take, Galleries that have no
spare left); the session write; the retire map's authentication; licence records that come back damaged; each stack's training; the
Dense change; the stage at which the firmware hangs; µs from the pin's release to ONLINE. -/
structure StartInputs where
  refStable : Bool := true
  ledgerResponds : Bool := true
  badSlots : BitVec 2 := 0#2
  fuseParityFails : Nat := 0
  badPll : Option (Fin 7) := none
  marchScp : List (Fin 16) := []
  marchBanks : List (Fin 8 × Fin 8) := []
  marchSpared : List (BitVec 32) := []
  marchRows : List (Fin 8) := []
  sessionWriteOk : Bool := true
  rmapAuthentic : Bool := true
  badLicences : BitVec 6 := 0#6
  stackOut : List StackOutcome := []
  denseOk : Bool := true
  hangAt : Option Nat := none
  elapsedUs : Nat := 95000
deriving DecidableEq, Repr

end Sys2Proof
end

