-- ==== Sys2Proof/Syntax/Intake.lean ====
section
/-!
DEFINITION. Operands of the intake rows: CSI-2 and Seam packets (03_intake.md).
-/
namespace Sys2Proof

/-- How a CSI-2 packet header arrives: correct, corrected of one bit, or not correctable (Table 3.2). -/
inductive CsiHeader where
  | good | corrected | bad
deriving DecidableEq, Repr

/-- A CSI-2 long packet: header check, virtual channel, data type, payload, whether the payload CRC passes. -/
structure CsiLong where
  header : CsiHeader
  vc : BitVec 2
  dt : BitVec 6
  payload : List Byte
  crcOk : Bool
deriving DecidableEq, Repr

/-- A CSI-2 short packet. -/
structure CsiShort where
  header : CsiHeader
  vc : BitVec 2
  dt : BitVec 6
deriving DecidableEq, Repr

/-- A Seam packet: the bytes sent while SFRM is high, and how many packets leave the decoder between its beginning and the next packet's
(R103, R107). -/
structure SeamPkt where
  bytes : List Byte
  leave : Nat
deriving DecidableEq, Repr

end Sys2Proof
end

