-- ==== Sys2Proof/Syntax/Memory.lean ====
section
/-!
DEFINITION. Operands of the memory rows: accesses with the ECC errors they meet, training and test outcomes (11_memories.md).
-/
namespace Sys2Proof

/-- The requester of an access: a Gallery through its stack rail, or master `m` of Table 11.4 with the PCIe function that host DMA
acts for. -/
inductive Requester where
  | gallery (g : Fin 8)
  | master (m : Fin 6) (f : Func)
deriving DecidableEq, Repr

/-- A 64-bit word whose read meets an ECC error, correctable or not: its byte address in SA, or its byte offset in the scratchpad. -/
structure MemErr where
  addr : Nat
  ue : Bool
deriving DecidableEq, Repr

/-- An access to the stack address space: `sa` is the stack address (R335); `ca` how many command/address parity errors its command
meets (Table 11.1). -/
structure StackAccess where
  req : Requester
  sa : Nat
  len : Nat
  write : Option (List Byte)
  errs : List MemErr
  ca : Fin 3 := 0
deriving DecidableEq, Repr

/-- An access to the scratchpad at a byte offset. -/
structure ScpAccess where
  m : Fin 6
  func : Func
  off : Nat
  len : Nat
  write : Option (List Byte)
  errs : List MemErr
deriving DecidableEq, Repr

/-- How a stack training state ends (Table 11.3): a failed state, the pseudo-channels that failed in it, in IDENT the device ID and
temperature read, in LANE the lane repairs applied, in CAL the calibration settings that the full path finds. -/
structure TrainResult where
  failed : Bool
  badPcs : BitVec 32
  devId : Nat
  temp : Nat
  repairs : List Nat := []
  settings : List Nat := []
deriving DecidableEq, Repr

/-- What a background test block found (R357): no failure, or the failing 64-byte line of the 4 KiB block under test. -/
inductive TestResult where
  | pass
  | fail (line : Fin 64)
deriving DecidableEq, Repr

/-- The memories of a Gallery that its march tests (Table 11.8). -/
inductive GalMem where
  | banks | state | ring | bitmap | axons | weights | operands | outputs
deriving DecidableEq, Repr

/-- What the march engine found (R360): a bit per memory that failed, a failing address, for a Gallery the memory it lies in, the failing
scratchpad banks or stack pages (index in SA). -/
structure MarchResult where
  mems : BitVec 16
  addr : BitVec 32
  mem : GalMem := .banks
  places : List Nat
deriving DecidableEq, Repr

end Sys2Proof
end

