-- ==== Sys2Proof/Syntax/Power.lean ====
section
/-!
DEFINITION. Operands of the power rows (15_power.md).
-/
namespace Sys2Proof

/-- What the sensors of delivery read over a millisecond (R448): each domain's mean current in 10 mA, by domain index; package input
power in 0.1 W; VIN12 and VCORE_IN in mV. -/
structure TelFrame where
  amps : List Nat
  pkg : Nat
  vin : Nat
  vcore : Nat
deriving DecidableEq, Repr

end Sys2Proof
end

