-- ==== Sys2Proof/Syntax/Time.lean ====
section
/-!
DEFINITION. Operands of the Datum rows (01_time_and_datum.md R23 to R25).
-/
namespace Sys2Proof

/-- What reaches the Datum block: an edge of the Datum pin behind its glitch filter, a pulse that the filter removed, or a sync of an
intake port. -/
inductive DatumIn where
  | pin (falling : Bool)
  | glitch
  | sync (port : Fin 16) (line : Bool)
deriving DecidableEq, Repr

end Sys2Proof
end

