-- ==== Sys2Proof/Syntax.lean ====
section
/-!
DEFINITION. The commands of the block: one constructor per row of the table of operations and events, with its operands.
-/
namespace Sys2Proof

/-- A command: a firmware command, an event on a pin, bus or link, a register access, or an occurrence in time. -/
inductive Instr where
  /-- TIME_STATUS (R47): Returns time state, quality, reason, periods, tick count, powered time, session and host label. -/
  | timeStatus (c : Cmd)
  /-- TIME_SET_SOURCE (R23): Selects the Datum source, edge, sync and port, refusing a source with no usable period, and enters ACQUIRE. -/
  | timeSetSource (c : Cmd)
  /-- TIME_SET_RATIO (R28): Sets DAT_MUL, DAT_DIV or DAT_FREE_PERIOD, refused with BUSY while a parcel runs or REFUSED when no usable period is left. -/
  | timeSetRatio (c : Cmd)
  /-- TIME_SET_PHASE (R29): Sets the anchor phase offset, which becomes the new slew target. -/
  | timeSetPhase (c : Cmd)
  /-- TIME_ACCEPT_PERIOD (R41): Adopts a pending Datum period step at the next tick turn. -/
  | timeAcceptPeriod (c : Cmd)
  /-- TIME_SET_LABEL (R51): PF sets the opaque host label and a LABEL fault record is written. -/
  | timeSetLabel (c : Cmd)
  /-- DATUM_EDGE (R25): A Datum edge, either a filtered pin edge or an intake sync, is measured and drives acquisition, period averaging and phase error. -/
  | datumEdge (dt : Nat) (edge : DatumIn)
  /-- DATUM_LOSS (R38): No valid edge arrives within the loss limit, so the device enters HOLDOVER, counts the loss, records a fault and posts a TIME notice. -/
  | datumLoss
  /-- TICK_TURN (R42): A tick turn increments the tick count, issues the turn marker and runs the per-block steps of Table 1.3. -/
  | tickTurn (dt : Nat) (errs : List (Fin 8 × EccErr))
  /-- SETTLING_SWEEP (R73): At a tick count that is a multiple of 128, each Gallery lazily updates every neuron whose LAST is a half-window old. -/
  | settlingSweep (errs : List (Fin 8 × EccErr))
  /-- EPOCH_END (R271): At an epoch boundary the reward is latched, the candidate table frozen and the epoch-end sweep started. -/
  | epochEnd (g : Fin 8)
  /-- EPOCH_SWEEP_DONE (R273): The epoch-end sweep runs pass A, creation, the neuron step and pass B, then reports LearningStatus. -/
  | epochSweepDone (g : Fin 8) (errs : List EccErr)
  /-- EVENT_ARRIVAL (R158): An event reaches a Gallery mesh node, is checked, and enters a sub-queue or the router delay queue, or is dropped. -/
  | eventArrival (g : Fin 8) (a : Arrival)
  /-- EVENT_TAKE (R161): The engine takes an event, checks lateness, reads the axon entry and fans out contributions. -/
  | eventTake (g : Fin 8) (errs : List EccErr)
  /-- EMISSION_SEND (R168): An emission entry leaves the queue when credits allow, sending one event per covering descriptor. -/
  | emissionSend (g : Fin 8)
  /-- PENDING_EMIT (R80): The scanner serves a freed share entry to the next P-bit neuron, clears P and emits the spike. -/
  | pendingEmit (g : Fin 8) (m : Fin 16)
  /-- DELAY_RELEASE (R159): Due events of the router delay queue are released into REL as credits allow and restamped. -/
  | delayRelease (g : Fin 8)
  /-- COLD_FETCH_RESPONSE (R163): A 64-byte cold-list unit returns from the stack and its words fan out. -/
  | coldFetchResponse (g : Fin 8) (slot : Nat) (errs : List MemErr)
  /-- GALLERY_DRAINED (R155): A STOPPING Gallery with empty emission and no P bit clears ring input and becomes LOADED. -/
  | galleryDrained (g : Fin 8)
  /-- CFG_RESET_DONE (R156): A Gallery configuration reset completes and the Gallery is EMPTY. -/
  | cfgResetDone (g : Fin 8)
  /-- RESUME_SWEEP (R177): After a GAL wake the resume sweep settles or rests every written neuron before events are taken. -/
  | resumeSweep (g : Fin 8)
  /-- GALLERY_FAULT (R508): A Gallery enters FAULTED, halts, clears P bits, empties its queues and sets the discard sink. -/
  | galleryFault (g : Fin 8) (cause : Fin 16)
  /-- ENGINE_STALL (R508): An event held over 100 µs in an engine stage faults the Gallery with cause STALL. -/
  | engineStall (g : Fin 8)
  /-- TALLY_SCORE (R244): The Compass unit hashes a queued tally, scores its candidates and places it in a batch. -/
  | tallyScore (g : Fin 8)
  /-- BATCH_SUBMIT (R246): A batch is submitted when it is full, the queue is empty, 64 ns have passed or a seventeenth batch is needed. -/
  | batchSubmit (g : Fin 8) (b : Fin 16)
  /-- JOB_SUBMIT (R217): The job port answers a submission with ACCEPT, FULL, NOJOB, NOTRUN or SLICE. -/
  | jobSubmit (p : Fin 8) (q : JobFlit)
  /-- JOB_RESPONSE (R245): The Compass unit receives a job response and, unless it is ACCEPT, passes the rows to their next candidates. -/
  | jobResponse (g : Fin 8) (a : JobAnswer) (code : Fin 8)
  /-- OPERAND_READ (R218): A plane's operand read is served from a staging slot as a VN-P response. -/
  | operandRead (g : Fin 8)
  /-- OPERAND_TIMEOUT (R218): An operand read unanswered within 10 µs abandons the job. -/
  | operandTimeout (p : Fin 8) (j : Fin 8)
  /-- STAGING_TIMEOUT (R248): A staging slot is zeroed and freed 10 µs after its submission. -/
  | stagingTimeout (g : Fin 8) (slot : Fin 32)
  /-- WEIGHT_LOAD (R212): A weight set finishes loading into the free weight buffer and gets its tag. -/
  | weightLoad (p : Fin 8) (errs : List WeightErr)
  /-- JOB_START (R219): The job at the head of the queue starts once its operands and weights are ready. -/
  | jobStart (p : Fin 8)
  /-- JOB_COMPLETE (R224): A job's sums are requantised and its output action is performed. -/
  | jobComplete (p : Fin 8) (bufUe : Option Nat)
  /-- TRAIN_PART (R252): A tally reference train part is received and assembled into a train context. -/
  | trainPart (g : Fin 8) (ev : BitVec 64)
  /-- TRAIN_TIMEOUT (R252): A train context that waits more than 2 µs for a part is discarded as INCOMPLETE. -/
  | trainTimeout (g : Fin 8) (ctx : Fin 32)
  /-- BEARING_PERIOD_END (R256): At a period end, loads are moved to LAST and LOAD events are sent to the leader. -/
  | bearingPeriodEnd (g : Fin 8)
  /-- LOAD_EVENT (R256): The Bearing leader receives a LOAD report. -/
  | loadEvent (g : Fin 8) (ev : BitVec 64)
  /-- BEARING_STEP (R257): After all reports arrive, or after 100 µs, the leader steps the biases and sends BIAS events. -/
  | bearingStep (g : Fin 8)
  /-- BIAS_EVENT (R258): A Compass unit writes a received bias between two tallies. -/
  | biasEvent (g : Fin 8) (ev : BitVec 64)
  /-- REQUEST_TIMEOUT (R191): A VN-Q or stack request unanswered in 10 µs is abandoned and its reservation freed. -/
  | requestTimeout (g : Fin 8) (r : MeshRequest)
  /-- TRUNK_EVENT (R325): The trunk checks an S event against the routing entry and forwards it to a link or hub, or drops it. -/
  | trunkEvent (src : TrunkSrc)
  /-- CSI2_LONG_PACKET (R95): A CSI-2 long packet is checked, converted, notched, mapped, tallied and governed into events. -/
  | csi2LongPacket (p : Fin 16) (k : CsiLong)
  /-- CSI2_SHORT_PACKET (R91): A Frame Start or Line Start short packet resets line numbering, may move START to RUN, or gives a Datum sync. -/
  | csi2ShortPacket (p : Fin 16) (k : CsiShort)
  /-- SEAM_PACKET (R103): A Seam packet is checked for header, CRC and sequence and is decoded, then its buffer credit is returned. -/
  | seamPacket (p : Fin 16) (k : SeamPkt)
  /-- FLICKER_WINDOW_END (R110): At the end of FLK_WIN Datum periods, bins are flagged and the counts restart. -/
  | flickerWindowEnd (p : Fin 16)
  /-- PORT_SYNC_LOSS (R91): No valid packet or Frame Start arrives for SYNC_TO, so the port enters RESTART or RETIRED and its stream stops. -/
  | portSyncLoss (p : Fin 16)
  /-- PORT_RESTART_END (R92): After 1 ms in RESTART the port returns to START and grants fresh credits. -/
  | portRestartEnd (p : Fin 16)
  /-- ERASE_REQUEST (R131): A port's erase request reaches the Galleries of its column, raising the fence and starting the erase engine. -/
  | eraseRequest (p : Fin 16)
  /-- ERASE_COMPLETE (R132): The erasure of a port's resident storage completes, ERASE[p] clears and the next port's erasure begins. -/
  | eraseComplete (g : Fin 8) (p : Fin 16)
  /-- INTAKE_CLOCK_FALLBACK (R465): After 200 ns without port clock edges the pipeline switches to PLL-S/5, and it switches back when edges return. -/
  | intakeClockFallback (p : Fin 16) (b : Bool)
  /-- RECORD_REQUEST (R137): A record request is checked, headed, metered and written to the ring or backlog. -/
  | recordRequest (q : Fin 8) (src : BitVec 8) (payload : BitVec 64)
  /-- METER_REFILL (R144): Every 15,625 µs each bucket gains its rate, capped at its depth. -/
  | meterRefill
  /-- HEARTBEAT (R142): A Heartbeat device record is formed for each running parcel every HB_PERIOD. -/
  | heartbeat
  /-- LEARNING_STATUS (R142): At most once a second a coalesced LearningStatus record is formed. -/
  | learningStatus (q : Fin 8)
  /-- BACKLOG_WRITE (R381): A backlogged record is written to the result ring when space frees. -/
  | backlogWrite (q : Fin 8)
  /-- BACKLOG_AGE (R148): A backlog record older than AGE is discarded and counted. -/
  | backlogAge (q : Fin 8)
  /-- PARCEL_STATUS (R199): Returns parcel state, rectangle, binding, mask, pools and counters. -/
  | parcelStatus (c : Cmd)
  /-- PARCEL_CREATE (R194): Creates a parcel, checks overlap, binding and ports, and places its stack regions. -/
  | parcelCreate (c : Cmd)
  /-- PARCEL_DESTROY (R200): Frees a CREATED parcel, resets its Galleries and clears its regions. -/
  | parcelDestroy (c : Cmd)
  /-- PARCEL_SET_POOLS (R200): Sets the trunk and stack pools of a CREATED parcel. -/
  | parcelSetPools (c : Cmd)
  /-- PARCEL_CLEAR_COUNTERS (R200): Clears PCL_CNT and the trunk counters of unshared columns. -/
  | parcelClearCounters (c : Cmd)
  /-- ATLAS_STATUS (R413): Returns the digest prefix and firmware values of the loaded image. -/
  | atlasStatus (c : Cmd)
  /-- ATLAS_LOAD (R401): Checks the image in pass 1 and writes it in pass 2, leaving the parcel LOADED. -/
  | atlasLoad (c : Cmd)
  /-- ATLAS_UNLOAD (R156): Moves the parcel from LOADED to CREATED with a configuration reset. -/
  | atlasUnload (c : Cmd)
  /-- INTAKE_STATUS (R122): Returns a port's state, kind, S, OVERLOAD, counters and HELLO identifier. -/
  | intakeStatus (c : Cmd)
  /-- INTAKE_ENABLE (R92): Sets EN, and a RETIRED port clears its history and goes to START or OFF. -/
  | intakeEnable (c : Cmd)
  /-- INTAKE_DISABLE (R88): Clears EN, and a port outside RETIRED goes to OFF. -/
  | intakeDisable (c : Cmd)
  /-- INTAKE_SET_SHED (R117): Sets the governor budget, reserve, LOW, DECAY and SMAX from the next tick turn. -/
  | intakeSetShed (c : Cmd)
  /-- INTAKE_INJECT (R90): In lab mode delivers IEF words into a port's convert stage. -/
  | intakeInject (c : Cmd)
  /-- INTAKE_CLEAR_COUNTERS (R122): Clears one port's counters. -/
  | intakeClearCounters (c : Cmd)
  /-- RUN_STATUS (R406): Returns the parcel, Gallery and port states. -/
  | runStatus (c : Cmd)
  /-- RUN_START (R403): Sets commits, fills buckets, enables the Galleries and starts the ports of a LOADED parcel. -/
  | runStart (c : Cmd)
  /-- RUN_STOP (R403): Clears RUN_EN, flushes planes, stops ports and completes when the parcel is LOADED. -/
  | runStop (c : Cmd)
  /-- EGRESS_STATUS (R151): Returns bucket, meter, backlog and schema counters of a parcel. -/
  | egressStatus (c : Cmd)
  /-- EGRESS_SET_METER (R147): Sets RATE_U and BURST of one stream, refusing a rate above the fused ceiling. -/
  | egressSetMeter (c : Cmd)
  /-- EGRESS_SET_HEARTBEAT (R142): PF sets HB_PERIOD. -/
  | egressSetHeartbeat (c : Cmd)
  /-- EGRESS_SET_BACKLOG (R148): PF sets the backlog age limit. -/
  | egressSetBacklog (c : Cmd)
  /-- EGRESS_CLEAR_COUNTERS (R151): Clears a parcel's egress counters. -/
  | egressClearCounters (c : Cmd)
  /-- DARK_STATUS (R151): Returns dark ranges, windows, erase and fence counts without values. -/
  | darkStatus (c : Cmd)
  /-- LEARN_STATUS (R292): Returns learning state, counters and site memory state. -/
  | learnStatus (c : Cmd)
  /-- LEARN_ENABLE (R272): Sets LRN_CTL.EN in every Gallery of the parcel. -/
  | learnEnable (c : Cmd)
  /-- LEARN_DISABLE (R272): Clears LRN_CTL.EN, keeping accumulated state. -/
  | learnDisable (c : Cmd)
  /-- LEARN_SET_EPOCH (R271): Sets EPOCH from the next epoch end. -/
  | learnSetEpoch (c : Cmd)
  /-- LEARN_REWARD (R269): Adds a signed reward to every Gallery of the parcel. -/
  | learnReward (c : Cmd)
  /-- SITE_SAVE (R289): Saves learned light state to the Ledger or the storage link, deferring sweeps during the copy. -/
  | siteSave (c : Cmd)
  /-- SITE_RESTORE (R290): Verifies and restores a site memory image into a LOADED parcel. -/
  | siteRestore (c : Cmd)
  /-- SITE_DELETE (R289): Erases the parcel's Ledger site image. -/
  | siteDelete (c : Cmd)
  /-- LEARN_CLEAR_COUNTERS (R292): Clears the parcel's LRN counters. -/
  | learnClearCounters (c : Cmd)
  /-- EXPERT_STATUS (R260): Returns the pool, leader, biases, loads and counters of a slice. -/
  | expertStatus (c : Cmd)
  /-- EXPERT_SET_BEARING (R260): Sets B, STEP, TOL, LSHIFT and BEAR_EN across the slice from the next period end. -/
  | expertSetBearing (c : Cmd)
  /-- EXPERT_SET_BIAS (R259): Writes one expert's bias into the leader, which broadcasts it. -/
  | expertSetBias (c : Cmd)
  /-- EXPERT_CLEAR_COUNTERS (R260): Clears the CMP counters of the slice on this chip. -/
  | expertClearCounters (c : Cmd)
  /-- GROUP_STATUS (R318): Returns group state, coordinates, sizes, sync state and routes. -/
  | groupStatus (c : Cmd)
  /-- GROUP_SET_COORD (R320): Sets the coordinate, sizes and mode of a SINGLE chip. -/
  | groupSetCoord (c : Cmd)
  /-- GROUP_FORM (R319): Runs discovery, admission checks, route distribution and the first marker to form a group. -/
  | groupForm (c : Cmd)
  /-- FORMING_TIMEOUT (R321): A FORMING chip with no COMMIT or abort in 100 ms returns to SINGLE. -/
  | formingTimeout
  /-- GRP_ABORT (R321): A chip receiving a GRP abort returns to SINGLE. -/
  | grpAbort (k : Fin 6) (m : LinkMsg)
  /-- GROUP_DISSOLVE (R322): Returns every chip to SINGLE with local routes and own Datum. -/
  | groupDissolve (c : Cmd)
  /-- GROUP_RESYNC (R329): Adopts the group count at the next marker. -/
  | groupResync (c : Cmd)
  /-- GROUP_REJOIN (R330): A chip back from reset rejoins its group without a host command once links are ACTIVE. -/
  | groupRejoin (x : RejoinIn)
  /-- LINK_STATUS (R332): Returns state, reason, partner, lane map, delay and counters of a link. -/
  | linkStatus (c : Cmd)
  /-- LINK_ENABLE (R315): Wakes the LINK domain, sets EN and starts training, clearing a retired link's history. -/
  | linkEnable (c : Cmd)
  /-- LINK_RETRAIN (R312): Sends an ACTIVE link to RETRAIN. -/
  | linkRetrain (c : Cmd)
  /-- LINK_CLEAR_COUNTERS (R332): Clears one link's counters. -/
  | linkClearCounters (c : Cmd)
  /-- LINK_TRAINING_STEP (R309): A link training state completes or times out and the link moves to its next state. -/
  | linkTrainingStep (k : Fin 6) (r : LinkStep)
  /-- FLIT_RECEIVE (R301): A sequenced flit is CRC-checked, accepted in order or discarded with a NAK, and unsealed. -/
  | flitReceive (k : Fin 6) (f : BitVec 160)
  /-- LCTL (R300): An LCTL flit delivers acknowledgements, NAK and cumulative credits. -/
  | lctl (k : Fin 6) (p : BitVec 128)
  /-- LCTL_SEND (R300): A receiver sends an LCTL flit at least every 1 µs. -/
  | lctlSend (k : Fin 6)
  /-- REPLAY_TIMEOUT (R301): With flits outstanding and no acknowledgement for 2 µs the sender replays. -/
  | replayTimeout (k : Fin 6)
  /-- BLOCK_CLOSE (R306): A sealed block closes at 256 flits or after 1 µs and its TAG flit is sent. -/
  | blockClose (k : Fin 6)
  /-- TAG (R307): The receiver checks a block's tag, and a failure retires the link and logs suspect events. -/
  | tag (k : Fin 6) (t : BitVec 128)
  /-- LINK_Q_TIMEOUT (R303): A Q request unanswered within 10 µs is abandoned. -/
  | linkQTimeout (k : Fin 6) (t : BitVec 8)
  /-- ROUTE_REWRITE (R326): After a link retires the firmware rewrites routes and marks unreachable experts. -/
  | routeRewrite
  /-- REG_READ (R304): A remote register read message is served with READ_DATA. -/
  | regRead (k : Fin 6) (m : LinkMsg) (errs : List MemErr)
  /-- REG_WRITE (R304): A remote register write message is performed and answered with STATUS. -/
  | regWrite (k : Fin 6) (m : LinkMsg)
  /-- LOCK_CLAIM (R331): A remote Surveyor claims a group-wide lock and the lowest chip wins the window. -/
  | lockClaim (k : Fin 6) (m : LinkMsg)
  /-- LOCK_RELEASE (R331): A remote Surveyor releases a group-wide lock. -/
  | lockRelease (k : Fin 6) (m : LinkMsg)
  /-- MBX_CMD (R386): A command arrives over the host-attach link and runs with the attach path's rights. -/
  | mbxCmd (k : Fin 6) (m : LinkMsg)
  /-- STORE_READ (R291): A read of site memory over the storage link. -/
  | storeRead (k : Fin 6) (m : LinkMsg)
  /-- STORE_WRITE (R291): A write of site memory over the storage link. -/
  | storeWrite (k : Fin 6) (m : LinkMsg)
  /-- TMARK (R328): A follower takes a turn marker, schedules its turn and forwards the marker. -/
  | tmark (k : Fin 6) (m : LinkMsg)
  /-- TMARK_SEND (R327): The leader sends a TMARK LEAD ns before each of its tick turns. -/
  | tmarkSend
  /-- MARKERS_LOST (R329): After MISS_MAX missed markers the follower enters HOLDOVER. -/
  | markersLost
  /-- ECHO (R328): A delay measurement ECHO is answered with ECHO_RSP. -/
  | echo (k : Fin 6) (m : LinkMsg)
  /-- GRP (R320): A group management message is handled by the firmware. -/
  | grp (k : Fin 6) (m : LinkMsg) (b : GrpBody)
  /-- GDL (R499): A tunnelled Guideline frame enters the ring at the link's station. -/
  | gdl (k : Fin 6) (m : LinkMsg)
  /-- POWER_STATUS (R425): Returns which domains are on and which in retention. -/
  | powerStatus (c : Cmd)
  /-- POWER_SET_DOMAIN (R435): Takes a domain and its dependants through entry stages, or wakes them, with refusals unwound. -/
  | powerSetDomain (c : Cmd)
  /-- POWER_SET_POLICY (R432): Sets a domain's wake policy and DNS idle timers. -/
  | powerSetPolicy (c : Cmd)
  /-- CLOCK_SET_DENSE (R460): Changes the Dense clock by hold, drain, relock and release. -/
  | clockSetDense (c : Cmd)
  /-- CLOCK_SET_CLKOUT (R466): Selects the CLKOUT source and divider with a glitch-free switch. -/
  | clockSetClkout (c : Cmd)
  /-- CLOCK_SET_SPREAD (R453): Sets the spread depth and rate of a PLL, ramping over 16 periods. -/
  | clockSetSpread (c : Cmd)
  /-- TELEMETRY_READ (R449): Returns current and energy readings of named domains. -/
  | telemetryRead (c : Cmd)
  /-- POWER_SET_CAP (R446): Sets the package power cap at or below the fused cap. -/
  | powerSetCap (c : Cmd)
  /-- DOMAIN_ENTRY_STAGE (R435): An entry stage of a domain ends, such as a DRAIN that completes or expires, and the next stage or a refusal follows. -/
  | domainEntryStage (d : Fin 36) (expired : Bool)
  /-- WAKE_EVENT (R436): An access during entry abandons it at the next abort point. -/
  | wakeEvent (d : Fin 36)
  /-- DOMAIN_WAKE (R430): An on-demand access or a command starts a domain's four-step wake. -/
  | domainWake (d : Fin 36)
  /-- WAKE_READY (R430): A domain raises its ready signal and stalled accesses proceed. -/
  | wakeReady (d : Fin 36) (errs : List (Nat × Nat))
  /-- DNS_IDLE_TIMER (R230): An idle plane's timer requests retention or off. -/
  | dnsIdleTimer (p : Fin 8)
  /-- CAP_LOOP (R446): Every 1 ms the firmware lowers or raises the Dense clock against the power cap. -/
  | capLoop
  /-- TJ_SAMPLE (R447): Every 1 ms the hottest Tj is read and the TJ_HI, 105 °C and 115 °C actions are applied. -/
  | tjSample (region : Fin 96) (t : BitVec 8)
  /-- THERMAL_RECOVERY (R447): Once Tj falls below 90 °C the Warden runs a warm start. -/
  | thermalRecovery (t : Nat)
  /-- CURRENT_LIMIT (R445): Core current above I_SUS or I_PEAK throttles Dense job starts. -/
  | currentLimit (mean : Nat) (inst : Nat)
  /-- TELEMETRY_FRAME (R448): At each ms boundary the telemetry values are latched and TEL_SEQ rises. -/
  | telemetryFrame (r : TelFrame)
  /-- SUPPLY_UNDERVOLTAGE (R444): VIN12 or VCORE_IN below threshold for 10 µs asserts COLD_N internally. -/
  | supplyUndervoltage (vin : Bool)
  /-- SUPPLY_RETURN (R444): Supplies back in range for 10 ms release the internal COLD_N. -/
  | supplyReturn
  /-- MONITOR_WINDOW (R457): A clock monitor gate ends, judging the clock stable or failed and triggering the action of Table 16.3. -/
  | monitorWindow (m : Fin 30) (count : Nat) (amp : Bool)
  /-- RELOCK_DONE (R457): A relocked PLL is judged afresh and its consumers are ungated. -/
  | relockDone (p : Fin 6) (ok : Bool)
  /-- REFERENCE_LOSS (R458): On REF failure the Warden moves powered time to RC, holds domains in reset and retries. -/
  | referenceLoss
  /-- RESONATOR_RESTART (R458): Every 100 ms the Warden restarts the resonator, and a warm start follows once it is stable. -/
  | resonatorRestart (ok : Bool)
  /-- DENSE_CHANGE_DRAIN (R461): Running jobs finish under the hold or the change ends BUSY after 50 µs. -/
  | denseChangeDrain (expired : Bool)
  /-- COLD_N (R529): Assertion of the COLD_N pin holds the device in cold reset. -/
  | coldN (ns : Nat)
  /-- COLD_START (R468): On release of COLD_N the device runs the cold start stages to ONLINE. -/
  | coldStart (x : StartInputs)
  /-- WARM_N (R529): Assertion of WARM_N resets device state except the Lantern domain. -/
  | warmN (ns : Nat)
  /-- WARM_START (R476): On release of WARM_N the device runs stages 2 to 10 to ONLINE. -/
  | warmStart (x : StartInputs)
  /-- BOOT_WATCHDOG (R480): A slot not ONLINE within 5 s of core release triggers a warm start or FAILED. -/
  | bootWatchdog
  /-- TRIAL_CONFIRM (R481): After 60 s ONLINE a TRIAL slot is confirmed and SECVER fuses are blown. -/
  | trialConfirm
  /-- PE_RST_N (R530): PCIe fundamental reset acts as a hot reset of the host interface. -/
  | peRstN
  /-- FLR (R366): A function level reset quiesces and clears that function's rings and raises its life count. -/
  | flr (f : Func)
  /-- HOT_RESET (R366): Hot reset, link down or D3hot to D0 quiesces every function's rings. -/
  | hotReset
  /-- VF_ENABLE_CLEARED (R366): Clearing VF Enable quiesces every VF's rings. -/
  | vfEnableCleared
  /-- D3HOT (R366): A function entering D3hot has its rings quiesced. -/
  | d3hot (f : Func)
  /-- BAR_ACCESS (R369): A host access through BAR2 or BAR4 is checked against master and stack regions and performed or denied. -/
  | barAccess (a : BarAccess)
  /-- BAR0_BAD_ACCESS (R370): A BAR0 access of an unsupported size completes as Unsupported Request and is counted. -/
  | bar0BadAccess (a : Bar0Access)
  /-- MBX_CMD_PI_DB (R375): The command producer doorbell is latched, or puts the rings into ERROR. -/
  | mbxCmdPiDb (f : Func) (v : BitVec 32)
  /-- MBX_CPL_CI_DB (R375): The completion consumer doorbell is latched, or puts the rings into ERROR. -/
  | mbxCplCiDb (f : Func) (v : BitVec 32)
  /-- MBX_RES_CI_DB (R375): The result consumer doorbell is latched, or puts the rings into ERROR. -/
  | mbxResCiDb (f : Func) (v : BitVec 32)
  /-- RING_ENABLE (R382): Writing EN = 1 makes the rings ACTIVE, or ERROR on invalid sizes. -/
  | ringEnable (f : Func)
  /-- RING_DISABLE (R382): Writing EN = 0 starts quiescing the function's rings. -/
  | ringDisable (f : Func)
  /-- QUIESCE_COMPLETE (R382): With no DMA outstanding the rings reach OFF and QUIESCED is set. -/
  | quiesceComplete (f : Func)
  /-- COMMAND_FETCH (R376): The ring engine fetches a command when the index, limits and completion space allow. -/
  | commandFetch (f : Func) (r : FetchResult)
  /-- COMMAND_START (R377): The firmware starts a fetched command in ring order once same-group and fence waits clear. -/
  | commandStart (who : Issuer) (buf : Buf) (env : CmdEnv)
  /-- COMPLETION_WRITE (R379): A completion is written into its reserved slot with its PHASE bit and CPL_PI rises. -/
  | completionWrite (who : Issuer)
  /-- NOTICE (R380): The engine posts a notice, or pends and coalesces it when no slot is free. -/
  | notice (f : Func) (kind : Fin 7) (arg : BitVec 64)
  /-- CPL_COALESCE_TIMER (R385): The completion coalescing time expires and the CPL vector is signalled. -/
  | cplCoalesceTimer (f : Func)
  /-- RES_COALESCE_TIMER (R385): RES_T expires or RES_N records accumulate and the RES vector is signalled. -/
  | resCoalesceTimer (f : Func)
  /-- LCK_ACQ (R389): A read of LCK_ACQ_n attempts acquisition and returns the lock word. -/
  | lckAcq (u : LockUser) (n : Fin 64)
  /-- LCK_REL (R388): A write to LCK_REL_n releases the lock if the writer owns it. -/
  | lckRel (u : LockUser) (n : Fin 64) (v : BitVec 32)
  /-- DEVICE_INFO (R483): Returns the part, fused limits, licences and firmware version. -/
  | deviceInfo (c : Cmd)
  /-- DEVICE_STATUS (R371): Returns the mirror state and mirror registers. -/
  | deviceStatus (c : Cmd)
  /-- DEVICE_NOP (R393): Echoes its parameters. -/
  | deviceNop (c : Cmd)
  /-- DEVICE_WARM_RESET (R467): Completes, then asserts WARM_N internally 1 ms later. -/
  | deviceWarmReset (c : Cmd)
  /-- FW_WRITE (R482): Writes into the inactive firmware slot. -/
  | fwWrite (c : Cmd)
  /-- FW_COMMIT (R482): Verifies the written slot and sets it as TRIAL in the boot record. -/
  | fwCommit (c : Cmd)
  /-- FW_ABORT (R482): Discards a partial firmware image. -/
  | fwAbort (c : Cmd)
  /-- SEC_STATUS (R404): Returns licences, owner key and lock state and mode. -/
  | secStatus (c : Cmd)
  /-- LICENCE_INSTALL (R489): Verifies and stores a licence record, which takes effect at completion. -/
  | licenceInstall (c : Cmd)
  /-- LICENCE_REMOVE (R404): Erases a licence record, which stays in effect until the next cold start. -/
  | licenceRemove (c : Cmd)
  /-- OWNER_ENROL (R415): Stores or removes the owner key from a signed record. -/
  | ownerEnrol (c : Cmd)
  /-- OWNER_LOCK_SET (R416): Sets owner lock when a key is enrolled. -/
  | ownerLockSet (c : Cmd)
  /-- OWNER_LOCK_CLEAR (R416): Clears owner lock on a release record signed by the owner. -/
  | ownerLockClear (c : Cmd)
  /-- SEC_GET_CERT (R305): Writes the device certificate. -/
  | secGetCert (c : Cmd)
  /-- FAULT_STATUS (R500): Returns the latest sequence number and the entries stored. -/
  | faultStatus (c : Cmd)
  /-- FAULT_LOG_READ (R503): Returns fault log entries from a sequence number. -/
  | faultLogRead (c : Cmd)
  /-- COUNTERS_READ (R397): Reports the counters of a block instance. -/
  | countersRead (c : Cmd)
  /-- COUNTERS_CLEAR (R397): Clears the counters of a block instance. -/
  | countersClear (c : Cmd)
  /-- FAULT_SET_BUDGET (R494): Writes retry budgets into the channels of a class. -/
  | faultSetBudget (c : Cmd)
  /-- FAULT_RECOVER (R511): Stops the parcel, power-cycles faulted Galleries, resets the rest and leaves the parcel CREATED. -/
  | faultRecover (c : Cmd)
  /-- MEM_STATUS (R361): Returns stack, region, watermark, retirement and scratchpad state. -/
  | memStatus (c : Cmd)
  /-- MEM_TEST (R359): Runs the march engine on one target. -/
  | memTest (c : Cmd)
  /-- MEM_FILL (R345): Zero-fills a region up to FILL_TO, advancing the watermark. -/
  | memFill (c : Cmd)
  /-- MEM_SET_BG (R357): Sets background test enable and interval. -/
  | memSetBg (c : Cmd)
  /-- DIAG_TAP (R405): Records fires of a neuron range in lab mode. -/
  | diagTap (c : Cmd)
  /-- DIAG_READ (R405): Returns Gallery memory words in lab mode. -/
  | diagRead (c : Cmd)
  /-- DIAG_WRITE (R405): Writes Gallery memory words through the dark range checker in lab mode. -/
  | diagWrite (c : Cmd)
  /-- STACK_ACCESS (R342): A stack node serves an admitted access against its region and watermark. -/
  | stackAccess (a : StackAccess)
  /-- FILL_COMPLETE (R345): The fill engine reaches FILL_TO. -/
  | fillComplete (k : Fin 4) (r : Fin 16)
  /-- REFRESH (R341): The controller issues REFpb at the required, or doubled, interval. -/
  | refresh (k : Fin 4)
  /-- STACK_TEMP_READ (R341): Every 1 ms the stack temperature is read, and HOT is set above 95 °C. -/
  | stackTempRead (k : Fin 4) (t : BitVec 8)
  /-- BACKGROUND_TEST_BLOCK (R357): Every BG_INTERVAL one 4 KiB block is copied, marched and written back. -/
  | backgroundTestBlock (target : Fin 5) (r : TestResult)
  /-- SCRATCHPAD_ACCESS (R352): A scratchpad access is checked and served, and unwritten lines read as zero. -/
  | scratchpadAccess (a : ScpAccess)
  /-- SCP_BANK_COPY_DONE (R353): A retired scratchpad bank finishes copying into the spare. -/
  | scpBankCopyDone
  /-- MARCH_DONE (R360): The march engine finishes and reports pass or fail. -/
  | marchDone (r : MarchResult)
  /-- FAULT_RECORD (R500): A fault becomes a collector record with sequence number and a FAULT notice. -/
  | faultRecord (x : FaultIn)
  /-- COLLECTOR_DRAIN (R502): At least every 10 ms the firmware drains collector records to the Ledger log. -/
  | collectorDrain (ok : Bool)
  /-- SURVEYOR_RECOVERY (R504): On watchdog, clock, TCM or panic the Warden resets and reloads the Surveyor. -/
  | surveyorRecovery (reason : Fin 5)
  /-- RECOVERY_RETURN (R504): The reloaded firmware audits blocks, completes fetched commands INTERRUPTED and returns ONLINE. -/
  | recoveryReturn (out : Fin 3)
  /-- BEAT (R440): The Lantern 1 ms timer wakes the Surveyor, which advances LNT_MIR_BEAT. -/
  | beat
  /-- GUIDELINE_READ (R497): A station reads a register of its block and answers RESP. -/
  | guidelineRead (h : GdlHead) (off : BitVec 32)
  /-- GUIDELINE_WRITE (R497): A station writes a register of its block and answers RESP. -/
  | guidelineWrite (h : GdlHead) (off : BitVec 32) (v : BitVec 32)
  /-- GUIDELINE_RESP (R496): A RESP frame reaches its originator. -/
  | guidelineResp (h : GdlHead) (st : BitVec 8) (v : Option (BitVec 32))
  /-- GUIDELINE_FAULT (R498): A station's FAULT frame reaches the collector. -/
  | guidelineFault (h : GdlHead) (x : FaultIn)
  /-- GUIDELINE_DRAIN (R509): A mesh node station sets or clears the discard sink. -/
  | guidelineDrain (h : GdlHead) (b : Bool)
  /-- HALT (R508): A block halts and a Gallery enters FAULTED with cause FORCED. -/
  | halt (h : GdlHead)
  /-- RESET_NOTE (R499): The leader's Warden raises the remote chip's life count, breaking its locks. -/
  | resetNote (c : Fin 64)
  /-- PING (R496): Every station answers RESP. -/
  | ping (h : GdlHead)
  /-- GUIDELINE_TIMEOUT (R496): No RESP within 100 µs counts a timeout. -/
  | guidelineTimeout (sv : Bool) (dst : Fin 64)
  /-- GDL_GO (R497): Writing GDL_CTL.GO sends the frame in GDL_TX onto the ring. -/
  | gdlGo
  /-- PANIC (R504): Writing FLT_CTL.PANIC requests a Surveyor recovery with reason PANIC. -/
  | panic
  /-- FLT_DRAIN (R502): Writing FLT_DRAIN frees the N oldest collector records. -/
  | fltDrain (n : BitVec 9)
  /-- CFG_RESET (R156): Writing GAL_EVT_CTL.CFG_RESET starts a configuration reset, or is ignored with CFG_ERR in RUN or STOPPING. -/
  | cfgReset (g : Fin 8)
  /-- RUN_EN (R154): Writing GAL_EVT_CTL.RUN_EN moves the Gallery to RUN or STOPPING. -/
  | runEn (g : Fin 8) (b : Bool)
  /-- FLUSH (R216): Writing DNS_CTL.FLUSH discards queued jobs and zeroes their slots. -/
  | flush (p : Fin 8)
  /-- FILL (R345): Writing STK_RGN_CTL.FILL starts the region fill engine. -/
  | fill (k : Fin 4) (r : Fin 16)
  /-- MARCH_GO (R359): Writing SCP_MT_CTL.GO starts the march engine on the chosen target. -/
  | marchGo (target : BitVec 5) (preserve : Bool)
  /-- PWR_REQ_GO (R435): Writing PWR_REQ.GO starts a power request on a domain. -/
  | pwrReqGo (d : Fin 64) (t : Fin 4)
  /-- TRV_RETRAIN_WRITE (R312): Writing TRV_CTL.RETRAIN sends an ACTIVE link to RETRAIN. -/
  | trvRetrainWrite (k : Fin 6)
  /-- LRN_REWARD_ADD (R269): Writing LRN_REWARD_ADD adds a signed value to ACC. -/
  | lrnRewardAdd (g : Fin 8) (v : BitVec 8)
  /-- GAL_EVT_CLR_CNT (R156): Writing GAL_EVT_CTL.CLR_CNT clears the engine counters. -/
  | galEvtClrCnt (g : Fin 8)
  /-- GAL_STATE_CLR_CNT (R86): Writing GAL_STATE_CTL.CLR_CNT clears the state counters. -/
  | galStateClrCnt (g : Fin 8)
  /-- MSH_CLR_CNT (R200): Writing MSH_CTL.CLR_CNT clears the mesh counters. -/
  | mshClrCnt
  /-- DNS_CLR_CNT (R216): Writing DNS_CTL.CLR_CNT clears the plane counters. -/
  | dnsClrCnt (g : Fin 8)
  /-- CMP_CLR_CNT (R261): Writing CMP_CTL.CLR_CNT clears the Compass counters. -/
  | cmpClrCnt (g : Fin 8)
  /-- LRN_CLR_CNT (R293): Writing LRN_CTL.CLR_CNT clears the learning counters. -/
  | lrnClrCnt (g : Fin 8)
  /-- TRV_CLR_CNT (R332): Writing TRV_CTL.CLR_CNT clears the link counters. -/
  | trvClrCnt (k : Fin 6)
  /-- STK_CLR_CNT (R361): Writing STK_CTL.CLR_CNT clears the stack counters. -/
  | stkClrCnt (k : Fin 4)
  /-- SCP_CLR_CNT (R361): Writing SCP_CTL.CLR_CNT clears the scratchpad counters. -/
  | scpClrCnt
  /-- PWR_CLR_CNT (R438): Writing PWR_CTL.CLR_CNT clears the power counters. -/
  | pwrClrCnt
  /-- CLK_CLR_CNT (R457): Writing CLK_CTL.CLR_CNT clears the clock counters. -/
  | clkClrCnt
  /-- FLT_CLR_CNT (R501): Writing FLT_CTL.CLR_CNT clears the fault counters. -/
  | fltClrCnt
  /-- GDL_CLR_CNT (R496): Writing GDL_CTL.CLR_CNT clears the Guideline counters. -/
  | gdlClrCnt
  /-- REGISTER_WRITE (R19): A write to a register without its own row acts by its field access codes. -/
  | registerWrite (a : BitVec 40) (v : BitVec 32)
  /-- SMBUS_READ_ID (R533): SMBus command 0x00 returns the mirror ID and device ID. -/
  | smbusReadId
  /-- SMBUS_READ_STATE (R533): SMBus command 0x01 returns LNT_MIR_STATE. -/
  | smbusReadState
  /-- SMBUS_READ_TJ (R533): SMBus command 0x02 returns PWR_TJ. -/
  | smbusReadTj
  /-- SMBUS_READ_PKG (R533): SMBus command 0x03 returns TEL_PKG. -/
  | smbusReadPkg
  /-- SMBUS_READ_PTIME (R533): SMBus command 0x04 returns powered time. -/
  | smbusReadPtime
  /-- SMBUS_ALERT_STAT (R534): SMBus command 0x05 reads alert status, or clears the bits written as 1. -/
  | smbusAlertStat (wr : Option (BitVec 8 × Option Bool))
  /-- SMBUS_IO_SLEW (R524): SMBus command 0x10 reads or writes LNT_IO_SLEW. -/
  | smbusIoSlew (wr : Option (BitVec 16 × Option Bool))
  /-- SMBUS_ALERT_MASK (R534): SMBus command 0x11 reads or writes the alert mask. -/
  | smbusAlertMask (wr : Option (BitVec 8 × Option Bool))
  /-- SMBUS_ALERT_RESPONSE (R532): A read at the Alert Response Address 0x0C is answered. -/
  | smbusAlertResponse
  /-- SMBUS_TIMEOUT (R532): SMB clock held low for 25 to 35 ms resets the target. -/
  | smbusTimeout
  /-- EXTEST (R531): JTAG EXTEST enters test mode, clears dark segments and holds domains in reset. -/
  | extest
  /-- IDCODE (R531): JTAG IDCODE selects the identity register. -/
  | idcode
  /-- BYPASS (R531): JTAG BYPASS selects the bypass register, as any private instruction does in field mode. -/
  | bypass (priv : Bool)
  /-- SAMPLE_PRELOAD (R531): JTAG SAMPLE/PRELOAD captures and preloads the boundary scan. -/
  | samplePreload (levels : List Bool) (pre : List Bool)
  /-- TRST (R531): Assertion of TRST_N holds the TAP in reset. -/
  | trst (low : Bool)
  /-- BLOCK_LOCK_LOSS (R312): An ACTIVE link loses 64b/66b block lock and enters RETRAIN. -/
  | blockLockLoss (k : Fin 6)
  /-- STACK_TRAIN_STEP (R338): A stack training state completes, fails or reaches its time limit, and the stack moves to its next state. -/
  | stackTrainStep (k : Fin 4) (r : TrainResult)
  /-- SETTLING_SWEEP_COMPLETE (R74): A settling sweep finishes, clears SWEEP_BUSY, updates GAL_SETTLE_LAST and starts any overdue sweep. -/
  | settlingSweepComplete (g : Fin 8)
  /-- SURVEYOR_IDLE_ENTRY (R440): With no command in progress, the firmware takes the SURVEYOR domain to retention from its idle loop. -/
  | surveyorIdleEntry
  /-- FAULTED_ERASE_TIMEOUT (R510): A FAULTED Gallery whose erasure has not completed within one tick has its GAL and DNS domains taken off and held ABSENT. -/
  | faultedEraseTimeout (g : Fin 8)
  /-- DISCARD_SINK_TIMEOUT (R509): A mesh node that has not reported the discard sink set 10 µs after FAULTED entry makes the collector send DRAIN over the Guideline ring. -/
  | discardSinkTimeout (g : Fin 8)
  /-- LINK_RESPONSE (R303): A P-channel response message (READ_DATA, STATUS, STORE_DATA or MBX_CPL) arrives at its requester and ends its outstanding request. -/
  | linkResponse (k : Fin 6) (m : LinkMsg)
  /-- LOCK_CLAIM_RETRY (R331): A remote Surveyor that received BUSY retries its group-lock claim after 2^n µs. -/
  | lockClaimRetry (n : Fin 64)
deriving DecidableEq, Repr

end Sys2Proof
end

