-- ==== Sys2Proof/Config.lean ====
section
/-!
DEFINITION. What the device fixes and the spec does not print: the keys in Sathen's mask ROM and the device-unique secrets, and the
free values (values the spec leaves open). Each is opaque: nothing can be proved of its value.
-/
namespace Sys2Proof.Config

/-- The `n`-th free value of `w` bits. -/
opaque freeValue (w : Nat) (n : Nat) : BitVec w

/-- The Xewald firmware key (R478). -/
opaque firmwareKey : Nat × Nat

/-- The Xewald licence key (R488). -/
opaque licenceKey : Nat × Nat

/-- IMAGE_LEN of the firmware image the part was delivered with (Table 17.5). -/
opaque deliveredLen : Nat

/-- VERSION of the firmware image the part was delivered with (Table 17.5). -/
opaque deliveredVersion : BitVec 32

/-- The device certificate, X.509 in DER (Table 13.16, SEC_GET_CERT). -/
opaque certificate : List Byte

/-- The device-unique key of site memory, which Sathen derives (R288). -/
opaque siteKey : BitVec 256

/-- The device key's ECDSA P-384 signature of a message (R305). -/
opaque deviceSign (msg : List Byte) : Nat × Nat

/-- The device key that a certificate states, if Xewald's key certifies it for a device ID (R305): the form and the root key of the device
certificates are not printed. -/
opaque certifiedKey (cert : List Byte) (devId : BitVec 128) : Option (Nat × Nat)

end Sys2Proof.Config
end

