-- ==== Sys2Proof/Machine/Sparse.lean ====
section
/-!
DEFINITION. Sparse storage in one canonical form, bit-field access, and little-endian bytes (R22).
A sparse map lists (key, value) pairs with strictly rising keys and no pair whose value is what an unlisted key reads as.
-/
namespace Sys2Proof.Machine

/-- A sparse map from natural keys, as a list of pairs. -/
abbrev SMap (β : Type) := List (Nat × β)

/-- The value listed at a key, if any. -/
def SMap.find? {β : Type} (k : Nat) : SMap β → Option β
  | [] => none
  | (j, v) :: t => if j = k then some v else SMap.find? k t

/-- The value at a key, `d` at an unlisted one. -/
def SMap.get {β : Type} (d : β) (m : SMap β) (k : Nat) : β := (SMap.find? k m).getD d

/-- Lists a value at a key, in key order. -/
def SMap.insert {β : Type} (k : Nat) (v : β) : SMap β → SMap β
  | [] => [(k, v)]
  | (j, w) :: t =>
    if k < j then (k, v) :: (j, w) :: t
    else if j = k then (k, v) :: t
    else (j, w) :: SMap.insert k v t

/-- Removes a key. -/
def SMap.erase {β : Type} (k : Nat) (m : SMap β) : SMap β := m.filter (fun e => decide (e.1 ≠ k))

/-- Writes a value: writing what an unlisted key reads as removes the entry. -/
def SMap.set {β : Type} [DecidableEq β] (d : β) (m : SMap β) (k : Nat) (v : β) : SMap β :=
  if v = d then SMap.erase k m else SMap.insert k v m

/-- Removes every key in `lo ≤ k < hi`. -/
def SMap.clearRange {β : Type} (m : SMap β) (lo hi : Nat) : SMap β := m.filter (fun e => e.1 < lo || hi ≤ e.1)

/-- Every key is above `b` and the keys rise strictly. -/
def SMap.risesFrom {β : Type} (b : Nat) : SMap β → Bool
  | [] => true
  | (j, _) :: t => decide (b ≤ j) && SMap.risesFrom (j + 1) t

/-- The canonical form, for the default value `d`. -/
def SMap.wf {β : Type} [DecidableEq β] (d : β) (m : SMap β) : Bool :=
  SMap.risesFrom 0 m && m.all (fun e => decide (e.2 ≠ d))

/-- The number a bit field of a packed word holds. -/
def fget {n : Nat} (f : Fld) (w : BitVec n) : Nat := (w.extractLsb' f.lo f.width).toNat

/-- The word with a bit field replaced; every other bit is kept. -/
def fput {n : Nat} (f : Fld) (w : BitVec n) (v : Nat) : BitVec n :=
  let mask : BitVec n := ((BitVec.allOnes f.width).setWidth n) <<< f.lo
  (w &&& ~~~mask) ||| ((((BitVec.ofNat f.width v).setWidth n) <<< f.lo) &&& mask)

/-- Bits `[hi:lo]` of a word as a number. -/
def bits {n : Nat} (w : BitVec n) (hi lo : Nat) : Nat := (w.extractLsb' lo (hi + 1 - lo)).toNat

/-- Bit `i` of a word. -/
def bit {n : Nat} (w : BitVec n) (i : Nat) : Bool := w.getLsbD i

/-- Sign-extends the low `w` bits of a number. -/
def sext (w : Nat) (x : Nat) : Int := if x % 2 ^ w < 2 ^ (w - 1) then (x % 2 ^ w : Nat) else (x % 2 ^ w : Nat) - (2 ^ w : Nat)

/-- The two's complement low `w` bits of an integer. -/
def toTwos (w : Nat) (x : Int) : Nat := (x % ((2 ^ w : Nat) : Int)).toNat

/-- Clamps an integer between two bounds. -/
def clamp (lo hi x : Int) : Int := if x < lo then lo else if hi < x then hi else x

/-- `n` bytes of a number, least significant first (R22). -/
def leBytes : Nat → Nat → List Byte
  | 0, _ => []
  | n + 1, x => BitVec.ofNat 8 x :: leBytes n (x / 256)

/-- The number that bytes spell, least significant first (R22). -/
def ofLe : List Byte → Nat
  | [] => 0
  | b :: t => b.toNat + 256 * ofLe t

/-- The bytes `[off, off + n)` of a list, zero past its end. -/
def slice (off n : Nat) (l : List Byte) : List Byte :=
  let t := (l.drop off).take n
  t ++ List.replicate (n - t.length) 0

/-- The little-endian number of `n` bytes at an offset. -/
def leAt (l : List Byte) (off n : Nat) : Nat := ofLe (slice off n l)

/-- A count that stops at `2 ^ w - 1`. -/
def satAdd (w x n : Nat) : Nat := min (x + n) (2 ^ w - 1)

/-- 1 for true, 0 for false. -/
def b2n (b : Bool) : Nat := if b then 1 else 0

/-- Replaces element `i` of a list. -/
def setAt {β : Type} (l : List β) (i : Nat) (v : β) : List β := l.set i v

end Sys2Proof.Machine
end

