-- ==== Sys2Proof/Machine/Crypto.lean ====
section
/-!
DEFINITION. The published algorithms of R412, R478, R488 and R415: SHA-384 (FIPS 180-4) and ECDSA P-384 verification (FIPS 186-5). The
constants are those standards'.
-/
namespace Sys2Proof.Machine

/-- A 64-bit word of SHA-384. -/
abbrev W64 := BitVec 64

/-- The 80 round constants. -/
def shaK : List Nat := [
  0x428A2F98D728AE22, 0x7137449123EF65CD, 0xB5C0FBCFEC4D3B2F, 0xE9B5DBA58189DBBC,
  0x3956C25BF348B538, 0x59F111F1B605D019, 0x923F82A4AF194F9B, 0xAB1C5ED5DA6D8118,
  0xD807AA98A3030242, 0x12835B0145706FBE, 0x243185BE4EE4B28C, 0x550C7DC3D5FFB4E2,
  0x72BE5D74F27B896F, 0x80DEB1FE3B1696B1, 0x9BDC06A725C71235, 0xC19BF174CF692694,
  0xE49B69C19EF14AD2, 0xEFBE4786384F25E3, 0x0FC19DC68B8CD5B5, 0x240CA1CC77AC9C65,
  0x2DE92C6F592B0275, 0x4A7484AA6EA6E483, 0x5CB0A9DCBD41FBD4, 0x76F988DA831153B5,
  0x983E5152EE66DFAB, 0xA831C66D2DB43210, 0xB00327C898FB213F, 0xBF597FC7BEEF0EE4,
  0xC6E00BF33DA88FC2, 0xD5A79147930AA725, 0x06CA6351E003826F, 0x142929670A0E6E70,
  0x27B70A8546D22FFC, 0x2E1B21385C26C926, 0x4D2C6DFC5AC42AED, 0x53380D139D95B3DF,
  0x650A73548BAF63DE, 0x766A0ABB3C77B2A8, 0x81C2C92E47EDAEE6, 0x92722C851482353B] ++ [
  0xA2BFE8A14CF10364, 0xA81A664BBC423001, 0xC24B8B70D0F89791, 0xC76C51A30654BE30,
  0xD192E819D6EF5218, 0xD69906245565A910, 0xF40E35855771202A, 0x106AA07032BBD1B8,
  0x19A4C116B8D2D0C8, 0x1E376C085141AB53, 0x2748774CDF8EEB99, 0x34B0BCB5E19B48A8,
  0x391C0CB3C5C95A63, 0x4ED8AA4AE3418ACB, 0x5B9CCA4F7763E373, 0x682E6FF3D6B2B8A3,
  0x748F82EE5DEFB2FC, 0x78A5636F43172F60, 0x84C87814A1F0AB72, 0x8CC702081A6439EC,
  0x90BEFFFA23631E28, 0xA4506CEBDE82BDE9, 0xBEF9A3F7B2C67915, 0xC67178F2E372532B,
  0xCA273ECEEA26619C, 0xD186B8C721C0C207, 0xEADA7DD6CDE0EB1E, 0xF57D4F7FEE6ED178,
  0x06F067AA72176FBA, 0x0A637DC5A2C898A6, 0x113F9804BEF90DAE, 0x1B710B35131C471B,
  0x28DB77F523047D84, 0x32CAAB7B40C72493, 0x3C9EBE0A15C9BEBC, 0x431D67C49C100D4C,
  0x4CC5D4BECB3E42B6, 0x597F299CFC657E2A, 0x5FCB6FAB3AD6FAEC, 0x6C44198C4A475817]

/-- The initial hash value. -/
def shaInit : List W64 := [
  0xCBBB9D5DC1059ED8, 0x629A292A367CD507, 0x9159015A3070DD17, 0x152FECD8F70E5939,
  0x67332667FFC00B31, 0x8EB44A8768581511, 0xDB0C2E0D64F98FA7, 0x47B5481DBEFA4FA4]

/-- The eight working words of a round. -/
structure ShaSt where
  a : W64
  b : W64
  c : W64
  d : W64
  e : W64
  f : W64
  g : W64
  h : W64
deriving DecidableEq, Repr

/-- One round. -/
def shaRound (s : ShaSt) (k w : W64) : ShaSt :=
  let s1 := s.e.rotateRight 14 ^^^ s.e.rotateRight 18 ^^^ s.e.rotateRight 41
  let ch := (s.e &&& s.f) ^^^ (~~~s.e &&& s.g)
  let t1 := s.h + s1 + ch + k + w
  let s0 := s.a.rotateRight 28 ^^^ s.a.rotateRight 34 ^^^ s.a.rotateRight 39
  let mj := (s.a &&& s.b) ^^^ (s.a &&& s.c) ^^^ (s.b &&& s.c)
  { a := t1 + (s0 + mj), b := s.a, c := s.b, d := s.c, e := s.d + t1, f := s.e, g := s.f, h := s.g }

/-- The rounds over the constants; `w` holds the last 16 schedule words, oldest first. -/
def shaRounds (s : ShaSt) (w : List W64) : List Nat → ShaSt
  | [] => s
  | k :: ks =>
    let g (i : Nat) : W64 := w.getD i 0
    let s0 := (g 1).rotateRight 1 ^^^ (g 1).rotateRight 8 ^^^ (g 1 >>> 7)
    let s1 := (g 14).rotateRight 19 ^^^ (g 14).rotateRight 61 ^^^ (g 14 >>> 6)
    shaRounds (shaRound s (BitVec.ofNat 64 k) (g 0)) (w.drop 1 ++ [g 0 + s0 + g 9 + s1]) ks

/-- The big-endian number of bytes. -/
def ofBe (l : List Byte) : Nat := l.foldl (fun n b => n * 256 + b.toNat) 0

/-- `n` big-endian bytes of a number. -/
def beBytes (n x : Nat) : List Byte := (leBytes n x).reverse

/-- The hash after one block of 128 bytes. -/
def shaBlock (h : List W64) (blk : List Byte) : List W64 :=
  let g (i : Nat) : W64 := h.getD i 0
  let w := (List.range 16).map (fun i => BitVec.ofNat 64 (ofBe ((blk.drop (8 * i)).take 8)))
  let s := shaRounds ⟨g 0, g 1, g 2, g 3, g 4, g 5, g 6, g 7⟩ w shaK
  [g 0 + s.a, g 1 + s.b, g 2 + s.c, g 3 + s.d, g 4 + s.e, g 5 + s.f, g 6 + s.g, g 7 + s.h]

/-- The hash over `n` blocks. -/
def shaBlocks (h : List W64) : Nat → List Byte → List W64
  | 0, _ => h
  | n + 1, l => shaBlocks (shaBlock h (l.take 128)) n (l.drop 128)

/-- The padded message. -/
def shaPad (m : List Byte) : List Byte :=
  m ++ [0x80] ++ List.replicate ((111 + 128 - m.length % 128) % 128) 0 ++ beBytes 16 (8 * m.length)

/-- SHA-384: the 48-byte digest. -/
def sha384 (m : List Byte) : List Byte :=
  let l := shaPad m
  ((shaBlocks shaInit (l.length / 128) l).take 6).flatMap (fun w => beBytes 8 w.toNat)

/-- The field prime of P-384. -/
def p384 : Nat := 2 ^ 384 - 2 ^ 128 - 2 ^ 96 + 2 ^ 32 - 1
/-- The group order of P-384. -/
def n384 : Nat := 0xFFFFFFFFFFFFFFFFFFFFFFFFFFFFFFFFFFFFFFFFFFFFFFFFC7634D81F4372DDF581A0DB248B0A77AECEC196ACCC52973
/-- The coefficient b of P-384; a is −3. -/
def b384 : Nat := 0xB3312FA7E23EE7E4988E056BE3F82D19181D9C6EFE8141120314088F5013875AC656398D8A2ED19D2A85C8EDD3EC2AEF
/-- The base point of P-384. -/
def g384 : Nat × Nat := (0xAA87CA22BE8B05378EB1C71EF320AD746E1D3B628BA79B9859F741E082542A385502F25DBF55296C3A545E3872760AB7, 0x3617DE4A96262C6F5D9E98BF9292DC29F8F41DBD289A147CE9DA3113B5F0B8C00A60B1CE1D7E819D7A431D7C90EA0E5F)

/-- `x ^ e` modulo `m`, over `k` bits of `e`. -/
def powMod (x e m : Nat) : Nat → Nat
  | 0 => 1 % m
  | k + 1 =>
    let r := powMod x (e / 2) m k
    let s := r * r % m
    if e % 2 = 1 then s * x % m else s

/-- The inverse modulo a prime (Fermat). -/
def invMod (x m : Nat) : Nat := powMod x (m - 2) m 384

/-- Whether a pair of coordinates is a point of P-384. -/
def onCurve (q : Nat × Nat) : Bool :=
  decide (q.1 < p384 ∧ q.2 < p384) && (q.2 * q.2 % p384 == (q.1 * q.1 * q.1 + (p384 - 3) * q.1 + b384) % p384)

/-- The sum of two points; `none` is the point at infinity. -/
def ecAdd (x y : Option (Nat × Nat)) : Option (Nat × Nat) :=
  match x, y with
  | none, q => q
  | q, none => q
  | some (x1, y1), some (x2, y2) =>
    let fin (l : Nat) : Option (Nat × Nat) :=
      let x3 := (l * l + (p384 - x1) + (p384 - x2)) % p384
      some (x3, (l * (x1 + (p384 - x3)) + (p384 - y1)) % p384)
    if x1 = x2 then
      (if (y1 + y2) % p384 = 0 then none
       else fin ((3 * x1 * x1 + (p384 - 3)) % p384 * invMod (2 * y1 % p384) p384 % p384))
    else fin ((y2 + (p384 - y1)) % p384 * invMod ((x2 + (p384 - x1)) % p384) p384 % p384)

/-- A multiple of a point, over `k` bits of the factor. -/
def ecMul (n : Nat) (q : Option (Nat × Nat)) : Nat → Option (Nat × Nat)
  | 0 => none
  | k + 1 =>
    let r := ecMul (n / 2) q k
    let s := ecAdd r r
    if n % 2 = 1 then ecAdd s q else s

/-- ECDSA P-384 verification of a signature (r, s) by a key over a message, hashed with SHA-384 (R412). -/
def ecdsaVerify (key : Nat × Nat) (msg : List Byte) (r s : Nat) : Bool :=
  if !onCurve key ∨ r = 0 ∨ n384 ≤ r ∨ s = 0 ∨ n384 ≤ s then false
  else
    let e := ofBe (sha384 msg)
    let w := invMod s n384
    match ecAdd (ecMul (e * w % n384) (some g384) 384) (ecMul (r * w % n384) (some key) 384) with
    | none => false
    | some (x, _) => x % n384 == r

end Sys2Proof.Machine
end

