-- ==== Sys2Proof/Machine/Gcm.lean ====
section
/-!
DEFINITION. The published algorithms of R288, R305 and R306: AES-256 (FIPS 197), Galois/Counter Mode (SP 800-38D), and HKDF (RFC 5869) over
HMAC with SHA-384. The constants are those standards'.
-/
namespace Sys2Proof.Machine

/-- The S-box, a row of sixteen entries each, its first in the lowest byte. -/
def sboxRows : List Nat := [
  0x76ABD7FE2B670130C56F6BF27B777C63, 0xC072A49CAFA2D4ADF04759FA7DC982CA,
  0x1531D871F1E5A534CCF73F362693FDB7, 0x75B227EBE28012079A059618C323C704,
  0x842FE329B3D63B52A05A6E1B1A2C8309, 0xCF584C4A39BECB6A5BB1FC20ED00D153,
  0xA89F3C507F02F94585334D43FBAAEFD0, 0xD2F3FF1021DAB6BCF5389D928F40A351,
  0x73195D643D7EA7C41744975FEC130CCD, 0xDB0B5EDE14B8EE4688902A22DC4F8160,
  0x79E4959162ACD3C25C2406490A3A32E0, 0x08AE7A65EAF4566CA94ED58D6D37C8E7,
  0x8A8BBD4B1F74DDE8C6B4A61C2E2578BA, 0x9E1DC186B95735610EF6034866B53E70,
  0xDF2855CEE9871E9B948ED9691198F8E1, 0x16BB54B00F2D99416842E6BF0D89A18C]

/-- SubBytes of one byte. -/
def subByte (b : Byte) : Byte := BitVec.ofNat 8 (sboxRows.getD (b.toNat / 16) 0 >>> (8 * (b.toNat % 16)))

/-- Twice a byte in the field of AES. -/
def xtime (b : Byte) : Byte := (b <<< 1) ^^^ (if b.msb then 0x1B else 0)

/-- The exclusive or of two byte strings, as long as the shorter. -/
def xorBytes (a b : List Byte) : List Byte := List.zipWith (· ^^^ ·) a b

/-- The next eight words of the key schedule, from the last eight and the round constant. -/
def aesNext (rc : Byte) (w : List (List Byte)) : List (List Byte) :=
  let g (i : Nat) : List Byte := w.getD i []
  let t := (g 7).map subByte
  let rot := t.drop 1 ++ t.take 1
  let a := xorBytes (g 0) (xorBytes rot [rc, 0, 0, 0])
  let b := xorBytes (g 1) a
  let c := xorBytes (g 2) b
  let d := xorBytes (g 3) c
  let e := xorBytes (g 4) (d.map subByte)
  let f := xorBytes (g 5) e
  let h := xorBytes (g 6) f
  [a, b, c, d, e, f, h, xorBytes (g 7) h]

/-- The key schedule's words, eight at a time. -/
def aesWords (rc : Byte) (w : List (List Byte)) : Nat → List (List Byte)
  | 0 => w
  | n + 1 => w ++ aesWords (xtime rc) (aesNext rc w) n

/-- Cuts a list into pieces of `k`. -/
def chunks {α : Type} (k : Nat) : Nat → List α → List (List α)
  | 0, _ => []
  | n + 1, l => l.take k :: chunks k n (l.drop k)

/-- The fifteen round keys of a 32-byte key. -/
def aesKeys (key : List Byte) : List (List Byte) := (chunks 4 15 (aesWords 1 (chunks 4 8 key) 7)).map (·.flatten)

/-- SubBytes and ShiftRows of a block, column by column. -/
def aesShift (s : List Byte) : List Byte := (List.range 16).map (fun i => subByte (s.getD ((i + 4 * (i % 4)) % 16) 0))

/-- MixColumns of one column. -/
def mixColumn (c : List Byte) : List Byte :=
  let g (i : Nat) : Byte := c.getD (i % 4) 0
  (List.range 4).map (fun i => xtime (g i) ^^^ xtime (g (i + 1)) ^^^ g (i + 1) ^^^ g (i + 2) ^^^ g (i + 3))

/-- The rounds after the first key: MixColumns in all but the last. -/
def aesRounds (s : List Byte) : List (List Byte) → List Byte
  | [] => s
  | [k] => xorBytes (aesShift s) k
  | k :: t => aesRounds (xorBytes ((chunks 4 4 (aesShift s)).flatMap mixColumn) k) t

/-- AES-256 of one block of 16 bytes. -/
def aesBlock (key b : List Byte) : List Byte := match aesKeys key with
  | [] => b
  | k :: t => aesRounds (xorBytes b k) t

/-- The product in the field of GHASH over the bits of `x` from the first on; `z` gathers it. -/
def ghashMul (x : BitVec 128) : Nat → BitVec 128 → BitVec 128 → BitVec 128
  | 0, _, z => z
  | n + 1, v, z =>
    ghashMul x n ((v >>> 1) ^^^ (if v.getLsbD 0 then 0xE1000000000000000000000000000000#128 else 0)) (if x.getLsbD n then z ^^^ v else z)

/-- GHASH of `n` blocks from a running value. -/
def ghash (h y : BitVec 128) : Nat → List Byte → BitVec 128
  | 0, _ => y
  | n + 1, l => ghash h (ghashMul (y ^^^ BitVec.ofNat 128 (ofBe (l.take 16))) 128 h 0) n (l.drop 16)

/-- Zero bytes up to a whole block. -/
def padBlock (l : List Byte) : List Byte := l ++ List.replicate ((16 - l.length % 16) % 16) 0

/-- The counter block of a 96-bit IV. -/
def gcmCtr (iv : List Byte) (n : Nat) : List Byte := iv ++ beBytes 4 n

/-- The keystream block `i` of the plaintext, from 0. -/
def gcmPad (key iv : List Byte) (i : Nat) : List Byte := aesBlock key (gcmCtr iv (i + 2))

/-- AES-256 in GCM: bytes to ciphertext, or back. -/
def gcmCrypt (key iv data : List Byte) : List Byte := xorBytes data ((List.range ((data.length + 15) / 16)).flatMap (gcmPad key iv))

/-- The tag of AES-256 in GCM over the additional authenticated data and the ciphertext. -/
def gcmTag (key iv aad ct : List Byte) : List Byte :=
  let l := padBlock aad ++ padBlock ct ++ beBytes 8 (8 * aad.length) ++ beBytes 8 (8 * ct.length)
  let h := BitVec.ofNat 128 (ofBe (aesBlock key (List.replicate 16 0)))
  xorBytes (aesBlock key (gcmCtr iv 1)) (beBytes 16 (ghash h 0 (l.length / 16) l).toNat)

/-- HMAC with SHA-384 under a key of at most 128 bytes. -/
def hmac384 (key msg : List Byte) : List Byte :=
  let k := key ++ List.replicate (128 - key.length) 0
  sha384 (k.map (· ^^^ 0x5C) ++ sha384 (k.map (· ^^^ 0x36) ++ msg))

/-- HKDF-Expand: `n` blocks of 48 bytes from the pseudorandom key; `t` is the block before and `i` its number. -/
def hkdfExpand (prk info : List Byte) : Nat → List Byte → Nat → List Byte
  | 0, _, _ => []
  | n + 1, t, i =>
    let b := hmac384 prk (t ++ info ++ [BitVec.ofNat 8 (i + 1)])
    b ++ hkdfExpand prk info n b (i + 1)

/-- HKDF with SHA-384: `len` bytes from a secret, a salt and the application's info. -/
def hkdf384 (salt secret info : List Byte) (len : Nat) : List Byte :=
  (hkdfExpand (hmac384 salt secret) info ((len + 47) / 48) [] 0).take len

end Sys2Proof.Machine
end

