-- ==== Sys2Proof/Machine/Crc.lean ====
section
/-!
DEFINITION. The cyclic redundancy checks the spec names: CRC-8 of Guideline frames (Table 18.4), the CRC-32 of fault records
(Table 18.6) and the CRC-16 of Seam payloads.
-/
namespace Sys2Proof.Machine

/-- One bit step of a left-shifting CRC of width `w`. -/
def crcStepL (w poly : Nat) (c : Nat) : Nat :=
  if c / 2 ^ (w - 1) % 2 = 1 then Nat.xor (c * 2 % 2 ^ w) poly else c * 2 % 2 ^ w

/-- One bit step of a right-shifting (reflected) CRC. -/
def crcStepR (poly : Nat) (c : Nat) : Nat := if c % 2 = 1 then Nat.xor (c / 2) poly else c / 2

/-- A step repeated. -/
def iter {α : Type} (f : α → α) : Nat → α → α
  | 0, x => x
  | n + 1, x => iter f n (f x)

/-- A CRC of width `w` (8 or more), not reflected, over bytes, from an initial value. -/
def crcL (w poly init : Nat) (l : List Byte) : Nat :=
  l.foldl (fun c b => iter (crcStepL w poly) 8 (Nat.xor c (b.toNat * 2 ^ (w - 8)))) init

/-- A reflected CRC over bytes; `poly` is the reflected polynomial. -/
def crcR (poly init : Nat) (l : List Byte) : Nat :=
  l.foldl (fun c b => iter (crcStepR poly) 8 (Nat.xor c b.toNat)) init

/-- CRC-8 of a Guideline frame (Table 18.4). -/
def crc8 (l : List Byte) : Nat := crcL 8 0x07 0 l

/-- CRC-32 of IEEE 802.3 (Table 18.6). -/
def crc32 (l : List Byte) : Nat := Nat.xor (crcR 0xEDB88320 0xFFFFFFFF l) 0xFFFFFFFF

end Sys2Proof.Machine
end

