-- ==== Sys2Proof/Machine/RegMap.lean ====
section
/-!
DEFINITION. The register map of the spec: every register's Surveyor address (namespace R), every field's place (namespace F),
and the table of blocks with each register's reset value, access codes (Table 0.8, R19) and commit bit.
Written from the register tables of 01_time_and_datum.md to 19_electrical.md; each block names them.
-/
namespace Sys2Proof.Machine

namespace R

/-- DAT_CTL (01 Table 1.7). -/
def DAT_CTL : Nat := 0x11008000
/-- DAT_RATIO (01 Table 1.8). -/
def DAT_RATIO : Nat := 0x11008004
/-- DAT_PHASE (01 Table 1.8). -/
def DAT_PHASE : Nat := 0x11008008
/-- DAT_TOL (01 Table 1.8). -/
def DAT_TOL : Nat := 0x1100800C
/-- DAT_FREE_PERIOD (01 Table 1.10). -/
def DAT_FREE_PERIOD : Nat := 0x11008010
/-- DAT_STAT (01 Table 1.9). -/
def DAT_STAT : Nat := 0x11008014
/-- DAT_PERIOD (01 Table 1.10). -/
def DAT_PERIOD : Nat := 0x11008018
/-- DAT_TICK_PERIOD (01 Table 1.10). -/
def DAT_TICK_PERIOD : Nat := 0x1100801C
/-- DAT_TICK_LO (01 Table 1.10). -/
def DAT_TICK_LO : Nat := 0x11008020
/-- DAT_TICK_HI (01 Table 1.10). -/
def DAT_TICK_HI : Nat := 0x11008024
/-- DAT_PHERR (01 Table 1.10). -/
def DAT_PHERR : Nat := 0x11008028
/-- DAT_LOSS_CNT (01 Table 1.10). -/
def DAT_LOSS_CNT : Nat := 0x11008030
/-- DAT_GLITCH_CNT (01 Table 1.10). -/
def DAT_GLITCH_CNT : Nat := 0x11008034
/-- DAT_HOLD_TICKS (01 Table 1.10). -/
def DAT_HOLD_TICKS : Nat := 0x11008038
/-- LNT_PTIME_LO (01 Table 1.10). -/
def LNT_PTIME_LO : Nat := 0x10000200
/-- LNT_PTIME_HI (01 Table 1.10). -/
def LNT_PTIME_HI : Nat := 0x10000204
/-- LNT_SESSION (01 Table 1.10). -/
def LNT_SESSION : Nat := 0x10000208
/-- LNT_SESS_STAT (01 Table 1.10). -/
def LNT_SESS_STAT : Nat := 0x1000020C
/-- LNT_HLABEL_LO (01 Table 1.10). -/
def LNT_HLABEL_LO : Nat := 0x10000210
/-- LNT_HLABEL_HI (01 Table 1.10). -/
def LNT_HLABEL_HI : Nat := 0x10000214
/-- LNT_MIR_ID (12 Table 12.6). -/
def LNT_MIR_ID : Nat := 0x10000600
/-- LNT_MIR_STATE (12 Table 12.6). -/
def LNT_MIR_STATE : Nat := 0x10000604
/-- LNT_MIR_BEAT (12 Table 12.6). -/
def LNT_MIR_BEAT : Nat := 0x10000608
/-- LNT_MIR_SESSION (12 Table 12.6). -/
def LNT_MIR_SESSION : Nat := 0x1000060C
/-- LNT_MIR_PTIME_LO (12 Table 12.6). -/
def LNT_MIR_PTIME_LO : Nat := 0x10000610
/-- LNT_MIR_PTIME_HI (12 Table 12.6). -/
def LNT_MIR_PTIME_HI : Nat := 0x10000614
/-- LNT_MIR_DEVID (12 Table 12.6). -/
def LNT_MIR_DEVID (j : Nat) : Nat := 0x10000618 + j * 0x4
/-- LNT_MIR_FWVER (12 Table 12.6). -/
def LNT_MIR_FWVER : Nat := 0x10000628
/-- LNT_MIR_FLTSEQ (12 Table 12.6). -/
def LNT_MIR_FLTSEQ : Nat := 0x1000062C
/-- LNT_MIR_FUNC (12 Table 12.6). -/
def LNT_MIR_FUNC : Nat := 0x10000630
/-- LNT_BOOT_STAT (17 Table 17.10). -/
def LNT_BOOT_STAT : Nat := 0x10000800
/-- LNT_BOOT_TIME (17 Table 17.10). -/
def LNT_BOOT_TIME : Nat := 0x10000804
/-- LNT_BOOT_CNT (17 Table 17.10). -/
def LNT_BOOT_CNT : Nat := 0x10000808
/-- LNT_IO_SLEW (19 Table 19.12). -/
def LNT_IO_SLEW : Nat := 0x10000900
/-- LNT_SMB_ALERT (19 Table 19.12). -/
def LNT_SMB_ALERT : Nat := 0x10000904
/-- LNT_SMB_CFG (19 Table 19.12). -/
def LNT_SMB_CFG : Nat := 0x10000908
/-- LNT_SMB_ERR (19 Table 19.12). -/
def LNT_SMB_ERR : Nat := 0x1000090C
/-- GAL_EVT_CTL (05 Table 5.9). -/
def GAL_EVT_CTL (i : Nat) : Nat := 0x20000000 + i * 0x1000000
/-- GAL_EVT_STAT (05 Table 5.9). -/
def GAL_EVT_STAT (i : Nat) : Nat := 0x20000004 + i * 0x1000000
/-- GAL_SPILL_BASE_LO (05 Table 5.9). -/
def GAL_SPILL_BASE_LO (i : Nat) : Nat := 0x20000010 + i * 0x1000000
/-- GAL_SPILL_BASE_HI (05 Table 5.9). -/
def GAL_SPILL_BASE_HI (i : Nat) : Nat := 0x20000014 + i * 0x1000000
/-- GAL_BANK_MAP (05 Table 5.9). -/
def GAL_BANK_MAP (i : Nat) : Nat := 0x20000018 + i * 0x1000000
/-- GAL_EMIT_SHARE (05 Table 5.9). -/
def GAL_EMIT_SHARE (i : Nat) (j : Nat) : Nat := 0x20000020 + i * 0x1000000 + j * 0x4
/-- GAL_EVT_CNT (05 Table 5.10). -/
def GAL_EVT_CNT (i : Nat) : Nat := 0x20000100 + i * 0x1000000
/-- GAL_SYN_CNT_LO (05 Table 5.10). -/
def GAL_SYN_CNT_LO (i : Nat) : Nat := 0x20000104 + i * 0x1000000
/-- GAL_SYN_CNT_HI (05 Table 5.10). -/
def GAL_SYN_CNT_HI (i : Nat) : Nat := 0x20000108 + i * 0x1000000
/-- GAL_FIRE_CNT (05 Table 5.10). -/
def GAL_FIRE_CNT (i : Nat) : Nat := 0x2000010C + i * 0x1000000
/-- GAL_LATE_CNT (05 Table 5.10). -/
def GAL_LATE_CNT (i : Nat) : Nat := 0x20000110 + i * 0x1000000
/-- GAL_NOTRUN_CNT (05 Table 5.10). -/
def GAL_NOTRUN_CNT (i : Nat) : Nat := 0x20000114 + i * 0x1000000
/-- GAL_DROP_CNT (05 Table 5.10). -/
def GAL_DROP_CNT (i : Nat) : Nat := 0x20000118 + i * 0x1000000
/-- GAL_DLYQ_DROP_CNT (05 Table 5.10). -/
def GAL_DLYQ_DROP_CNT (i : Nat) : Nat := 0x2000011C + i * 0x1000000
/-- GAL_COLD_DROP_CNT (05 Table 5.10). -/
def GAL_COLD_DROP_CNT (i : Nat) : Nat := 0x20000120 + i * 0x1000000
/-- GAL_COLD_FETCH_CNT (05 Table 5.10). -/
def GAL_COLD_FETCH_CNT (i : Nat) : Nat := 0x20000124 + i * 0x1000000
/-- GAL_PSET_CNT (05 Table 5.10). -/
def GAL_PSET_CNT (i : Nat) : Nat := 0x20000128 + i * 0x1000000
/-- GAL_PEND_NOW (05 Table 5.10). -/
def GAL_PEND_NOW (i : Nat) : Nat := 0x2000012C + i * 0x1000000
/-- GAL_TALLY_DROP_CNT (05 Table 5.10). -/
def GAL_TALLY_DROP_CNT (i : Nat) : Nat := 0x20000130 + i * 0x1000000
/-- GAL_STOP_DROP_CNT (05 Table 5.10). -/
def GAL_STOP_DROP_CNT (i : Nat) : Nat := 0x20000134 + i * 0x1000000
/-- GAL_HIWATER (05 Table 5.9). -/
def GAL_HIWATER (i : Nat) : Nat := 0x20000138 + i * 0x1000000
/-- GAL_EDESC (05 Table 5.8 (fields Table 5.7)). -/
def GAL_EDESC (i : Nat) (j : Nat) : Nat := 0x20001000 + i * 0x1000000 + j * 0x4
/-- GAL_MODEL (02 Table 2.7 (fields Table 2.5)). -/
def GAL_MODEL (i : Nat) (j : Nat) : Nat := 0x20004000 + i * 0x1000000 + j * 0x4
/-- GAL_STATE_CTL (02 Table 2.8). -/
def GAL_STATE_CTL (i : Nat) : Nat := 0x20004100 + i * 0x1000000
/-- GAL_STATE_STAT (02 Table 2.8). -/
def GAL_STATE_STAT (i : Nat) : Nat := 0x20004104 + i * 0x1000000
/-- GAL_UNW_CNT (02 Table 2.9). -/
def GAL_UNW_CNT (i : Nat) : Nat := 0x20004110 + i * 0x1000000
/-- GAL_ECC_CE_CNT (02 Table 2.9). -/
def GAL_ECC_CE_CNT (i : Nat) : Nat := 0x20004114 + i * 0x1000000
/-- GAL_ECC_UE_CNT (02 Table 2.9). -/
def GAL_ECC_UE_CNT (i : Nat) : Nat := 0x20004118 + i * 0x1000000
/-- GAL_UE_ADDR (02 Table 2.9). -/
def GAL_UE_ADDR (i : Nat) : Nat := 0x2000411C + i * 0x1000000
/-- GAL_SAT_CNT (02 Table 2.9). -/
def GAL_SAT_CNT (i : Nat) : Nat := 0x20004120 + i * 0x1000000
/-- GAL_MERGE_CNT (02 Table 2.9). -/
def GAL_MERGE_CNT (i : Nat) : Nat := 0x20004124 + i * 0x1000000
/-- GAL_BADEVT_CNT (02 Table 2.9). -/
def GAL_BADEVT_CNT (i : Nat) : Nat := 0x20004128 + i * 0x1000000
/-- GAL_SETTLE_LAST (02 Table 2.9). -/
def GAL_SETTLE_LAST (i : Nat) : Nat := 0x2000412C + i * 0x1000000
/-- GAL_DARK_LO (04 Table 4.11). -/
def GAL_DARK_LO (i : Nat) (j : Nat) : Nat := 0x20004200 + i * 0x1000000 + j * 0x8
/-- GAL_DARK_HI (04 Table 4.11). -/
def GAL_DARK_HI (i : Nat) (j : Nat) : Nat := 0x20004204 + i * 0x1000000 + j * 0x8
/-- GAL_IWIN_LO (04 Table 4.11). -/
def GAL_IWIN_LO (i : Nat) (j : Nat) : Nat := 0x20004280 + i * 0x1000000 + j * 0x8
/-- GAL_IWIN_HI (04 Table 4.11). -/
def GAL_IWIN_HI (i : Nat) (j : Nat) : Nat := 0x20004284 + i * 0x1000000 + j * 0x8
/-- GAL_DARK_STAT (04 Table 4.11). -/
def GAL_DARK_STAT (i : Nat) : Nat := 0x200042C0 + i * 0x1000000
/-- GAL_DARK_CNT (04 Table 4.11). -/
def GAL_DARK_CNT (i : Nat) : Nat := 0x200042C4 + i * 0x1000000
/-- GAL_FLT_CFG (18 Table 18.12). -/
def GAL_FLT_CFG (i : Nat) : Nat := 0x20004300 + i * 0x1000000
/-- GAL_FLT_STAT (18 Table 18.12). -/
def GAL_FLT_STAT (i : Nat) : Nat := 0x20004304 + i * 0x1000000
/-- GAL_DEAD_HIT (18 Table 18.12). -/
def GAL_DEAD_HIT (i : Nat) : Nat := 0x20004308 + i * 0x1000000
/-- GAL_DEAD (18 Table 18.12). -/
def GAL_DEAD (i : Nat) (j : Nat) : Nat := 0x20004340 + i * 0x1000000 + j * 0x4
/-- CMP_CTL (08 Table 8.6). -/
def CMP_CTL (i : Nat) : Nat := 0x20005000 + i * 0x1000000
/-- CMP_STAT (08 Table 8.6). -/
def CMP_STAT (i : Nat) : Nat := 0x20005004 + i * 0x1000000
/-- CMP_POOL (08 Table 8.6). -/
def CMP_POOL (i : Nat) : Nat := 0x20005008 + i * 0x1000000
/-- CMP_SALT (08 Table 8.6). -/
def CMP_SALT (i : Nat) : Nat := 0x2000500C + i * 0x1000000
/-- CMP_TALLY_CFG (08 Table 8.6). -/
def CMP_TALLY_CFG (i : Nat) : Nat := 0x20005010 + i * 0x1000000
/-- CMP_BEAR_CFG (08 Table 8.6). -/
def CMP_BEAR_CFG (i : Nat) : Nat := 0x20005014 + i * 0x1000000
/-- CMP_BEAR_LEADER (08 Table 8.6). -/
def CMP_BEAR_LEADER (i : Nat) : Nat := 0x20005018 + i * 0x1000000
/-- CMP_BEAR_DEST (08 Table 8.6). -/
def CMP_BEAR_DEST (i : Nat) (j : Nat) : Nat := 0x20005100 + i * 0x1000000 + j * 0x4
/-- CMP_TALLY_CNT (08 Table 8.7). -/
def CMP_TALLY_CNT (i : Nat) : Nat := 0x20005200 + i * 0x1000000
/-- CMP_SUB_CNT (08 Table 8.7). -/
def CMP_SUB_CNT (i : Nat) : Nat := 0x20005204 + i * 0x1000000
/-- CMP_FALL_CNT (08 Table 8.7). -/
def CMP_FALL_CNT (i : Nat) : Nat := 0x20005208 + i * 0x1000000
/-- CMP_DROP_CNT (08 Table 8.7). -/
def CMP_DROP_CNT (i : Nat) : Nat := 0x2000520C + i * 0x1000000
/-- CMP_LATE_CNT (08 Table 8.7). -/
def CMP_LATE_CNT (i : Nat) : Nat := 0x20005210 + i * 0x1000000
/-- CMP_TRAIN_CNT (08 Table 8.7). -/
def CMP_TRAIN_CNT (i : Nat) : Nat := 0x20005214 + i * 0x1000000
/-- CMP_TRAIN_ERR (08 Table 8.7). -/
def CMP_TRAIN_ERR (i : Nat) : Nat := 0x20005218 + i * 0x1000000
/-- CMP_REF_ERR (08 Table 8.7). -/
def CMP_REF_ERR (i : Nat) : Nat := 0x2000521C + i * 0x1000000
/-- CMP_BEAR_CNT (08 Table 8.7). -/
def CMP_BEAR_CNT (i : Nat) : Nat := 0x20005220 + i * 0x1000000
/-- CMP_BEAR_LOST (08 Table 8.7). -/
def CMP_BEAR_LOST (i : Nat) : Nat := 0x20005224 + i * 0x1000000
/-- CMP_EMBED_DROP (08 Table 8.7). -/
def CMP_EMBED_DROP (i : Nat) : Nat := 0x20005228 + i * 0x1000000
/-- CMP_LOAD_NOW (08 Table 8.6). -/
def CMP_LOAD_NOW (i : Nat) (j : Nat) : Nat := 0x20005800 + i * 0x1000000 + j * 0x8
/-- CMP_LOAD_LAST (08 Table 8.6). -/
def CMP_LOAD_LAST (i : Nat) (j : Nat) : Nat := 0x20005804 + i * 0x1000000 + j * 0x8
/-- CMP_EXP (08 Table 8.5 (fields Table 8.2)). -/
def CMP_EXP (i : Nat) (j : Nat) : Nat := 0x20006000 + i * 0x1000000 + j * 0x4
/-- LRN_CTL (09 Table 9.8). -/
def LRN_CTL (i : Nat) : Nat := 0x20007000 + i * 0x1000000
/-- LRN_STAT (09 Table 9.8). -/
def LRN_STAT (i : Nat) : Nat := 0x20007004 + i * 0x1000000
/-- LRN_EPOCH (09 Table 9.8). -/
def LRN_EPOCH (i : Nat) : Nat := 0x20007008 + i * 0x1000000
/-- LRN_PRE_CFG (09 Table 9.8). -/
def LRN_PRE_CFG (i : Nat) : Nat := 0x2000700C + i * 0x1000000
/-- LRN_CO_CFG (09 Table 9.8). -/
def LRN_CO_CFG (i : Nat) : Nat := 0x20007010 + i * 0x1000000
/-- LRN_SEED (09 Table 9.8). -/
def LRN_SEED (i : Nat) : Nat := 0x20007014 + i * 0x1000000
/-- LRN_NORM_CFG (09 Table 9.8). -/
def LRN_NORM_CFG (i : Nat) : Nat := 0x20007018 + i * 0x1000000
/-- LRN_REWARD (09 Table 9.8). -/
def LRN_REWARD (i : Nat) : Nat := 0x2000701C + i * 0x1000000
/-- LRN_REWARD_ADD (09 Table 9.8). -/
def LRN_REWARD_ADD (i : Nat) : Nat := 0x20007020 + i * 0x1000000
/-- LRN_PROF_W0 (09 Table 9.7 (fields Table 9.2)). -/
def LRN_PROF_W0 (i : Nat) (j : Nat) : Nat := 0x20007100 + i * 0x1000000 + j * 0x20
/-- LRN_PROF_W1 (09 Table 9.7 (fields Table 9.2)). -/
def LRN_PROF_W1 (i : Nat) (j : Nat) : Nat := 0x20007104 + i * 0x1000000 + j * 0x20
/-- LRN_PROF_W2 (09 Table 9.7 (fields Table 9.2)). -/
def LRN_PROF_W2 (i : Nat) (j : Nat) : Nat := 0x20007108 + i * 0x1000000 + j * 0x20
/-- LRN_PROF_W3 (09 Table 9.7 (fields Table 9.2)). -/
def LRN_PROF_W3 (i : Nat) (j : Nat) : Nat := 0x2000710C + i * 0x1000000 + j * 0x20
/-- LRN_PROF_W4 (09 Table 9.7 (fields Table 9.2)). -/
def LRN_PROF_W4 (i : Nat) (j : Nat) : Nat := 0x20007110 + i * 0x1000000 + j * 0x20
/-- LRN_PROF_W5 (09 Table 9.7 (fields Table 9.2)). -/
def LRN_PROF_W5 (i : Nat) (j : Nat) : Nat := 0x20007114 + i * 0x1000000 + j * 0x20
/-- LRN_PROF_W6 (09 Table 9.7 (fields Table 9.2)). -/
def LRN_PROF_W6 (i : Nat) (j : Nat) : Nat := 0x20007118 + i * 0x1000000 + j * 0x20
/-- LRN_EPOCH_CNT (09 Table 9.9). -/
def LRN_EPOCH_CNT (i : Nat) : Nat := 0x20007400 + i * 0x1000000
/-- LRN_UPD_CNT (09 Table 9.9). -/
def LRN_UPD_CNT (i : Nat) : Nat := 0x20007404 + i * 0x1000000
/-- LRN_STRUCT_CNT (09 Table 9.9). -/
def LRN_STRUCT_CNT (i : Nat) : Nat := 0x20007408 + i * 0x1000000
/-- LRN_SKIP_CNT (09 Table 9.9). -/
def LRN_SKIP_CNT (i : Nat) : Nat := 0x2000740C + i * 0x1000000
/-- LRN_DELAY_CNT (09 Table 9.9). -/
def LRN_DELAY_CNT (i : Nat) : Nat := 0x20007410 + i * 0x1000000
/-- LRN_NORM_CNT (09 Table 9.9). -/
def LRN_NORM_CNT (i : Nat) : Nat := 0x20007414 + i * 0x1000000
/-- LRN_ECC_CNT (09 Table 9.9). -/
def LRN_ECC_CNT (i : Nat) : Nat := 0x20007418 + i * 0x1000000
/-- INT_CTL (03 Table 3.12). -/
def INT_CTL (i : Nat) : Nat := 0x50000000 + i * 0x100000
/-- INT_STAT (03 Table 3.13). -/
def INT_STAT (i : Nat) : Nat := 0x50000004 + i * 0x100000
/-- INT_CSI_CFG (03 Table 3.12). -/
def INT_CSI_CFG (i : Nat) : Nat := 0x50000010 + i * 0x100000
/-- INT_GEOM (03 Table 3.12). -/
def INT_GEOM (i : Nat) : Nat := 0x50000014 + i * 0x100000
/-- INT_CONV (03 Table 3.12). -/
def INT_CONV (i : Nat) : Nat := 0x50000018 + i * 0x100000
/-- INT_THERM (03 Table 3.12). -/
def INT_THERM (i : Nat) : Nat := 0x5000001C + i * 0x100000
/-- INT_FLK_CFG (03 Table 3.12). -/
def INT_FLK_CFG (i : Nat) : Nat := 0x50000020 + i * 0x100000
/-- INT_FLK_STAT (03 Table 3.13). -/
def INT_FLK_STAT (i : Nat) : Nat := 0x50000024 + i * 0x100000
/-- INT_SHED_CFG (03 Table 3.13). -/
def INT_SHED_CFG (i : Nat) : Nat := 0x50000030 + i * 0x100000
/-- INT_SHED_BUDGET (03 Table 3.13). -/
def INT_SHED_BUDGET (i : Nat) : Nat := 0x50000034 + i * 0x100000
/-- INT_SHED_STAT (03 Table 3.13). -/
def INT_SHED_STAT (i : Nat) : Nat := 0x50000038 + i * 0x100000
/-- INT_RETRY_CFG (03 Table 3.13). -/
def INT_RETRY_CFG (i : Nat) : Nat := 0x5000003C + i * 0x100000
/-- INT_RX_CNT (03 Table 3.14). -/
def INT_RX_CNT (i : Nat) : Nat := 0x50000040 + i * 0x100000
/-- INT_EVT_CNT (03 Table 3.14). -/
def INT_EVT_CNT (i : Nat) : Nat := 0x50000044 + i * 0x100000
/-- INT_FLK_DROP_CNT (03 Table 3.14). -/
def INT_FLK_DROP_CNT (i : Nat) : Nat := 0x50000048 + i * 0x100000
/-- INT_UNMAP_CNT (03 Table 3.14). -/
def INT_UNMAP_CNT (i : Nat) : Nat := 0x5000004C + i * 0x100000
/-- INT_SHED_CNT (03 Table 3.14). -/
def INT_SHED_CNT (i : Nat) : Nat := 0x50000050 + i * 0x100000
/-- INT_RAIL_DROP_CNT (03 Table 3.14). -/
def INT_RAIL_DROP_CNT (i : Nat) : Nat := 0x50000054 + i * 0x100000
/-- INT_LATE_CNT (03 Table 3.14). -/
def INT_LATE_CNT (i : Nat) : Nat := 0x50000058 + i * 0x100000
/-- INT_PKT_ERR_CNT (03 Table 3.14). -/
def INT_PKT_ERR_CNT (i : Nat) : Nat := 0x5000005C + i * 0x100000
/-- INT_RESTART_CNT (03 Table 3.14). -/
def INT_RESTART_CNT (i : Nat) : Nat := 0x50000060 + i * 0x100000
/-- INT_OVL_TICKS (03 Table 3.14). -/
def INT_OVL_TICKS (i : Nat) : Nat := 0x50000064 + i * 0x100000
/-- INT_SCAL_HI (03 Table 3.12). -/
def INT_SCAL_HI (i : Nat) (j : Nat) : Nat := 0x50000100 + i * 0x100000 + j * 0x8
/-- INT_SCAL_LO (03 Table 3.12). -/
def INT_SCAL_LO (i : Nat) (j : Nat) : Nat := 0x50000104 + i * 0x100000 + j * 0x8
/-- SEAM_CTL (03 Table 3.13). -/
def SEAM_CTL (i : Nat) : Nat := 0x50000800 + i * 0x100000
/-- SEAM_STAT (03 Table 3.13). -/
def SEAM_STAT (i : Nat) : Nat := 0x50000804 + i * 0x100000
/-- SEAM_ERR_CNT (03 Table 3.14). -/
def SEAM_ERR_CNT (i : Nat) : Nat := 0x50000808 + i * 0x100000
/-- SEAM_HELLO_ID (03 Table 3.13). -/
def SEAM_HELLO_ID (i : Nat) : Nat := 0x5000080C + i * 0x100000
/-- INT_MAP (03 Table 3.12 (fields Table 3.8)). -/
def INT_MAP (i : Nat) (j : Nat) : Nat := 0x50010000 + i * 0x100000 + j * 0x4
/-- EGR_CTL (04 Table 4.10). -/
def EGR_CTL : Nat := 0x80010000
/-- EGR_STAT (04 Table 4.10). -/
def EGR_STAT : Nat := 0x80010004
/-- EGR_FUSE_CEIL (04 Table 4.10). -/
def EGR_FUSE_CEIL : Nat := 0x80010008
/-- EGR_HB_CFG (04 Table 4.10). -/
def EGR_HB_CFG : Nat := 0x8001000C
/-- EGR_BL_CFG (04 Table 4.10). -/
def EGR_BL_CFG : Nat := 0x80010010
/-- EGR_SCHEMA_ERR (04 Table 4.10). -/
def EGR_SCHEMA_ERR : Nat := 0x80010014
/-- EGR_ERASE_CNT (04 Table 4.10). -/
def EGR_ERASE_CNT : Nat := 0x80010018
/-- EGR_MTR_CFG (04 Table 4.10). -/
def EGR_MTR_CFG (j : Nat) : Nat := 0x80010100 + j * 0x10
/-- EGR_MTR_LVL (04 Table 4.10). -/
def EGR_MTR_LVL (j : Nat) : Nat := 0x80010104 + j * 0x10
/-- EGR_MTR_DROP (04 Table 4.10). -/
def EGR_MTR_DROP (j : Nat) : Nat := 0x80010108 + j * 0x10
/-- EGR_MTR_PASS (04 Table 4.10). -/
def EGR_MTR_PASS (j : Nat) : Nat := 0x8001010C + j * 0x10
/-- EGR_BL_STAT (04 Table 4.10). -/
def EGR_BL_STAT (j : Nat) : Nat := 0x80010200 + j * 0x10
/-- EGR_BL_DROP (04 Table 4.10). -/
def EGR_BL_DROP (j : Nat) : Nat := 0x80010204 + j * 0x10
/-- MSH_CTL (06 Table 6.10). -/
def MSH_CTL : Nat := 0x40000000
/-- MSH_STAT (06 Table 6.10). -/
def MSH_STAT : Nat := 0x40000004
/-- MSH_ADMIT (06 Table 6.10). -/
def MSH_ADMIT : Nat := 0x40000008
/-- MSH_NODE_FWD (06 Table 6.10). -/
def MSH_NODE_FWD (j : Nat) : Nat := 0x40000100 + j * 0x10
/-- MSH_NODE_DROP (06 Table 6.10). -/
def MSH_NODE_DROP (j : Nat) : Nat := 0x40000104 + j * 0x10
/-- MSH_NODE_ERR (06 Table 6.10). -/
def MSH_NODE_ERR (j : Nat) : Nat := 0x40000108 + j * 0x10
/-- MSH_NODE_HIWATER (06 Table 6.10). -/
def MSH_NODE_HIWATER (j : Nat) : Nat := 0x4000010C + j * 0x10
/-- MSH_RAIL_EV (06 Table 6.10). -/
def MSH_RAIL_EV (j : Nat) : Nat := 0x40000200 + j * 0x10
/-- MSH_RAIL_ERR (06 Table 6.10). -/
def MSH_RAIL_ERR (j : Nat) : Nat := 0x40000204 + j * 0x10
/-- MSH_TRUNK_CNT (06 Table 6.10). -/
def MSH_TRUNK_CNT (j : Nat) : Nat := 0x40000208 + j * 0x10
/-- MSH_TRUNK_WAIT (06 Table 6.10). -/
def MSH_TRUNK_WAIT (j : Nat) : Nat := 0x4000020C + j * 0x10
/-- PCL_RECT (06 Table 6.10). -/
def PCL_RECT (i : Nat) : Nat := 0x40010000 + i * 0x20
/-- PCL_BIND (06 Table 6.10). -/
def PCL_BIND (i : Nat) : Nat := 0x40010004 + i * 0x20
/-- PCL_PORTMASK (06 Table 6.10). -/
def PCL_PORTMASK (i : Nat) : Nat := 0x40010008 + i * 0x20
/-- PCL_POOL (06 Table 6.10). -/
def PCL_POOL (i : Nat) : Nat := 0x4001000C + i * 0x20
/-- PCL_STATE (06 Table 6.10). -/
def PCL_STATE (i : Nat) : Nat := 0x40010010 + i * 0x20
/-- PCL_CNT (06 Table 6.10). -/
def PCL_CNT (i : Nat) : Nat := 0x40010014 + i * 0x20
/-- DNS_CTL (07 Table 7.10). -/
def DNS_CTL (i : Nat) : Nat := 0x30000000 + i * 0x100000
/-- DNS_STAT (07 Table 7.10). -/
def DNS_STAT (i : Nat) : Nat := 0x30000004 + i * 0x100000
/-- DNS_PWR_CFG (07 Table 7.10). -/
def DNS_PWR_CFG (i : Nat) : Nat := 0x30000008 + i * 0x100000
/-- DNS_CNT_WIN (07 Table 7.10). -/
def DNS_CNT_WIN (i : Nat) : Nat := 0x3000000C + i * 0x100000
/-- DNS_CNT_CFG (07 Table 7.10). -/
def DNS_CNT_CFG (i : Nat) : Nat := 0x30000010 + i * 0x100000
/-- DNS_REPAIR (07 Table 7.10). -/
def DNS_REPAIR (i : Nat) : Nat := 0x30000014 + i * 0x100000
/-- DNS_WTAG (07 Table 7.10). -/
def DNS_WTAG (i : Nat) (j : Nat) : Nat := 0x30000018 + i * 0x100000 + j * 0x4
/-- DNS_JOB_CNT (07 Table 7.11). -/
def DNS_JOB_CNT (i : Nat) : Nat := 0x30000100 + i * 0x100000
/-- DNS_RESP_CNT (07 Table 7.11). -/
def DNS_RESP_CNT (i : Nat) : Nat := 0x30000104 + i * 0x100000
/-- DNS_WLOAD_CNT (07 Table 7.11). -/
def DNS_WLOAD_CNT (i : Nat) : Nat := 0x30000108 + i * 0x100000
/-- DNS_WAKE_CNT (07 Table 7.11). -/
def DNS_WAKE_CNT (i : Nat) : Nat := 0x3000010C + i * 0x100000
/-- DNS_ERR_CNT (07 Table 7.11). -/
def DNS_ERR_CNT (i : Nat) : Nat := 0x30000110 + i * 0x100000
/-- DNS_CNTSAT (07 Table 7.11). -/
def DNS_CNTSAT (i : Nat) : Nat := 0x30000114 + i * 0x100000
/-- DNS_CNT_DROP (07 Table 7.11). -/
def DNS_CNT_DROP (i : Nat) : Nat := 0x30000118 + i * 0x100000
/-- DNS_OUT_CNT (07 Table 7.11). -/
def DNS_OUT_CNT (i : Nat) : Nat := 0x3000011C + i * 0x100000
/-- DNS_ACTIVE_CYC (07 Table 7.11). -/
def DNS_ACTIVE_CYC (i : Nat) : Nat := 0x30000120 + i * 0x100000
/-- DNS_JDESC (07 Table 7.9 (fields Table 7.3)). -/
def DNS_JDESC (i : Nat) (j : Nat) : Nat := 0x30001000 + i * 0x100000 + j * 0x4
/-- TRV_CTL (10 Table 10.14). -/
def TRV_CTL (i : Nat) : Nat := 0x60000000 + i * 0x1000000
/-- TRV_STAT (10 Table 10.14). -/
def TRV_STAT (i : Nat) : Nat := 0x60000004 + i * 0x1000000
/-- TRV_DELAY (10 Table 10.14). -/
def TRV_DELAY (i : Nat) : Nat := 0x60000008 + i * 0x1000000
/-- TRV_RETRY_CFG (10 Table 10.14). -/
def TRV_RETRY_CFG (i : Nat) : Nat := 0x6000000C + i * 0x1000000
/-- TRV_PARTNER_ID (10 Table 10.14). -/
def TRV_PARTNER_ID (i : Nat) (j : Nat) : Nat := 0x60000010 + i * 0x1000000 + j * 0x4
/-- TRV_FLIT_TX (10 Table 10.15). -/
def TRV_FLIT_TX (i : Nat) : Nat := 0x60000100 + i * 0x1000000
/-- TRV_FLIT_RX (10 Table 10.15). -/
def TRV_FLIT_RX (i : Nat) : Nat := 0x60000104 + i * 0x1000000
/-- TRV_CRC_CNT (10 Table 10.15). -/
def TRV_CRC_CNT (i : Nat) : Nat := 0x60000108 + i * 0x1000000
/-- TRV_REPLAY_CNT (10 Table 10.15). -/
def TRV_REPLAY_CNT (i : Nat) : Nat := 0x6000010C + i * 0x1000000
/-- TRV_RETRAIN_CNT (10 Table 10.15). -/
def TRV_RETRAIN_CNT (i : Nat) : Nat := 0x60000110 + i * 0x1000000
/-- TRV_TAG_FAIL (10 Table 10.15). -/
def TRV_TAG_FAIL (i : Nat) : Nat := 0x60000114 + i * 0x1000000
/-- TRV_SUSPECT (10 Table 10.15). -/
def TRV_SUSPECT (i : Nat) : Nat := 0x60000118 + i * 0x1000000
/-- TRV_DOWN_DROP (10 Table 10.15). -/
def TRV_DOWN_DROP (i : Nat) : Nat := 0x6000011C + i * 0x1000000
/-- TRV_RT_DROP (10 Table 10.15). -/
def TRV_RT_DROP (i : Nat) : Nat := 0x60000120 + i * 0x1000000
/-- TRV_Q_TMO (10 Table 10.15). -/
def TRV_Q_TMO (i : Nat) : Nat := 0x60000124 + i * 0x1000000
/-- TRV_MSG_ERR (10 Table 10.15). -/
def TRV_MSG_ERR (i : Nat) : Nat := 0x60000128 + i * 0x1000000
/-- TRV_GRP_CTL (10 Table 10.14). -/
def TRV_GRP_CTL : Nat := 0x66000000
/-- TRV_GRP_STAT (10 Table 10.14). -/
def TRV_GRP_STAT : Nat := 0x66000004
/-- TRV_SYNC_CFG (10 Table 10.14). -/
def TRV_SYNC_CFG : Nat := 0x66000008
/-- TRV_SYNC_STAT (10 Table 10.14). -/
def TRV_SYNC_STAT : Nat := 0x6600000C
/-- TRV_GRP_RT_DROP (10 Table 10.14). -/
def TRV_GRP_RT_DROP : Nat := 0x66000010
/-- TRV_RT (10 Table 10.14 (fields Table 10.11)). -/
def TRV_RT (j : Nat) : Nat := 0x66000100 + j * 0x4
/-- STK_CTL (11 Table 11.6). -/
def STK_CTL (i : Nat) : Nat := 0x70000000 + i * 0x100000
/-- STK_STAT (11 Table 11.6). -/
def STK_STAT (i : Nat) : Nat := 0x70000004 + i * 0x100000
/-- STK_BG_CFG (11 Table 11.6). -/
def STK_BG_CFG (i : Nat) : Nat := 0x70000008 + i * 0x100000
/-- STK_RET_CFG (11 Table 11.6). -/
def STK_RET_CFG (i : Nat) : Nat := 0x7000000C + i * 0x100000
/-- STK_PC_RET (11 Table 11.6). -/
def STK_PC_RET (i : Nat) : Nat := 0x70000010 + i * 0x100000
/-- STK_UE_ADDR_LO (11 Table 11.6). -/
def STK_UE_ADDR_LO (i : Nat) : Nat := 0x70000014 + i * 0x100000
/-- STK_UE_ADDR_HI (11 Table 11.6). -/
def STK_UE_ADDR_HI (i : Nat) : Nat := 0x70000018 + i * 0x100000
/-- STK_ECC_CNT (11 Table 11.6). -/
def STK_ECC_CNT (i : Nat) : Nat := 0x70000020 + i * 0x100000
/-- STK_SKIP_CNT (11 Table 11.6). -/
def STK_SKIP_CNT (i : Nat) : Nat := 0x70000024 + i * 0x100000
/-- STK_DENY_CNT (11 Table 11.6). -/
def STK_DENY_CNT (i : Nat) : Nat := 0x70000028 + i * 0x100000
/-- STK_RETPG_CNT (11 Table 11.6). -/
def STK_RETPG_CNT (i : Nat) : Nat := 0x7000002C + i * 0x100000
/-- STK_RGN_BASE (11 Table 11.6). -/
def STK_RGN_BASE (i : Nat) (j : Nat) : Nat := 0x70000100 + i * 0x100000 + j * 0x20
/-- STK_RGN_LIM (11 Table 11.6). -/
def STK_RGN_LIM (i : Nat) (j : Nat) : Nat := 0x70000104 + i * 0x100000 + j * 0x20
/-- STK_RGN_WM (11 Table 11.6). -/
def STK_RGN_WM (i : Nat) (j : Nat) : Nat := 0x70000108 + i * 0x100000 + j * 0x20
/-- STK_RGN_FILL (11 Table 11.6). -/
def STK_RGN_FILL (i : Nat) (j : Nat) : Nat := 0x7000010C + i * 0x100000 + j * 0x20
/-- STK_RGN_CTL (11 Table 11.6). -/
def STK_RGN_CTL (i : Nat) (j : Nat) : Nat := 0x70000110 + i * 0x100000 + j * 0x20
/-- STK_RGN_UNW (11 Table 11.6). -/
def STK_RGN_UNW (i : Nat) (j : Nat) : Nat := 0x70000114 + i * 0x100000 + j * 0x20
/-- STK_RETPG (11 Table 11.6). -/
def STK_RETPG (i : Nat) (j : Nat) : Nat := 0x70001000 + i * 0x100000 + j * 0x4
/-- SCP_CTL (11 Table 11.7). -/
def SCP_CTL : Nat := 0x91000000
/-- SCP_STAT (11 Table 11.7). -/
def SCP_STAT : Nat := 0x91000004
/-- SCP_BG_CFG (11 Table 11.7). -/
def SCP_BG_CFG : Nat := 0x91000008
/-- SCP_RET_CFG (11 Table 11.7). -/
def SCP_RET_CFG : Nat := 0x9100000C
/-- SCP_UNW_CNT (11 Table 11.7). -/
def SCP_UNW_CNT : Nat := 0x91000010
/-- SCP_ECC_CNT (11 Table 11.7). -/
def SCP_ECC_CNT : Nat := 0x91000014
/-- SCP_UE_ADDR (11 Table 11.7). -/
def SCP_UE_ADDR : Nat := 0x91000018
/-- SCP_MT_CTL (11 Table 11.7). -/
def SCP_MT_CTL : Nat := 0x91000020
/-- SCP_MT_STAT (11 Table 11.7). -/
def SCP_MT_STAT : Nat := 0x91000024
/-- SCP_MT_FAIL (11 Table 11.7). -/
def SCP_MT_FAIL : Nat := 0x91000028
/-- SCP_DENY_CNT (11 Table 11.7). -/
def SCP_DENY_CNT (j : Nat) : Nat := 0x91000100 + j * 0x4
/-- SCP_DENY_ADDR_LO (11 Table 11.7). -/
def SCP_DENY_ADDR_LO (j : Nat) : Nat := 0x91000120 + j * 0x8
/-- SCP_DENY_ADDR_HI (11 Table 11.7). -/
def SCP_DENY_ADDR_HI (j : Nat) : Nat := 0x91000124 + j * 0x8
/-- SCP_MRG_BASE (11 Table 11.7). -/
def SCP_MRG_BASE (j : Nat) : Nat := 0x91000800 + j * 0x10
/-- SCP_MRG_LIM (11 Table 11.7). -/
def SCP_MRG_LIM (j : Nat) : Nat := 0x91000804 + j * 0x10
/-- SCP_MRG_ATTR (11 Table 11.7). -/
def SCP_MRG_ATTR (j : Nat) : Nat := 0x91000808 + j * 0x10
/-- HST_ATTACH_CFG (12 Table 12.17). -/
def HST_ATTACH_CFG : Nat := 0x80000000
/-- HST_BAR_ERR (12 Table 12.17). -/
def HST_BAR_ERR : Nat := 0x80000004
/-- HST_AER_CNT (12 Table 12.17). -/
def HST_AER_CNT : Nat := 0x80000008
/-- MBX_CMD_BASE_LO (12 Table 12.16). -/
def MBX_CMD_BASE_LO (i : Nat) : Nat := 0x80020100 + i * 0x1000
/-- MBX_CMD_BASE_HI (12 Table 12.16). -/
def MBX_CMD_BASE_HI (i : Nat) : Nat := 0x80020104 + i * 0x1000
/-- MBX_CPL_BASE_LO (12 Table 12.16). -/
def MBX_CPL_BASE_LO (i : Nat) : Nat := 0x80020108 + i * 0x1000
/-- MBX_CPL_BASE_HI (12 Table 12.16). -/
def MBX_CPL_BASE_HI (i : Nat) : Nat := 0x8002010C + i * 0x1000
/-- MBX_RES_BASE_LO (12 Table 12.16). -/
def MBX_RES_BASE_LO (i : Nat) : Nat := 0x80020110 + i * 0x1000
/-- MBX_RES_BASE_HI (12 Table 12.16). -/
def MBX_RES_BASE_HI (i : Nat) : Nat := 0x80020114 + i * 0x1000
/-- MBX_SB_BASE_LO (12 Table 12.16). -/
def MBX_SB_BASE_LO (i : Nat) : Nat := 0x80020118 + i * 0x1000
/-- MBX_SB_BASE_HI (12 Table 12.16). -/
def MBX_SB_BASE_HI (i : Nat) : Nat := 0x8002011C + i * 0x1000
/-- MBX_RING_CFG (12 Table 12.16). -/
def MBX_RING_CFG (i : Nat) : Nat := 0x80020120 + i * 0x1000
/-- MBX_RING_CTL (12 Table 12.16). -/
def MBX_RING_CTL (i : Nat) : Nat := 0x80020124 + i * 0x1000
/-- MBX_RING_STAT (12 Table 12.16). -/
def MBX_RING_STAT (i : Nat) : Nat := 0x80020128 + i * 0x1000
/-- MBX_CMD_CI (12 Table 12.16). -/
def MBX_CMD_CI (i : Nat) : Nat := 0x8002012C + i * 0x1000
/-- MBX_CPL_PI (12 Table 12.16). -/
def MBX_CPL_PI (i : Nat) : Nat := 0x80020130 + i * 0x1000
/-- MBX_RES_PI (12 Table 12.16). -/
def MBX_RES_PI (i : Nat) : Nat := 0x80020134 + i * 0x1000
/-- MBX_INFLIGHT (12 Table 12.16). -/
def MBX_INFLIGHT (i : Nat) : Nat := 0x80020138 + i * 0x1000
/-- MBX_VEC (12 Table 12.16). -/
def MBX_VEC (i : Nat) : Nat := 0x80020140 + i * 0x1000
/-- MBX_COAL_RES (12 Table 12.16). -/
def MBX_COAL_RES (i : Nat) : Nat := 0x80020144 + i * 0x1000
/-- MBX_COAL_CPL (12 Table 12.16). -/
def MBX_COAL_CPL (i : Nat) : Nat := 0x80020148 + i * 0x1000
/-- MBX_NTC_PEND (12 Table 12.16). -/
def MBX_NTC_PEND (i : Nat) : Nat := 0x8002014C + i * 0x1000
/-- MBX_CPL_DISC (12 Table 12.16). -/
def MBX_CPL_DISC (i : Nat) : Nat := 0x80020150 + i * 0x1000
/-- MBX_DB_ERR (12 Table 12.16). -/
def MBX_DB_ERR (i : Nat) : Nat := 0x80020154 + i * 0x1000
/-- LCK_CTL (12 Table 12.17). -/
def LCK_CTL : Nat := 0x80030000
/-- LCK_BAD_REL (12 Table 12.17). -/
def LCK_BAD_REL : Nat := 0x80030004
/-- LCK_GRANT (12 Table 12.17). -/
def LCK_GRANT (j : Nat) : Nat := 0x80030400 + j * 0x4
/-- LCK_LIFE (12 Table 12.17). -/
def LCK_LIFE (j : Nat) : Nat := 0x80030500 + j * 0x4
/-- PWR_CTL (15 Table 15.11). -/
def PWR_CTL : Nat := 0x10001000
/-- PWR_MODE (15 Table 15.11). -/
def PWR_MODE : Nat := 0x10001004
/-- PWR_REQ (15 Table 15.11). -/
def PWR_REQ : Nat := 0x10001008
/-- PWR_LAST (15 Table 15.11). -/
def PWR_LAST : Nat := 0x1000100C
/-- PWR_CAP (15 Table 15.11). -/
def PWR_CAP : Nat := 0x10001010
/-- PWR_ILIM (15 Table 15.11). -/
def PWR_ILIM : Nat := 0x10001014
/-- PWR_THROT (15 Table 15.11). -/
def PWR_THROT : Nat := 0x10001018
/-- PWR_TJ (15 Table 15.11). -/
def PWR_TJ : Nat := 0x1000101C
/-- PWR_REFUSE_CNT (15 Table 15.11). -/
def PWR_REFUSE_CNT : Nat := 0x10001020
/-- PWR_THROT_CNT (15 Table 15.11). -/
def PWR_THROT_CNT : Nat := 0x10001024
/-- PWR_DOM_STAT (15 Table 15.11). -/
def PWR_DOM_STAT (j : Nat) : Nat := 0x10001100 + j * 0x10
/-- PWR_DOM_CFG (15 Table 15.11). -/
def PWR_DOM_CFG (j : Nat) : Nat := 0x10001104 + j * 0x10
/-- PWR_DOM_CNT (15 Table 15.11). -/
def PWR_DOM_CNT (j : Nat) : Nat := 0x10001108 + j * 0x10
/-- PWR_DOM_LAST (15 Table 15.11). -/
def PWR_DOM_LAST (j : Nat) : Nat := 0x1000110C + j * 0x10
/-- PWR_VREG (15 Table 15.11). -/
def PWR_VREG (j : Nat) : Nat := 0x10001400 + j * 0x4
/-- TEL_SEQ (15 Table 15.11). -/
def TEL_SEQ : Nat := 0x10003000
/-- TEL_PKG (15 Table 15.11). -/
def TEL_PKG : Nat := 0x10003004
/-- TEL_VCORE (15 Table 15.11). -/
def TEL_VCORE : Nat := 0x10003008
/-- TEL_I (15 Table 15.11). -/
def TEL_I (j : Nat) : Nat := 0x10003100 + j * 0x4
/-- TEL_E_LO (15 Table 15.11). -/
def TEL_E_LO (j : Nat) : Nat := 0x10003200 + j * 0x8
/-- TEL_E_HI (15 Table 15.11). -/
def TEL_E_HI (j : Nat) : Nat := 0x10003204 + j * 0x8
/-- CLK_STAT (16 Table 16.7). -/
def CLK_STAT : Nat := 0x11000000
/-- CLK_CTL (16 Table 16.7). -/
def CLK_CTL : Nat := 0x11000004
/-- CLK_PLL_CFG (16 Table 16.7). -/
def CLK_PLL_CFG (j : Nat) : Nat := 0x11000010 + j * 0x10
/-- CLK_PLL_STAT (16 Table 16.7). -/
def CLK_PLL_STAT (j : Nat) : Nat := 0x11000014 + j * 0x10
/-- CLK_SSC (16 Table 16.7). -/
def CLK_SSC (j : Nat) : Nat := 0x11000018 + j * 0x10
/-- CLK_MON_CFG (16 Table 16.7). -/
def CLK_MON_CFG (j : Nat) : Nat := 0x11000100 + j * 0x8
/-- CLK_MON_STAT (16 Table 16.7). -/
def CLK_MON_STAT (j : Nat) : Nat := 0x11000104 + j * 0x8
/-- CLKOUT_CFG (16 Table 16.7). -/
def CLKOUT_CFG : Nat := 0x11000200
/-- CLK_DCHG_STAT (16 Table 16.7). -/
def CLK_DCHG_STAT : Nat := 0x11000204
/-- CLK_DCHG_CNT (16 Table 16.7). -/
def CLK_DCHG_CNT : Nat := 0x11000208
/-- FUS_ID (17 Table 17.10). -/
def FUS_ID (j : Nat) : Nat := 0x12000000 + j * 0x4
/-- FUS_PART (17 Table 17.10). -/
def FUS_PART : Nat := 0x12000010
/-- FUS_RES (17 Table 17.10). -/
def FUS_RES : Nat := 0x12000014
/-- FUS_LIM0 (17 Table 17.10). -/
def FUS_LIM0 : Nat := 0x12000018
/-- FUS_LIM1 (17 Table 17.10). -/
def FUS_LIM1 : Nat := 0x1200001C
/-- FUS_EGR (17 Table 17.10). -/
def FUS_EGR : Nat := 0x12000020
/-- FUS_SECVER (17 Table 17.10). -/
def FUS_SECVER : Nat := 0x12000024
/-- FUS_RMAP_CNT (17 Table 17.10). -/
def FUS_RMAP_CNT : Nat := 0x12000028
/-- FUS_STAT (17 Table 17.10). -/
def FUS_STAT : Nat := 0x1200002C
/-- LIC_HELD (17 Table 17.10). -/
def LIC_HELD : Nat := 0x12001000
/-- LIC_EFFECT (17 Table 17.10). -/
def LIC_EFFECT : Nat := 0x12001004
/-- LIC_BAD (17 Table 17.10). -/
def LIC_BAD : Nat := 0x12001008
/-- FLT_CTL (18 Table 18.12). -/
def FLT_CTL : Nat := 0x10004000
/-- FLT_WDT (18 Table 18.12). -/
def FLT_WDT : Nat := 0x10004004
/-- FLT_STAT (18 Table 18.12). -/
def FLT_STAT : Nat := 0x10004008
/-- FLT_SEQ (18 Table 18.12). -/
def FLT_SEQ : Nat := 0x1000400C
/-- FLT_DRAIN (18 Table 18.12). -/
def FLT_DRAIN : Nat := 0x10004010
/-- FLT_LOST (18 Table 18.12). -/
def FLT_LOST : Nat := 0x10004014
/-- FLT_RECOV (18 Table 18.12). -/
def FLT_RECOV : Nat := 0x10004018
/-- FLT_REC (18 Table 18.12). -/
def FLT_REC (j : Nat) : Nat := 0x10004400 + j * 0x4
/-- GDL_CTL (18 Table 18.12). -/
def GDL_CTL : Nat := 0x10009000
/-- GDL_STAT (18 Table 18.12). -/
def GDL_STAT : Nat := 0x10009004
/-- GDL_TX (18 Table 18.12). -/
def GDL_TX (j : Nat) : Nat := 0x10009010 + j * 0x4
/-- GDL_RX (18 Table 18.12). -/
def GDL_RX (j : Nat) : Nat := 0x10009030 + j * 0x4
/-- GDL_PRESENT_LO (18 Table 18.12). -/
def GDL_PRESENT_LO : Nat := 0x10009050
/-- GDL_PRESENT_HI (18 Table 18.12). -/
def GDL_PRESENT_HI : Nat := 0x10009054
/-- GDL_ERR_CNT (18 Table 18.12). -/
def GDL_ERR_CNT : Nat := 0x10009058
/-- GDL_TUNNEL_CNT (18 Table 18.12). -/
def GDL_TUNNEL_CNT : Nat := 0x1000905C

end R

namespace F

def DAT_CTL_SYNC : Fld := ⟨9, 1⟩
def DAT_CTL_EDGE : Fld := ⟨8, 1⟩
def DAT_CTL_PORT : Fld := ⟨4, 4⟩
def DAT_CTL_SRC : Fld := ⟨0, 3⟩
def DAT_RATIO_DIV : Fld := ⟨8, 12⟩
def DAT_RATIO_MUL : Fld := ⟨0, 8⟩
def DAT_PHASE_OFFSET : Fld := ⟨0, 8⟩
def DAT_TOL_BAND : Fld := ⟨16, 8⟩
def DAT_TOL_LOSS : Fld := ⟨8, 4⟩
def DAT_TOL_ACQ : Fld := ⟨0, 4⟩
def DAT_FREE_PERIOD_FPERIOD : Fld := ⟨0, 32⟩
def DAT_STAT_LEADER : Fld := ⟨10, 2⟩
def DAT_STAT_QUAL : Fld := ⟨8, 2⟩
def DAT_STAT_STEP_PEND : Fld := ⟨7, 1⟩
def DAT_STAT_REASON : Fld := ⟨4, 3⟩
def DAT_STAT_STATE : Fld := ⟨0, 3⟩
def DAT_PERIOD_PERIOD : Fld := ⟨0, 32⟩
def DAT_TICK_PERIOD_TPERIOD : Fld := ⟨0, 32⟩
def DAT_TICK_LO_TICK : Fld := ⟨0, 32⟩
def DAT_TICK_HI_TICK : Fld := ⟨0, 16⟩
def DAT_PHERR_PHERR : Fld := ⟨0, 32⟩
def DAT_LOSS_CNT_LOSS : Fld := ⟨0, 16⟩
def DAT_GLITCH_CNT_GLITCH : Fld := ⟨0, 16⟩
def DAT_HOLD_TICKS_HOLD : Fld := ⟨0, 32⟩
def LNT_PTIME_LO_PTIME : Fld := ⟨0, 32⟩
def LNT_PTIME_HI_PTIME : Fld := ⟨0, 32⟩
def LNT_SESSION_SESSION : Fld := ⟨0, 32⟩
def LNT_SESS_STAT_LVALID : Fld := ⟨1, 1⟩
def LNT_SESS_STAT_UNNUM : Fld := ⟨0, 1⟩
def LNT_HLABEL_LO_LABEL : Fld := ⟨0, 32⟩
def LNT_HLABEL_HI_LABEL : Fld := ⟨0, 32⟩
def LNT_MIR_ID_MAGIC : Fld := ⟨16, 16⟩
def LNT_MIR_ID_LAYOUT : Fld := ⟨8, 8⟩
def LNT_MIR_ID_HIGH : Fld := ⟨4, 1⟩
def LNT_MIR_ID_PART : Fld := ⟨0, 4⟩
def LNT_MIR_STATE_RECOV : Fld := ⟨24, 8⟩
def LNT_MIR_STATE_REASON : Fld := ⟨16, 8⟩
def LNT_MIR_STATE_UNNUM : Fld := ⟨10, 1⟩
def LNT_MIR_STATE_SLOT : Fld := ⟨9, 1⟩
def LNT_MIR_STATE_LAB : Fld := ⟨8, 1⟩
def LNT_MIR_STATE_STAGE : Fld := ⟨4, 4⟩
def LNT_MIR_STATE_STATE : Fld := ⟨0, 4⟩
def LNT_MIR_BEAT_BEAT : Fld := ⟨0, 32⟩
def LNT_MIR_SESSION_SESSION : Fld := ⟨0, 32⟩
def LNT_MIR_PTIME_LO_PTIME : Fld := ⟨0, 32⟩
def LNT_MIR_PTIME_HI_PTIME : Fld := ⟨0, 32⟩
def LNT_MIR_DEVID_DEVID : Fld := ⟨0, 32⟩
def LNT_MIR_FWVER_FWVER : Fld := ⟨0, 32⟩
def LNT_MIR_FLTSEQ_FLTSEQ : Fld := ⟨0, 32⟩
def LNT_MIR_FUNC_BOUND : Fld := ⟨12, 1⟩
def LNT_MIR_FUNC_PARCEL : Fld := ⟨8, 4⟩
def LNT_MIR_FUNC_FUNC : Fld := ⟨0, 4⟩
def LNT_BOOT_STAT_WITHHELD : Fld := ⟨16, 8⟩
def LNT_BOOT_STAT_COLD : Fld := ⟨8, 1⟩
def LNT_BOOT_STAT_FALLBACK : Fld := ⟨6, 1⟩
def LNT_BOOT_STAT_TRIAL : Fld := ⟨5, 1⟩
def LNT_BOOT_STAT_SLOT : Fld := ⟨4, 1⟩
def LNT_BOOT_STAT_STAGE : Fld := ⟨0, 4⟩
def LNT_BOOT_TIME_US : Fld := ⟨0, 32⟩
def LNT_BOOT_CNT_WARM : Fld := ⟨16, 16⟩
def LNT_BOOT_CNT_COLD : Fld := ⟨0, 16⟩
def LNT_IO_SLEW_TDO : Fld := ⟨8, 2⟩
def LNT_IO_SLEW_CLKOUT : Fld := ⟨4, 2⟩
def LNT_SMB_ALERT_MASK : Fld := ⟨8, 4⟩
def LNT_SMB_ALERT_STAT : Fld := ⟨0, 4⟩
def LNT_SMB_CFG_PEC_REQ : Fld := ⟨8, 1⟩
def LNT_SMB_CFG_ADDR : Fld := ⟨0, 7⟩
def LNT_SMB_ERR_TMO : Fld := ⟨16, 16⟩
def LNT_SMB_ERR_PEC : Fld := ⟨0, 16⟩
def GAL_EVT_CTL_GRACE : Fld := ⟨8, 2⟩
def GAL_EVT_CTL_CLR_CNT : Fld := ⟨2, 1⟩
def GAL_EVT_CTL_CFG_RESET : Fld := ⟨1, 1⟩
def GAL_EVT_CTL_RUN_EN : Fld := ⟨0, 1⟩
def GAL_EVT_STAT_CFG_ERR : Fld := ⟨8, 1⟩
def GAL_EVT_STAT_CFG_BUSY : Fld := ⟨7, 1⟩
def GAL_EVT_STAT_STACK_HOLD : Fld := ⟨6, 1⟩
def GAL_EVT_STAT_STATE : Fld := ⟨0, 3⟩
def GAL_SPILL_BASE_LO_BASE : Fld := ⟨6, 26⟩
def GAL_SPILL_BASE_HI_BASE : Fld := ⟨0, 4⟩
def GAL_BANK_MAP_SPARE_USED : Fld := ⟨4, 1⟩
def GAL_BANK_MAP_RETIRED : Fld := ⟨0, 3⟩
def GAL_EMIT_SHARE_SHARE : Fld := ⟨0, 12⟩
def GAL_EVT_CNT_EVT : Fld := ⟨0, 32⟩
def GAL_SYN_CNT_LO_SYN : Fld := ⟨0, 32⟩
def GAL_SYN_CNT_HI_SYN : Fld := ⟨0, 32⟩
def GAL_FIRE_CNT_FIRE : Fld := ⟨0, 32⟩
def GAL_LATE_CNT_RAIL : Fld := ⟨24, 8⟩
def GAL_LATE_CNT_MESH : Fld := ⟨16, 8⟩
def GAL_LATE_CNT_REL : Fld := ⟨8, 8⟩
def GAL_LATE_CNT_LOOP : Fld := ⟨0, 8⟩
def GAL_NOTRUN_CNT_NOTRUN : Fld := ⟨0, 32⟩
def GAL_DROP_CNT_HOPS : Fld := ⟨16, 16⟩
def GAL_DROP_CNT_SLICE : Fld := ⟨0, 16⟩
def GAL_DLYQ_DROP_CNT_DLYQ : Fld := ⟨0, 32⟩
def GAL_COLD_DROP_CNT_COLD : Fld := ⟨0, 32⟩
def GAL_COLD_FETCH_CNT_FETCH : Fld := ⟨0, 32⟩
def GAL_PSET_CNT_PSET : Fld := ⟨0, 32⟩
def GAL_PEND_NOW_PEND : Fld := ⟨0, 18⟩
def GAL_TALLY_DROP_CNT_TALLY : Fld := ⟨0, 32⟩
def GAL_STOP_DROP_CNT_STOP : Fld := ⟨0, 32⟩
def GAL_HIWATER_INGRESS : Fld := ⟨21, 9⟩
def GAL_HIWATER_DLYQ : Fld := ⟨12, 9⟩
def GAL_HIWATER_EMIT : Fld := ⟨0, 12⟩
def GAL_EDESC_WORD : Fld := ⟨0, 32⟩
def GAL_MODEL_WORD : Fld := ⟨0, 32⟩
def GAL_STATE_CTL_SAFE_MODEL : Fld := ⟨4, 4⟩
def GAL_STATE_CTL_CLR_CNT : Fld := ⟨2, 1⟩
def GAL_STATE_CTL_UNW_FAULT : Fld := ⟨1, 1⟩
def GAL_STATE_CTL_COMMIT : Fld := ⟨0, 1⟩
def GAL_STATE_STAT_SWEEP_LATE : Fld := ⟨1, 1⟩
def GAL_STATE_STAT_SWEEP_BUSY : Fld := ⟨0, 1⟩
def GAL_UNW_CNT_UNW : Fld := ⟨0, 32⟩
def GAL_ECC_CE_CNT_SYN : Fld := ⟨16, 16⟩
def GAL_ECC_CE_CNT_STATE : Fld := ⟨0, 16⟩
def GAL_ECC_UE_CNT_SYN : Fld := ⟨16, 16⟩
def GAL_ECC_UE_CNT_STATE : Fld := ⟨0, 16⟩
def GAL_UE_ADDR_ISSYN : Fld := ⟨31, 1⟩
def GAL_UE_ADDR_INDEX : Fld := ⟨0, 24⟩
def GAL_SAT_CNT_V : Fld := ⟨16, 16⟩
def GAL_SAT_CNT_RING : Fld := ⟨0, 16⟩
def GAL_MERGE_CNT_MERGE : Fld := ⟨0, 32⟩
def GAL_BADEVT_CNT_CTRL : Fld := ⟨16, 16⟩
def GAL_BADEVT_CNT_EVT : Fld := ⟨0, 16⟩
def GAL_SETTLE_LAST_SETTLED : Fld := ⟨0, 17⟩
def GAL_DARK_LO_VALID : Fld := ⟨31, 1⟩
def GAL_DARK_LO_PORT : Fld := ⟨24, 4⟩
def GAL_DARK_LO_LO : Fld := ⟨0, 17⟩
def GAL_DARK_HI_HI : Fld := ⟨0, 17⟩
def GAL_IWIN_LO_VALID : Fld := ⟨31, 1⟩
def GAL_IWIN_LO_PORT : Fld := ⟨24, 4⟩
def GAL_IWIN_LO_AXLO : Fld := ⟨0, 18⟩
def GAL_IWIN_HI_AXHI : Fld := ⟨0, 18⟩
def GAL_DARK_STAT_FENCE : Fld := ⟨16, 16⟩
def GAL_DARK_STAT_ERASE : Fld := ⟨0, 16⟩
def GAL_DARK_CNT_FENCE : Fld := ⟨16, 16⟩
def GAL_DARK_CNT_VIOL : Fld := ⟨0, 16⟩
def GAL_FLT_CFG_BANK_WIN : Fld := ⟨24, 8⟩
def GAL_FLT_CFG_BANK_UE_MAX : Fld := ⟨16, 8⟩
def GAL_FLT_CFG_NEU_WIN : Fld := ⟨8, 8⟩
def GAL_FLT_CFG_NEU_UE_MAX : Fld := ⟨0, 8⟩
def GAL_FLT_STAT_PEND_START : Fld := ⟨20, 1⟩
def GAL_FLT_STAT_CAUSE : Fld := ⟨16, 4⟩
def GAL_FLT_STAT_DEAD : Fld := ⟨0, 5⟩
def GAL_DEAD_HIT_HIT : Fld := ⟨0, 32⟩
def GAL_DEAD_VALID : Fld := ⟨31, 1⟩
def GAL_DEAD_NEURON : Fld := ⟨0, 17⟩
def CMP_CTL_BEAR_EN : Fld := ⟨3, 1⟩
def CMP_CTL_COMMIT : Fld := ⟨2, 1⟩
def CMP_CTL_CLR_CNT : Fld := ⟨1, 1⟩
def CMP_CTL_EN : Fld := ⟨0, 1⟩
def CMP_STAT_QDEPTH : Fld := ⟨16, 11⟩
def CMP_STAT_BATCHES : Fld := ⟨8, 5⟩
def CMP_STAT_STAGED : Fld := ⟨0, 6⟩
def CMP_POOL_SLICE : Fld := ⟨16, 4⟩
def CMP_POOL_SIZE : Fld := ⟨0, 9⟩
def CMP_SALT_SALT : Fld := ⟨0, 32⟩
def CMP_TALLY_CFG_EMBED_EN : Fld := ⟨31, 1⟩
def CMP_TALLY_CFG_EJOB : Fld := ⟨24, 6⟩
def CMP_TALLY_CFG_SIG_ACT : Fld := ⟨8, 8⟩
def CMP_TALLY_CFG_FSHIFT : Fld := ⟨0, 4⟩
def CMP_BEAR_CFG_BT : Fld := ⟨16, 16⟩
def CMP_BEAR_CFG_LSHIFT : Fld := ⟨8, 4⟩
def CMP_BEAR_CFG_TOL : Fld := ⟨4, 4⟩
def CMP_BEAR_CFG_STEP : Fld := ⟨0, 4⟩
def CMP_BEAR_LEADER_SELF : Fld := ⟨15, 1⟩
def CMP_BEAR_LEADER_LGAL : Fld := ⟨6, 3⟩
def CMP_BEAR_LEADER_LCHIP : Fld := ⟨0, 6⟩
def CMP_BEAR_DEST_DEST : Fld := ⟨0, 32⟩
def CMP_TALLY_CNT_TALLY : Fld := ⟨0, 32⟩
def CMP_SUB_CNT_SUB : Fld := ⟨0, 32⟩
def CMP_FALL_CNT_FALL : Fld := ⟨0, 32⟩
def CMP_DROP_CNT_ALLFULL : Fld := ⟨16, 16⟩
def CMP_DROP_CNT_QFULL : Fld := ⟨8, 8⟩
def CMP_DROP_CNT_UNREACH : Fld := ⟨0, 8⟩
def CMP_LATE_CNT_LATE : Fld := ⟨16, 16⟩
def CMP_LATE_CNT_ERASE : Fld := ⟨0, 16⟩
def CMP_TRAIN_CNT_OUT : Fld := ⟨16, 16⟩
def CMP_TRAIN_CNT_IN : Fld := ⟨0, 16⟩
def CMP_TRAIN_ERR_INCOMPLETE : Fld := ⟨16, 16⟩
def CMP_TRAIN_ERR_NOCTX : Fld := ⟨0, 16⟩
def CMP_REF_ERR_REF : Fld := ⟨0, 32⟩
def CMP_BEAR_CNT_PERIODS : Fld := ⟨16, 16⟩
def CMP_BEAR_CNT_MISS : Fld := ⟨0, 16⟩
def CMP_BEAR_LOST_LOST : Fld := ⟨0, 32⟩
def CMP_EMBED_DROP_EMBED : Fld := ⟨0, 32⟩
def CMP_LOAD_NOW_NOW : Fld := ⟨0, 32⟩
def CMP_LOAD_LAST_LAST : Fld := ⟨0, 32⟩
def CMP_EXP_WORD : Fld := ⟨0, 32⟩
def LRN_CTL_DENSE_WAKE : Fld := ⟨4, 1⟩
def LRN_CTL_DENSE_EN : Fld := ⟨3, 1⟩
def LRN_CTL_COMMIT : Fld := ⟨2, 1⟩
def LRN_CTL_CLR_CNT : Fld := ⟨1, 1⟩
def LRN_CTL_EN : Fld := ⟨0, 1⟩
def LRN_STAT_DENSE_LAST : Fld := ⟨6, 1⟩
def LRN_STAT_DEFER : Fld := ⟨5, 1⟩
def LRN_STAT_OVERRUN : Fld := ⟨4, 1⟩
def LRN_STAT_PHASE : Fld := ⟨0, 3⟩
def LRN_EPOCH_EPOCH : Fld := ⟨0, 16⟩
def LRN_PRE_CFG_PRE_KEEP : Fld := ⟨8, 8⟩
def LRN_PRE_CFG_PRE_INC : Fld := ⟨0, 8⟩
def LRN_CO_CFG_CREATE_MAX : Fld := ⟨16, 8⟩
def LRN_CO_CFG_CO_WIN : Fld := ⟨8, 8⟩
def LRN_CO_CFG_SSHIFT : Fld := ⟨0, 4⟩
def LRN_SEED_SEED : Fld := ⟨0, 32⟩
def LRN_NORM_CFG_VALID : Fld := ⟨31, 1⟩
def LRN_NORM_CFG_JOB : Fld := ⟨0, 6⟩
def LRN_REWARD_EP : Fld := ⟨16, 16⟩
def LRN_REWARD_ACC : Fld := ⟨0, 16⟩
def LRN_REWARD_ADD_ADD : Fld := ⟨0, 8⟩
def LRN_PROF_W0_WORD : Fld := ⟨0, 32⟩
def LRN_PROF_W1_WORD : Fld := ⟨0, 32⟩
def LRN_PROF_W2_WORD : Fld := ⟨0, 32⟩
def LRN_PROF_W3_WORD : Fld := ⟨0, 32⟩
def LRN_PROF_W4_WORD : Fld := ⟨0, 32⟩
def LRN_PROF_W5_WORD : Fld := ⟨0, 32⟩
def LRN_PROF_W6_WORD : Fld := ⟨0, 32⟩
def LRN_EPOCH_CNT_SWEEPS : Fld := ⟨16, 16⟩
def LRN_EPOCH_CNT_OVERRUN : Fld := ⟨0, 16⟩
def LRN_UPD_CNT_UPD : Fld := ⟨0, 32⟩
def LRN_STRUCT_CNT_CREATED : Fld := ⟨16, 16⟩
def LRN_STRUCT_CNT_PRUNED : Fld := ⟨0, 16⟩
def LRN_SKIP_CNT_CAND_LOST : Fld := ⟨16, 16⟩
def LRN_SKIP_CNT_CREATE_SKIP : Fld := ⟨0, 16⟩
def LRN_DELAY_CNT_DELAY : Fld := ⟨0, 32⟩
def LRN_NORM_CNT_DENSE : Fld := ⟨16, 16⟩
def LRN_NORM_CNT_OWN : Fld := ⟨0, 16⟩
def LRN_ECC_CNT_UE : Fld := ⟨16, 16⟩
def LRN_ECC_CNT_CE : Fld := ⟨0, 16⟩
def INT_CTL_COMMIT : Fld := ⟨2, 1⟩
def INT_CTL_KIND : Fld := ⟨1, 1⟩
def INT_CTL_EN : Fld := ⟨0, 1⟩
def INT_STAT_BYPASS : Fld := ⟨9, 1⟩
def INT_STAT_OVERLOAD : Fld := ⟨8, 1⟩
def INT_STAT_RETIRED : Fld := ⟨7, 1⟩
def INT_STAT_STATE : Fld := ⟨0, 3⟩
def INT_CSI_CFG_LANEMAP : Fld := ⟨16, 8⟩
def INT_CSI_CFG_PSWAP : Fld := ⟨12, 4⟩
def INT_CSI_CFG_DT_MASK : Fld := ⟨4, 8⟩
def INT_CSI_CFG_VC : Fld := ⟨2, 2⟩
def INT_CSI_CFG_LANES : Fld := ⟨0, 2⟩
def INT_GEOM_TSHIFT : Fld := ⟨28, 2⟩
def INT_GEOM_HEIGHT_M1 : Fld := ⟨16, 12⟩
def INT_GEOM_WIDTH_M1 : Fld := ⟨0, 12⟩
def INT_CONV_TUNIT_SEL : Fld := ⟨12, 2⟩
def INT_CONV_THR_BASE : Fld := ⟨8, 4⟩
def INT_CONV_RAWBITS : Fld := ⟨3, 2⟩
def INT_CONV_MODE : Fld := ⟨0, 2⟩
def INT_THERM_T_BASE : Fld := ⟨16, 16⟩
def INT_THERM_T_STEP : Fld := ⟨8, 8⟩
def INT_THERM_T_INC : Fld := ⟨0, 8⟩
def INT_FLK_CFG_FLK_MIN : Fld := ⟨16, 8⟩
def INT_FLK_CFG_FLK_RATIO : Fld := ⟨8, 4⟩
def INT_FLK_CFG_FLK_WIN : Fld := ⟨4, 2⟩
def INT_FLK_CFG_EN : Fld := ⟨0, 1⟩
def INT_FLK_STAT_TILES : Fld := ⟨16, 16⟩
def INT_FLK_STAT_BINS : Fld := ⟨0, 16⟩
def INT_SHED_CFG_SMAX : Fld := ⟨16, 4⟩
def INT_SHED_CFG_DECAY : Fld := ⟨8, 8⟩
def INT_SHED_CFG_LOW : Fld := ⟨0, 4⟩
def INT_SHED_BUDGET_BUDGET : Fld := ⟨0, 20⟩
def INT_SHED_STAT_RES : Fld := ⟨12, 20⟩
def INT_SHED_STAT_S : Fld := ⟨8, 4⟩
def INT_SHED_STAT_QUIET : Fld := ⟨0, 8⟩
def INT_RETRY_CFG_MAX_RESTART : Fld := ⟨16, 8⟩
def INT_RETRY_CFG_WINDOW : Fld := ⟨8, 8⟩
def INT_RETRY_CFG_SYNC_TO : Fld := ⟨0, 8⟩
def INT_RX_CNT_RX : Fld := ⟨0, 32⟩
def INT_EVT_CNT_EVT : Fld := ⟨0, 32⟩
def INT_FLK_DROP_CNT_FLK : Fld := ⟨0, 32⟩
def INT_UNMAP_CNT_UNMAP : Fld := ⟨0, 32⟩
def INT_SHED_CNT_SHED : Fld := ⟨0, 32⟩
def INT_RAIL_DROP_CNT_RAIL : Fld := ⟨0, 32⟩
def INT_LATE_CNT_LATE : Fld := ⟨0, 32⟩
def INT_PKT_ERR_CNT_ECC_CE : Fld := ⟨24, 8⟩
def INT_PKT_ERR_CNT_ECC_UE : Fld := ⟨16, 8⟩
def INT_PKT_ERR_CNT_LINE : Fld := ⟨8, 8⟩
def INT_PKT_ERR_CNT_RANGE : Fld := ⟨4, 4⟩
def INT_PKT_ERR_CNT_UNSUP : Fld := ⟨0, 4⟩
def INT_RESTART_CNT_RESTART : Fld := ⟨0, 32⟩
def INT_OVL_TICKS_OVL : Fld := ⟨0, 32⟩
def INT_SCAL_HI_HI : Fld := ⟨0, 32⟩
def INT_SCAL_LO_LO : Fld := ⟨0, 32⟩
def SEAM_CTL_CRC_EN : Fld := ⟨0, 1⟩
def SEAM_STAT_CREDITS : Fld := ⟨4, 4⟩
def SEAM_STAT_LAST_SEQ : Fld := ⟨0, 4⟩
def SEAM_ERR_CNT_HDR : Fld := ⟨24, 8⟩
def SEAM_ERR_CNT_PCRC : Fld := ⟨16, 8⟩
def SEAM_ERR_CNT_SEQ_GAP : Fld := ⟨8, 8⟩
def SEAM_ERR_CNT_NOCREDIT : Fld := ⟨4, 4⟩
def SEAM_ERR_CNT_INCOMPLETE : Fld := ⟨0, 4⟩
def SEAM_HELLO_ID_ID : Fld := ⟨0, 32⟩
def INT_MAP_WORD : Fld := ⟨0, 32⟩
def EGR_CTL_EN : Fld := ⟨0, 1⟩
def EGR_STAT_ERASE : Fld := ⟨16, 16⟩
def EGR_STAT_LAB : Fld := ⟨0, 1⟩
def EGR_FUSE_CEIL_CEIL_BURST : Fld := ⟨16, 7⟩
def EGR_FUSE_CEIL_CEIL_U : Fld := ⟨0, 9⟩
def EGR_HB_CFG_HB_PERIOD : Fld := ⟨0, 6⟩
def EGR_BL_CFG_AGE : Fld := ⟨0, 14⟩
def EGR_SCHEMA_ERR_SCHEMA : Fld := ⟨0, 32⟩
def EGR_ERASE_CNT_PORT : Fld := ⟨16, 16⟩
def EGR_ERASE_CNT_DOMAIN : Fld := ⟨8, 8⟩
def EGR_ERASE_CNT_LATE : Fld := ⟨0, 8⟩
def EGR_MTR_CFG_BURST : Fld := ⟨16, 7⟩
def EGR_MTR_CFG_RATE_U : Fld := ⟨0, 9⟩
def EGR_MTR_LVL_CEIL_LVL : Fld := ⟨16, 14⟩
def EGR_MTR_LVL_LVL : Fld := ⟨0, 14⟩
def EGR_MTR_DROP_DROP : Fld := ⟨0, 32⟩
def EGR_MTR_PASS_PASS : Fld := ⟨0, 32⟩
def EGR_BL_STAT_DEPTH : Fld := ⟨0, 9⟩
def EGR_BL_DROP_AGE : Fld := ⟨16, 16⟩
def EGR_BL_DROP_FULL : Fld := ⟨0, 16⟩
def MSH_CTL_CLR_CNT : Fld := ⟨1, 1⟩
def MSH_STAT_BUSY : Fld := ⟨8, 8⟩
def MSH_STAT_IDLE : Fld := ⟨0, 1⟩
def MSH_ADMIT_ADMIT : Fld := ⟨0, 32⟩
def MSH_NODE_FWD_FWD : Fld := ⟨0, 32⟩
def MSH_NODE_DROP_PARCEL : Fld := ⟨16, 16⟩
def MSH_NODE_DROP_HOPS : Fld := ⟨0, 16⟩
def MSH_NODE_ERR_PAR : Fld := ⟨16, 16⟩
def MSH_NODE_ERR_TMO : Fld := ⟨0, 16⟩
def MSH_NODE_HIWATER_SB : Fld := ⟨16, 5⟩
def MSH_NODE_HIWATER_SA : Fld := ⟨0, 5⟩
def MSH_RAIL_EV_EV : Fld := ⟨0, 32⟩
def MSH_RAIL_ERR_PAR : Fld := ⟨0, 16⟩
def MSH_TRUNK_CNT_OUT : Fld := ⟨16, 16⟩
def MSH_TRUNK_CNT_ISOL : Fld := ⟨0, 16⟩
def MSH_TRUNK_WAIT_WAIT : Fld := ⟨0, 32⟩
def PCL_RECT_VALID : Fld := ⟨31, 1⟩
def PCL_RECT_Y1 : Fld := ⟨5, 1⟩
def PCL_RECT_Y0 : Fld := ⟨4, 1⟩
def PCL_RECT_X1 : Fld := ⟨2, 2⟩
def PCL_RECT_X0 : Fld := ⟨0, 2⟩
def PCL_BIND_COMMIT : Fld := ⟨31, 1⟩
def PCL_BIND_FUNC : Fld := ⟨8, 4⟩
def PCL_BIND_SLICE : Fld := ⟨0, 4⟩
def PCL_PORTMASK_MASK : Fld := ⟨0, 16⟩
def PCL_POOL_TRUNK : Fld := ⟨16, 9⟩
def PCL_POOL_STACK : Fld := ⟨0, 8⟩
def PCL_STATE_STATE : Fld := ⟨0, 3⟩
def PCL_CNT_ISOL : Fld := ⟨16, 16⟩
def PCL_CNT_POOLFULL : Fld := ⟨0, 16⟩
def DNS_CTL_COMMIT : Fld := ⟨3, 1⟩
def DNS_CTL_FLUSH : Fld := ⟨2, 1⟩
def DNS_CTL_CLR_CNT : Fld := ⟨1, 1⟩
def DNS_CTL_EN : Fld := ⟨0, 1⟩
def DNS_STAT_LOADING : Fld := ⟨20, 1⟩
def DNS_STAT_WB1 : Fld := ⟨17, 1⟩
def DNS_STAT_WB0 : Fld := ⟨16, 1⟩
def DNS_STAT_QDEPTH : Fld := ⟨8, 4⟩
def DNS_STAT_STATE : Fld := ⟨0, 3⟩
def DNS_PWR_CFG_IDLE_OFF : Fld := ⟨16, 16⟩
def DNS_PWR_CFG_IDLE_RET : Fld := ⟨0, 16⟩
def DNS_CNT_WIN_EN : Fld := ⟨31, 1⟩
def DNS_CNT_WIN_CNT_LO : Fld := ⟨0, 18⟩
def DNS_CNT_CFG_JOB : Fld := ⟨16, 6⟩
def DNS_CNT_CFG_KT : Fld := ⟨8, 4⟩
def DNS_CNT_CFG_ROWS : Fld := ⟨0, 4⟩
def DNS_REPAIR_SROWS : Fld := ⟨16, 3⟩
def DNS_REPAIR_SCOLS : Fld := ⟨0, 4⟩
def DNS_WTAG_VALID : Fld := ⟨31, 1⟩
def DNS_WTAG_MODE : Fld := ⟨29, 2⟩
def DNS_WTAG_WSRC : Fld := ⟨27, 2⟩
def DNS_WTAG_WBASE : Fld := ⟨0, 24⟩
def DNS_JOB_CNT_JOB : Fld := ⟨0, 32⟩
def DNS_RESP_CNT_FULL : Fld := ⟨16, 16⟩
def DNS_RESP_CNT_OTHER : Fld := ⟨0, 16⟩
def DNS_WLOAD_CNT_WLOAD : Fld := ⟨0, 32⟩
def DNS_WAKE_CNT_OFF : Fld := ⟨16, 16⟩
def DNS_WAKE_CNT_RET : Fld := ⟨0, 16⟩
def DNS_ERR_CNT_WUE : Fld := ⟨24, 8⟩
def DNS_ERR_CNT_WCE : Fld := ⟨16, 8⟩
def DNS_ERR_CNT_OPTMO : Fld := ⟨8, 8⟩
def DNS_ERR_CNT_DISC : Fld := ⟨0, 8⟩
def DNS_CNTSAT_CNTSAT : Fld := ⟨0, 32⟩
def DNS_CNT_DROP_DROP : Fld := ⟨0, 32⟩
def DNS_OUT_CNT_OUT : Fld := ⟨0, 32⟩
def DNS_ACTIVE_CYC_ACTIVE : Fld := ⟨0, 32⟩
def DNS_JDESC_WORD : Fld := ⟨0, 32⟩
def TRV_CTL_ROLE : Fld := ⟨4, 2⟩
def TRV_CTL_CLR_CNT : Fld := ⟨2, 1⟩
def TRV_CTL_RETRAIN : Fld := ⟨1, 1⟩
def TRV_CTL_EN : Fld := ⟨0, 1⟩
def TRV_STAT_PCHIP : Fld := ⟨26, 6⟩
def TRV_STAT_PPORT : Fld := ⟨23, 3⟩
def TRV_STAT_BADLANE : Fld := ⟨16, 4⟩
def TRV_STAT_REASON : Fld := ⟨12, 4⟩
def TRV_STAT_SEALED : Fld := ⟨8, 1⟩
def TRV_STAT_STATE : Fld := ⟨0, 4⟩
def TRV_DELAY_D : Fld := ⟨0, 16⟩
def TRV_RETRY_CFG_RETRAIN_MAX : Fld := ⟨20, 4⟩
def TRV_RETRY_CFG_REPLAY_WIN : Fld := ⟨8, 12⟩
def TRV_RETRY_CFG_REPLAY_MAX : Fld := ⟨0, 8⟩
def TRV_PARTNER_ID_ID : Fld := ⟨0, 32⟩
def TRV_FLIT_TX_TX : Fld := ⟨0, 32⟩
def TRV_FLIT_RX_RX : Fld := ⟨0, 32⟩
def TRV_CRC_CNT_CRC : Fld := ⟨0, 32⟩
def TRV_REPLAY_CNT_REPLAY : Fld := ⟨0, 32⟩
def TRV_RETRAIN_CNT_FAILED : Fld := ⟨16, 16⟩
def TRV_RETRAIN_CNT_ALL : Fld := ⟨0, 16⟩
def TRV_TAG_FAIL_TAG : Fld := ⟨0, 32⟩
def TRV_SUSPECT_SUSPECT : Fld := ⟨0, 32⟩
def TRV_DOWN_DROP_DOWN : Fld := ⟨0, 32⟩
def TRV_RT_DROP_DROP : Fld := ⟨0, 32⟩
def TRV_Q_TMO_TMO : Fld := ⟨0, 32⟩
def TRV_MSG_ERR_ERR : Fld := ⟨0, 32⟩
def TRV_GRP_CTL_MODE : Fld := ⟨1, 1⟩
def TRV_GRP_CTL_COMMIT : Fld := ⟨0, 1⟩
def TRV_GRP_STAT_SELF : Fld := ⟨24, 6⟩
def TRV_GRP_STAT_LEADER : Fld := ⟨16, 6⟩
def TRV_GRP_STAT_SZ_M1 : Fld := ⟨12, 2⟩
def TRV_GRP_STAT_SY_M1 : Fld := ⟨10, 2⟩
def TRV_GRP_STAT_SX_M1 : Fld := ⟨8, 2⟩
def TRV_GRP_STAT_STATE : Fld := ⟨0, 3⟩
def TRV_SYNC_CFG_FWD : Fld := ⟨24, 6⟩
def TRV_SYNC_CFG_MISS_MAX : Fld := ⟨16, 4⟩
def TRV_SYNC_CFG_LEAD : Fld := ⟨0, 13⟩
def TRV_SYNC_STAT_RESYNC_REQ : Fld := ⟨31, 1⟩
def TRV_SYNC_STAT_LATE : Fld := ⟨16, 8⟩
def TRV_SYNC_STAT_MISSED : Fld := ⟨0, 16⟩
def TRV_GRP_RT_DROP_DROP : Fld := ⟨0, 32⟩
def TRV_RT_WORD : Fld := ⟨0, 32⟩
def STK_CTL_BG_EN : Fld := ⟨3, 1⟩
def STK_CTL_MAP : Fld := ⟨2, 1⟩
def STK_CTL_CLR_CNT : Fld := ⟨1, 1⟩
def STK_CTL_EN : Fld := ⟨0, 1⟩
def STK_STAT_HOT : Fld := ⟨15, 1⟩
def STK_STAT_PRESENT : Fld := ⟨14, 1⟩
def STK_STAT_TEMP : Fld := ⟨8, 6⟩
def STK_STAT_STATE : Fld := ⟨0, 4⟩
def STK_BG_CFG_BG_INTERVAL : Fld := ⟨0, 16⟩
def STK_RET_CFG_CE_WIN : Fld := ⟨16, 8⟩
def STK_RET_CFG_PC_MAX : Fld := ⟨8, 8⟩
def STK_RET_CFG_CE_MAX : Fld := ⟨4, 4⟩
def STK_RET_CFG_UE_MAX : Fld := ⟨0, 4⟩
def STK_PC_RET_RET : Fld := ⟨0, 32⟩
def STK_UE_ADDR_LO_ADDR : Fld := ⟨6, 26⟩
def STK_UE_ADDR_HI_ADDR : Fld := ⟨0, 5⟩
def STK_ECC_CNT_CE : Fld := ⟨16, 16⟩
def STK_ECC_CNT_UE : Fld := ⟨8, 8⟩
def STK_ECC_CNT_RETWR : Fld := ⟨0, 8⟩
def STK_SKIP_CNT_SKIP : Fld := ⟨0, 32⟩
def STK_DENY_CNT_DENY : Fld := ⟨0, 32⟩
def STK_RETPG_CNT_PAGES : Fld := ⟨0, 9⟩
def STK_RGN_BASE_VALID : Fld := ⟨31, 1⟩
def STK_RGN_BASE_OWNER : Fld := ⟨24, 4⟩
def STK_RGN_BASE_BASE : Fld := ⟨0, 17⟩
def STK_RGN_LIM_LIMIT : Fld := ⟨0, 17⟩
def STK_RGN_WM_WM : Fld := ⟨0, 31⟩
def STK_RGN_FILL_FILL_TO : Fld := ⟨0, 31⟩
def STK_RGN_CTL_UNW_FAULT : Fld := ⟨2, 1⟩
def STK_RGN_CTL_FILLING : Fld := ⟨1, 1⟩
def STK_RGN_CTL_FILL : Fld := ⟨0, 1⟩
def STK_RGN_UNW_UNW : Fld := ⟨0, 32⟩
def STK_RETPG_VALID : Fld := ⟨31, 1⟩
def STK_RETPG_PAGE : Fld := ⟨0, 25⟩
def SCP_CTL_BG_EN : Fld := ⟨2, 1⟩
def SCP_CTL_UNW_FAULT : Fld := ⟨1, 1⟩
def SCP_CTL_CLR_CNT : Fld := ⟨0, 1⟩
def SCP_STAT_DEGRADED : Fld := ⟨9, 1⟩
def SCP_STAT_SPARE_USED : Fld := ⟨8, 1⟩
def SCP_STAT_FAILED : Fld := ⟨4, 4⟩
def SCP_STAT_RETIRED : Fld := ⟨0, 4⟩
def SCP_BG_CFG_BG_INTERVAL : Fld := ⟨0, 16⟩
def SCP_RET_CFG_UE_MAX : Fld := ⟨0, 4⟩
def SCP_UNW_CNT_UNW : Fld := ⟨0, 32⟩
def SCP_ECC_CNT_CE : Fld := ⟨16, 16⟩
def SCP_ECC_CNT_UE : Fld := ⟨0, 16⟩
def SCP_UE_ADDR_ADDR : Fld := ⟨0, 23⟩
def SCP_MT_CTL_GO : Fld := ⟨31, 1⟩
def SCP_MT_CTL_PRESERVE : Fld := ⟨16, 1⟩
def SCP_MT_CTL_TARGET : Fld := ⟨0, 5⟩
def SCP_MT_STAT_BUSY : Fld := ⟨31, 1⟩
def SCP_MT_STAT_FAIL : Fld := ⟨30, 1⟩
def SCP_MT_STAT_MEMS : Fld := ⟨0, 16⟩
def SCP_MT_FAIL_ADDR : Fld := ⟨0, 32⟩
def SCP_DENY_CNT_DENY : Fld := ⟨0, 32⟩
def SCP_DENY_ADDR_LO_ADDR : Fld := ⟨12, 20⟩
def SCP_DENY_ADDR_HI_ADDR : Fld := ⟨0, 32⟩
def SCP_MRG_BASE_BASE : Fld := ⟨0, 28⟩
def SCP_MRG_LIM_LIMIT : Fld := ⟨0, 28⟩
def SCP_MRG_ATTR_VALID : Fld := ⟨31, 1⟩
def SCP_MRG_ATTR_W : Fld := ⟨9, 1⟩
def SCP_MRG_ATTR_R : Fld := ⟨8, 1⟩
def SCP_MRG_ATTR_FUNC : Fld := ⟨0, 4⟩
def HST_ATTACH_CFG_FUNC : Fld := ⟨0, 4⟩
def HST_BAR_ERR_ERR : Fld := ⟨0, 32⟩
def HST_AER_CNT_UNCOR : Fld := ⟨16, 16⟩
def HST_AER_CNT_COR : Fld := ⟨0, 16⟩
def MBX_CMD_BASE_LO_BASE : Fld := ⟨12, 20⟩
def MBX_CMD_BASE_HI_BASE : Fld := ⟨0, 32⟩
def MBX_CPL_BASE_LO_BASE : Fld := ⟨12, 20⟩
def MBX_CPL_BASE_HI_BASE : Fld := ⟨0, 32⟩
def MBX_RES_BASE_LO_BASE : Fld := ⟨12, 20⟩
def MBX_RES_BASE_HI_BASE : Fld := ⟨0, 32⟩
def MBX_SB_BASE_LO_BASE : Fld := ⟨6, 26⟩
def MBX_SB_BASE_HI_BASE : Fld := ⟨0, 32⟩
def MBX_RING_CFG_RES_LOG2 : Fld := ⟨16, 5⟩
def MBX_RING_CFG_CPL_LOG2 : Fld := ⟨8, 4⟩
def MBX_RING_CFG_CMD_LOG2 : Fld := ⟨0, 4⟩
def MBX_RING_CTL_EN : Fld := ⟨0, 1⟩
def MBX_RING_STAT_WAIT_ONLINE : Fld := ⟨8, 1⟩
def MBX_RING_STAT_REASON : Fld := ⟨4, 4⟩
def MBX_RING_STAT_QUIESCED : Fld := ⟨3, 1⟩
def MBX_RING_STAT_STATE : Fld := ⟨0, 3⟩
def MBX_CMD_CI_INDEX : Fld := ⟨0, 32⟩
def MBX_CPL_PI_INDEX : Fld := ⟨0, 32⟩
def MBX_RES_PI_INDEX : Fld := ⟨0, 32⟩
def MBX_INFLIGHT_N : Fld := ⟨0, 6⟩
def MBX_VEC_NTC : Fld := ⟨16, 6⟩
def MBX_VEC_RES : Fld := ⟨8, 6⟩
def MBX_VEC_CPL : Fld := ⟨0, 6⟩
def MBX_COAL_RES_RES_N : Fld := ⟨16, 10⟩
def MBX_COAL_RES_RES_T : Fld := ⟨0, 16⟩
def MBX_COAL_CPL_T : Fld := ⟨0, 16⟩
def MBX_NTC_PEND_PEND : Fld := ⟨1, 6⟩
def MBX_CPL_DISC_DISC : Fld := ⟨0, 32⟩
def MBX_DB_ERR_ERR : Fld := ⟨0, 32⟩
def LCK_CTL_COMMIT : Fld := ⟨0, 1⟩
def LCK_BAD_REL_BAD : Fld := ⟨0, 32⟩
def LCK_GRANT_REMOTE : Fld := ⟨10, 1⟩
def LCK_GRANT_VF : Fld := ⟨2, 8⟩
def LCK_GRANT_PF : Fld := ⟨1, 1⟩
def LCK_GRANT_SURV : Fld := ⟨0, 1⟩
def LCK_LIFE_LIFE : Fld := ⟨0, 16⟩
def PWR_CTL_TJ_HI : Fld := ⟨1, 8⟩
def PWR_CTL_CLR_CNT : Fld := ⟨0, 1⟩
def PWR_MODE_MODE : Fld := ⟨0, 2⟩
def PWR_REQ_GO : Fld := ⟨31, 1⟩
def PWR_REQ_TARGET : Fld := ⟨8, 2⟩
def PWR_REQ_DOMAIN : Fld := ⟨0, 6⟩
def PWR_LAST_NAMED : Fld := ⟨24, 6⟩
def PWR_LAST_REFUSER : Fld := ⟨16, 6⟩
def PWR_LAST_REASON : Fld := ⟨8, 5⟩
def PWR_LAST_STAGE : Fld := ⟨0, 3⟩
def PWR_CAP_FUSE_W : Fld := ⟨16, 16⟩
def PWR_CAP_CAP_W : Fld := ⟨0, 16⟩
def PWR_ILIM_I_PEAK : Fld := ⟨16, 16⟩
def PWR_ILIM_I_SUS : Fld := ⟨0, 16⟩
def PWR_THROT_THERMAL : Fld := ⟨2, 1⟩
def PWR_THROT_CAP : Fld := ⟨1, 1⟩
def PWR_THROT_CURRENT : Fld := ⟨0, 1⟩
def PWR_TJ_REGION : Fld := ⟨8, 8⟩
def PWR_TJ_TJ : Fld := ⟨0, 8⟩
def PWR_REFUSE_CNT_ABANDON : Fld := ⟨16, 16⟩
def PWR_REFUSE_CNT_REFUSE : Fld := ⟨0, 16⟩
def PWR_THROT_CNT_MS : Fld := ⟨0, 32⟩
def PWR_DOM_STAT_POLICY : Fld := ⟨16, 1⟩
def PWR_DOM_STAT_REASON : Fld := ⟨8, 5⟩
def PWR_DOM_STAT_STAGE : Fld := ⟨4, 3⟩
def PWR_DOM_STAT_STATE : Fld := ⟨0, 3⟩
def PWR_DOM_CFG_POLICY : Fld := ⟨0, 1⟩
def PWR_DOM_CNT_ENTRIES : Fld := ⟨16, 16⟩
def PWR_DOM_CNT_WAKES : Fld := ⟨0, 16⟩
def PWR_DOM_LAST_TICK : Fld := ⟨0, 32⟩
def PWR_VREG_PASS : Fld := ⟨15, 1⟩
def PWR_VREG_MV : Fld := ⟨0, 10⟩
def TEL_SEQ_SEQ : Fld := ⟨0, 32⟩
def TEL_PKG_VIN_MV : Fld := ⟨16, 16⟩
def TEL_PKG_P : Fld := ⟨0, 16⟩
def TEL_VCORE_MV : Fld := ⟨0, 16⟩
def TEL_I_I : Fld := ⟨0, 16⟩
def TEL_E_LO_E : Fld := ⟨0, 32⟩
def TEL_E_HI_E : Fld := ⟨0, 32⟩
def CLK_STAT_PT_RC : Fld := ⟨31, 1⟩
def CLK_STAT_RC_ON_REF : Fld := ⟨30, 1⟩
def CLK_STAT_STABLE : Fld := ⟨0, 30⟩
def CLK_CTL_CLR_CNT : Fld := ⟨0, 1⟩
def CLK_PLL_CFG_MHZ : Fld := ⟨0, 12⟩
def CLK_PLL_STAT_GATED : Fld := ⟨2, 1⟩
def CLK_PLL_STAT_RELOCK : Fld := ⟨1, 1⟩
def CLK_PLL_STAT_LOCKED : Fld := ⟨0, 1⟩
def CLK_SSC_EN : Fld := ⟨31, 1⟩
def CLK_SSC_RATE_KHZ : Fld := ⟨16, 7⟩
def CLK_SSC_DEPTH : Fld := ⟨0, 8⟩
def CLK_MON_CFG_FAIL_N : Fld := ⟨16, 4⟩
def CLK_MON_CFG_TOL : Fld := ⟨0, 16⟩
def CLK_MON_STAT_FAILS : Fld := ⟨24, 8⟩
def CLK_MON_STAT_COUNT : Fld := ⟨0, 24⟩
def CLKOUT_CFG_EN : Fld := ⟨31, 1⟩
def CLKOUT_CFG_SRC : Fld := ⟨16, 5⟩
def CLKOUT_CFG_DIV_M1 : Fld := ⟨0, 16⟩
def CLK_DCHG_STAT_TARGET : Fld := ⟨8, 11⟩
def CLK_DCHG_STAT_STEP : Fld := ⟨0, 3⟩
def CLK_DCHG_CNT_DONE : Fld := ⟨16, 16⟩
def CLK_DCHG_CNT_BUSY : Fld := ⟨8, 8⟩
def CLK_DCHG_CNT_FAULT : Fld := ⟨0, 8⟩
def FUS_ID_DEVID : Fld := ⟨0, 32⟩
def FUS_PART_MODE : Fld := ⟨8, 2⟩
def FUS_PART_LAB : Fld := ⟨5, 1⟩
def FUS_PART_HIGH : Fld := ⟨4, 1⟩
def FUS_PART_PART : Fld := ⟨0, 4⟩
def FUS_RES_STACKS : Fld := ⟨24, 4⟩
def FUS_RES_LINKS : Fld := ⟨16, 6⟩
def FUS_RES_PORTS : Fld := ⟨0, 16⟩
def FUS_LIM0_DENSE_MHZ : Fld := ⟨16, 12⟩
def FUS_LIM0_CAP_W : Fld := ⟨0, 10⟩
def FUS_LIM1_I_PEAK : Fld := ⟨16, 12⟩
def FUS_LIM1_I_SUS : Fld := ⟨0, 12⟩
def FUS_EGR_CEIL_BURST : Fld := ⟨16, 7⟩
def FUS_EGR_CEIL_U : Fld := ⟨0, 9⟩
def FUS_SECVER_COUNT : Fld := ⟨0, 7⟩
def FUS_RMAP_CNT_FIELD : Fld := ⟨16, 12⟩
def FUS_RMAP_CNT_FACTORY : Fld := ⟨0, 10⟩
def FUS_STAT_RETRY : Fld := ⟨8, 2⟩
def FUS_STAT_SENSED : Fld := ⟨0, 1⟩
def LIC_HELD_HELD : Fld := ⟨0, 6⟩
def LIC_EFFECT_EFFECT : Fld := ⟨0, 6⟩
def LIC_BAD_BAD : Fld := ⟨0, 6⟩
def FLT_CTL_CLR_CNT : Fld := ⟨1, 1⟩
def FLT_CTL_PANIC : Fld := ⟨0, 1⟩
def FLT_WDT_EN : Fld := ⟨31, 1⟩
def FLT_WDT_MS : Fld := ⟨0, 16⟩
def FLT_STAT_RECOVERING : Fld := ⟨31, 1⟩
def FLT_STAT_REASON : Fld := ⟨24, 4⟩
def FLT_STAT_SINK : Fld := ⟨16, 8⟩
def FLT_STAT_QDEPTH : Fld := ⟨0, 9⟩
def FLT_SEQ_SEQ : Fld := ⟨0, 32⟩
def FLT_DRAIN_N : Fld := ⟨0, 9⟩
def FLT_LOST_LOST : Fld := ⟨0, 32⟩
def FLT_RECOV_LAST_MS : Fld := ⟨16, 16⟩
def FLT_RECOV_COUNT : Fld := ⟨0, 16⟩
def FLT_REC_WORD : Fld := ⟨0, 32⟩
def GDL_CTL_CLR_CNT : Fld := ⟨1, 1⟩
def GDL_CTL_GO : Fld := ⟨0, 1⟩
def GDL_STAT_STATIONS : Fld := ⟨24, 8⟩
def GDL_STAT_RX_VALID : Fld := ⟨2, 1⟩
def GDL_STAT_TX_BUSY : Fld := ⟨1, 1⟩
def GDL_STAT_ON_REF : Fld := ⟨0, 1⟩
def GDL_TX_WORD : Fld := ⟨0, 32⟩
def GDL_RX_WORD : Fld := ⟨0, 32⟩
def GDL_PRESENT_LO_PRESENT : Fld := ⟨0, 32⟩
def GDL_PRESENT_HI_PRESENT : Fld := ⟨0, 32⟩
def GDL_ERR_CNT_CRC : Fld := ⟨16, 16⟩
def GDL_ERR_CNT_TMO : Fld := ⟨0, 16⟩
def GDL_TUNNEL_CNT_TX : Fld := ⟨16, 16⟩
def GDL_TUNNEL_CNT_RX : Fld := ⟨0, 16⟩

end F

/-- What clears a register besides reset: nothing, or the counter group it belongs to. -/
inductive RegClass where
  | ctl            -- configuration and control
  | stat           -- status the hardware keeps
  | cnt (group : Nat)  -- a counter of the block's counter group
deriving DecidableEq, Repr

/-- One register of a block, or an array of equal ones: offset, how many, stride, reset values (the last repeats), the commit
bit that locks its RWL fields (offset from the block instance, or none), its class, and its fields. -/
structure RegSpec where
  off : Nat
  n : Nat
  stride : Nat
  resets : List Nat
  lock : Option (Nat × Nat)
  cls : RegClass
  fields : List (Fld × Acc)
deriving DecidableEq, Repr

/-- One block: base address, number of instances and their stride, extent, whether it lies in the Lantern domain (R21), registers. -/
structure Block where
  base : Nat
  n : Nat
  stride : Nat
  size : Nat
  lantern : Bool
  regs : List RegSpec
deriving DecidableEq, Repr

namespace Blk

/-- Registers of the DAT block (01_time_and_datum.md R52). -/
def datRegs : List RegSpec := [
  ⟨0x0, 1, 0x4, [0x0], none, .ctl, [(F.DAT_CTL_SYNC, .rw), (F.DAT_CTL_EDGE, .rw), (F.DAT_CTL_PORT, .rw), (F.DAT_CTL_SRC, .rw)]⟩,
  ⟨0x4, 1, 0x4, [0x101], none, .ctl, [(F.DAT_RATIO_DIV, .rw), (F.DAT_RATIO_MUL, .rw)]⟩,
  ⟨0x8, 1, 0x4, [0x0], none, .ctl, [(F.DAT_PHASE_OFFSET, .rw)]⟩,
  ⟨0xC, 1, 0x4, [0x400C01], none, .ctl, [(F.DAT_TOL_BAND, .rw), (F.DAT_TOL_LOSS, .rw), (F.DAT_TOL_ACQ, .rw)]⟩,
  ⟨0x10, 1, 0x4, [0x186A0], none, .ctl, [(F.DAT_FREE_PERIOD_FPERIOD, .rw)]⟩,
  ⟨0x14, 1, 0x4, [0x200], none, .stat, [(F.DAT_STAT_LEADER, .ro), (F.DAT_STAT_QUAL, .ro), (F.DAT_STAT_STEP_PEND, .ro), (F.DAT_STAT_REASON, .ro), (F.DAT_STAT_STATE, .ro)]⟩,
  ⟨0x18, 1, 0x4, [0x0], none, .stat, [(F.DAT_PERIOD_PERIOD, .ro)]⟩,
  ⟨0x1C, 1, 0x4, [0x186A0], none, .stat, [(F.DAT_TICK_PERIOD_TPERIOD, .ro)]⟩,
  ⟨0x20, 1, 0x4, [0x0], none, .stat, [(F.DAT_TICK_LO_TICK, .ro)]⟩,
  ⟨0x24, 1, 0x4, [0x0], none, .stat, [(F.DAT_TICK_HI_TICK, .ro)]⟩,
  ⟨0x28, 1, 0x4, [0x0], none, .stat, [(F.DAT_PHERR_PHERR, .ro)]⟩,
  ⟨0x30, 1, 0x4, [0x0], none, .cnt 1, [(F.DAT_LOSS_CNT_LOSS, .ro)]⟩,
  ⟨0x34, 1, 0x4, [0x0], none, .cnt 1, [(F.DAT_GLITCH_CNT_GLITCH, .ro)]⟩,
  ⟨0x38, 1, 0x4, [0x0], none, .cnt 1, [(F.DAT_HOLD_TICKS_HOLD, .ro)]⟩]
/-- The DAT block. -/
def dat : Block := ⟨0x11008000, 1, 0x0, 0x100, false, datRegs⟩

/-- Registers of the LNT block (01_time_and_datum.md R52, 12 R371, 17 Table 17.10, 19 Table 19.12). -/
def lntRegs : List RegSpec := [
  ⟨0x0, 1, 0x4, [0x0], none, .stat, [(F.LNT_PTIME_LO_PTIME, .ro)]⟩,
  ⟨0x4, 1, 0x4, [0x0], none, .stat, [(F.LNT_PTIME_HI_PTIME, .ro)]⟩,
  ⟨0x8, 1, 0x4, [0x0], none, .stat, [(F.LNT_SESSION_SESSION, .ro)]⟩,
  ⟨0xC, 1, 0x4, [0x0], none, .stat, [(F.LNT_SESS_STAT_LVALID, .ro), (F.LNT_SESS_STAT_UNNUM, .ro)]⟩,
  ⟨0x10, 1, 0x4, [0x0], none, .stat, [(F.LNT_HLABEL_LO_LABEL, .ro)]⟩,
  ⟨0x14, 1, 0x4, [0x0], none, .stat, [(F.LNT_HLABEL_HI_LABEL, .ro)]⟩,
  ⟨0x400, 1, 0x4, [0x47530101], none, .stat, [(F.LNT_MIR_ID_MAGIC, .ro), (F.LNT_MIR_ID_LAYOUT, .ro), (F.LNT_MIR_ID_HIGH, .ro), (F.LNT_MIR_ID_PART, .ro)]⟩,
  ⟨0x404, 1, 0x4, [0x1], none, .stat, [(F.LNT_MIR_STATE_RECOV, .ro), (F.LNT_MIR_STATE_REASON, .ro), (F.LNT_MIR_STATE_UNNUM, .ro), (F.LNT_MIR_STATE_SLOT, .ro), (F.LNT_MIR_STATE_LAB, .ro), (F.LNT_MIR_STATE_STAGE, .ro), (F.LNT_MIR_STATE_STATE, .ro)]⟩,
  ⟨0x408, 1, 0x4, [0x0], none, .stat, [(F.LNT_MIR_BEAT_BEAT, .ro)]⟩,
  ⟨0x40C, 1, 0x4, [0x0], none, .stat, [(F.LNT_MIR_SESSION_SESSION, .ro)]⟩,
  ⟨0x410, 1, 0x4, [0x0], none, .stat, [(F.LNT_MIR_PTIME_LO_PTIME, .ro)]⟩,
  ⟨0x414, 1, 0x4, [0x0], none, .stat, [(F.LNT_MIR_PTIME_HI_PTIME, .ro)]⟩,
  ⟨0x418, 4, 0x4, [0x0], none, .stat, [(F.LNT_MIR_DEVID_DEVID, .ro)]⟩,
  ⟨0x428, 1, 0x4, [0x0], none, .stat, [(F.LNT_MIR_FWVER_FWVER, .ro)]⟩,
  ⟨0x42C, 1, 0x4, [0x0], none, .stat, [(F.LNT_MIR_FLTSEQ_FLTSEQ, .ro)]⟩,
  ⟨0x430, 1, 0x4, [0x0], none, .stat, [(F.LNT_MIR_FUNC_BOUND, .ro), (F.LNT_MIR_FUNC_PARCEL, .ro), (F.LNT_MIR_FUNC_FUNC, .ro)]⟩,
  ⟨0x600, 1, 0x4, [0x0], none, .stat, [(F.LNT_BOOT_STAT_WITHHELD, .ro), (F.LNT_BOOT_STAT_COLD, .ro), (F.LNT_BOOT_STAT_FALLBACK, .ro), (F.LNT_BOOT_STAT_TRIAL, .ro), (F.LNT_BOOT_STAT_SLOT, .ro), (F.LNT_BOOT_STAT_STAGE, .ro)]⟩,
  ⟨0x604, 1, 0x4, [0x0], none, .stat, [(F.LNT_BOOT_TIME_US, .ro)]⟩,
  ⟨0x608, 1, 0x4, [0x0], none, .stat, [(F.LNT_BOOT_CNT_WARM, .ro), (F.LNT_BOOT_CNT_COLD, .ro)]⟩,
  ⟨0x700, 1, 0x4, [0x220], none, .ctl, [(F.LNT_IO_SLEW_TDO, .rw), (F.LNT_IO_SLEW_CLKOUT, .rw)]⟩,
  ⟨0x704, 1, 0x4, [0x0], none, .ctl, [(F.LNT_SMB_ALERT_MASK, .rw), (F.LNT_SMB_ALERT_STAT, .w1c)]⟩,
  ⟨0x708, 1, 0x4, [0x0], none, .ctl, [(F.LNT_SMB_CFG_PEC_REQ, .rw), (F.LNT_SMB_CFG_ADDR, .ro)]⟩,
  ⟨0x70C, 1, 0x4, [0x0], none, .cnt 1, [(F.LNT_SMB_ERR_TMO, .ro), (F.LNT_SMB_ERR_PEC, .ro)]⟩]
/-- The LNT block. -/
def lnt : Block := ⟨0x10000200, 1, 0x0, 0x710, true, lntRegs⟩

/-- Registers of the GAL block (02_events_and_state.md Table 2.7, 04 Table 4.11, 05 Table 5.8, 08 Table 8.5, 09 Table 9.7, 18 Table 18.12). -/
def galRegs0 : List RegSpec := [
  ⟨0x0, 1, 0x4, [0x0], some (0x4100, 0), .ctl, [(F.GAL_EVT_CTL_GRACE, .rwl), (F.GAL_EVT_CTL_CLR_CNT, .wo), (F.GAL_EVT_CTL_CFG_RESET, .wo), (F.GAL_EVT_CTL_RUN_EN, .rw)]⟩,
  ⟨0x4, 1, 0x4, [0x0], none, .stat, [(F.GAL_EVT_STAT_CFG_ERR, .w1c), (F.GAL_EVT_STAT_CFG_BUSY, .ro), (F.GAL_EVT_STAT_STACK_HOLD, .ro), (F.GAL_EVT_STAT_STATE, .ro)]⟩,
  ⟨0x10, 1, 0x4, [0x0], some (0x4100, 0), .ctl, [(F.GAL_SPILL_BASE_LO_BASE, .rwl)]⟩,
  ⟨0x14, 1, 0x4, [0x0], some (0x4100, 0), .ctl, [(F.GAL_SPILL_BASE_HI_BASE, .rwl)]⟩,
  ⟨0x18, 1, 0x4, [0x0], none, .stat, [(F.GAL_BANK_MAP_SPARE_USED, .ro), (F.GAL_BANK_MAP_RETIRED, .ro)]⟩,
  ⟨0x20, 16, 0x4, [0x80], some (0x4100, 0), .ctl, [(F.GAL_EMIT_SHARE_SHARE, .rwl)]⟩,
  ⟨0x100, 1, 0x4, [0x0], none, .cnt 1, [(F.GAL_EVT_CNT_EVT, .ro)]⟩,
  ⟨0x104, 1, 0x4, [0x0], none, .cnt 1, [(F.GAL_SYN_CNT_LO_SYN, .ro)]⟩,
  ⟨0x108, 1, 0x4, [0x0], none, .cnt 1, [(F.GAL_SYN_CNT_HI_SYN, .ro)]⟩,
  ⟨0x10C, 1, 0x4, [0x0], none, .cnt 1, [(F.GAL_FIRE_CNT_FIRE, .ro)]⟩,
  ⟨0x110, 1, 0x4, [0x0], none, .cnt 1, [(F.GAL_LATE_CNT_RAIL, .ro), (F.GAL_LATE_CNT_MESH, .ro), (F.GAL_LATE_CNT_REL, .ro), (F.GAL_LATE_CNT_LOOP, .ro)]⟩,
  ⟨0x114, 1, 0x4, [0x0], none, .cnt 1, [(F.GAL_NOTRUN_CNT_NOTRUN, .ro)]⟩,
  ⟨0x118, 1, 0x4, [0x0], none, .cnt 1, [(F.GAL_DROP_CNT_HOPS, .ro), (F.GAL_DROP_CNT_SLICE, .ro)]⟩,
  ⟨0x11C, 1, 0x4, [0x0], none, .cnt 1, [(F.GAL_DLYQ_DROP_CNT_DLYQ, .ro)]⟩,
  ⟨0x120, 1, 0x4, [0x0], none, .cnt 1, [(F.GAL_COLD_DROP_CNT_COLD, .ro)]⟩,
  ⟨0x124, 1, 0x4, [0x0], none, .cnt 1, [(F.GAL_COLD_FETCH_CNT_FETCH, .ro)]⟩,
  ⟨0x128, 1, 0x4, [0x0], none, .cnt 1, [(F.GAL_PSET_CNT_PSET, .ro)]⟩,
  ⟨0x12C, 1, 0x4, [0x0], none, .stat, [(F.GAL_PEND_NOW_PEND, .ro)]⟩,
  ⟨0x130, 1, 0x4, [0x0], none, .cnt 1, [(F.GAL_TALLY_DROP_CNT_TALLY, .ro)]⟩,
  ⟨0x134, 1, 0x4, [0x0], none, .cnt 1, [(F.GAL_STOP_DROP_CNT_STOP, .ro)]⟩,
  ⟨0x138, 1, 0x4, [0x0], none, .cnt 1, [(F.GAL_HIWATER_INGRESS, .ro), (F.GAL_HIWATER_DLYQ, .ro), (F.GAL_HIWATER_EMIT, .ro)]⟩,
  ⟨0x1000, 1024, 0x4, [0x0], some (0x4100, 0), .ctl, [(F.GAL_EDESC_WORD, .rwl)]⟩,
  ⟨0x4000, 64, 0x4, [0x0], some (0x4100, 0), .ctl, [(F.GAL_MODEL_WORD, .rwl)]⟩,
  ⟨0x4100, 1, 0x4, [0x0], some (0x4100, 0), .ctl, [(F.GAL_STATE_CTL_SAFE_MODEL, .rwl), (F.GAL_STATE_CTL_CLR_CNT, .wo), (F.GAL_STATE_CTL_UNW_FAULT, .rw), (F.GAL_STATE_CTL_COMMIT, .rwl)]⟩]
/-- Registers of the GAL block (02_events_and_state.md Table 2.7, 04 Table 4.11, 05 Table 5.8, 08 Table 8.5, 09 Table 9.7, 18 Table 18.12). -/
def galRegs1 : List RegSpec := [
  ⟨0x4104, 1, 0x4, [0x0], none, .stat, [(F.GAL_STATE_STAT_SWEEP_LATE, .w1c), (F.GAL_STATE_STAT_SWEEP_BUSY, .ro)]⟩,
  ⟨0x4110, 1, 0x4, [0x0], none, .cnt 2, [(F.GAL_UNW_CNT_UNW, .ro)]⟩,
  ⟨0x4114, 1, 0x4, [0x0], none, .cnt 2, [(F.GAL_ECC_CE_CNT_SYN, .ro), (F.GAL_ECC_CE_CNT_STATE, .ro)]⟩,
  ⟨0x4118, 1, 0x4, [0x0], none, .cnt 2, [(F.GAL_ECC_UE_CNT_SYN, .ro), (F.GAL_ECC_UE_CNT_STATE, .ro)]⟩,
  ⟨0x411C, 1, 0x4, [0x0], none, .cnt 2, [(F.GAL_UE_ADDR_ISSYN, .ro), (F.GAL_UE_ADDR_INDEX, .ro)]⟩,
  ⟨0x4120, 1, 0x4, [0x0], none, .cnt 2, [(F.GAL_SAT_CNT_V, .ro), (F.GAL_SAT_CNT_RING, .ro)]⟩,
  ⟨0x4124, 1, 0x4, [0x0], none, .cnt 2, [(F.GAL_MERGE_CNT_MERGE, .ro)]⟩,
  ⟨0x4128, 1, 0x4, [0x0], none, .cnt 2, [(F.GAL_BADEVT_CNT_CTRL, .ro), (F.GAL_BADEVT_CNT_EVT, .ro)]⟩,
  ⟨0x412C, 1, 0x4, [0x0], none, .cnt 2, [(F.GAL_SETTLE_LAST_SETTLED, .ro)]⟩,
  ⟨0x4200, 16, 0x8, [0x0], some (0x4100, 0), .ctl, [(F.GAL_DARK_LO_VALID, .rwl), (F.GAL_DARK_LO_PORT, .rwl), (F.GAL_DARK_LO_LO, .rwl)]⟩,
  ⟨0x4204, 16, 0x8, [0x0], some (0x4100, 0), .ctl, [(F.GAL_DARK_HI_HI, .rwl)]⟩,
  ⟨0x4280, 8, 0x8, [0x0], some (0x4100, 0), .ctl, [(F.GAL_IWIN_LO_VALID, .rwl), (F.GAL_IWIN_LO_PORT, .rwl), (F.GAL_IWIN_LO_AXLO, .rwl)]⟩,
  ⟨0x4284, 8, 0x8, [0x0], some (0x4100, 0), .ctl, [(F.GAL_IWIN_HI_AXHI, .rwl)]⟩,
  ⟨0x42C0, 1, 0x4, [0x0], none, .stat, [(F.GAL_DARK_STAT_FENCE, .ro), (F.GAL_DARK_STAT_ERASE, .ro)]⟩,
  ⟨0x42C4, 1, 0x4, [0x0], none, .cnt 3, [(F.GAL_DARK_CNT_FENCE, .ro), (F.GAL_DARK_CNT_VIOL, .ro)]⟩,
  ⟨0x4300, 1, 0x4, [0x1081802], none, .ctl, [(F.GAL_FLT_CFG_BANK_WIN, .rw), (F.GAL_FLT_CFG_BANK_UE_MAX, .rw), (F.GAL_FLT_CFG_NEU_WIN, .rw), (F.GAL_FLT_CFG_NEU_UE_MAX, .rw)]⟩,
  ⟨0x4304, 1, 0x4, [0x0], none, .stat, [(F.GAL_FLT_STAT_PEND_START, .ro), (F.GAL_FLT_STAT_CAUSE, .ro), (F.GAL_FLT_STAT_DEAD, .ro)]⟩,
  ⟨0x4308, 1, 0x4, [0x0], none, .cnt 3, [(F.GAL_DEAD_HIT_HIT, .ro)]⟩,
  ⟨0x4340, 16, 0x4, [0x0], none, .stat, [(F.GAL_DEAD_VALID, .ro), (F.GAL_DEAD_NEURON, .ro)]⟩,
  ⟨0x5000, 1, 0x4, [0x0], some (0x5000, 2), .ctl, [(F.CMP_CTL_BEAR_EN, .rw), (F.CMP_CTL_COMMIT, .rwl), (F.CMP_CTL_CLR_CNT, .wo), (F.CMP_CTL_EN, .rw)]⟩,
  ⟨0x5004, 1, 0x4, [0x0], none, .stat, [(F.CMP_STAT_QDEPTH, .ro), (F.CMP_STAT_BATCHES, .ro), (F.CMP_STAT_STAGED, .ro)]⟩,
  ⟨0x5008, 1, 0x4, [0x0], some (0x5000, 2), .ctl, [(F.CMP_POOL_SLICE, .rwl), (F.CMP_POOL_SIZE, .rwl)]⟩,
  ⟨0x500C, 1, 0x4, [0x0], some (0x5000, 2), .ctl, [(F.CMP_SALT_SALT, .rwl)]⟩,
  ⟨0x5010, 1, 0x4, [0x100], some (0x5000, 2), .ctl, [(F.CMP_TALLY_CFG_EMBED_EN, .rwl), (F.CMP_TALLY_CFG_EJOB, .rwl), (F.CMP_TALLY_CFG_SIG_ACT, .rwl), (F.CMP_TALLY_CFG_FSHIFT, .rwl)]⟩]
/-- Registers of the GAL block (02_events_and_state.md Table 2.7, 04 Table 4.11, 05 Table 5.8, 08 Table 8.5, 09 Table 9.7, 18 Table 18.12). -/
def galRegs2 : List RegSpec := [
  ⟨0x5014, 1, 0x4, [0x640041], none, .ctl, [(F.CMP_BEAR_CFG_BT, .rw), (F.CMP_BEAR_CFG_LSHIFT, .rw), (F.CMP_BEAR_CFG_TOL, .rw), (F.CMP_BEAR_CFG_STEP, .rw)]⟩,
  ⟨0x5018, 1, 0x4, [0x0], some (0x5000, 2), .ctl, [(F.CMP_BEAR_LEADER_SELF, .rwl), (F.CMP_BEAR_LEADER_LGAL, .rwl), (F.CMP_BEAR_LEADER_LCHIP, .rwl)]⟩,
  ⟨0x5100, 16, 0x4, [0x0], some (0x5000, 2), .ctl, [(F.CMP_BEAR_DEST_DEST, .rwl)]⟩,
  ⟨0x5200, 1, 0x4, [0x0], none, .cnt 4, [(F.CMP_TALLY_CNT_TALLY, .ro)]⟩,
  ⟨0x5204, 1, 0x4, [0x0], none, .cnt 4, [(F.CMP_SUB_CNT_SUB, .ro)]⟩,
  ⟨0x5208, 1, 0x4, [0x0], none, .cnt 4, [(F.CMP_FALL_CNT_FALL, .ro)]⟩,
  ⟨0x520C, 1, 0x4, [0x0], none, .cnt 4, [(F.CMP_DROP_CNT_ALLFULL, .ro), (F.CMP_DROP_CNT_QFULL, .ro), (F.CMP_DROP_CNT_UNREACH, .ro)]⟩,
  ⟨0x5210, 1, 0x4, [0x0], none, .cnt 4, [(F.CMP_LATE_CNT_LATE, .ro), (F.CMP_LATE_CNT_ERASE, .ro)]⟩,
  ⟨0x5214, 1, 0x4, [0x0], none, .cnt 4, [(F.CMP_TRAIN_CNT_OUT, .ro), (F.CMP_TRAIN_CNT_IN, .ro)]⟩,
  ⟨0x5218, 1, 0x4, [0x0], none, .cnt 4, [(F.CMP_TRAIN_ERR_INCOMPLETE, .ro), (F.CMP_TRAIN_ERR_NOCTX, .ro)]⟩,
  ⟨0x521C, 1, 0x4, [0x0], none, .cnt 4, [(F.CMP_REF_ERR_REF, .ro)]⟩,
  ⟨0x5220, 1, 0x4, [0x0], none, .cnt 4, [(F.CMP_BEAR_CNT_PERIODS, .ro), (F.CMP_BEAR_CNT_MISS, .ro)]⟩,
  ⟨0x5224, 1, 0x4, [0x0], none, .cnt 4, [(F.CMP_BEAR_LOST_LOST, .ro)]⟩,
  ⟨0x5228, 1, 0x4, [0x0], none, .cnt 4, [(F.CMP_EMBED_DROP_EMBED, .ro)]⟩,
  ⟨0x5800, 64, 0x8, [0x0], none, .stat, [(F.CMP_LOAD_NOW_NOW, .ro)]⟩,
  ⟨0x5804, 64, 0x8, [0x0], none, .stat, [(F.CMP_LOAD_LAST_LAST, .ro)]⟩,
  ⟨0x6000, 512, 0x4, [0x0], some (0x5000, 2), .ctl, [(F.CMP_EXP_WORD, .rwl)]⟩,
  ⟨0x7000, 1, 0x4, [0x0], some (0x7000, 2), .ctl, [(F.LRN_CTL_DENSE_WAKE, .rwl), (F.LRN_CTL_DENSE_EN, .rwl), (F.LRN_CTL_COMMIT, .rwl), (F.LRN_CTL_CLR_CNT, .wo), (F.LRN_CTL_EN, .rw)]⟩,
  ⟨0x7004, 1, 0x4, [0x0], none, .stat, [(F.LRN_STAT_DENSE_LAST, .ro), (F.LRN_STAT_DEFER, .ro), (F.LRN_STAT_OVERRUN, .w1c), (F.LRN_STAT_PHASE, .ro)]⟩,
  ⟨0x7008, 1, 0x4, [0x3E8], none, .ctl, [(F.LRN_EPOCH_EPOCH, .rw)]⟩,
  ⟨0x700C, 1, 0x4, [0xC020], some (0x7000, 2), .ctl, [(F.LRN_PRE_CFG_PRE_KEEP, .rwl), (F.LRN_PRE_CFG_PRE_INC, .rwl)]⟩,
  ⟨0x7010, 1, 0x4, [0x0], some (0x7000, 2), .ctl, [(F.LRN_CO_CFG_CREATE_MAX, .rwl), (F.LRN_CO_CFG_CO_WIN, .rwl), (F.LRN_CO_CFG_SSHIFT, .rwl)]⟩,
  ⟨0x7014, 1, 0x4, [0x1], some (0x7000, 2), .ctl, [(F.LRN_SEED_SEED, .rwl)]⟩,
  ⟨0x7018, 1, 0x4, [0x0], some (0x7000, 2), .ctl, [(F.LRN_NORM_CFG_VALID, .rwl), (F.LRN_NORM_CFG_JOB, .rwl)]⟩]
/-- Registers of the GAL block (02_events_and_state.md Table 2.7, 04 Table 4.11, 05 Table 5.8, 08 Table 8.5, 09 Table 9.7, 18 Table 18.12). -/
def galRegs3 : List RegSpec := [
  ⟨0x701C, 1, 0x4, [0x0], none, .stat, [(F.LRN_REWARD_EP, .ro), (F.LRN_REWARD_ACC, .ro)]⟩,
  ⟨0x7020, 1, 0x4, [0x0], none, .ctl, [(F.LRN_REWARD_ADD_ADD, .wo)]⟩,
  ⟨0x7100, 16, 0x20, [0x0], some (0x7000, 2), .ctl, [(F.LRN_PROF_W0_WORD, .rwl)]⟩,
  ⟨0x7104, 16, 0x20, [0x0], some (0x7000, 2), .ctl, [(F.LRN_PROF_W1_WORD, .rwl)]⟩,
  ⟨0x7108, 16, 0x20, [0x0], some (0x7000, 2), .ctl, [(F.LRN_PROF_W2_WORD, .rwl)]⟩,
  ⟨0x710C, 16, 0x20, [0x0], some (0x7000, 2), .ctl, [(F.LRN_PROF_W3_WORD, .rwl)]⟩,
  ⟨0x7110, 16, 0x20, [0x0], some (0x7000, 2), .ctl, [(F.LRN_PROF_W4_WORD, .rwl)]⟩,
  ⟨0x7114, 16, 0x20, [0x0], some (0x7000, 2), .ctl, [(F.LRN_PROF_W5_WORD, .rwl)]⟩,
  ⟨0x7118, 16, 0x20, [0x0], some (0x7000, 2), .ctl, [(F.LRN_PROF_W6_WORD, .rwl)]⟩,
  ⟨0x7400, 1, 0x4, [0x0], none, .cnt 5, [(F.LRN_EPOCH_CNT_SWEEPS, .ro), (F.LRN_EPOCH_CNT_OVERRUN, .ro)]⟩,
  ⟨0x7404, 1, 0x4, [0x0], none, .cnt 5, [(F.LRN_UPD_CNT_UPD, .ro)]⟩,
  ⟨0x7408, 1, 0x4, [0x0], none, .cnt 5, [(F.LRN_STRUCT_CNT_CREATED, .ro), (F.LRN_STRUCT_CNT_PRUNED, .ro)]⟩,
  ⟨0x740C, 1, 0x4, [0x0], none, .cnt 5, [(F.LRN_SKIP_CNT_CAND_LOST, .ro), (F.LRN_SKIP_CNT_CREATE_SKIP, .ro)]⟩,
  ⟨0x7410, 1, 0x4, [0x0], none, .cnt 5, [(F.LRN_DELAY_CNT_DELAY, .ro)]⟩,
  ⟨0x7414, 1, 0x4, [0x0], none, .cnt 5, [(F.LRN_NORM_CNT_DENSE, .ro), (F.LRN_NORM_CNT_OWN, .ro)]⟩,
  ⟨0x7418, 1, 0x4, [0x0], none, .cnt 5, [(F.LRN_ECC_CNT_UE, .ro), (F.LRN_ECC_CNT_CE, .ro)]⟩]
/-- The GAL block. -/
def gal : Block := ⟨0x20000000, 8, 0x1000000, 0x8000, false, galRegs0 ++ galRegs1 ++ galRegs2 ++ galRegs3⟩

/-- Registers of the INT block (03_intake.md Table 3.11). -/
def intRegs0 : List RegSpec := [
  ⟨0x0, 1, 0x4, [0x0], some (0x0, 2), .ctl, [(F.INT_CTL_COMMIT, .rwl), (F.INT_CTL_KIND, .rwl), (F.INT_CTL_EN, .rw)]⟩,
  ⟨0x4, 1, 0x4, [0x0], none, .stat, [(F.INT_STAT_BYPASS, .ro), (F.INT_STAT_OVERLOAD, .ro), (F.INT_STAT_RETIRED, .ro), (F.INT_STAT_STATE, .ro)]⟩,
  ⟨0x10, 1, 0x4, [0xE40001], some (0x0, 2), .ctl, [(F.INT_CSI_CFG_LANEMAP, .rwl), (F.INT_CSI_CFG_PSWAP, .rwl), (F.INT_CSI_CFG_DT_MASK, .rwl), (F.INT_CSI_CFG_VC, .rwl), (F.INT_CSI_CFG_LANES, .rwl)]⟩,
  ⟨0x14, 1, 0x4, [0x0], some (0x0, 2), .ctl, [(F.INT_GEOM_TSHIFT, .rwl), (F.INT_GEOM_HEIGHT_M1, .rwl), (F.INT_GEOM_WIDTH_M1, .rwl)]⟩,
  ⟨0x18, 1, 0x4, [0x0], some (0x0, 2), .ctl, [(F.INT_CONV_TUNIT_SEL, .rwl), (F.INT_CONV_THR_BASE, .rwl), (F.INT_CONV_RAWBITS, .rwl), (F.INT_CONV_MODE, .rwl)]⟩,
  ⟨0x1C, 1, 0x4, [0x0], some (0x0, 2), .ctl, [(F.INT_THERM_T_BASE, .rwl), (F.INT_THERM_T_STEP, .rwl), (F.INT_THERM_T_INC, .rwl)]⟩,
  ⟨0x20, 1, 0x4, [0x21], some (0x0, 2), .ctl, [(F.INT_FLK_CFG_FLK_MIN, .rwl), (F.INT_FLK_CFG_FLK_RATIO, .rwl), (F.INT_FLK_CFG_FLK_WIN, .rwl), (F.INT_FLK_CFG_EN, .rwl)]⟩,
  ⟨0x24, 1, 0x4, [0x0], none, .stat, [(F.INT_FLK_STAT_TILES, .ro), (F.INT_FLK_STAT_BINS, .ro)]⟩,
  ⟨0x30, 1, 0x4, [0x0], none, .ctl, [(F.INT_SHED_CFG_SMAX, .rw), (F.INT_SHED_CFG_DECAY, .rw), (F.INT_SHED_CFG_LOW, .rw)]⟩,
  ⟨0x34, 1, 0x4, [0xFFFF], none, .ctl, [(F.INT_SHED_BUDGET_BUDGET, .rw)]⟩,
  ⟨0x38, 1, 0x4, [0x0], none, .ctl, [(F.INT_SHED_STAT_RES, .rw), (F.INT_SHED_STAT_S, .ro), (F.INT_SHED_STAT_QUIET, .ro)]⟩,
  ⟨0x3C, 1, 0x4, [0x53C64], none, .ctl, [(F.INT_RETRY_CFG_MAX_RESTART, .rw), (F.INT_RETRY_CFG_WINDOW, .rw), (F.INT_RETRY_CFG_SYNC_TO, .rw)]⟩,
  ⟨0x40, 1, 0x4, [0x0], none, .cnt 1, [(F.INT_RX_CNT_RX, .ro)]⟩,
  ⟨0x44, 1, 0x4, [0x0], none, .cnt 1, [(F.INT_EVT_CNT_EVT, .ro)]⟩,
  ⟨0x48, 1, 0x4, [0x0], none, .cnt 1, [(F.INT_FLK_DROP_CNT_FLK, .ro)]⟩,
  ⟨0x4C, 1, 0x4, [0x0], none, .cnt 1, [(F.INT_UNMAP_CNT_UNMAP, .ro)]⟩,
  ⟨0x50, 1, 0x4, [0x0], none, .cnt 1, [(F.INT_SHED_CNT_SHED, .ro)]⟩,
  ⟨0x54, 1, 0x4, [0x0], none, .cnt 1, [(F.INT_RAIL_DROP_CNT_RAIL, .ro)]⟩,
  ⟨0x58, 1, 0x4, [0x0], none, .cnt 1, [(F.INT_LATE_CNT_LATE, .ro)]⟩,
  ⟨0x5C, 1, 0x4, [0x0], none, .cnt 1, [(F.INT_PKT_ERR_CNT_ECC_CE, .ro), (F.INT_PKT_ERR_CNT_ECC_UE, .ro), (F.INT_PKT_ERR_CNT_LINE, .ro), (F.INT_PKT_ERR_CNT_RANGE, .ro), (F.INT_PKT_ERR_CNT_UNSUP, .ro)]⟩,
  ⟨0x60, 1, 0x4, [0x0], none, .cnt 1, [(F.INT_RESTART_CNT_RESTART, .ro)]⟩,
  ⟨0x64, 1, 0x4, [0x0], none, .cnt 1, [(F.INT_OVL_TICKS_OVL, .ro)]⟩,
  ⟨0x100, 16, 0x8, [0x7FFFFFFF], some (0x0, 2), .ctl, [(F.INT_SCAL_HI_HI, .rwl)]⟩,
  ⟨0x104, 16, 0x8, [0x80000000], some (0x0, 2), .ctl, [(F.INT_SCAL_LO_LO, .rwl)]⟩]
/-- Registers of the INT block (03_intake.md Table 3.11). -/
def intRegs1 : List RegSpec := [
  ⟨0x800, 1, 0x4, [0x0], some (0x0, 2), .ctl, [(F.SEAM_CTL_CRC_EN, .rwl)]⟩,
  ⟨0x804, 1, 0x4, [0x0], none, .stat, [(F.SEAM_STAT_CREDITS, .ro), (F.SEAM_STAT_LAST_SEQ, .ro)]⟩,
  ⟨0x808, 1, 0x4, [0x0], none, .cnt 1, [(F.SEAM_ERR_CNT_HDR, .ro), (F.SEAM_ERR_CNT_PCRC, .ro), (F.SEAM_ERR_CNT_SEQ_GAP, .ro), (F.SEAM_ERR_CNT_NOCREDIT, .ro), (F.SEAM_ERR_CNT_INCOMPLETE, .ro)]⟩,
  ⟨0x80C, 1, 0x4, [0x0], none, .stat, [(F.SEAM_HELLO_ID_ID, .ro)]⟩,
  ⟨0x10000, 4096, 0x4, [0x0], some (0x0, 2), .ctl, [(F.INT_MAP_WORD, .rwl)]⟩]
/-- The INT block. -/
def int : Block := ⟨0x50000000, 16, 0x100000, 0x14000, false, intRegs0 ++ intRegs1⟩

/-- Registers of the EGR block (04_dark_zone.md Table 4.9). -/
def egrRegs : List RegSpec := [
  ⟨0x0, 1, 0x4, [0x0], none, .ctl, [(F.EGR_CTL_EN, .rw)]⟩,
  ⟨0x4, 1, 0x4, [0x0], none, .stat, [(F.EGR_STAT_ERASE, .ro), (F.EGR_STAT_LAB, .ro)]⟩,
  ⟨0x8, 1, 0x4, [0x400100], none, .stat, [(F.EGR_FUSE_CEIL_CEIL_BURST, .ro), (F.EGR_FUSE_CEIL_CEIL_U, .ro)]⟩,
  ⟨0xC, 1, 0x4, [0xA], none, .ctl, [(F.EGR_HB_CFG_HB_PERIOD, .rw)]⟩,
  ⟨0x10, 1, 0x4, [0x3E8], none, .ctl, [(F.EGR_BL_CFG_AGE, .rw)]⟩,
  ⟨0x14, 1, 0x4, [0x0], none, .cnt 1, [(F.EGR_SCHEMA_ERR_SCHEMA, .ro)]⟩,
  ⟨0x18, 1, 0x4, [0x0], none, .cnt 1, [(F.EGR_ERASE_CNT_PORT, .ro), (F.EGR_ERASE_CNT_DOMAIN, .ro), (F.EGR_ERASE_CNT_LATE, .ro)]⟩,
  ⟨0x100, 16, 0x10, [0x100040], none, .ctl, [(F.EGR_MTR_CFG_BURST, .rw), (F.EGR_MTR_CFG_RATE_U, .rw)]⟩,
  ⟨0x104, 16, 0x10, [0x20000800], none, .stat, [(F.EGR_MTR_LVL_CEIL_LVL, .ro), (F.EGR_MTR_LVL_LVL, .ro)]⟩,
  ⟨0x108, 16, 0x10, [0x0], none, .cnt 1, [(F.EGR_MTR_DROP_DROP, .ro)]⟩,
  ⟨0x10C, 16, 0x10, [0x0], none, .cnt 1, [(F.EGR_MTR_PASS_PASS, .ro)]⟩,
  ⟨0x200, 8, 0x10, [0x0], none, .stat, [(F.EGR_BL_STAT_DEPTH, .ro)]⟩,
  ⟨0x204, 8, 0x10, [0x0], none, .cnt 1, [(F.EGR_BL_DROP_AGE, .ro), (F.EGR_BL_DROP_FULL, .ro)]⟩]
/-- The EGR block. -/
def egr : Block := ⟨0x80010000, 1, 0x0, 0x300, false, egrRegs⟩

/-- Registers of the MSH block (06_passage_mesh.md Table 6.9). -/
def mshRegs : List RegSpec := [
  ⟨0x0, 1, 0x4, [0x0], none, .ctl, [(F.MSH_CTL_CLR_CNT, .wo)]⟩,
  ⟨0x4, 1, 0x4, [0x1], none, .stat, [(F.MSH_STAT_BUSY, .ro), (F.MSH_STAT_IDLE, .ro)]⟩,
  ⟨0x8, 1, 0x4, [0x3D090], none, .stat, [(F.MSH_ADMIT_ADMIT, .ro)]⟩,
  ⟨0x100, 8, 0x10, [0x0], none, .cnt 1, [(F.MSH_NODE_FWD_FWD, .ro)]⟩,
  ⟨0x104, 8, 0x10, [0x0], none, .cnt 1, [(F.MSH_NODE_DROP_PARCEL, .ro), (F.MSH_NODE_DROP_HOPS, .ro)]⟩,
  ⟨0x108, 8, 0x10, [0x0], none, .cnt 1, [(F.MSH_NODE_ERR_PAR, .ro), (F.MSH_NODE_ERR_TMO, .ro)]⟩,
  ⟨0x10C, 8, 0x10, [0x0], none, .cnt 1, [(F.MSH_NODE_HIWATER_SB, .ro), (F.MSH_NODE_HIWATER_SA, .ro)]⟩,
  ⟨0x200, 4, 0x10, [0x0], none, .cnt 1, [(F.MSH_RAIL_EV_EV, .ro)]⟩,
  ⟨0x204, 4, 0x10, [0x0], none, .cnt 1, [(F.MSH_RAIL_ERR_PAR, .ro)]⟩,
  ⟨0x208, 4, 0x10, [0x0], none, .cnt 1, [(F.MSH_TRUNK_CNT_OUT, .ro), (F.MSH_TRUNK_CNT_ISOL, .ro)]⟩,
  ⟨0x20C, 4, 0x10, [0x0], none, .cnt 1, [(F.MSH_TRUNK_WAIT_WAIT, .ro)]⟩]
/-- The MSH block. -/
def msh : Block := ⟨0x40000000, 1, 0x0, 0x300, false, mshRegs⟩

/-- Registers of the PCL block (06_passage_mesh.md Table 6.9). -/
def pclRegs : List RegSpec := [
  ⟨0x0, 1, 0x4, [0x0], some (0x4, 31), .ctl, [(F.PCL_RECT_VALID, .rwl), (F.PCL_RECT_Y1, .rwl), (F.PCL_RECT_Y0, .rwl), (F.PCL_RECT_X1, .rwl), (F.PCL_RECT_X0, .rwl)]⟩,
  ⟨0x4, 1, 0x4, [0x0], some (0x4, 31), .ctl, [(F.PCL_BIND_COMMIT, .rwl), (F.PCL_BIND_FUNC, .rwl), (F.PCL_BIND_SLICE, .rwl)]⟩,
  ⟨0x8, 1, 0x4, [0x0], some (0x4, 31), .ctl, [(F.PCL_PORTMASK_MASK, .rwl)]⟩,
  ⟨0xC, 1, 0x4, [0x0], some (0x4, 31), .ctl, [(F.PCL_POOL_TRUNK, .rwl), (F.PCL_POOL_STACK, .rwl)]⟩,
  ⟨0x10, 1, 0x4, [0x0], none, .stat, [(F.PCL_STATE_STATE, .ro)]⟩,
  ⟨0x14, 1, 0x4, [0x0], none, .cnt 1, [(F.PCL_CNT_ISOL, .ro), (F.PCL_CNT_POOLFULL, .ro)]⟩]
/-- The PCL block. -/
def pcl : Block := ⟨0x40010000, 8, 0x20, 0x20, false, pclRegs⟩

/-- Registers of the DNS block (07_dense_plane.md Table 7.9). -/
def dnsRegs : List RegSpec := [
  ⟨0x0, 1, 0x4, [0x0], some (0x0, 3), .ctl, [(F.DNS_CTL_COMMIT, .rwl), (F.DNS_CTL_FLUSH, .wo), (F.DNS_CTL_CLR_CNT, .wo), (F.DNS_CTL_EN, .rw)]⟩,
  ⟨0x4, 1, 0x4, [0x0], none, .stat, [(F.DNS_STAT_LOADING, .ro), (F.DNS_STAT_WB1, .ro), (F.DNS_STAT_WB0, .ro), (F.DNS_STAT_QDEPTH, .ro), (F.DNS_STAT_STATE, .ro)]⟩,
  ⟨0x8, 1, 0x4, [0x64], some (0x0, 3), .ctl, [(F.DNS_PWR_CFG_IDLE_OFF, .rwl), (F.DNS_PWR_CFG_IDLE_RET, .rwl)]⟩,
  ⟨0xC, 1, 0x4, [0x0], some (0x0, 3), .ctl, [(F.DNS_CNT_WIN_EN, .rwl), (F.DNS_CNT_WIN_CNT_LO, .rwl)]⟩,
  ⟨0x10, 1, 0x4, [0x0], some (0x0, 3), .ctl, [(F.DNS_CNT_CFG_JOB, .rwl), (F.DNS_CNT_CFG_KT, .rwl), (F.DNS_CNT_CFG_ROWS, .rwl)]⟩,
  ⟨0x14, 1, 0x4, [0x0], none, .stat, [(F.DNS_REPAIR_SROWS, .ro), (F.DNS_REPAIR_SCOLS, .ro)]⟩,
  ⟨0x18, 2, 0x4, [0x0], none, .stat, [(F.DNS_WTAG_VALID, .ro), (F.DNS_WTAG_MODE, .ro), (F.DNS_WTAG_WSRC, .ro), (F.DNS_WTAG_WBASE, .ro)]⟩,
  ⟨0x100, 1, 0x4, [0x0], none, .cnt 1, [(F.DNS_JOB_CNT_JOB, .ro)]⟩,
  ⟨0x104, 1, 0x4, [0x0], none, .cnt 1, [(F.DNS_RESP_CNT_FULL, .ro), (F.DNS_RESP_CNT_OTHER, .ro)]⟩,
  ⟨0x108, 1, 0x4, [0x0], none, .cnt 1, [(F.DNS_WLOAD_CNT_WLOAD, .ro)]⟩,
  ⟨0x10C, 1, 0x4, [0x0], none, .cnt 1, [(F.DNS_WAKE_CNT_OFF, .ro), (F.DNS_WAKE_CNT_RET, .ro)]⟩,
  ⟨0x110, 1, 0x4, [0x0], none, .cnt 1, [(F.DNS_ERR_CNT_WUE, .ro), (F.DNS_ERR_CNT_WCE, .ro), (F.DNS_ERR_CNT_OPTMO, .ro), (F.DNS_ERR_CNT_DISC, .ro)]⟩,
  ⟨0x114, 1, 0x4, [0x0], none, .cnt 1, [(F.DNS_CNTSAT_CNTSAT, .ro)]⟩,
  ⟨0x118, 1, 0x4, [0x0], none, .cnt 1, [(F.DNS_CNT_DROP_DROP, .ro)]⟩,
  ⟨0x11C, 1, 0x4, [0x0], none, .cnt 1, [(F.DNS_OUT_CNT_OUT, .ro)]⟩,
  ⟨0x120, 1, 0x4, [0x0], none, .cnt 1, [(F.DNS_ACTIVE_CYC_ACTIVE, .ro)]⟩,
  ⟨0x1000, 256, 0x4, [0x0], some (0x0, 3), .ctl, [(F.DNS_JDESC_WORD, .rwl)]⟩]
/-- The DNS block. -/
def dns : Block := ⟨0x30000000, 8, 0x100000, 0x1400, false, dnsRegs⟩

/-- Registers of the TRV block (10_traverse_links.md Table 10.13). -/
def trvRegs : List RegSpec := [
  ⟨0x0, 1, 0x4, [0x0], none, .ctl, [(F.TRV_CTL_ROLE, .rwl), (F.TRV_CTL_CLR_CNT, .wo), (F.TRV_CTL_RETRAIN, .wo), (F.TRV_CTL_EN, .rw)]⟩,
  ⟨0x4, 1, 0x4, [0xF0000], none, .stat, [(F.TRV_STAT_PCHIP, .ro), (F.TRV_STAT_PPORT, .ro), (F.TRV_STAT_BADLANE, .ro), (F.TRV_STAT_REASON, .ro), (F.TRV_STAT_SEALED, .ro), (F.TRV_STAT_STATE, .ro)]⟩,
  ⟨0x8, 1, 0x4, [0x0], none, .stat, [(F.TRV_DELAY_D, .ro)]⟩,
  ⟨0xC, 1, 0x4, [0x33E810], none, .ctl, [(F.TRV_RETRY_CFG_RETRAIN_MAX, .rw), (F.TRV_RETRY_CFG_REPLAY_WIN, .rw), (F.TRV_RETRY_CFG_REPLAY_MAX, .rw)]⟩,
  ⟨0x10, 4, 0x4, [0x0], none, .stat, [(F.TRV_PARTNER_ID_ID, .ro)]⟩,
  ⟨0x100, 1, 0x4, [0x0], none, .cnt 1, [(F.TRV_FLIT_TX_TX, .ro)]⟩,
  ⟨0x104, 1, 0x4, [0x0], none, .cnt 1, [(F.TRV_FLIT_RX_RX, .ro)]⟩,
  ⟨0x108, 1, 0x4, [0x0], none, .cnt 1, [(F.TRV_CRC_CNT_CRC, .ro)]⟩,
  ⟨0x10C, 1, 0x4, [0x0], none, .cnt 1, [(F.TRV_REPLAY_CNT_REPLAY, .ro)]⟩,
  ⟨0x110, 1, 0x4, [0x0], none, .cnt 1, [(F.TRV_RETRAIN_CNT_FAILED, .ro), (F.TRV_RETRAIN_CNT_ALL, .ro)]⟩,
  ⟨0x114, 1, 0x4, [0x0], none, .cnt 1, [(F.TRV_TAG_FAIL_TAG, .ro)]⟩,
  ⟨0x118, 1, 0x4, [0x0], none, .cnt 1, [(F.TRV_SUSPECT_SUSPECT, .ro)]⟩,
  ⟨0x11C, 1, 0x4, [0x0], none, .cnt 1, [(F.TRV_DOWN_DROP_DOWN, .ro)]⟩,
  ⟨0x120, 1, 0x4, [0x0], none, .cnt 1, [(F.TRV_RT_DROP_DROP, .ro)]⟩,
  ⟨0x124, 1, 0x4, [0x0], none, .cnt 1, [(F.TRV_Q_TMO_TMO, .ro)]⟩,
  ⟨0x128, 1, 0x4, [0x0], none, .cnt 1, [(F.TRV_MSG_ERR_ERR, .ro)]⟩]
/-- The TRV block. -/
def trv : Block := ⟨0x60000000, 6, 0x1000000, 0x200, false, trvRegs⟩

/-- Registers of the GRP block (10_traverse_links.md Table 10.13). -/
def grpRegs : List RegSpec := [
  ⟨0x0, 1, 0x4, [0x0], some (0x0, 0), .ctl, [(F.TRV_GRP_CTL_MODE, .rwl), (F.TRV_GRP_CTL_COMMIT, .rwl)]⟩,
  ⟨0x4, 1, 0x4, [0x0], none, .stat, [(F.TRV_GRP_STAT_SELF, .ro), (F.TRV_GRP_STAT_LEADER, .ro), (F.TRV_GRP_STAT_SZ_M1, .ro), (F.TRV_GRP_STAT_SY_M1, .ro), (F.TRV_GRP_STAT_SX_M1, .ro), (F.TRV_GRP_STAT_STATE, .ro)]⟩,
  ⟨0x8, 1, 0x4, [0x307D0], some (0x0, 0), .ctl, [(F.TRV_SYNC_CFG_FWD, .rwl), (F.TRV_SYNC_CFG_MISS_MAX, .rw), (F.TRV_SYNC_CFG_LEAD, .rw)]⟩,
  ⟨0xC, 1, 0x4, [0x0], none, .stat, [(F.TRV_SYNC_STAT_RESYNC_REQ, .ro), (F.TRV_SYNC_STAT_LATE, .ro), (F.TRV_SYNC_STAT_MISSED, .ro)]⟩,
  ⟨0x10, 1, 0x4, [0x0], none, .cnt 1, [(F.TRV_GRP_RT_DROP_DROP, .ro)]⟩,
  ⟨0x100, 64, 0x4, [0x0], none, .ctl, [(F.TRV_RT_WORD, .rw)]⟩]
/-- The GRP block. -/
def grp : Block := ⟨0x66000000, 1, 0x0, 0x200, false, grpRegs⟩

/-- Registers of the STK block (11_memories.md Table 11.6). -/
def stkRegs : List RegSpec := [
  ⟨0x0, 1, 0x4, [0x8], none, .ctl, [(F.STK_CTL_BG_EN, .rw), (F.STK_CTL_MAP, .rw), (F.STK_CTL_CLR_CNT, .wo), (F.STK_CTL_EN, .rw)]⟩,
  ⟨0x4, 1, 0x4, [0x0], none, .stat, [(F.STK_STAT_HOT, .ro), (F.STK_STAT_PRESENT, .ro), (F.STK_STAT_TEMP, .ro), (F.STK_STAT_STATE, .ro)]⟩,
  ⟨0x8, 1, 0x4, [0x64], none, .ctl, [(F.STK_BG_CFG_BG_INTERVAL, .rw)]⟩,
  ⟨0xC, 1, 0x4, [0x181082], none, .ctl, [(F.STK_RET_CFG_CE_WIN, .rw), (F.STK_RET_CFG_PC_MAX, .rw), (F.STK_RET_CFG_CE_MAX, .rw), (F.STK_RET_CFG_UE_MAX, .rw)]⟩,
  ⟨0x10, 1, 0x4, [0x0], none, .stat, [(F.STK_PC_RET_RET, .ro)]⟩,
  ⟨0x14, 1, 0x4, [0x0], none, .stat, [(F.STK_UE_ADDR_LO_ADDR, .ro)]⟩,
  ⟨0x18, 1, 0x4, [0x0], none, .stat, [(F.STK_UE_ADDR_HI_ADDR, .ro)]⟩,
  ⟨0x20, 1, 0x4, [0x0], none, .cnt 1, [(F.STK_ECC_CNT_CE, .ro), (F.STK_ECC_CNT_UE, .ro), (F.STK_ECC_CNT_RETWR, .ro)]⟩,
  ⟨0x24, 1, 0x4, [0x0], none, .cnt 1, [(F.STK_SKIP_CNT_SKIP, .ro)]⟩,
  ⟨0x28, 1, 0x4, [0x0], none, .cnt 1, [(F.STK_DENY_CNT_DENY, .ro)]⟩,
  ⟨0x2C, 1, 0x4, [0x0], none, .stat, [(F.STK_RETPG_CNT_PAGES, .ro)]⟩,
  ⟨0x100, 16, 0x20, [0x0], none, .ctl, [(F.STK_RGN_BASE_VALID, .rw), (F.STK_RGN_BASE_OWNER, .rw), (F.STK_RGN_BASE_BASE, .rw)]⟩,
  ⟨0x104, 16, 0x20, [0x0], none, .ctl, [(F.STK_RGN_LIM_LIMIT, .rw)]⟩,
  ⟨0x108, 16, 0x20, [0x0], none, .stat, [(F.STK_RGN_WM_WM, .ro)]⟩,
  ⟨0x10C, 16, 0x20, [0x0], none, .ctl, [(F.STK_RGN_FILL_FILL_TO, .rw)]⟩,
  ⟨0x110, 16, 0x20, [0x0], none, .ctl, [(F.STK_RGN_CTL_UNW_FAULT, .rw), (F.STK_RGN_CTL_FILLING, .ro), (F.STK_RGN_CTL_FILL, .wo)]⟩,
  ⟨0x114, 16, 0x20, [0x0], none, .cnt 1, [(F.STK_RGN_UNW_UNW, .ro)]⟩,
  ⟨0x1000, 256, 0x4, [0x0], none, .stat, [(F.STK_RETPG_VALID, .ro), (F.STK_RETPG_PAGE, .ro)]⟩]
/-- The STK block. -/
def stk : Block := ⟨0x70000000, 4, 0x100000, 0x1400, false, stkRegs⟩

/-- Registers of the SCP block (11_memories.md Table 11.7). -/
def scpRegs : List RegSpec := [
  ⟨0x0, 1, 0x4, [0x4], none, .ctl, [(F.SCP_CTL_BG_EN, .rw), (F.SCP_CTL_UNW_FAULT, .rw), (F.SCP_CTL_CLR_CNT, .wo)]⟩,
  ⟨0x4, 1, 0x4, [0xFF], none, .stat, [(F.SCP_STAT_DEGRADED, .ro), (F.SCP_STAT_SPARE_USED, .ro), (F.SCP_STAT_FAILED, .ro), (F.SCP_STAT_RETIRED, .ro)]⟩,
  ⟨0x8, 1, 0x4, [0x3E8], none, .ctl, [(F.SCP_BG_CFG_BG_INTERVAL, .rw)]⟩,
  ⟨0xC, 1, 0x4, [0x2], none, .ctl, [(F.SCP_RET_CFG_UE_MAX, .rw)]⟩,
  ⟨0x10, 1, 0x4, [0x0], none, .cnt 1, [(F.SCP_UNW_CNT_UNW, .ro)]⟩,
  ⟨0x14, 1, 0x4, [0x0], none, .cnt 1, [(F.SCP_ECC_CNT_CE, .ro), (F.SCP_ECC_CNT_UE, .ro)]⟩,
  ⟨0x18, 1, 0x4, [0x0], none, .stat, [(F.SCP_UE_ADDR_ADDR, .ro)]⟩,
  ⟨0x20, 1, 0x4, [0x0], none, .ctl, [(F.SCP_MT_CTL_GO, .wo), (F.SCP_MT_CTL_PRESERVE, .rw), (F.SCP_MT_CTL_TARGET, .rw)]⟩,
  ⟨0x24, 1, 0x4, [0x0], none, .stat, [(F.SCP_MT_STAT_BUSY, .ro), (F.SCP_MT_STAT_FAIL, .ro), (F.SCP_MT_STAT_MEMS, .ro)]⟩,
  ⟨0x28, 1, 0x4, [0x0], none, .stat, [(F.SCP_MT_FAIL_ADDR, .ro)]⟩,
  ⟨0x100, 6, 0x4, [0x0], none, .cnt 1, [(F.SCP_DENY_CNT_DENY, .ro)]⟩,
  ⟨0x120, 6, 0x8, [0x0], none, .ctl, [(F.SCP_DENY_ADDR_LO_ADDR, .w1c)]⟩,
  ⟨0x124, 6, 0x8, [0x0], none, .ctl, [(F.SCP_DENY_ADDR_HI_ADDR, .w1c)]⟩,
  ⟨0x800, 96, 0x10, [0x0], none, .ctl, [(F.SCP_MRG_BASE_BASE, .rw)]⟩,
  ⟨0x804, 96, 0x10, [0x0], none, .ctl, [(F.SCP_MRG_LIM_LIMIT, .rw)]⟩,
  ⟨0x808, 96, 0x10, [0x0], none, .ctl, [(F.SCP_MRG_ATTR_VALID, .rw), (F.SCP_MRG_ATTR_W, .rw), (F.SCP_MRG_ATTR_R, .rw), (F.SCP_MRG_ATTR_FUNC, .rw)]⟩]
/-- The SCP block. -/
def scp : Block := ⟨0x91000000, 1, 0x0, 0xE00, false, scpRegs⟩

/-- Registers of the HST block (12_host_and_mailboxes.md Table 12.17). -/
def hstRegs : List RegSpec := [
  ⟨0x0, 1, 0x4, [0x8], none, .ctl, [(F.HST_ATTACH_CFG_FUNC, .rw)]⟩,
  ⟨0x4, 1, 0x4, [0x0], none, .cnt 1, [(F.HST_BAR_ERR_ERR, .ro)]⟩,
  ⟨0x8, 1, 0x4, [0x0], none, .cnt 1, [(F.HST_AER_CNT_UNCOR, .ro), (F.HST_AER_CNT_COR, .ro)]⟩]
/-- The HST block. -/
def hst : Block := ⟨0x80000000, 1, 0x0, 0x10, false, hstRegs⟩

/-- Registers of the MBX block (12_host_and_mailboxes.md Table 12.16). -/
def mbxRegs : List RegSpec := [
  ⟨0x100, 1, 0x4, [0x0], none, .ctl, [(F.MBX_CMD_BASE_LO_BASE, .rw)]⟩,
  ⟨0x104, 1, 0x4, [0x0], none, .ctl, [(F.MBX_CMD_BASE_HI_BASE, .rw)]⟩,
  ⟨0x108, 1, 0x4, [0x0], none, .ctl, [(F.MBX_CPL_BASE_LO_BASE, .rw)]⟩,
  ⟨0x10C, 1, 0x4, [0x0], none, .ctl, [(F.MBX_CPL_BASE_HI_BASE, .rw)]⟩,
  ⟨0x110, 1, 0x4, [0x0], none, .ctl, [(F.MBX_RES_BASE_LO_BASE, .rw)]⟩,
  ⟨0x114, 1, 0x4, [0x0], none, .ctl, [(F.MBX_RES_BASE_HI_BASE, .rw)]⟩,
  ⟨0x118, 1, 0x4, [0x0], none, .ctl, [(F.MBX_SB_BASE_LO_BASE, .rw)]⟩,
  ⟨0x11C, 1, 0x4, [0x0], none, .ctl, [(F.MBX_SB_BASE_HI_BASE, .rw)]⟩,
  ⟨0x120, 1, 0x4, [0x0], none, .ctl, [(F.MBX_RING_CFG_RES_LOG2, .rw), (F.MBX_RING_CFG_CPL_LOG2, .rw), (F.MBX_RING_CFG_CMD_LOG2, .rw)]⟩,
  ⟨0x124, 1, 0x4, [0x0], none, .ctl, [(F.MBX_RING_CTL_EN, .rw)]⟩,
  ⟨0x128, 1, 0x4, [0x8], none, .stat, [(F.MBX_RING_STAT_WAIT_ONLINE, .ro), (F.MBX_RING_STAT_REASON, .ro), (F.MBX_RING_STAT_QUIESCED, .ro), (F.MBX_RING_STAT_STATE, .ro)]⟩,
  ⟨0x12C, 1, 0x4, [0x0], none, .stat, [(F.MBX_CMD_CI_INDEX, .ro)]⟩,
  ⟨0x130, 1, 0x4, [0x0], none, .stat, [(F.MBX_CPL_PI_INDEX, .ro)]⟩,
  ⟨0x134, 1, 0x4, [0x0], none, .stat, [(F.MBX_RES_PI_INDEX, .ro)]⟩,
  ⟨0x138, 1, 0x4, [0x0], none, .stat, [(F.MBX_INFLIGHT_N, .ro)]⟩,
  ⟨0x140, 1, 0x4, [0x0], none, .ctl, [(F.MBX_VEC_NTC, .rw), (F.MBX_VEC_RES, .rw), (F.MBX_VEC_CPL, .rw)]⟩,
  ⟨0x144, 1, 0x4, [0x10000], none, .ctl, [(F.MBX_COAL_RES_RES_N, .rw), (F.MBX_COAL_RES_RES_T, .rw)]⟩,
  ⟨0x148, 1, 0x4, [0x0], none, .ctl, [(F.MBX_COAL_CPL_T, .rw)]⟩,
  ⟨0x14C, 1, 0x4, [0x0], none, .stat, [(F.MBX_NTC_PEND_PEND, .ro)]⟩,
  ⟨0x150, 1, 0x4, [0x0], none, .cnt 1, [(F.MBX_CPL_DISC_DISC, .ro)]⟩,
  ⟨0x154, 1, 0x4, [0x0], none, .cnt 1, [(F.MBX_DB_ERR_ERR, .ro)]⟩]
/-- The MBX block. -/
def mbx : Block := ⟨0x80020000, 9, 0x1000, 0x200, false, mbxRegs⟩

/-- The reset values of LCK_GRANT_0 to LCK_GRANT_63 (Table 12.15); locks 48 to 63 as on a chip that leads no group (DESIGN CHOICE, log
entry 54). -/
def lckGrants : List Nat :=
  List.replicate 16 0x1 ++ List.replicate 8 0x3 ++ (List.range 8).flatMap (fun v => List.replicate 3 (0x3 + 4 * 2 ^ v)) ++ List.replicate 16 0x1

/-- Registers of the LCK block (12_host_and_mailboxes.md Table 12.17). -/
def lckRegs : List RegSpec := [
  ⟨0x0, 1, 0x4, [0x0], some (0x0, 0), .ctl, [(F.LCK_CTL_COMMIT, .rwl)]⟩,
  ⟨0x4, 1, 0x4, [0x0], none, .cnt 1, [(F.LCK_BAD_REL_BAD, .ro)]⟩,
  ⟨0x400, 64, 0x4, lckGrants, some (0x0, 0), .ctl, [(F.LCK_GRANT_REMOTE, .rwl), (F.LCK_GRANT_VF, .rwl), (F.LCK_GRANT_PF, .rwl), (F.LCK_GRANT_SURV, .rwl)]⟩,
  ⟨0x500, 75, 0x4, [0x1], none, .stat, [(F.LCK_LIFE_LIFE, .ro)]⟩]
/-- The LCK block. -/
def lck : Block := ⟨0x80030000, 1, 0x0, 0x700, false, lckRegs⟩

/-- Registers of the PWR block (15_power.md Table 15.11). -/
def pwrRegs : List RegSpec := [
  ⟨0x0, 1, 0x4, [0xC8], none, .ctl, [(F.PWR_CTL_TJ_HI, .rw), (F.PWR_CTL_CLR_CNT, .wo)]⟩,
  ⟨0x4, 1, 0x4, [0x0], none, .stat, [(F.PWR_MODE_MODE, .ro)]⟩,
  ⟨0x8, 1, 0x4, [0x0], none, .ctl, [(F.PWR_REQ_GO, .wo), (F.PWR_REQ_TARGET, .wo), (F.PWR_REQ_DOMAIN, .wo)]⟩,
  ⟨0xC, 1, 0x4, [0x0], none, .stat, [(F.PWR_LAST_NAMED, .ro), (F.PWR_LAST_REFUSER, .ro), (F.PWR_LAST_REASON, .ro), (F.PWR_LAST_STAGE, .ro)]⟩,
  ⟨0x10, 1, 0x4, [0x0], none, .ctl, [(F.PWR_CAP_FUSE_W, .ro), (F.PWR_CAP_CAP_W, .rw)]⟩,
  ⟨0x14, 1, 0x4, [0x0], none, .stat, [(F.PWR_ILIM_I_PEAK, .ro), (F.PWR_ILIM_I_SUS, .ro)]⟩,
  ⟨0x18, 1, 0x4, [0x0], none, .stat, [(F.PWR_THROT_THERMAL, .ro), (F.PWR_THROT_CAP, .ro), (F.PWR_THROT_CURRENT, .ro)]⟩,
  ⟨0x1C, 1, 0x4, [0x0], none, .stat, [(F.PWR_TJ_REGION, .ro), (F.PWR_TJ_TJ, .ro)]⟩,
  ⟨0x20, 1, 0x4, [0x0], none, .cnt 1, [(F.PWR_REFUSE_CNT_ABANDON, .ro), (F.PWR_REFUSE_CNT_REFUSE, .ro)]⟩,
  ⟨0x24, 1, 0x4, [0x0], none, .cnt 1, [(F.PWR_THROT_CNT_MS, .ro)]⟩,
  ⟨0x100, 36, 0x10, [0x0], none, .stat, [(F.PWR_DOM_STAT_POLICY, .ro), (F.PWR_DOM_STAT_REASON, .ro), (F.PWR_DOM_STAT_STAGE, .ro), (F.PWR_DOM_STAT_STATE, .ro)]⟩,
  ⟨0x104, 36, 0x10, [0x0], none, .ctl, [(F.PWR_DOM_CFG_POLICY, .rw)]⟩,
  ⟨0x108, 36, 0x10, [0x0], none, .cnt 1, [(F.PWR_DOM_CNT_ENTRIES, .ro), (F.PWR_DOM_CNT_WAKES, .ro)]⟩,
  ⟨0x10C, 36, 0x10, [0x0], none, .stat, [(F.PWR_DOM_LAST_TICK, .ro)]⟩,
  ⟨0x400, 96, 0x4, [0x0], none, .stat, [(F.PWR_VREG_PASS, .ro), (F.PWR_VREG_MV, .ro)]⟩]
/-- The PWR block. -/
def pwr : Block := ⟨0x10001000, 1, 0x0, 0x600, true, pwrRegs⟩

/-- Registers of the TEL block (15_power.md Table 15.11). -/
def telRegs : List RegSpec := [
  ⟨0x0, 1, 0x4, [0x0], none, .stat, [(F.TEL_SEQ_SEQ, .ro)]⟩,
  ⟨0x4, 1, 0x4, [0x0], none, .stat, [(F.TEL_PKG_VIN_MV, .ro), (F.TEL_PKG_P, .ro)]⟩,
  ⟨0x8, 1, 0x4, [0x0], none, .stat, [(F.TEL_VCORE_MV, .ro)]⟩,
  ⟨0x100, 36, 0x4, [0x0], none, .stat, [(F.TEL_I_I, .ro)]⟩,
  ⟨0x200, 36, 0x8, [0x0], none, .stat, [(F.TEL_E_LO_E, .ro)]⟩,
  ⟨0x204, 36, 0x8, [0x0], none, .stat, [(F.TEL_E_HI_E, .ro)]⟩]
/-- The TEL block. -/
def tel : Block := ⟨0x10003000, 1, 0x0, 0x400, true, telRegs⟩

/-- Registers of the CLK block (16_clocks.md Table 16.7). -/
def clkRegs : List RegSpec := [
  ⟨0x0, 1, 0x4, [0x0], none, .stat, [(F.CLK_STAT_PT_RC, .ro), (F.CLK_STAT_RC_ON_REF, .ro), (F.CLK_STAT_STABLE, .ro)]⟩,
  ⟨0x4, 1, 0x4, [0x0], none, .ctl, [(F.CLK_CTL_CLR_CNT, .wo)]⟩,
  ⟨0x10, 1, 0x10, [0x3E8], none, .ctl, [(F.CLK_PLL_CFG_MHZ, .ro)]⟩,
  ⟨0x20, 1, 0x10, [0x190], none, .ctl, [(F.CLK_PLL_CFG_MHZ, .rw)]⟩,
  ⟨0x30, 4, 0x10, [0x320, 0x3E8, 0x3E8, 0x64], none, .ctl, [(F.CLK_PLL_CFG_MHZ, .ro)]⟩,
  ⟨0x14, 6, 0x10, [0x0], none, .stat, [(F.CLK_PLL_STAT_GATED, .ro), (F.CLK_PLL_STAT_RELOCK, .ro), (F.CLK_PLL_STAT_LOCKED, .ro)]⟩,
  ⟨0x18, 6, 0x10, [0x0], none, .ctl, [(F.CLK_SSC_EN, .rw), (F.CLK_SSC_RATE_KHZ, .rw), (F.CLK_SSC_DEPTH, .rw)]⟩,
  ⟨0x100, 30, 0x8, [0x2012C, 0x20014, 0x20014, 0x20014, 0x20014, 0x20050, 0x20014, 0x2003C, 0x20014, 0x20014, 0x20014, 0x20014, 0x20014, 0x20014, 0x20000], none, .ctl, [(F.CLK_MON_CFG_FAIL_N, .rw), (F.CLK_MON_CFG_TOL, .rw)]⟩,
  ⟨0x104, 30, 0x8, [0x0], none, .cnt 1, [(F.CLK_MON_STAT_FAILS, .ro), (F.CLK_MON_STAT_COUNT, .ro)]⟩,
  ⟨0x200, 1, 0x4, [0x0], none, .ctl, [(F.CLKOUT_CFG_EN, .rw), (F.CLKOUT_CFG_SRC, .rw), (F.CLKOUT_CFG_DIV_M1, .rw)]⟩,
  ⟨0x204, 1, 0x4, [0x0], none, .stat, [(F.CLK_DCHG_STAT_TARGET, .ro), (F.CLK_DCHG_STAT_STEP, .ro)]⟩,
  ⟨0x208, 1, 0x4, [0x0], none, .cnt 1, [(F.CLK_DCHG_CNT_DONE, .ro), (F.CLK_DCHG_CNT_BUSY, .ro), (F.CLK_DCHG_CNT_FAULT, .ro)]⟩]
/-- The CLK block. -/
def clk : Block := ⟨0x11000000, 1, 0x0, 0x300, false, clkRegs⟩

/-- Registers of the FUS block (17_bringup.md Table 17.10). -/
def fusRegs : List RegSpec := [
  ⟨0x0, 4, 0x4, [0x0], none, .stat, [(F.FUS_ID_DEVID, .ro)]⟩,
  ⟨0x10, 1, 0x4, [0x0], none, .stat, [(F.FUS_PART_MODE, .ro), (F.FUS_PART_LAB, .ro), (F.FUS_PART_HIGH, .ro), (F.FUS_PART_PART, .ro)]⟩,
  ⟨0x14, 1, 0x4, [0x0], none, .stat, [(F.FUS_RES_STACKS, .ro), (F.FUS_RES_LINKS, .ro), (F.FUS_RES_PORTS, .ro)]⟩,
  ⟨0x18, 1, 0x4, [0x0], none, .stat, [(F.FUS_LIM0_DENSE_MHZ, .ro), (F.FUS_LIM0_CAP_W, .ro)]⟩,
  ⟨0x1C, 1, 0x4, [0x0], none, .stat, [(F.FUS_LIM1_I_PEAK, .ro), (F.FUS_LIM1_I_SUS, .ro)]⟩,
  ⟨0x20, 1, 0x4, [0x0], none, .stat, [(F.FUS_EGR_CEIL_BURST, .ro), (F.FUS_EGR_CEIL_U, .ro)]⟩,
  ⟨0x24, 1, 0x4, [0x0], none, .stat, [(F.FUS_SECVER_COUNT, .ro)]⟩,
  ⟨0x28, 1, 0x4, [0x0], none, .stat, [(F.FUS_RMAP_CNT_FIELD, .ro), (F.FUS_RMAP_CNT_FACTORY, .ro)]⟩,
  ⟨0x2C, 1, 0x4, [0x0], none, .stat, [(F.FUS_STAT_RETRY, .ro), (F.FUS_STAT_SENSED, .ro)]⟩]
/-- The FUS block. -/
def fus : Block := ⟨0x12000000, 1, 0x0, 0x30, false, fusRegs⟩

/-- Registers of the LIC block (17_bringup.md Table 17.10). -/
def licRegs : List RegSpec := [
  ⟨0x0, 1, 0x4, [0x0], none, .stat, [(F.LIC_HELD_HELD, .ro)]⟩,
  ⟨0x4, 1, 0x4, [0x0], none, .stat, [(F.LIC_EFFECT_EFFECT, .ro)]⟩,
  ⟨0x8, 1, 0x4, [0x0], none, .stat, [(F.LIC_BAD_BAD, .ro)]⟩]
/-- The LIC block. -/
def lic : Block := ⟨0x12001000, 1, 0x0, 0x10, false, licRegs⟩

/-- Registers of the FLT block (18_faults.md Table 18.12). -/
def fltRegs : List RegSpec := [
  ⟨0x0, 1, 0x4, [0x0], none, .ctl, [(F.FLT_CTL_CLR_CNT, .wo), (F.FLT_CTL_PANIC, .wo)]⟩,
  ⟨0x4, 1, 0x4, [0x8000000A], none, .ctl, [(F.FLT_WDT_EN, .rw), (F.FLT_WDT_MS, .rw)]⟩,
  ⟨0x8, 1, 0x4, [0x0], none, .stat, [(F.FLT_STAT_RECOVERING, .ro), (F.FLT_STAT_REASON, .ro), (F.FLT_STAT_SINK, .ro), (F.FLT_STAT_QDEPTH, .ro)]⟩,
  ⟨0xC, 1, 0x4, [0x0], none, .ctl, [(F.FLT_SEQ_SEQ, .rw)]⟩,
  ⟨0x10, 1, 0x4, [0x0], none, .ctl, [(F.FLT_DRAIN_N, .wo)]⟩,
  ⟨0x14, 1, 0x4, [0x0], none, .cnt 1, [(F.FLT_LOST_LOST, .ro)]⟩,
  ⟨0x18, 1, 0x4, [0x0], none, .stat, [(F.FLT_RECOV_LAST_MS, .ro), (F.FLT_RECOV_COUNT, .ro)]⟩,
  ⟨0x400, 4096, 0x4, [0x0], none, .stat, [(F.FLT_REC_WORD, .ro)]⟩]
/-- The FLT block. -/
def flt : Block := ⟨0x10004000, 1, 0x0, 0x4400, true, fltRegs⟩

/-- Registers of the GDL block (18_faults.md Table 18.12). -/
def gdlRegs : List RegSpec := [
  ⟨0x0, 1, 0x4, [0x0], none, .ctl, [(F.GDL_CTL_CLR_CNT, .wo), (F.GDL_CTL_GO, .wo)]⟩,
  ⟨0x4, 1, 0x4, [0x0], none, .ctl, [(F.GDL_STAT_STATIONS, .ro), (F.GDL_STAT_RX_VALID, .w1c), (F.GDL_STAT_TX_BUSY, .ro), (F.GDL_STAT_ON_REF, .ro)]⟩,
  ⟨0x10, 7, 0x4, [0x0], none, .ctl, [(F.GDL_TX_WORD, .rw)]⟩,
  ⟨0x30, 7, 0x4, [0x0], none, .stat, [(F.GDL_RX_WORD, .ro)]⟩,
  ⟨0x50, 1, 0x4, [0x0], none, .stat, [(F.GDL_PRESENT_LO_PRESENT, .ro)]⟩,
  ⟨0x54, 1, 0x4, [0x0], none, .stat, [(F.GDL_PRESENT_HI_PRESENT, .ro)]⟩,
  ⟨0x58, 1, 0x4, [0x0], none, .cnt 1, [(F.GDL_ERR_CNT_CRC, .ro), (F.GDL_ERR_CNT_TMO, .ro)]⟩,
  ⟨0x5C, 1, 0x4, [0x0], none, .cnt 1, [(F.GDL_TUNNEL_CNT_TX, .ro), (F.GDL_TUNNEL_CNT_RX, .ro)]⟩]
/-- The GDL block. -/
def gdl : Block := ⟨0x10009000, 1, 0x0, 0x100, true, gdlRegs⟩

end Blk

/-- Every block of the Surveyor address map. -/
def blocks : List Block := [Blk.dat, Blk.lnt, Blk.gal, Blk.int, Blk.egr, Blk.msh, Blk.pcl, Blk.dns, Blk.trv, Blk.grp, Blk.stk, Blk.scp, Blk.hst, Blk.mbx, Blk.lck, Blk.pwr, Blk.tel, Blk.clk, Blk.fus, Blk.lic, Blk.flt, Blk.gdl]

/-- The instance of a block that an address falls in, and the offset there. -/
def Block.locate (b : Block) (a : Nat) : Option (Nat × Nat) :=
  if a < b.base then none
  else
    let d := a - b.base
    if b.n ≤ 1 then (if d < b.size then some (0, d) else none)
    else
      let i := d / b.stride
      let o := d % b.stride
      if i < b.n ∧ o < b.size then some (i, o) else none

/-- The element of a register array that an offset names. -/
def RegSpec.locate (r : RegSpec) (o : Nat) : Option Nat :=
  if o < r.off then none
  else
    let d := o - r.off
    if r.n ≤ 1 then (if d = 0 then some 0 else none)
    else if d % r.stride = 0 ∧ d / r.stride < r.n then some (d / r.stride) else none

/-- The first answer of a function over a list. -/
def firstSome {α β : Type} (f : α → Option β) : List α → Option β
  | [] => none
  | x :: t => match f x with
    | some y => some y
    | none => firstSome f t

/-- A register found at an address. -/
structure RegAt where
  block : Block
  inst : Nat
  spec : RegSpec
  idx : Nat

/-- The register that sits at a Surveyor address, if the map has one there. -/
def regAt (a : Nat) : Option RegAt :=
  firstSome (fun b => match b.locate a with
    | none => none
    | some (i, o) => firstSome (fun r => (r.locate o).map (fun j => ⟨b, i, r, j⟩)) b.regs) blocks

/-- The reset value of the `j`-th register of an array. -/
def RegSpec.resetAt (r : RegSpec) (j : Nat) : Word := BitVec.ofNat 32 (r.resets.getD j (r.resets.getLastD 0))

/-- The reset value of the register at an address (Tables 1.6 to 19.12), 0 where there is none. -/
def resetAt (a : Nat) : Word := match regAt a with
  | none => 0
  | some r => r.spec.resetAt r.idx

end Sys2Proof.Machine
end

