-- ==== Sys2Proof/Machine/State/Datum.lean ====
section
/-!
DEFINITION. State of the Datum block (01_time_and_datum.md). Times are in units of 10 ns, as DAT's period registers are.
-/
namespace Sys2Proof.Machine

/-- Time states of Table 1.2. -/
inductive TimeSt where
  | free | acquire | slew | locked | holdover | follow
deriving DecidableEq, Repr

/-- The code of a time state (Table 1.2). -/
def TimeSt.code : TimeSt → Nat
  | .free => 0 | .acquire => 1 | .slew => 2 | .locked => 3 | .holdover => 4 | .follow => 5

/-- The Datum block. `entryQual` is the quality held on entry to ACQUIRE and SLEW; `qual` is the code latched for the current tick;
`err` is the phase error still to be corrected (turn later than its target is positive); `recent` lists the
periods whose mean the grid follows, `seen` the last 8 valid periods; `projected` is the edge from which HOLDOVER projects the held
period (R109). -/
structure Datum where
  st : TimeSt := .free
  entryQual : Nat := 2
  qual : Nat := 2
  reason : Nat := 0
  stepPend : Bool := false
  accept : Bool := false
  pend : Option Nat := none
  tick : Nat := 0
  period : Nat := 0
  tperiod : Nat := 100000
  lastMeasured : Option Nat := none
  lastValid : Option Nat := none
  lastAnchor : Option Nat := none
  projected : Option Nat := none
  recent : List Nat := []
  seen : List Nat := []
  run : List Nat := []
  held : Option Nat := none
  edges : Nat := 0
  err : Int := 0
  lastTurn : Nat := 0
  turnLen : Nat := 100000
deriving DecidableEq, Repr

end Sys2Proof.Machine
end

