-- ==== Sys2Proof/Machine/State/Gallery.lean ====
section
/-!
DEFINITION. State of a Gallery: event engine, tally unit, Compass unit, Leveler, erase engine, and its Dense Plane
(02, 04, 05, 07, 08, 09 of spec/). Plain data; registers stand in the register bank.
-/
namespace Sys2Proof.Machine

/-- Gallery states of Table 5.2 (R154). -/
inductive GalSt where
  | empty | loading | loaded | run | stopping | faulted
deriving DecidableEq, Repr

/-- The code of a Gallery state. -/
def GalSt.code : GalSt → Nat
  | .empty => 0 | .loading => 1 | .loaded => 2 | .run => 3 | .stopping => 4 | .faulted => 5

/-- An emission queue entry: the neuron, its model, and the graded payload held from the fire (Table 5.1, Table 5.4). -/
structure EmEntry where
  neuron : Nat
  model : Nat
  payload : Nat
deriving DecidableEq, Repr

/-- A cold fetch slot: the event in fan-out, the stack address of the unit awaited, the words of the list still to come, and whether its
request holds an entry of its parcel's stack pool (R163, R164, R185, R198). -/
structure ColdFetch where
  ev : BitVec 64
  addr : Nat
  left : Nat
  asked : Bool := true
deriving DecidableEq, Repr

/-- What a mesh message carries (Table 6.2): an event on VN-S; on VN-Q a job submission, or a plane's read of a chunk of a row that a staging
slot holds; on VN-P a job response, or the chunk; a VN-M access. -/
inductive Freight where
  | event (ev : BitVec 64)
  | submit (q : JobFlit)
  | read (plane tag : Nat) (ref : BitVec 64) (row chunk : Nat)
  | answer (a : JobAnswer) (code : Fin 8)
  | data (gallery tag : Nat) (ref : BitVec 64) (row : Nat) (bytes : List Byte)
  | access
deriving DecidableEq, Repr

/-- A mesh message: PARCEL of its sideband, the node it is bound for, what it carries (R180, R181). -/
structure MeshMsg where
  parcel : Nat
  dst : Nat
  body : Freight
deriving DecidableEq, Repr

/-- An open tally: its key and the two counters of each of its 16 cells (R234). -/
structure OpenTally where
  key : BitVec 32
  a : List Nat
  b : List Nat
deriving DecidableEq, Repr

/-- A closed tally (Table 8.1). -/
structure Tally where
  key : BitVec 32
  sig : BitVec 32
  feats : List Byte
deriving DecidableEq, Repr

/-- A row on its way to an expert: its features, the candidates still to try (the current one first), and the port it came from
when the tally was formed here (R238, R245, R252). -/
structure ExpRow where
  feats : List Byte
  cands : List Nat
  port : Option Nat
deriving DecidableEq, Repr

/-- An open batch (R246). -/
structure Batch where
  expert : Nat
  rows : List ExpRow
deriving DecidableEq, Repr

/-- A staging slot in use: its tag and reference, its rows, the plane it was submitted to, whether the answer has come, the operand reads
still to serve (R218, R248). -/
structure Staging where
  tag : Nat
  ref : BitVec 64 := 0
  rows : List ExpRow
  plane : Nat
  job : Nat
  answered : Bool
  reads : Nat
deriving DecidableEq, Repr

/-- A train context (R252). -/
structure TrainCtx where
  chip : Nat
  gallery : Nat
  next : Nat
  rem : Nat
  cands : List Nat
  feats : List Byte
deriving DecidableEq, Repr

/-- Settings of EXPERT_SET_BEARING that wait for the period end: the period in ms, and the rest (R255, Table 8.4). -/
structure BearCfg where
  ms : Nat
  step : Nat
  tol : Nat
  lshift : Nat
  en : Bool
deriving DecidableEq, Repr

/-- The Compass unit. `dead`: the sources of trains that were discarded before their last part (R252); `ms`: the Bearing period in force, in
ms (R255). -/
structure Compass where
  queue : List Tally := []
  rows : List ExpRow := []
  batches : List Batch := []
  staging : List Staging := []
  trains : List TrainCtx := []
  dead : List (Nat × Nat) := []
  ms : Nat := 100
  fwd : List (BitVec 64) := []
  refs : List (BitVec 64) := []
  reports : List (Nat × Nat) := []
  collecting : Bool := false
  nextCfg : Option BearCfg := none
  nextRef : BitVec 64 := 0
deriving DecidableEq, Repr

/-- What an epoch end latched for its sweep: reward, frozen candidate pairs, epochs it stands for, the tick of the marker (R271, R284,
R289). -/
structure Sweep where
  reward : Int
  cands : List (Nat × Nat)
  epochs : Nat
  mark : Nat
deriving DecidableEq, Repr

/-- A synapse that pass B is to scale: its word index, its weight, its code, and the bounds of its target's profile (R279). -/
structure Scale where
  word : Nat
  weight : Int
  code : Nat
  lo : Int
  hi : Int
deriving DecidableEq, Repr

/-- A pass B under way on the Dense path: the synapses not yet submitted, the batches in the plane's queue with their references, oldest
first, and whether the Dense path has served one (R280, R281). -/
structure PassB where
  todo : List Scale
  sent : List (BitVec 64 × List Scale)
  served : Bool
deriving DecidableEq, Repr

/-- The Leveler. -/
structure Leveler where
  x : BitVec 32 := 1
  ring : Vector (Option (Nat × Nat)) 16 := Vector.replicate 16 none
  ringPos : Nat := 0
  cands : List (Nat × Nat) := []
  running : Option Sweep := none
  waiting : List Sweep := []
  nextEpoch : Option Nat := none
  passB : Option PassB := none
  nextRef : BitVec 64 := 0
deriving DecidableEq, Repr

/-- A Gallery. State words and axon entries carry their written bit themselves; bit 32 of a synapse entry is its written bit; ring
slots and occupancy bits are keyed slot × 131,072 + neuron, and `ringInit` says that pass 2 has written them all (R85). `bad` lists the
words that hold an ECC error, `node` the input buffers of the mesh node (port × 5 + lane: ports west, east, other row and own Gallery, lanes
SA, SB, VN-Q, VN-P, VN-M), `posts` the messages of the Gallery's units that wait for room in the node, `robin` and `passed` the place of each
output's round robin and the slots for which it passed each network over (output × 4 + network in order of precedence; R182); `wakeSlots`
events that wait for a sleeping Gallery, with their sub-queue; `scanPos` the neuron each model's scanner served last; `resume` the tick count
saved at entry to retention while the resume sweep is due (R177). -/
structure Gal where
  st : GalSt := .empty
  cfgBusy : Bool := false
  state : SMap (BitVec 64) := []
  axons : SMap (BitVec 64) := []
  syn : SMap (BitVec 33) := []
  ringInit : Bool := false
  ring : SMap (BitVec 16) := []
  occ : SMap Bool := []
  rail : List (BitVec 64) := []
  mesh : List (BitVec 64) := []
  rel : List (BitVec 64) := []
  loop : List (BitVec 64) := []
  turn : Nat := 0
  delayQ : List (Nat × BitVec 64) := []
  emitQ : List EmEntry := []
  emitToggle : Bool := false
  scanPos : Vector Nat 16 := Vector.replicate 16 131071
  cold : List ColdFetch := []
  wakeSlots : List (Nat × BitVec 64) := []
  resume : Option Nat := none
  sweepBusy : Bool := false
  sweepOverdue : Bool := false
  settled : Nat := 0
  sweepStart : Nat := 0
  sink : Bool := false
  eraseQ : List Nat := []
  fence : BitVec 16 := 0
  neuUe : List (Nat × Nat) := []
  bankUe : List (Nat × Nat) := []
  bad : List EccErr := []
  node : Vector (List MeshMsg) 20 := Vector.replicate 20 []
  posts : List MeshMsg := []
  robin : Vector Nat 16 := Vector.replicate 16 0
  passed : Vector Nat 16 := Vector.replicate 16 0
  tallies : List OpenTally := []
  cmp : Compass := {}
  lrn : Leveler := {}
deriving DecidableEq, Repr

/-- Who submitted a job (R217, R247): the own Compass unit, the tally unit's embedding, the Leveler with its batch's reference, the count
window, or a Compass unit over VN-Q with its chip, its staging tag and reference. -/
inductive JobSrc where
  | compass
  | embed
  | leveler (ref : BitVec 64)
  | window
  | remote (chip gallery tag : Nat) (ref : BitVec 64)
deriving DecidableEq, Repr

/-- A queued job: descriptor, rows, operand elements of each row (one byte each), chunk reads still awaited, who sent it, the steps of its chain run. -/
structure Job where
  desc : Nat
  n : Nat
  rows : List (List Byte)
  reads : Nat
  src : JobSrc
  chain : Nat
deriving DecidableEq, Repr

/-- A weight buffer's tag (R212). -/
structure WTag where
  wsrc : Nat
  wbase : Nat
  mode : Nat
  kt : Nat
  nt : Nat
deriving DecidableEq, Repr

/-- A weight buffer. -/
structure WBuf where
  tag : Option WTag := none
  bytes : List Byte := []
deriving DecidableEq, Repr

/-- A Dense Plane. `outEvents` are events of the output buffer that have not left. -/
structure Plane where
  queue : List Job := []
  running : Option Job := none
  bufs : Vector WBuf 2 := Vector.replicate 2 {}
  lastBuf : Fin 2 := 0
  counts : SMap Nat := []
  outEvents : List (BitVec 64) := []
deriving DecidableEq, Repr

end Sys2Proof.Machine
end

