-- ==== Sys2Proof/Machine/State/Store.lean ====
section
/-!
DEFINITION. State of the memory stacks' controllers, the scratchpad and the march engine (11_memories.md). The bytes themselves stand
in the state's memory; the registers in the register bank.
-/
namespace Sys2Proof.Machine

/-- Stack training states (Table 11.3). -/
inductive StkSt where
  | absent | off | phyinit | ident | lane | cal | verify | ready | failed
deriving DecidableEq, Repr

/-- The code of a stack state (Table 11.3). -/
def StkSt.code : StkSt → Nat
  | .absent => 0 | .off => 1 | .phyinit => 2 | .ident => 3 | .lane => 4 | .cal => 5 | .verify => 6 | .ready => 7 | .failed => 8

/-- A stack's training record in the Ledger (R340): device ID, lane repairs, calibration settings and retired pseudo-channels. -/
structure StkRec where
  devId : Nat
  repairs : List Nat := []
  settings : List Nat := []
  pcs : BitVec 32
deriving DecidableEq, Repr

/-- A request that a stack node has taken, and the region that admitted it (R337, R356). -/
structure StkReq where
  acc : StackAccess
  region : Fin 16
deriving DecidableEq, Repr

/-- A stack controller. `fast` tells the calibration path, `again` that LANE to VERIFY are being repeated on the full path (R339);
`ces` lists correctable errors as (page, time), `ues` uncorrectable ones by page; `pages` the retired pages with the pseudo-channel
each counts for; `col` and `sys` the requests that wait at the node's two ports, `lastSys` which port was served last (R337); `fills` when
the watermark of each region was last set, from which its fill goes on (R345); `repairs` and `settings` what LANE and CAL applied (R340);
`caErrs` the command/address parity errors (Table 11.1). -/
structure Stack where
  st : StkSt := .absent
  devId : Nat := 0
  fast : Bool := false
  again : Bool := false
  temp : Nat := 0
  double : Bool := false
  nextBank : Fin 64 := 0
  bgPos : Nat := 0
  ces : List (Nat × Nat) := []
  ues : List Nat := []
  pages : List (Nat × Nat) := []
  col : List StkReq := []
  sys : List StkReq := []
  lastSys : Bool := false
  fills : Vector Nat 16 := Vector.replicate 16 0
  repairs : List Nat := []
  settings : List Nat := []
  caErrs : Nat := 0
deriving DecidableEq, Repr

/-- The scratchpad beside its bytes: written lines, poisoned words (byte offsets), uncorrectable errors by bank, the bank being
copied into the spare and the accesses that wait for it. -/
structure Scratch where
  written : SMap Bool := []
  poison : List Nat := []
  ues : List Nat := []
  copying : Option Nat := none
  waiting : List ScpAccess := []
  bgPos : Nat := 0
deriving DecidableEq, Repr

/-- The march engine's running target and form. -/
structure March where
  target : Nat
  preserve : Bool
deriving DecidableEq, Repr

end Sys2Proof.Machine
end

