-- ==== Sys2Proof/Machine/State/Host.lean ====
section
/-!
DEFINITION. State of the host interface, the fault collector, the Guideline ring, the power sequencer, the clocks, the start
sequence and the Ledger (12, 13, 15, 16, 17, 18 of spec/). Plain data; the registers stand in the register bank.
-/
namespace Sys2Proof.Machine

/-- Status codes of Table 13.2 (R398). -/
inductive Status where
  | ok | refused | busy | acquiredBroken | notLicensed | darkViolation | dmaError | interrupted | unknownOpcode
  | ledgerError | faulted | timeout
deriving DecidableEq, Repr

/-- The code of a status (Table 13.2). -/
def Status.code : Status → Nat
  | .ok => 0 | .refused => 1 | .busy => 2 | .acquiredBroken => 3 | .notLicensed => 4 | .darkViolation => 5 | .dmaError => 6
  | .interrupted => 7 | .unknownOpcode => 8 | .ledgerError => 9 | .faulted => 10 | .timeout => 11

/-- A completion waiting to be written (Table 12.10): the command's echo, its status and its results. -/
structure Cpl where
  opcode : Nat
  tag : Nat
  idx : Nat
  notify : Bool
  status : Status
  result0 : BitVec 64
  result1 : BitVec 64
  detail : BitVec 32
  orphan : Bool := false
deriving DecidableEq, Repr

/-- A fault record of Table 18.6, less its CRC, which is formed when the record is read out (R503). -/
structure FltRec where
  seq : Nat
  session : Nat
  ptime : Nat
  tick : Nat
  cls : Nat
  code : Nat
  sev : Nat
  flags : Nat
  parcel : Nat
  unit : Nat
  chip : Nat
  count : Nat
  index : Nat
  arg0 : Nat
deriving DecidableEq, Repr

/-- A Guideline frame without its CRC (Table 18.4). -/
structure GdlFrame where
  dst : Nat
  src : Nat
  op : Nat
  payload : List Byte
deriving DecidableEq, Repr

/-- What leaves the device. The outbox is the model's own record of it, newest first; `addr` is an address in host memory (R373, R374). -/
inductive Output where
  | cmdFetch (f : Func) (addr : Nat)
  | cplEntry (f : Func) (index addr : Nat) (entry : BitVec 256)
  | statusBlock (f : Func) (addr cmdCi cplPi resPi ntcPend mirState : Nat)
  | msix (f : Func) (vec : Nat)
  | buffer (tag : Nat) (data : List Byte)
  | record (f : Func) (index addr : Nat) (entry : BitVec 128)
  | barData (f : Func) (data : List Byte)
  | barDone (f : Func)
  | barError (f : Func)
  | lockWord (owner : Nat) (word : BitVec 32)
  | gdlFrame (fr : GdlFrame)
  | seamCredit (port : Nat)
  | flit (link : Nat) (chan : Nat) (data : List Byte)
  | superblock (link : Nat) (lanes : List (Nat × List Byte))
  | laneMarker (link : Nat)
  | ident (link : Nat) (rec : IdentRec)
  | keyx (link : Nat) (key : KeyRec)
  | trunkEvent (link : Nat) (ev : BitVec 64)
  | smbus (data : List Byte)
  | smbusNak
  | memData (req : Requester) (data : List Byte) (poisoned : Bool)
  | memError (req : Requester)
  | memDone (req : Requester)
  | refresh (stack bank : Nat)
  | refreshAll (stack : Nat)
  | tdo (bits : List Bool)
  | tunnel (chip : Nat) (fr : GdlFrame)
  | jobAnswer (chip gallery tag code : Nat)
  | operandRead (chip gallery tag row chunk : Nat)
  | march (target : Nat)
  | groupMsg (chip : Nat) (body : GrpBody)
deriving DecidableEq, Repr

/-- Ring states of Table 12.12 (R382). -/
inductive RingSt where
  | off | active | quiescing | error
deriving DecidableEq, Repr

/-- The code of a ring state (Table 12.12). -/
def RingSt.code : RingSt → Nat
  | .off => 0 | .active => 1 | .quiescing => 2 | .error => 3

/-- A command that the ring engine has fetched and the firmware has not started (R376). `orphan`: its rings have been quiesced
since, so its completion will be discarded (Table 12.12); `ord`: its place in the order of all fetches (R377). -/
structure Fetched where
  idx : Nat
  desc : BitVec 512
  orphan : Bool := false
  ord : Nat := 0
deriving DecidableEq, Repr

/-- Where a site memory command stands (R289 to R291): a save waits for sweeps, writes to the Ledger, or reads the partner's directory, writes the
image, reads it back and rewrites the directory; a restore finds the image by the directory and reads it twice. -/
inductive SiteStep where
  | sweeps | ledger | dirRead | write | readBack | dirWrite | find | first | second
deriving DecidableEq, Repr

/-- Whether a step belongs to a save. -/
def SiteStep.ofSave : SiteStep → Bool
  | .find | .first | .second => false
  | _ => true

/-- A site memory command in progress: its parcel, destination or source, whether the Ledger takes the write, the sealed image of a save, the
instant a Ledger write ends; the partner's directory, the image slot, the units done in this step, the tag of the request that is out, and the bytes
read. -/
structure SiteJob where
  parcel : Fin 8
  step : SiteStep
  dest : Nat
  ledgerOk : Bool := true
  image : List Byte := []
  ends : Nat := 0
  directory : List Byte := []
  slot : Nat := 0
  units : Nat := 0
  tag : Option Nat := none
  got : List Byte := []
deriving DecidableEq, Repr

/-- What a started command waits for before it completes. -/
inductive Wait where
  | runStop (q : Fin 8)
  | recover (q : Fin 8) (galleries : List (Fin 8))
  | memTest (target : Nat)
  | memFill (s : Fin 4) (r : Nat)
  | power (dom : Nat)
  | dense
  | tap (issuer : Issuer) (idx : Nat)
  | site (j : SiteJob)
  | form
deriving DecidableEq, Repr

/-- A command in progress that waits on the device. -/
structure Started where
  issuer : Issuer
  idx : Nat
  desc : BitVec 512
  wait : Wait
  orphan : Bool := false
deriving DecidableEq, Repr

/-- A pending notice of one kind: occurrences and the latest argument (R380). -/
structure Notice where
  kind : Nat
  count : Nat
  arg : BitVec 64
deriving DecidableEq, Repr

/-- One function's three rings (R373 to R385). -/
structure Rings where
  st : RingSt := .off
  reason : Nat := 0
  quiesced : Bool := true
  flr : Bool := false
  resetOnOff : Bool := false
  cmdPi : BitVec 32 := 0
  cmdCi : BitVec 32 := 0
  cplPi : BitVec 32 := 0
  cplCi : BitVec 32 := 0
  resPi : BitVec 32 := 0
  resCi : BitVec 32 := 0
  fetched : List Fetched := []
  done : List Cpl := []
  notices : List Notice := []
  cplUnsignalled : Nat := 0
  resUnsignalled : Nat := 0
  d3 : Bool := false
deriving DecidableEq, Repr

/-- The host-attach path's commands (R386). -/
structure Attach where
  waiting : List Fetched := []
  fetched : List Fetched := []
  done : List Cpl := []
deriving DecidableEq, Repr

/-- The HOST domain beside the rings: MSI-X tables and pending bits (key: function × 64 + vector), the PF's vectors for VF events,
link and SR-IOV state (`linkAt` is when the link that a reset took down is up again), and how many commands have been fetched (R377). -/
structure HostIf where
  rings : Vector Rings 9 := Vector.replicate 9 {}
  attach : Attach := {}
  started : List Started := []
  msix : SMap (BitVec 128) := []
  pba : SMap Bool := []
  vfVec : Vector Nat 8 := Vector.replicate 8 0
  linkUp : Bool := false
  linkAt : Option Nat := none
  vfEnable : Bool := false
  fetches : Nat := 0
deriving DecidableEq, Repr

/-- A hardware lock (R387 to R390); owner 0 is none. -/
structure Lock where
  owner : Nat := 0
  life : Nat := 0
  broken : Bool := false
deriving DecidableEq, Repr

/-- The fault collector (R500 to R502): undrained records, oldest first; whether the sequence counter has been loaded; whether the next
record carries AFTER_LOST; each station's last FAULT frame of a code (station, code, time) and the occurrences held back (R498). -/
structure Faults where
  recs : List FltRec := []
  numbered : Bool := false
  afterLost : Bool := false
  sent : List (Nat × Nat × Nat) := []
  held : List (Nat × FltRec) := []
deriving DecidableEq, Repr

/-- An outstanding Guideline request, its originator: 0 Warden, 1 Surveyor. -/
structure GdlReq where
  by_ : Nat
  dst : Nat
deriving DecidableEq, Repr

/-- The Guideline ring: bypassed stations, halted stations (Table 18.5), CRC failures of each station with their times, outstanding
requests. -/
structure Guideline where
  bypassed : List Nat := []
  halted : List Nat := []
  crcFails : List (Nat × Nat) := []
  reqs : List GdlReq := []
deriving DecidableEq, Repr

/-- Power-domain states (Table 15.11). -/
inductive DomSt where
  | on | retained | off | entering | waking | held
deriving DecidableEq, Repr

/-- The code of a domain state. -/
def DomSt.code : DomSt → Nat
  | .on => 0 | .retained => 1 | .off => 2 | .entering => 3 | .waking => 4 | .held => 5

/-- The entry record that SAVE writes into the save memory (R433). -/
structure EntryRec where
  tick : Nat
  ptime : Nat
  target : Nat
  why : Nat
deriving DecidableEq, Repr

/-- One power domain (R425, R426). `prior` is the state that the running entry or wake began in (0 on, 1 retention, 2 off); `policy` is
true on demand. -/
structure Dom where
  st : DomSt := .off
  stage : Nat := 0
  reason : Nat := 0
  policy : Bool := false
  target : Nat := 0
  prior : Nat := 2
  wakeEvent : Bool := false
  drained : Bool := false
  entry : Option EntryRec := none
deriving DecidableEq, Repr

/-- Who asked for a power request (R433): a command in progress, an idle timer, or the firmware. -/
inductive PwrAsker where
  | command
  | idleTimer
  | firmware
deriving DecidableEq, Repr

/-- The sequencer's running request set (R427, R435 to R439): the domains still to lower, the next one first; those lowered, the latest
first; a refusal (domain, reason) while the domains of the set wake again. -/
structure ReqSet where
  named : Nat
  target : Nat
  by_ : PwrAsker
  todo : List Nat
  lowered : List Nat
  refusal : Option (Nat × Nat) := none
deriving DecidableEq, Repr

/-- The power sequencer, the limits and the telemetry that no register holds: the running request set and those queued (R427); the cap
set by the host; the last package readings of the cap loop and the milliseconds below 90 % of the cap (R446); the limiter's rules (R445,
R447); the planes that skip the next job slot; the domains whose regulator step from off has begun, and those whose wake from off waits for
one, in order (R431); the Surveyor's writes, address and value, that wait for a domain's wake at the management node (R432). -/
structure Power where
  doms : Vector Dom 36
  req : Option ReqSet := none
  queue : List (Nat × Nat × PwrAsker) := []
  capSet : Nat := 0
  history : List Nat := []
  below : Nat := 0
  secondSlot : Bool := false
  stopJobs : Bool := false
  hotSlot : Bool := false
  slotSkip : BitVec 8 := 0
  throttledMs : Bool := false
  ramps : List Nat := []
  rampQ : List Nat := []
  writes : List (Nat × BitVec 32) := []
deriving DecidableEq, Repr

/-- One clock monitor (R456, R457): windows in a row in band and out of band, whether its clock is judged stable, whether the clock
relocks, when it last failed. -/
structure Monitor where
  good : Nat := 0
  bad : Nat := 0
  stable : Bool := false
  relock : Bool := false
  lastFail : Option Nat := none
deriving DecidableEq, Repr

/-- A running Dense clock change (Table 16.5). -/
structure DenseChg where
  target : Nat
  old : Nat
  byHost : Bool
deriving DecidableEq, Repr

/-- The clock state that no register holds: the monitors; the running Dense clock change; the clock last set (R452, R446); the hold on job
starts of a change, and that of a PLL-D that has failed twice (Table 16.3); whether DAT runs on PLL-S ÷ 10; a PLL-D spread that waits for
the change to end (R462); when the reference was lost. -/
structure Clocks where
  mons : Vector Monitor 30 := Vector.replicate 30 {}
  change : Option DenseChg := none
  setMhz : Nat := 400
  holdJobs : Bool := false
  fullOnly : Bool := false
  datOnPllS : Bool := false
  spreadWait : Option (BitVec 32) := none
  rcSince : Option Nat := none
deriving DecidableEq, Repr

/-- The fuses (Tables 17.6, 17.10). -/
structure Fuses where
  devid : BitVec 128
  part : Nat
  high : Bool
  railMode : Bool
  lab : Bool
  ports : BitVec 16
  links : BitVec 6
  stks : BitVec 4
  denseMhz : Nat
  capW : Nat
  iSus : Nat
  iPeak : Nat
  ceilU : Nat
  ceilBurst : Nat
  secver : Nat
  factory : List (BitVec 32)
deriving DecidableEq, Repr

/-- A firmware slot of the Ledger (R478, R482): the image the part was delivered with, or the 4 KiB pages that FW_WRITE has written. -/
inductive FwSlot where
  | delivered
  | pages (m : SMap (List Byte))
deriving DecidableEq, Repr

/-- The boot record (R479). -/
structure BootRec where
  confirmed : Fin 2 := 0
  trial : Option (Fin 2) := none
  seq : Nat := 0
deriving DecidableEq, Repr

/-- A link equalisation record (R311): partner, own link, partner port; the per-lane transmitter and receiver settings, the physical lane of each
logical one, the lane the spare replaces and the measured delay. -/
structure EqRec where
  partner : BitVec 128
  link : Nat
  pport : Nat
  settings : List (Nat × Nat) := []
  laneMap : List Nat := []
  badLane : Nat
  delay : Nat
deriving DecidableEq, Repr

/-- The coordinate kept for rejoining (R477). -/
structure Coord where
  x : Nat
  y : Nat
  z : Nat
  sx : Nat
  sy : Nat
  sz : Nat
  edge : Bool
deriving DecidableEq, Repr

/-- A stored site memory image (R288 to R290): its bytes. -/
structure SiteImage where
  bytes : List Byte
deriving DecidableEq, Repr

/-- The Ledger die: what survives every reset (Table 0.2). The boot record in force is the copy with the higher sequence number
(R479). `fwPartial` says that FW_WRITE has written since the last commit (R482). -/
structure Ledger where
  session : Nat := 0
  slots : Vector FwSlot 2 := #v[.delivered, .pages []]
  fwPartial : Bool := false
  bootCopies : Vector BootRec 2 := Vector.replicate 2 {}
  licences : Vector (Option (List Byte)) 6 := Vector.replicate 6 none
  ownerKey : Option (Nat × Nat) := none
  ownerLock : Bool := false
  serial : Nat := 0
  rmap : List (BitVec 32) := []
  log : List FltRec := []
  nextSeq : Nat := 0
  sites : Vector (Option SiteImage) 8 := Vector.replicate 8 none
  stackRecs : Vector (Option StkRec) 4 := Vector.replicate 4 none
  eqRecs : List EqRec := []
  coord : Option Coord := none
  linkRoles : Vector (Option Nat) 6 := Vector.replicate 6 none
deriving DecidableEq, Repr

/-- The start sequence's state in the Lantern domain (17_bringup.md). `coldPin` and `coldInternal` assert COLD_N; `inCold`: the cold
reset's start has not begun; `warmHeld`: WARM_N is in force and its start has not begun; `warmLatched`: a WARM_N held until stage 2
(R529); `resume`: the stage of a start that waits in FAILED CLOCK, `refOk` whether its reference is stable again; `slot`, `trial`,
`retried`, `imageLen`, `secver` of the running firmware; `sessionDue`: this session's number is not written yet; `warmAt`: when
DEVICE_WARM_RESET asserts WARM_N; `recoverAt`: when the running recovery was triggered. -/
structure Boot where
  coldPin : Bool := true
  coldInternal : Bool := false
  inCold : Bool := true
  warmHeld : Bool := false
  warmLatched : Bool := false
  resume : Option Nat := none
  refOk : Bool := false
  slot : Fin 2 := 0
  trial : Bool := false
  retried : Bool := false
  imageLen : Nat := 0
  secver : Nat := 0
  onlineAt : Option Nat := none
  sessionDue : Bool := true
  warmAt : Option Nat := none
  recoverAt : Nat := 0
  lab : Bool := false
  testMode : Bool := false
deriving DecidableEq, Repr

/-- The TAP's instructions (R531). -/
inductive JtagIr where
  | idcode | bypass | sample | extest
deriving DecidableEq, Repr

/-- The TAP and the straps (R531, R532, Table 19.7): whether TRST_N holds the TAP in reset, the instruction, the boundary values
preloaded; SMB_ADDR1 and SMB_ADDR0. -/
structure Pins where
  trst : Bool := true
  ir : JtagIr := .idcode
  boundary : List Bool := []
  straps : BitVec 2 := 0
deriving DecidableEq, Repr

end Sys2Proof.Machine
end

