-- ==== Sys2Proof/Machine/State/Intake.lean ====
section
/-!
DEFINITION. State of an intake port that no register holds (03_intake.md), and a spike tap of the Diagnostics group.
-/
namespace Sys2Proof.Machine

/-- Port states (Table 3.1). -/
inductive PortSt where
  | off | start | run | restart | retired
deriving DecidableEq, Repr

/-- The code of a port state (Table 3.1). -/
def PortSt.code : PortSt → Nat
  | .off => 0 | .start => 1 | .run => 2 | .restart => 3 | .retired => 4

/-- The shed governor's counts of the current tick (R116): events passed, offered and shed, tiles seen before the reserve, tiles taken
when the reserve opened, the round and the passes in it, and each tile's passes of the reserve. -/
structure Governor where
  passed : Nat := 0
  offered : Nat := 0
  shed : Nat := 0
  seen : List Nat := []
  act : Nat := 0
  rnd : Nat := 0
  k : Nat := 0
  cnt : SMap Nat := []
deriving DecidableEq, Repr

/-- An intake port: its state; the times of its losses of sync; the reference plane (pixel to level), the mode 3 hysteresis; the flicker
histogram (tile × 16 + bin to count) and the tiles' flagged bins; the output FIFO; the governor; the settings that wait for the next
tick turn; the next RAW line number; the Seam sequence, the thermal frame and its segments; credits of the sensor, packet buffers in use and when
the last packet ended (R107); whether the pipeline
runs on the fallback clock; the sequence number of the stream's next record (R141); the frame of the last THERMAL header (R24); when the
stream stopped, while its erasure runs (R133). -/
structure Port where
  st : PortSt := .off
  restarts : List Nat := []
  plane : SMap Nat := []
  hyst : BitVec 16 := 0
  hist : SMap Nat := []
  flags : SMap (BitVec 16) := []
  fifo : List (BitVec 64) := []
  gov : Governor := {}
  nextShed : Option (Nat × Nat × Nat × Nat × Nat) := none
  line : Nat := 0
  seq : Option Nat := none
  frame : Option Nat := none
  segs : BitVec 32 := 0
  credits : Nat := 0
  bufs : Nat := 0
  lastByte : Nat := 0
  fallback : Bool := false
  recSeq : Nat := 0
  syncFrame : Option Nat := none
  stoppedAt : Option Nat := none
deriving DecidableEq, Repr

/-- A spike tap (DIAG_TAP): the command that waits for it, its Gallery and neurons, the ticks left, how many records fit, the records,
and the fires not recorded. -/
structure Tap where
  issuer : Issuer
  idx : Nat
  tag : Nat
  gallery : Nat
  lo : Nat
  hi : Nat
  left : Nat
  room : Nat
  records : List (BitVec 64) := []
  missed : Nat := 0
deriving DecidableEq, Repr

end Sys2Proof.Machine
end

