-- ==== Sys2Proof/Machine/State/Link.lean ====
section
/-!
DEFINITION. State of a Traverse link and of the Survey group that no register holds (10_traverse_links.md).
-/
namespace Sys2Proof.Machine

/-- Link states (Table 10.8). -/
inductive LinkSt where
  | off | detect | ident | eq | align | verify | keyx | active | retrain | retired
deriving DecidableEq, Repr

/-- The code of a link state (Table 10.8). -/
def LinkSt.code : LinkSt → Nat
  | .off => 0 | .detect => 1 | .ident => 2 | .eq => 3 | .align => 4 | .verify => 5 | .keyx => 6 | .active => 7
  | .retrain => 8 | .retired => 9

/-- A received block whose TAG flit has come: the tag it carried, number, flits, events (R307). -/
structure RxBlock where
  tag : BitVec 128
  num : Nat
  flits : List (BitVec 160)
  events : List (BitVec 64)
deriving DecidableEq, Repr

/-- A Q request awaiting its response (R303): tag and type. -/
structure QReq where
  tag : Nat
  typ : Nat
deriving DecidableEq, Repr

/-- The keys of one training (R305): one AES-256 key and one 96-bit nonce for each direction. -/
structure LinkKeys where
  txKey : BitVec 256 := 0
  txNonce : BitVec 96 := 0
  rxKey : BitVec 256 := 0
  rxNonce : BitVec 96 := 0
deriving DecidableEq, Repr

/-- A link. Channels are numbered as VC: 0 S0, 1 S1, 2 Q, 3 P, 4 M. `sent`, `got` and `freed` are cumulative counts since ACTIVE: flits
sent, credits the partner has returned, flits this side has freed. `stale` counts the flits that stood in a receive buffer when the link
came into ACTIVE: freeing them returns no credit. `moved` says that IDENT found another partner than before while a group is formed. `priv` is the
ephemeral key of KEYX; `badLanes` the lanes that have failed in this training; `settings` the lanes' equalisation; `echoes` the ECHO exchanges done in
VERIFY. `superblock` holds the flit bytes of the superblock that is filling, `superblocks` counts those since the last alignment marker (R296). -/
structure Link where
  st : LinkSt := .off
  partner : Option IdentRec := none
  fast : Bool := false
  again : Bool := false
  retraining : Bool := false
  moved : Bool := false
  wasRetrain : Bool := false
  failCount : Nat := 0
  activeAt : Nat := 0
  replayTimes : List Nat := []
  keys : LinkKeys := {}
  priv : Nat := 0
  badLanes : BitVec 9 := 0
  settings : List (Nat × Nat) := []
  echoes : Nat := 0
  superblock : List Byte := []
  superblocks : Nat := 0
  txSeq : BitVec 8 := 0
  replay : List (BitVec 8 × BitVec 160) := []
  txEv : Vector (List (BitVec 64)) 2 := Vector.replicate 2 []
  txMsg : Vector (List (Bool × BitVec 128)) 3 := Vector.replicate 3 []
  txTags : List (BitVec 128) := []
  sent : Vector Nat 5 := Vector.replicate 5 0
  got : Vector Nat 5 := Vector.replicate 5 0
  freed : Vector Nat 5 := Vector.replicate 5 0
  stale : Vector Nat 5 := Vector.replicate 5 0
  txBlock : Nat := 0
  txFlits : List (BitVec 160) := []
  txCount : Nat := 0
  rxSeq : BitVec 8 := 0
  nak : Bool := false
  rxS : Vector (List (List (BitVec 64))) 2 := Vector.replicate 2 []
  rxAsm : Vector (List (BitVec 128)) 3 := Vector.replicate 3 []
  inbox : List LinkMsg := []
  rxBlock : Nat := 0
  rxFlits : List (BitVec 160) := []
  rxEvents : List (BitVec 64) := []
  rxClosed : List RxBlock := []
  rxCount : Nat := 0
  asked : List QReq := []
deriving DecidableEq, Repr

/-- The group's state beside its registers: whether a coordinate is set; the last marker's count and the instant of its turn; the turn
instant due, and a count to adopt at the turn; whether GROUP_RESYNC or a rejoin adopts the next marker's count; whether a follower slews
back; the time after which a FORMING chip gives up; the Galleries of the other chips' parcels, as (chip, slice, mask); the wires that other chips have
reported out of use, as (reporter, wire); BUSY answers in a row to this chip's group-lock claims. On a leader that forms its group: whether it awaits the
answers to discovery (1) or to the tables (2), the answers, and the chips that have taken their table. `asking`: a leader back from a reset awaits a
follower's count. -/
structure Group where
  coordSet : Bool := false
  marker : Option (Nat × Nat) := none
  turnAt : Option Nat := none
  adopt : Option Nat := none
  resync : Bool := false
  slewing : Bool := false
  deadline : Nat := 0
  homes : List (Nat × Nat × Nat) := []
  cuts : List (Nat × Nat × Nat) := []
  forming : Nat := 0
  replies : List PeerReply := []
  accepts : List Nat := []
  asking : Bool := false
  lockTries : Nat := 0
deriving DecidableEq, Repr

/-- An intake hub's trunk buffers (R190): outbound events with their parcel and Gallery, inbound events with their parcel; events
passed to the trunk. -/
structure Hub where
  out : List (Nat × Nat × BitVec 64) := []
  inb : List (Nat × BitVec 64) := []
  passed : Nat := 0
deriving DecidableEq, Repr

end Sys2Proof.Machine
end

