-- ==== Sys2Proof/Machine/State/Parcel.lean ====
section
/-!
DEFINITION. State of the parcels that no register holds (06_passage_mesh.md R199, 04_dark_zone.md, 14_atlas_images.md).
-/
namespace Sys2Proof.Machine

/-- Parcel states (Table 6.5). -/
inductive PclSt where
  | free | created | loaded | run | stopping
deriving DecidableEq, Repr

/-- The code of a parcel state (Table 6.5). -/
def PclSt.code : PclSt → Nat
  | .free => 0 | .created => 1 | .loaded => 2 | .run => 3 | .stopping => 4

/-- A record in the egress backlog: its 16 bytes, and the powered time it was admitted (R148). -/
structure BackRec where
  entry : BitVec 128
  at_ : Nat
deriving DecidableEq, Repr

/-- What the next LearningStatus record will say (R142, Table 4.7): Galleries that completed a sweep, epoch ends with the epochs each
stands for, synapses created and pruned, whether the Dense path served, whether a sweep overran. -/
structure LearnRep where
  gals : BitVec 8 := 0
  ends : List (Nat × Nat) := []
  created : Nat := 0
  pruned : Nat := 0
  dense : Bool := false
  overrun : Bool := false
deriving DecidableEq, Repr

/-- A parcel: its state; what its image left (digest, tick and tolerance, the Dense clock it needs, the ports it configures, the
Bearing period B in ms, the schemas of its record types); the sequence counts of its streams' and its own records; its backlog; and what the next
Heartbeat and LearningStatus will say. `schema` gives TYPE + 16 × stream of a source index. -/
structure Parcel where
  st : PclSt := .free
  digest : List Byte := []
  tickNs : Nat := 0
  tolPpm : Nat := 0
  mhz : Nat := 0
  imgPorts : BitVec 16 := 0#16
  bMs : Nat := 100
  schema : SMap Nat := []
  seq : Nat := 0
  backlog : List BackRec := []
  hbMtr : Nat := 0
  hbBl : Nat := 0
  hbErased : Bool := false
  learn : LearnRep := {}
  poolFull : Bool := false
deriving DecidableEq, Repr

end Sys2Proof.Machine
end

