-- ==== Sys2Proof/Machine/State/Dev.lean ====
section
/-!
DEFINITION. The device: every piece of state the spec names, and the state that COLD_N leaves (R21, Table 17.1).
-/
namespace Sys2Proof.Machine

/-- HI words latched by the read of a LO word (Tables 1.10, 12.6, 5.10, 15.11). -/
structure Latches where
  ptimeHi : Word := 0
  mirPtimeHi : Word := 0
  tickHi : Word := 0
  synHi : Vector Word 8 := Vector.replicate 8 0
  energyHi : Vector Word 36 := Vector.replicate 36 0
deriving DecidableEq, Repr

/-- The device. `clk` is powered time in units of 10 ns since the Lantern domain came up (R47); `freeCtr` counts the free values
drawn (the model's own); `outbox` records what left the device, newest first (the model's own). -/
structure Dev where
  regs : SMap Word := []
  clk : Nat := 0
  freeCtr : Nat := 0
  outbox : List Output := []
  fus : Fuses
  led : Ledger := {}
  boot : Boot := {}
  lat : Latches := {}
  host : HostIf := {}
  locks : Vector Lock 64 := Vector.replicate 64 {}
  flt : Faults := {}
  gdl : Guideline := {}
  dat : Datum := {}
  gals : Vector Gal 8 := Vector.replicate 8 {}
  planes : Vector Plane 8 := Vector.replicate 8 {}
  pcls : Vector Parcel 8 := Vector.replicate 8 {}
  links : Vector Link 6 := Vector.replicate 6 {}
  grp : Group := {}
  hubs : Vector Hub 4 := Vector.replicate 4 {}
  ports : Vector Port 16 := Vector.replicate 16 {}
  taps : List Tap := []
  stks : Vector Stack 4 := Vector.replicate 4 {}
  scp : Scratch := {}
  march : Option March := none
  pwr : Power
  clks : Clocks := {}
  pins : Pins := {}
deriving DecidableEq, Repr

/-- The fuses of a GN16-4R in field mode (Table 17.6). -/
def Fuses.gn164r : Fuses :=
  { devid := 1#128, part := 1, high := false, railMode := true, lab := false, ports := 0xFFFF#16, links := 0x3F#6, stks := 0xF#4,
    denseMhz := 1600, capW := 620, iSus := 800, iPeak := 960, ceilU := 256, ceilBurst := 64, secver := 0, factory := [] }

/-- Whether a domain's hardware is fitted (R6, R9). -/
def Fuses.domFitted (f : Fuses) (d : Nat) : Bool :=
  if 20 ≤ d ∧ d ≤ 23 then bits f.ports (4 * (d - 20) + 3) (4 * (d - 20)) != 0
  else if 24 ≤ d ∧ d ≤ 29 then bit f.links (d - 24)
  else if 31 ≤ d ∧ d ≤ 34 then bit f.stks (d - 31)
  else true

/-- A domain under cold reset: the on-only domains are on, an absent one is held, every other is off (R426, Table 15.1). -/
def Dom.cold (f : Fuses) (d : Nat) : Dom :=
  let pol := d == 1 || d == 3 || (4 ≤ d && d ≤ 19) || (31 ≤ d && d ≤ 34)
  if d = 0 ∨ d = 2 ∨ d = 35 then { st := .on, policy := false }
  else if f.domFitted d then { st := .off, policy := pol }
  else { st := .held, reason := 1, policy := pol }

/-- The device held in cold reset: what COLD_N leaves, the fuses and the Ledger apart: LNT_BOOT_CNT.COLD is 1 (R21,
Tables 17.1, 17.10). -/
def Dev.cold (f : Fuses) (l : Ledger) : Dev :=
  { regs := [(R.LNT_BOOT_CNT, 1)], fus := f, led := l, stks := Vector.ofFn fun s : Fin 4 => { st := if bit f.stks s.val then .off else .absent }, pwr := { doms := Vector.ofFn fun d : Fin 36 => Dom.cold f d.val, capSet := f.capW } }

end Sys2Proof.Machine
end

