-- ==== Sys2Proof/Machine/State/Memory.lean ====
section
/-!
DEFINITION. Addressed memory: the stacks and the scratchpad, as (address, byte) pairs in one canonical form.
Addresses are Surveyor addresses (R333, R351). A byte not listed reads as zero (R343, R352).
-/
namespace Sys2Proof.Machine

/-- Bytes of memory, in rising address order; a byte not listed is zero. -/
abbrev Mem := List Host.Cell

/-- The canonical form: addresses strictly rising, no listed zero byte. -/
def Memory.wf (m : Mem) : Bool := SMap.wf 0 m

/-- The byte at an address. -/
def Memory.readByte (m : Mem) (a : Nat) : Byte := SMap.get 0 m a

/-- Writes a byte, keeping the canonical form. -/
def Memory.writeByte (m : Mem) (a : Nat) (b : Byte) : Mem := SMap.set 0 m a b

/-- The `n` bytes from an address. -/
def Memory.read (m : Mem) (a n : Nat) : List Byte := (List.range n).map (fun i => Memory.readByte m (a + i))

/-- Writes bytes from an address. -/
def Memory.write (m : Mem) (a : Nat) : List Byte → Mem
  | [] => m
  | b :: t => Memory.write (Memory.writeByte m a b) (a + 1) t

/-- Every byte in `lo ≤ a < hi` reads as zero. -/
def Memory.zero (m : Mem) (lo hi : Nat) : Mem := SMap.clearRange m lo hi

end Sys2Proof.Machine
end

