-- ==== Sys2Proof/Machine/State.lean ====
section
/-!
DEFINITION. The state of the block: the device, its addressed memory, and the queue of waiting commands; why a step can stop.
-/
namespace Sys2Proof.Machine

/-- Why a step stops with a fault. -/
inductive Fault where
  /-- REGISTER_WRITE names an address at which the register map has no register. Safe: the model stops where the spec gives no
  effect. -/
  | unmappedRegister (addr : Nat)
deriving DecidableEq, Repr

/-- Why a step has no meaning. -/
inductive Refusal where
  /-- The command's meaning is not modelled yet. Safe. -/
  | notModelled (mnemonic : String)
deriving DecidableEq, Repr

/-- The block: the device, the bytes of its stacks and scratchpad, and the commands that wait, first in first out. -/
structure State where
  dev : Dev
  mem : Mem
  pending : List Instr
deriving DecidableEq, Repr

/-- The device with its memory. -/
structure Mach where
  dev : Dev
  mem : Mem

/-- The state with an operation done on its device and memory. -/
def State.onMach (s : State) (g : Mach → Mach) : State :=
  let m := g { dev := s.dev, mem := s.mem }
  { s with dev := m.dev, mem := m.mem }

/-- The state with an operation done on its device. -/
def State.onDev (s : State) (g : Dev → Dev) : State := { s with dev := g s.dev }

/-- A GN16-4R in field mode, held in cold reset, with empty memory and no command waiting (R21, Table 17.1). -/
def State.reset : State := { dev := Dev.cold Fuses.gn164r {}, mem := [], pending := [] }

end Sys2Proof.Machine
end

