-- ==== Sys2Proof/Machine/Ops.lean ====
section
/-!
DEFINITION. Named operations over the register bank, the clock, the outbox and the free values.
-/
namespace Sys2Proof.Machine

/-- The outcome of a command that acts on the device alone. -/
def devStep (s : State) (g : Dev → Dev) : Host.Outcome State Fault Refusal := .next (s.onDev g)

/-- The outcome of a command that acts on the device and its memory. -/
def memStep (s : State) (g : Mach → Mach) : Host.Outcome State Fault Refusal := .next (s.onMach g)

/-- The word the register bank holds at an address. -/
def Dev.reg (d : Dev) (a : Nat) : Word := SMap.get (resetAt a) d.regs a

/-- Sets the word at an address; a register at its reset value is not listed. -/
def Dev.setReg (d : Dev) (a : Nat) (v : Word) : Dev := { d with regs := SMap.set (resetAt a) d.regs a v }

/-- A field of a register. -/
def Dev.rf (d : Dev) (a : Nat) (f : Fld) : Nat := fget f (d.reg a)

/-- Sets a field of a register. -/
def Dev.setRf (d : Dev) (a : Nat) (f : Fld) (v : Nat) : Dev := d.setReg a (fput f (d.reg a) v)

/-- Adds to a counter field, which saturates (each subfield alone). -/
def Dev.bump (d : Dev) (a : Nat) (f : Fld) (n : Nat := 1) : Dev :=
  if n = 0 then d else d.setRf a f (satAdd f.width (d.rf a f) n)

/-- Raises a high-water field to a value. -/
def Dev.raiseTo (d : Dev) (a : Nat) (f : Fld) (n : Nat) : Dev := if d.rf a f < n then d.setRf a f n else d

/-- Returns the registers that a predicate over (block, instance, register) names to their reset values. -/
def Dev.clearRegs (d : Dev) (p : RegAt → Bool) : Dev :=
  { d with regs := d.regs.filter (fun e => match regAt e.1 with
      | some r => !p r
      | none => true) }

/-- Clears one counter group of one block instance (its CLR_CNT). -/
def Dev.clearCounters (d : Dev) (base inst group : Nat) : Dev :=
  d.clearRegs (fun r => r.block.base == base && r.inst == inst && r.spec.cls == .cnt group)

/-- Puts something into the outbox. -/
def Dev.emit (d : Dev) (o : Output) : Dev := { d with outbox := o :: d.outbox }

/-- Draws a fresh free value. -/
def Dev.fresh (d : Dev) (w : Nat) : BitVec w × Dev := (Config.freeValue w d.freeCtr, { d with freeCtr := d.freeCtr + 1 })

/-- Powered time in µs (R47). -/
def Dev.ptime (d : Dev) : Nat := d.clk / 100

/-- The state of a power domain. -/
def Dev.domSt (d : Dev) (i : Nat) : DomSt := if h : i < 36 then (d.pwr.doms[i]).st else .held

/-- The entry stage of a power domain (Table 15.4). -/
def Dev.domStage (d : Dev) (i : Nat) : Nat := if h : i < 36 then (d.pwr.doms[i]).stage else 0

/-- The state that the running entry or wake of a domain began in: 0 on, 1 retention, 2 off. -/
def Dev.domPrior (d : Dev) (i : Nat) : Nat := if h : i < 36 then (d.pwr.doms[i]).prior else 2

/-- Whether a power domain has its supplies and clocks: it is on, or its entry from on has not yet reached ISOLATE (R432, R436). -/
def Dev.domUp (d : Dev) (i : Nat) : Bool := d.domSt i == .on || (d.domSt i == .entering && d.domPrior i == 0 && decide (d.domStage i ≤ 3))

/-- The station of a block that HALT gates by its domain (Tables 18.3, 18.5); 0xFF for none. -/
def domStation (i : Nat) : Nat :=
  if i = 1 then 0x01 else if i = 2 then 0x03 else if i = 30 then 0x05 else if i = 35 then 0x06
  else if 12 ≤ i ∧ i ≤ 19 then 0x18 + (i - 12)
  else if 20 ≤ i ∧ i ≤ 29 then 0x20 + (i - 20)
  else if 31 ≤ i ∧ i ≤ 34 then 0x2A + (i - 31)
  else 0xFF

/-- Whether a station's block is halted: its clocks are gated and it starts no work (Table 18.5). -/
def Dev.halted (d : Dev) (st : Nat) : Bool := d.gdl.halted.contains st

/-- Whether a power domain works. -/
def Dev.domOn (d : Dev) (i : Nat) : Bool := d.domUp i && !d.halted (domStation i)

/-- Changes a power domain. -/
def Dev.updDom (d : Dev) (i : Nat) (f : Dom → Dom) : Dev :=
  if h : i < 36 then { d with pwr := { d.pwr with doms := d.pwr.doms.set i (f d.pwr.doms[i]) } } else d

/-- Repeats a device operation over a list. -/
def Dev.forEach {α : Type} (d : Dev) (l : List α) (f : α → Dev → Dev) : Dev := l.foldl (fun e x => f x e) d

/-- The domains a domain depends on (Table 15.1, R428). -/
def domDeps (i : Nat) : List Nat :=
  if 12 ≤ i ∧ i ≤ 19 then [3, i - 8]
  else if (4 ≤ i ∧ i ≤ 11) ∨ (20 ≤ i ∧ i ≤ 29) ∨ (31 ≤ i ∧ i ≤ 34) then [3]
  else []

/-- A domain's wake policy: true on demand (R432). -/
def Dev.domPolicy (d : Dev) (i : Nat) : Bool := if h : i < 36 then (d.pwr.doms[i]).policy else false

/-- Whether a domain wakes from off. -/
def Dev.wakingFromOff (d : Dev) (i : Nat) : Bool := d.domSt i == .waking && d.domPrior i == 2

/-- Begins the regulator steps from off that may begin: at most two run at once, until their ready signals, in the order of the wakes,
and only where the domains depended on are on (R428, R431). -/
def Dev.grantRamps (d : Dev) : Dev :=
  let live := d.pwr.ramps.filter (fun i => d.wakingFromOff i)
  let queue := d.pwr.rampQ.filter (fun i => d.wakingFromOff i && !live.contains i)
  let go := (queue.filter (fun i => (domDeps i).all (fun j => d.domSt j == .on))).take (2 - live.length)
  { d with pwr := { d.pwr with ramps := live ++ go, rampQ := queue.filter (fun i => !go.contains i) } }

/-- A domain in retention or off starts to wake (R430); one that is entering meets a wake event. -/
def Dev.beginWake (d : Dev) (i : Nat) : Dev :=
  match d.domSt i with
  | .retained => d.updDom i (fun x => { x with st := .waking, prior := 1, stage := 0, wakeEvent := false })
  | .off =>
    let d := d.updDom i (fun x => { x with st := .waking, prior := 2, stage := 0, wakeEvent := false })
    { d with pwr := { d.pwr with ramps := d.pwr.ramps.filter (· != i), rampQ := d.pwr.rampQ.filter (· != i) ++ [i] } }
  | .entering => d.updDom i (fun x => { x with wakeEvent := true })
  | _ => d

/-- A wake first starts the wakes of the domains it depends on (R428). -/
def Dev.startWake (d : Dev) (i : Nat) : Dev := (d.forEach (domDeps i ++ [i]) (fun j d => d.beginWake j)).grantRamps

/-- The on-demand wake: policy on demand, and a STACK in off never (R350, R432). -/
def Dev.demandWake (d : Dev) (i : Nat) : Dev :=
  if !d.domPolicy i ∨ (31 ≤ i ∧ i ≤ 34 ∧ d.domSt i = .off) then d else d.startWake i

/-- Whether a domain belongs to the request set that runs, no refusal of it standing (R436). -/
def Dev.inEntry (d : Dev) (i : Nat) : Bool := match d.pwr.req with
  | some q => (q.todo.contains i || q.lowered.contains i) && q.refusal.isNone
  | none => false

/-- An access that reaches a domain that is not on: a wake event for the running request set, or the start of a wake on demand (R228, R432,
R436). -/
def Dev.wakeEvent (d : Dev) (i : Nat) : Dev :=
  if d.domSt i = .on ∨ d.domSt i = .held then d
  else if d.inEntry i then d.updDom i (fun x => { x with wakeEvent := true })
  else d.demandWake i

/-- A doorbell, a notice or a fault wakes the SURVEYOR domain (R440); from off only the Warden wakes it. -/
def Dev.wakeSurveyor (d : Dev) : Dev := if d.domSt 1 = .off then d else d.wakeEvent 1

/-- The part code and identity in the mirror's ID word (Table 12.6). -/
def Dev.mirId (d : Dev) : Word := BitVec.ofNat 32 (0x47530100 + (b2n d.fus.high) * 16 + d.fus.part)

/-- The mirror state code (Table 12.7). -/
def Dev.mirState (d : Dev) : Nat := d.rf R.LNT_MIR_STATE F.LNT_MIR_STATE_STATE


/-- An index below 8. -/
def fin8 (i : Nat) : Fin 8 := ⟨i % 8, Nat.mod_lt _ (by decide)⟩
/-- An index below 16. -/
def fin16 (i : Nat) : Fin 16 := ⟨i % 16, Nat.mod_lt _ (by decide)⟩
/-- An index below 6. -/
def fin6 (i : Nat) : Fin 6 := ⟨i % 6, Nat.mod_lt _ (by decide)⟩
/-- An index below 4. -/
def fin4 (i : Nat) : Fin 4 := ⟨i % 4, Nat.mod_lt _ (by decide)⟩
/-- An index below 9. -/
def fin9 (i : Nat) : Fin 9 := ⟨i % 9, Nat.mod_lt _ (by decide)⟩

/-- BT: B ms in ticks, rounded to the nearest and at least 1 (R255). -/
def bearTicks (b tp : Nat) : Nat := if tp = 0 then 1 else max 1 ((2 * b * 100000 + tp) / (2 * tp))

/-- This chip's index. -/
def Dev.selfChip (d : Dev) : Nat := d.rf R.TRV_GRP_STAT F.TRV_GRP_STAT_SELF

/-- A mask with a bit for each listed number. -/
def maskOf (l : List Nat) : Nat := l.foldl (fun m i => Nat.lor m (2 ^ i)) 0

/-- A Gallery. -/
def Dev.gal (d : Dev) (g : Fin 8) : Gal := d.gals[g]

/-- Changes a Gallery. -/
def Dev.updGal (d : Dev) (g : Fin 8) (f : Gal → Gal) : Dev := { d with gals := d.gals.set g (f d.gals[g]) }

/-- A Dense Plane. -/
def Dev.plane (d : Dev) (p : Fin 8) : Plane := d.planes[p]

/-- Changes a Dense Plane. -/
def Dev.updPlane (d : Dev) (p : Fin 8) (f : Plane → Plane) : Dev := { d with planes := d.planes.set p (f d.planes[p]) }

/-- A parcel. -/
def Dev.pcl (d : Dev) (q : Fin 8) : Parcel := d.pcls[q]

/-- Changes a parcel. -/
def Dev.updPcl (d : Dev) (q : Fin 8) (f : Parcel → Parcel) : Dev := { d with pcls := d.pcls.set q (f d.pcls[q]) }

/-- A stack controller. -/
def Dev.stk (d : Dev) (s : Fin 4) : Stack := d.stks[s]

/-- Changes a stack controller. -/
def Dev.updStk (d : Dev) (s : Fin 4) (f : Stack → Stack) : Dev := { d with stks := d.stks.set s (f d.stks[s]) }

/-- A link. -/
def Dev.link (d : Dev) (k : Fin 6) : Link := d.links[k]

/-- Changes a link. -/
def Dev.updLink (d : Dev) (k : Fin 6) (f : Link → Link) : Dev := { d with links := d.links.set k (f d.links[k]) }

/-- Adds an entry to the Ledger copy of the retire map, once; the copy holds 4,096 (R484, Table 17.7): KIND, FIELD set, UNIT, LOC. -/
def Dev.retireMap (d : Dev) (kind unit loc : Nat) : Dev :=
  let e := BitVec.ofNat 32 (kind * 2 ^ 28 + 2 ^ 27 + unit % 8 * 2 ^ 24 + loc % 2 ^ 24)
  if d.led.rmap.contains e ∨ 4096 ≤ d.led.rmap.length then d else { d with led := { d.led with rmap := d.led.rmap ++ [e] } }

end Sys2Proof.Machine
end

