-- ==== Sys2Proof/Machine/Rings.lean ====
section
/-!
DEFINITION. The ring engine: indices, status block, interrupts, notices, completions and result records
(12_host_and_mailboxes.md, R373 to R385), and the life counts that break locks (R387, R390).
-/
namespace Sys2Proof.Machine

/-- One function's rings. -/
def Dev.ring (d : Dev) (f : Func) : Rings := d.host.rings[f]

/-- Changes one function's rings. -/
def Dev.updRing (d : Dev) (f : Func) (g : Rings → Rings) : Dev :=
  { d with host := { d.host with rings := d.host.rings.set f (g d.host.rings[f]) } }

/-- Entries of the command ring (MBX_RING_CFG, Table 12.16). -/
def Dev.cmdSize (d : Dev) (f : Func) : Nat := 2 ^ d.rf (R.MBX_RING_CFG f) F.MBX_RING_CFG_CMD_LOG2

/-- Entries of the completion ring. -/
def Dev.cplSize (d : Dev) (f : Func) : Nat := 2 ^ d.rf (R.MBX_RING_CFG f) F.MBX_RING_CFG_CPL_LOG2

/-- Entries of the result ring. -/
def Dev.resSize (d : Dev) (f : Func) : Nat := 2 ^ d.rf (R.MBX_RING_CFG f) F.MBX_RING_CFG_RES_LOG2

/-- A ring or status block base of a function, from its LO and HI registers (Table 12.16). -/
def Dev.ringBase (d : Dev) (lo hi : Nat) : Nat := (d.reg lo).toNat + (d.reg hi).toNat * 2 ^ 32

/-- Where entry `i` of a function's command ring stands: BASE + (i mod S) × 64 (R373). -/
def Dev.cmdAddr (d : Dev) (f : Func) (i : Nat) : Nat := d.ringBase (R.MBX_CMD_BASE_LO f) (R.MBX_CMD_BASE_HI f) + i % d.cmdSize f * 64
/-- Where entry `i` of a completion ring stands (R373). -/
def Dev.cplAddr (d : Dev) (f : Func) (i : Nat) : Nat := d.ringBase (R.MBX_CPL_BASE_LO f) (R.MBX_CPL_BASE_HI f) + i % d.cplSize f * 32
/-- Where entry `i` of a result ring stands (R373). -/
def Dev.resAddr (d : Dev) (f : Func) (i : Nat) : Nat := d.ringBase (R.MBX_RES_BASE_LO f) (R.MBX_RES_BASE_HI f) + i % d.resSize f * 16
/-- Where a function's status block stands (R374). -/
def Dev.sbAddr (d : Dev) (f : Func) : Nat := d.ringBase (R.MBX_SB_BASE_LO f) (R.MBX_SB_BASE_HI f)

/-- Started commands of an issuer. -/
def Dev.startedBy (d : Dev) (i : Issuer) : List Started := d.host.started.filter (fun s => s.issuer == i)

/-- Commands of a function in progress: fetched, started, or finished with the completion unwritten (R376). -/
def Dev.inProgress (d : Dev) (f : Func) : Nat :=
  (d.ring f).fetched.length + (d.startedBy (.fn f)).length + (d.ring f).done.length

/-- Free completion slots, reserved ones taken off (R376). -/
def Dev.cplFree (d : Dev) (f : Func) : Nat :=
  d.cplSize f - ((d.ring f).cplPi - (d.ring f).cplCi).toNat - d.inProgress f

/-- The pending-notice bits (MBX_NTC_PEND). -/
def Rings.ntcPend (r : Rings) : Nat := (r.notices.map (fun n => 2 ^ n.kind)).sum

/-- The engine writes the function's status block (R374). -/
def Dev.statusBlock (d : Dev) (f : Func) : Dev :=
  d.emit (.statusBlock f (d.sbAddr f) (d.ring f).cmdCi.toNat (d.ring f).cplPi.toNat (d.ring f).resPi.toNat (d.ring f).ntcPend
    (d.reg R.LNT_MIR_STATE).toNat)

/-- An MSI-X table entry after reset: masked (bit 0 of its vector control word). -/
def msixReset : BitVec 128 := 1#128 <<< 96

/-- The vectors a function has (Table 12.1). -/
def vectors (f : Func) : Nat := if f = pf then 64 else 8

/-- Signals a vector of a function; a masked one sets its pending bit (R385). -/
def Dev.signal (d : Dev) (f : Func) (vec : Nat) : Dev :=
  if vectors f ≤ vec then d
  else if bit (SMap.get msixReset d.host.msix (f.val * 64 + vec)) 96 then
    { d with host := { d.host with pba := SMap.set false d.host.pba (f.val * 64 + vec) true } }
  else d.emit (.msix f vec)

/-- The interrupt sources of a function (MBX_VEC). -/
inductive IntSource where
  | cpl | res | ntc
deriving DecidableEq, Repr

/-- The vector MBX_VEC maps a source to. -/
def Dev.vecOf (d : Dev) (f : Func) (s : IntSource) : Nat :=
  match s with
  | .cpl => d.rf (R.MBX_VEC f) F.MBX_VEC_CPL
  | .res => d.rf (R.MBX_VEC f) F.MBX_VEC_RES
  | .ntc => d.rf (R.MBX_VEC f) F.MBX_VEC_NTC

/-- Writes the status block and then signals a source (R374, R385). -/
def Dev.interrupt (d : Dev) (f : Func) (s : IntSource) : Dev := (d.statusBlock f).signal f (d.vecOf f s)

/-- A VF's event (ERROR or QUIESCED) signals its vector on the PF, after the PF's status block (Table 12.12, R374, R385). -/
def Dev.vfEvent (d : Dev) (f : Func) : Dev :=
  if h : f.val < 8 then (d.statusBlock pf).signal pf (d.host.vfVec[f.val]'h) else d

/-- PHASE of the entry at a completion index (R379). -/
def phaseOf (index size : Nat) : Nat := if (index / size) % 2 = 0 then 1 else 0

/-- The 32 bytes of a completion entry (Table 12.10). -/
def cplEntry (opcode tag status idx : Nat) (r0 r1 : BitVec 64) (detail : BitVec 32) (kind phase : Nat) : BitVec 256 :=
  BitVec.ofNat 256 (opcode % 65536 + 2 ^ 16 * (tag % 65536) + 2 ^ 32 * (status % 65536) + 2 ^ 48 * (idx % 65536)
    + 2 ^ 64 * r0.toNat + 2 ^ 128 * r1.toNat + 2 ^ 192 * detail.toNat + 2 ^ 224 * (kind % 65536) + 2 ^ 255 * phase)

/-- Writes a notice into the next completion slot and signals NTC (R380, R385). -/
def Dev.writeNotice (d : Dev) (f : Func) (n : Notice) : Dev :=
  let i := (d.ring f).cplPi.toNat
  let e := cplEntry 0 (min n.count 0xFFFF) 0 0 n.arg 0 0 n.kind (phaseOf i (d.cplSize f))
  let d := d.emit (.cplEntry f i (d.cplAddr f i) e)
  let d := d.updRing f (fun r => { r with cplPi := r.cplPi + 1 })
  d.interrupt f .ntc

/-- Adds an occurrence to the pending notice of its kind (R380). -/
def pendNotice (l : List Notice) (kind : Nat) (arg : BitVec 64) : List Notice :=
  if l.any (fun n => n.kind == kind) then
    l.map (fun n => if n.kind = kind then { n with count := satAdd 16 n.count 1, arg := arg } else n)
  else l ++ [{ kind := kind, count := 1, arg := arg }]

/-- Posts a notice to a function: into a free slot, kept-back ones included, or pending with its kind (R380); it wakes SURVEYOR (R440). -/
def Dev.notice (d : Dev) (f : Func) (kind : Nat) (arg : BitVec 64) : Dev :=
  if (d.ring f).st ≠ .active then d
  else if 0 < d.cplFree f then (d.writeNotice f { kind := kind, count := 1, arg := arg }).wakeSurveyor
  else (d.updRing f (fun r => { r with notices := pendNotice r.notices kind arg })).wakeSurveyor

/-- Writes pending notices while slots are free (R380). -/
def Dev.flushNotices (d : Dev) (f : Func) : List Notice → Dev
  | [] => d.updRing f (fun r => { r with notices := [] })
  | n :: t =>
    if 0 < d.cplFree f then Dev.flushNotices (d.writeNotice f n) f t
    else d.updRing f (fun r => { r with notices := n :: t })

/-- Every function, VF0 to VF7 and the PF. -/
def allFuncs : List Func := List.finRange 9

/-- Posts a notice to every function. -/
def Dev.noticeAll (d : Dev) (kind : Nat) (arg : BitVec 64) : Dev := d.forEach allFuncs (fun f e => e.notice f kind arg)

/-- The parcel bound to a function (R196): the lowest valid parcel whose PCL_BIND names it. -/
def Dev.parcelOf (d : Dev) (f : Func) : Option (Fin 8) :=
  (List.finRange 8).find? (fun q => d.rf (R.PCL_RECT q) F.PCL_RECT_VALID = 1 ∧ d.rf (R.PCL_BIND q) F.PCL_BIND_FUNC = f.val)

/-- The function a valid parcel is bound to. -/
def Dev.funcOf (d : Dev) (q : Nat) : Option Func :=
  if d.rf (R.PCL_RECT q) F.PCL_RECT_VALID = 1 then
    (if h : d.rf (R.PCL_BIND q) F.PCL_BIND_FUNC < 9 then some ⟨_, h⟩ else none)
  else none

/-- Posts a notice to the PF and to the function bound to a parcel, once each (Table 12.11). -/
def Dev.noticeParcel (d : Dev) (q : Option Nat) (kind : Nat) (arg : BitVec 64) : Dev :=
  let d := d.notice pf kind arg
  match q.bind d.funcOf with
  | some f => if f = pf then d else d.notice f kind arg
  | none => d

/-- A bit of LNT_SMB_ALERT.STAT is set as its condition arises (R534). -/
def Dev.smbAlert (d : Dev) (b : Nat) : Dev :=
  d.setRf R.LNT_SMB_ALERT F.LNT_SMB_ALERT_STAT (Nat.lor (d.rf R.LNT_SMB_ALERT F.LNT_SMB_ALERT_STAT) (2 ^ b))

/-- Changes the mirror's STATE and REASON; a change of state posts a STATE notice to every active function (R372). -/
def Dev.setMirror (d : Dev) (state reason : Nat) : Dev :=
  let old := d.mirState
  let d := (d.setRf R.LNT_MIR_STATE F.LNT_MIR_STATE_STATE state).setRf R.LNT_MIR_STATE F.LNT_MIR_STATE_REASON reason
  let d := if old ≠ state ∧ state = 4 then d.smbAlert 1 else if old ≠ state ∧ state = 3 then d.smbAlert 2 else d
  if old = state then d else d.noticeAll 1 ((d.reg R.LNT_MIR_STATE).setWidth 64)

/-- Whether the mirror state lets the engine fetch a command of an opcode (Table 12.7). -/
def Dev.mayFetch (d : Dev) (opcode : Nat) : Bool :=
  d.mirState == 2 || (d.mirState == 5 && (opcode / 256 == 0x01 || opcode / 256 == 0x0C))

/-- Marks a function's fetched, started and finished commands: their completions will be discarded (Table 12.12). -/
def Dev.orphanAll (d : Dev) (f : Func) : Dev :=
  let d := d.updRing f (fun r => { r with fetched := r.fetched.map (fun x => { x with orphan := true }),
                                          done := r.done.map (fun x => { x with orphan := true }) })
  { d with host := { d.host with started := d.host.started.map (fun s =>
      if s.issuer = .fn f then { s with orphan := true } else s) } }

/-- Starts quiescing a function's rings (Table 12.12). -/
def Dev.quiesce (d : Dev) (f : Func) : Dev :=
  let d := d.setRf (R.MBX_RING_CTL f) F.MBX_RING_CTL_EN 0
  if (d.ring f).st = .active ∨ (d.ring f).st = .error then
    (d.orphanAll f).updRing f (fun r => { r with st := .quiescing, reason := 0, quiesced := false })
  else d

/-- Puts a function's rings into ERROR with a reason (Table 12.12): 1 CONFIG, 2 DOORBELL, 3 DMA. -/
def Dev.ringError (d : Dev) (f : Func) (reason : Nat) : Dev :=
  (d.updRing f (fun r => { r with st := .error, reason := reason, quiesced := false })).vfEvent f

/-- Returns a function's ring registers to their reset values. -/
def Dev.clearRingRegs (d : Dev) (f : Func) : Dev :=
  d.clearRegs (fun r => r.block.base == Blk.mbx.base && r.inst == f.val)

/-- A PCIe reset clears a function's rings: at once when they are OFF, else when they reach OFF (Table 12.3). -/
def Dev.resetRings (d : Dev) (f : Func) : Dev :=
  let d := d.quiesce f
  if (d.ring f).st = .off then d.clearRingRegs f else d.updRing f (fun r => { r with resetOnOff := true })

/-- The owner ID of a life count (Table 12.13), by the index of LCK_LIFE_o. -/
def ownerOfLife (o : Nat) : Nat := if o < 2 then 1 + o else if o < 11 then 0x10 + (o - 2) else 0x40 + (o - 11)

/-- The life count of an owner ID. -/
def lifeOfOwner (id : Nat) : Nat := if id < 0x10 then id - 1 else if id < 0x40 then 2 + (id - 0x10) else 11 + (id - 0x40)

/-- The life-count index of a function. -/
def lifeOfFunc (f : Func) : Nat := if f = pf then 2 else 3 + f.val

/-- An owner's life count rises, 0xFFFF wrapping to 1, and every lock it holds becomes free and broken (R387, R390). -/
def Dev.raiseLife (d : Dev) (o : Nat) : Dev :=
  let n := d.rf (R.LCK_LIFE o) F.LCK_LIFE_LIFE
  let d := d.setRf (R.LCK_LIFE o) F.LCK_LIFE_LIFE (if n = 0xFFFF then 1 else n + 1)
  { d with locks := d.locks.map (fun l =>
      if l.owner = ownerOfLife o then { owner := 0, life := 0, broken := true } else l) }

/-- Where a finished command's completion waits to be written. -/
def Dev.finish (d : Dev) (i : Issuer) (c : Cpl) : Dev :=
  match i with
  | .fn f => d.updRing f (fun r => { r with done := r.done ++ [c] })
  | .attach => { d with host := { d.host with attach := { d.host.attach with done := d.host.attach.done ++ [c] } } }

/-- Writes a completion at CPL_PI and signals CPL as MBX_COAL_CPL gives (R379, R385). -/
def Dev.writeCpl (d : Dev) (f : Func) (c : Cpl) : Dev :=
  let i := (d.ring f).cplPi.toNat
  let e := cplEntry c.opcode c.tag c.status.code c.idx c.result0 c.result1 c.detail 0 (phaseOf i (d.cplSize f))
  let d := (d.emit (.cplEntry f i (d.cplAddr f i) e)).updRing f (fun r => { r with cplPi := r.cplPi + 1 })
  if !c.notify then d.statusBlock f
  else if d.rf (R.MBX_COAL_CPL f) F.MBX_COAL_CPL_T = 0 then d.interrupt f .cpl
  else (d.updRing f (fun r => { r with cplUnsignalled := r.cplUnsignalled + 1 })).statusBlock f

/-- Whether a function's result ring takes a record now (R381). -/
def Dev.resRoom (d : Dev) (f : Func) : Bool :=
  (d.ring f).st == .active && ((d.ring f).resPi - (d.ring f).resCi).toNat < d.resSize f

/-- Writes a record at RES_PI and signals RES as MBX_COAL_RES gives (R381, R385). -/
def Dev.writeRes (d : Dev) (f : Func) (entry : BitVec 128) : Dev :=
  let i := (d.ring f).resPi.toNat
  let d := d.emit (.record f i (d.resAddr f i) entry)
  let d := d.updRing f (fun r => { r with resPi := r.resPi + 1, resUnsignalled := r.resUnsignalled + 1 })
  if d.rf (R.MBX_COAL_RES f) F.MBX_COAL_RES_RES_N ≤ (d.ring f).resUnsignalled ∨
      d.rf (R.MBX_COAL_RES f) F.MBX_COAL_RES_RES_T = 0 then
    (d.updRing f (fun r => { r with resUnsignalled := 0 })).interrupt f .res
  else d.statusBlock f

end Sys2Proof.Machine
end

