-- ==== Sys2Proof/Machine/Faults.lean ====
section
/-!
DEFINITION. Faults: records, the collector, FAULT frames and their coalescing (18_faults.md, R491, R498, R500 to R503).
-/
namespace Sys2Proof.Machine

/-- A fault as the block that raises it names it (Table 18.7). -/
structure Raise where
  cls : Nat
  code : Nat
  sev : Nat
  unit : Nat := 0
  parcel : Nat := 0xFF
  count : Nat := 1
  index : Nat := 0
  arg0 : Nat := 0
deriving DecidableEq, Repr

namespace Flt
/-- SESSION, written at stage 6 of each start (R502). -/
def session (n label : Nat) : Raise := { cls := 0, code := 0x01, sev := 0, index := n, arg0 := label }
/-- LABEL (R51). -/
def label (v : Nat) : Raise := { cls := 0, code := 0x02, sev := 0, arg0 := v }
/-- LOST. -/
def lost (n : Nat) : Raise := { cls := 0, code := 0x03, sev := 0, index := n }
/-- LEDGER: 1 session, 2 site memory, 3 log. -/
def ledger (kind : Nat) : Raise := { cls := 0, code := 0x04, sev := 0, index := kind }
/-- LICENCE (R490). -/
def licence (feature : Nat) : Raise := { cls := 0, code := 0x05, sev := 0, index := feature }
/-- RMAP (R485). -/
def rmap (n : Nat) : Raise := { cls := 0, code := 0x06, sev := 0, index := n }
/-- DATUM: a HOLDOVER entry or a period step (R38, R41). -/
def datum (stat : Nat) : Raise := { cls := 0, code := 0x07, sev := 0, index := stat }
/-- SAVESET (R434). -/
def saveset (dom word : Nat) : Raise := { cls := 0, code := 0x08, sev := 1, unit := dom, index := word }
/-- THERMAL (R447). -/
def thermal (region tj : Nat) : Raise := { cls := 0, code := 0x09, sev := 3, unit := region, index := tj }
/-- CAP (R446). -/
def cap (power capW : Nat) : Raise := { cls := 0, code := 0x0A, sev := 0, index := power, arg0 := capW }
/-- MESH (R180, R191). -/
def mesh (node n : Nat) : Raise := { cls := 0, code := 0x0B, sev := 0, unit := node, index := n }
/-- PORT_RESTART. -/
def portRestart (p q n : Nat) : Raise := { cls := 1, code := 0x10, sev := 1, unit := p, parcel := q, index := n }
/-- PORT_RETIRED. -/
def portRetired (p q n : Nat) : Raise := { cls := 1, code := 0x11, sev := 2, unit := p, parcel := q, index := n }
/-- LINK_RETRAIN. -/
def linkRetrain (k reason : Nat) : Raise := { cls := 2, code := 0x20, sev := 1, unit := k, index := reason }
/-- LINK_RETIRED. -/
def linkRetired (k reason : Nat) : Raise := { cls := 2, code := 0x21, sev := 2, unit := k, index := reason }
/-- LINK_TAG: one record per slice (R307). -/
def linkTag (k block slice first last count : Nat) : Raise :=
  { cls := 2, code := 0x22, sev := 2, unit := k, count := count, index := block,
    arg0 := first % 256 + 256 * (last % 256) + 65536 * (slice % 16) }
/-- MARK_LATE (R328). -/
def markLate (k tick : Nat) : Raise := { cls := 2, code := 0x23, sev := 0, unit := k, index := tick }
/-- STACK_UE (R334). -/
def stackUe (s sa region q : Nat) : Raise := { cls := 3, code := 0x30, sev := 1, unit := s, parcel := q, index := sa, arg0 := region }
/-- PAGE_RETIRED (R347). -/
def pageRetired (s page region q : Nat) : Raise :=
  { cls := 3, code := 0x31, sev := 2, unit := s, parcel := q, index := page, arg0 := region }
/-- PC_RETIRED (R347, R339). -/
def pcRetired (s pc region : Nat) : Raise := { cls := 3, code := 0x32, sev := 2, unit := s, index := pc, arg0 := region }
/-- STACK_HOT (R341). -/
def stackHot (s temp : Nat) : Raise := { cls := 3, code := 0x33, sev := 0, unit := s, index := temp }
/-- STACK_TRAIN (R339). -/
def stackTrain (s state : Nat) : Raise := { cls := 3, code := 0x34, sev := 2, unit := s, index := state }
/-- STACK_UNW (R343). -/
def stackUnw (s sa region q : Nat) : Raise := { cls := 3, code := 0x35, sev := 0, unit := s, parcel := q, index := sa, arg0 := region }
/-- SCP_UE (R353). -/
def scpUe (bank off : Nat) : Raise := { cls := 4, code := 0x40, sev := 1, unit := bank, index := off }
/-- SCP_SPARED. -/
def scpSpared (bank off : Nat) : Raise := { cls := 4, code := 0x41, sev := 2, unit := bank, index := off }
/-- SCP_DEGRADED. -/
def scpDegraded (bank off : Nat) : Raise := { cls := 4, code := 0x42, sev := 3, unit := bank, index := off }
/-- SCP_UNW (R352). -/
def scpUnw (off : Nat) : Raise := { cls := 4, code := 0x43, sev := 0, index := off }
/-- GAL_UE_STATE (R84). -/
def galUeState (g q n : Nat) : Raise := { cls := 5, code := 0x50, sev := 1, unit := g, parcel := q, index := n }
/-- GAL_UE_SYN (R84). -/
def galUeSyn (g q i bank : Nat) : Raise := { cls := 5, code := 0x51, sev := 1, unit := g, parcel := q, index := i, arg0 := bank }
/-- NEURON_DEAD (R507). -/
def neuronDead (g q n used : Nat) : Raise := { cls := 5, code := 0x52, sev := 2, unit := g, parcel := q, index := n, arg0 := used }
/-- BANK_RETIRED. -/
def bankRetired (g q bank n : Nat) : Raise := { cls := 5, code := 0x53, sev := 2, unit := g, parcel := q, index := bank, arg0 := n }
/-- GAL_FAULTED (R508). -/
def galFaulted (g q cause : Nat) : Raise := { cls := 5, code := 0x54, sev := 3, unit := g, parcel := q, index := cause }
/-- SWEEP_LATE (R74). -/
def sweepLate (g q tick : Nat) : Raise := { cls := 5, code := 0x55, sev := 0, unit := g, parcel := q, index := tick }
/-- DARK_VIOL (R125). -/
def darkViol (g q check : Nat) : Raise := { cls := 5, code := 0x56, sev := 0, unit := g, parcel := q, index := check }
/-- ERASE_LATE (R133). -/
def eraseLate (g q port : Nat) : Raise := { cls := 5, code := 0x57, sev := 0, unit := g, parcel := q, index := port }
/-- GAL_UNW (R82). -/
def galUnw (g q i : Nat) : Raise := { cls := 5, code := 0x58, sev := 0, unit := g, parcel := q, index := i }
/-- DNS_WEIGHT (R214). -/
def dnsWeight (p q w : Nat) : Raise := { cls := 5, code := 0x59, sev := 1, unit := p, parcel := q, index := w }
/-- RECOVER (R504). -/
def recover (reason beat : Nat) : Raise := { cls := 6, code := 0x60, sev := 3, index := reason, arg0 := beat }
/-- RETURN (R504). -/
def ret (us : Nat) : Raise := { cls := 6, code := 0x61, sev := 0, index := us }
/-- CLK_FAIL (R457). -/
def clkFail (m n : Nat) : Raise := { cls := 7, code := 0x70, sev := 1, unit := m, index := n }
/-- REF_LOSS (R458). -/
def refLoss (us : Nat) : Raise := { cls := 7, code := 0x71, sev := 3, index := us }
end Flt

/-- The parcel whose rectangle holds Gallery g, which sits in column g div 2 and row g mod 2 (R178). -/
def Dev.parcelAt (d : Dev) (g : Nat) : Option (Fin 8) :=
  (List.finRange 8).find? (fun q => d.rf (R.PCL_RECT q) F.PCL_RECT_VALID = 1 ∧
    d.rf (R.PCL_RECT q) F.PCL_RECT_X0 ≤ g / 2 ∧ g / 2 ≤ d.rf (R.PCL_RECT q) F.PCL_RECT_X1 ∧
    d.rf (R.PCL_RECT q) F.PCL_RECT_Y0 ≤ g % 2 ∧ g % 2 ≤ d.rf (R.PCL_RECT q) F.PCL_RECT_Y1)

/-- The PARCEL byte of a record: the number, 0xFF for none. -/
def parcelByte (q : Option (Fin 8)) : Nat := match q with
  | some q => q.val
  | none => 0xFF

/-- The parcel whose port mask holds a port (R197). -/
def Dev.parcelOfPort (d : Dev) (p : Nat) : Option (Fin 8) :=
  (List.finRange 8).find? (fun q => d.rf (R.PCL_RECT q) F.PCL_RECT_VALID = 1 ∧
    d.rf (R.PCL_PORTMASK q) F.PCL_PORTMASK_MASK / 2 ^ p % 2 = 1)

/-- The record of a raised fault, stamped and numbered (R500, Table 18.6). FLAGS keeps its place in byte 24: [2] COALESCED,
[3] HOLDOVER, [4] LAB, [5] AFTER_LOST, [6] PT_RC. -/
def Dev.record (d : Dev) (r : Raise) : FltRec :=
  { seq := if d.flt.numbered then d.rf R.FLT_SEQ F.FLT_SEQ_SEQ else 0
    session := d.rf R.LNT_SESSION F.LNT_SESSION_SESSION
    ptime := d.ptime
    tick := d.dat.tick
    cls := r.cls, code := r.code, sev := r.sev
    flags := (if 1 < r.count then 4 else 0) + (if d.dat.qual ≠ 0 then 8 else 0) + (if d.boot.lab then 16 else 0)
      + (if d.flt.afterLost then 32 else 0) + (if d.rf R.CLK_STAT F.CLK_STAT_PT_RC = 1 then 64 else 0)
    parcel := r.parcel, unit := r.unit
    chip := d.rf R.TRV_GRP_STAT F.TRV_GRP_STAT_SELF
    count := r.count, index := r.index, arg0 := r.arg0 }

/-- Posts the FAULT notice of a record: to the PF, and to the function bound to its parcel (R500, Table 12.11). -/
def Dev.faultNotice (d : Dev) (parcel seq : Nat) : Dev :=
  d.noticeParcel (if parcel < 8 then some parcel else none) 2 (BitVec.ofNat 64 seq)

/-- Whether an undrained record takes an occurrence of a raised fault (R501). -/
def FltRec.sameAs (x : FltRec) (r : Raise) : Bool :=
  x.cls == r.cls && x.code == r.code && x.unit == r.unit && x.parcel == r.parcel

/-- Merges a raised fault into the oldest undrained record that takes it (R501). -/
def mergeRec (r : Raise) : List FltRec → List FltRec
  | [] => []
  | x :: t =>
    if x.sameAs r then { x with count := satAdd 32 x.count r.count, index := r.index, arg0 := r.arg0,
                                flags := x.flags ||| 4 } :: t
    else x :: mergeRec r t

/-- A raised fault arrives at the collector (R500, R501) and wakes SURVEYOR (R440). -/
def Dev.collect (d : Dev) (r : Raise) : Dev :=
  let d := d.wakeSurveyor
  if d.flt.recs.length < 256 then
    let x := d.record r
    let d := { d with flt := { d.flt with recs := d.flt.recs ++ [x], afterLost := false } }
    let d := if r.sev = 3 then d.smbAlert 3 else d
    if d.flt.numbered then
      let d := (d.setRf R.FLT_SEQ F.FLT_SEQ_SEQ (x.seq + 1)).setReg R.LNT_MIR_FLTSEQ (BitVec.ofNat 32 x.seq)
      d.faultNotice r.parcel x.seq
    else d
  else
    match d.flt.recs.find? (fun x => x.sameAs r) with
    | some x => ({ d with flt := { d.flt with recs := mergeRec r d.flt.recs } }).faultNotice r.parcel x.seq
    | none => { (d.bump R.FLT_LOST F.FLT_LOST_LOST) with flt := { d.flt with afterLost := true } }

/-- Whether a station is on the ring: fitted, its domain on, and not bypassed by the Warden (R495). -/
def Dev.stationOn (d : Dev) (st : Nat) : Bool :=
  !(d.gdl.bypassed.contains st) &&
  (if st = 0x01 then d.domUp 1
   else if st = 0x04 ∨ (0x08 ≤ st ∧ st ≤ 0x0F) then d.domUp 3
   else if st = 0x05 then d.domUp 30
   else if 0x10 ≤ st ∧ st ≤ 0x17 then d.domUp (4 + (st - 0x10))
   else if 0x18 ≤ st ∧ st ≤ 0x1F then d.domUp (12 + (st - 0x18))
   else if 0x20 ≤ st ∧ st ≤ 0x23 then d.domUp (20 + (st - 0x20))
   else if 0x24 ≤ st ∧ st ≤ 0x29 then d.domUp (24 + (st - 0x24))
   else if 0x2A ≤ st ∧ st ≤ 0x2D then d.domUp (31 + (st - 0x2A))
   else decide (st ≤ 0x07))

/-- Adds an occurrence to the frame a station holds back (R498); LINK_TAG frames of different slices stay apart, for each slice has its own record
(R307, Table 18.7). -/
def holdRaise (st : Nat) (r : Raise) (x : FltRec) : List (Nat × FltRec) → List (Nat × FltRec)
  | [] => [(st, x)]
  | (s, y) :: t =>
    if s = st ∧ y.code = r.code ∧ (r.code ≠ 0x22 ∨ (y.index = r.index ∧ y.arg0 = r.arg0)) then
      (s, { x with count := satAdd 32 y.count r.count }) :: t
    else (s, y) :: holdRaise st r x t

/-- A station raises a fault: at most one FAULT frame per code per millisecond, the rest coalesced into the next (R498). A bypassed
station sends none (R495). -/
def Dev.raiseFrom (d : Dev) (st : Nat) (r : Raise) : Dev :=
  if !d.stationOn st then d
  else if d.flt.sent.any (fun e => e.1 = st ∧ e.2.1 = r.code ∧ d.clk < e.2.2 + 100000) then
    { d with flt := { d.flt with held := holdRaise st r (d.record r) d.flt.held } }
  else
    let d := { d with flt := { d.flt with
      sent := (st, r.code, d.clk) :: d.flt.sent.filter (fun e => !(e.1 == st && e.2.1 == r.code)) } }
    d.collect r

/-- A held frame as a raised fault. -/
def FltRec.asRaise (x : FltRec) : Raise :=
  { cls := x.cls, code := x.code, sev := x.sev, unit := x.unit, parcel := x.parcel, count := x.count, index := x.index, arg0 := x.arg0 }

/-- Sends the frames whose millisecond has passed (R498). -/
def Dev.flushHeld (d : Dev) : Dev :=
  let due := d.flt.held.filter (fun e => !(d.flt.sent.any (fun x => x.1 = e.1 ∧ x.2.1 = e.2.code ∧ d.clk < x.2.2 + 100000)))
  let d := { d with flt := { d.flt with held := d.flt.held.filter (fun e => !(due.contains e)) } }
  d.forEach due (fun e d => d.raiseFrom e.1 e.2.asRaise)

/-- The clock moves on by `n` units of 10 ns. -/
def Dev.advance (d : Dev) (n : Nat) : Dev := ({ d with clk := d.clk + n }).flushHeld

/-- The station of a Gallery, of a plane, of a port's hub, of a link and of a stack (Table 18.3). -/
def stGal (g : Nat) : Nat := 0x10 + g
/-- The station of a Dense Plane. -/
def stPlane (p : Nat) : Nat := 0x18 + p
/-- The station of a port's intake hub. -/
def stPort (p : Nat) : Nat := 0x20 + p / 4
/-- The station of a link. -/
def stLink (k : Nat) : Nat := 0x24 + k
/-- The station of a stack node. -/
def stStack (s : Nat) : Nat := 0x2A + s
/-- The station of a mesh node. -/
def stNode (g : Nat) : Nat := 0x08 + g

/-- The 60 bytes of a record that its CRC covers (Table 18.6). -/
def FltRec.body (x : FltRec) : List Byte :=
  leBytes 4 x.seq ++ leBytes 4 x.session ++ leBytes 8 x.ptime ++ leBytes 6 x.tick ++ leBytes 1 x.cls ++ leBytes 1 x.code
    ++ leBytes 1 (x.sev % 4 + x.flags) ++ leBytes 1 x.parcel ++ leBytes 1 x.unit ++ leBytes 1 x.chip ++ leBytes 4 x.count
    ++ leBytes 8 x.index ++ leBytes 8 x.arg0 ++ List.replicate 12 0

/-- The 64 bytes of a record (Table 18.6). -/
def FltRec.bytes (x : FltRec) : List Byte := x.body ++ leBytes 4 (crc32 x.body)

/-- Every resource's FAULT notice aside, a notice of kind TIME to every function with DAT_STAT (Table 12.11). -/
def Dev.timeNotice (d : Dev) (stat : Nat) : Dev := d.noticeAll 4 (BitVec.ofNat 64 stat)

end Sys2Proof.Machine
end

