-- ==== Sys2Proof/Machine/Mailbox.lean ====
section
/-!
DEFINITION. Meanings of the host interface's rows: PCIe resets, doorbells, ring states, fetches, completions, notices, interrupt
coalescing, locks (12_host_and_mailboxes.md). COMMAND_START stands in Machine/Firmware.lean.
-/
namespace Sys2Proof.Machine

/-- Function level reset (R366, Table 12.3): rings quiesced and cleared, life count up. -/
def flr (f : Func) (d : Dev) : Dev :=
  let d := d.resetRings f
  let d := d.updRing f (fun r => { r with flr := r.resetOnOff })
  d.raiseLife (lifeOfFunc f)

/-- FLR. -/
def execFlr (f : Func) (s : State) : Host.Outcome State Fault Refusal := devStep s (flr f)

/-- The eight VFs. -/
def vfs : List Func := [0, 1, 2, 3, 4, 5, 6, 7]

/-- Hot reset, link down, or D3hot to D0 (R366, Table 12.3): every function; SR-IOV and MSI-X state to reset values. The link is in
Detect (R367) and trains again; R530 gives 20 ms as the bound, and the model takes all of it (DESIGN CHOICE, log 58). -/
def hotReset (d : Dev) : Dev :=
  let d := d.forEach allFuncs (fun f d => (d.resetRings f).raiseLife (lifeOfFunc f))
  let d := d.forEach allFuncs (fun f d => d.updRing f (fun r => { r with d3 := false }))
  { d with host := { d.host with msix := [], pba := [], vfEnable := false, linkUp := false, linkAt := some (d.clk + 2000000) } }

/-- HOT_RESET. -/
def execHotReset (s : State) : Host.Outcome State Fault Refusal := devStep s hotReset

/-- PE_RST_N: PCIe fundamental reset acts as a hot reset of the host interface (R530). -/
def execPeRstN (s : State) : Host.Outcome State Fault Refusal := devStep s hotReset

/-- VF_ENABLE_CLEARED (R366, Table 12.3). -/
def execVfEnableCleared (s : State) : Host.Outcome State Fault Refusal :=
  devStep s (fun d =>
    let d := d.forEach vfs (fun f d => (d.resetRings f).raiseLife (lifeOfFunc f))
    { d with host := { d.host with vfEnable := false } })

/-- D3HOT: the function's rings are quiesced as if EN had been cleared (R366). -/
def execD3hot (f : Func) (s : State) : Host.Outcome State Fault Refusal :=
  devStep s (fun d => (d.quiesce f).updRing f (fun r => { r with d3 := true }))

/-- Whether a ring state latches doorbells. -/
def RingSt.latches : RingSt → Bool
  | .off => false
  | _ => true

/-- A discarded ring-register or doorbell write (MBX_DB_ERR). -/
def Dev.dbErr (d : Dev) (f : Func) : Dev := d.bump (R.MBX_DB_ERR f) F.MBX_DB_ERR_ERR

/-- A doorbell write that R375 does not let latch: counted, and an ACTIVE function's rings go to ERROR with reason DOORBELL. -/
def Dev.badDoorbell (d : Dev) (f : Func) : Dev :=
  let d := d.dbErr f
  if (d.ring f).st = .active then d.ringError f 2 else d

/-- The command producer doorbell (R375); one that latches wakes SURVEYOR (R440). -/
def cmdDoorbell (f : Func) (v : BitVec 32) (d : Dev) : Dev :=
  let r := d.ring f
  if !r.st.latches || v == r.cmdPi then d
  else if (v - r.cmdPi).toNat ≤ d.cmdSize f ∧ (v - r.cmdCi).toNat ≤ d.cmdSize f then
    (d.updRing f (fun r => { r with cmdPi := v })).wakeSurveyor
  else d.badDoorbell f

/-- MBX_CMD_PI_DB. -/
def execMbxCmdPiDb (f : Func) (v : BitVec 32) (s : State) : Host.Outcome State Fault Refusal := devStep s (cmdDoorbell f v)

/-- The completion consumer doorbell (R375, R440); freed slots take pending notices (R380). -/
def cplDoorbell (f : Func) (v : BitVec 32) (d : Dev) : Dev :=
  let r := d.ring f
  if !r.st.latches || v == r.cplCi then d
  else if (v - r.cplCi).toNat ≤ d.cplSize f ∧ (r.cplPi - v).toNat ≤ d.cplSize f then
    let d := (d.updRing f (fun r => { r with cplCi := v })).wakeSurveyor
    if r.st = .active then d.flushNotices f r.notices else d
  else d.badDoorbell f

/-- MBX_CPL_CI_DB. -/
def execMbxCplCiDb (f : Func) (v : BitVec 32) (s : State) : Host.Outcome State Fault Refusal := devStep s (cplDoorbell f v)

/-- The result consumer doorbell (R375, R440). -/
def resDoorbell (f : Func) (v : BitVec 32) (d : Dev) : Dev :=
  let r := d.ring f
  if !r.st.latches || v == r.resCi then d
  else if (v - r.resCi).toNat ≤ d.resSize f ∧ (r.resPi - v).toNat ≤ d.resSize f then
    (d.updRing f (fun r => { r with resCi := v })).wakeSurveyor
  else d.badDoorbell f

/-- MBX_RES_CI_DB. -/
def execMbxResCiDb (f : Func) (v : BitVec 32) (s : State) : Host.Outcome State Fault Refusal := devStep s (resDoorbell f v)

/-- Whether MBX_RING_CFG holds valid sizes (Table 12.16). -/
def Dev.ringCfgOk (d : Dev) (f : Func) : Bool :=
  let w := R.MBX_RING_CFG f
  let inR (x lo hi : Nat) : Bool := lo ≤ x && x ≤ hi
  inR (d.rf w F.MBX_RING_CFG_RES_LOG2) 6 16 && inR (d.rf w F.MBX_RING_CFG_CPL_LOG2) 4 12
    && inR (d.rf w F.MBX_RING_CFG_CMD_LOG2) 4 12

/-- Writing EN = 1 (R382): OFF goes to ACTIVE with valid sizes, to ERROR CONFIG without; no other state changes. -/
def ringEnable (f : Func) (d : Dev) : Dev :=
  if (d.ring f).st = .off then
    let d := d.setRf (R.MBX_RING_CTL f) F.MBX_RING_CTL_EN 1
    if d.ringCfgOk f then d.updRing f (fun r => { r with st := .active, reason := 0, quiesced := false })
    else d.ringError f 1
  else d

/-- RING_ENABLE. -/
def execRingEnable (f : Func) (s : State) : Host.Outcome State Fault Refusal := devStep s (ringEnable f)

/-- RING_DISABLE: writing EN = 0 (R382). -/
def execRingDisable (f : Func) (s : State) : Host.Outcome State Fault Refusal := devStep s (fun d => d.quiesce f)

/-- The rings reach OFF (R382): indices 0, QUIESCED set; after a PCIe reset the ring registers return to their reset values. -/
def quiesceComplete (f : Func) (d : Dev) : Dev :=
  if (d.ring f).st = .quiescing then
    let clear := (d.ring f).resetOnOff
    let d := d.updRing f (fun r => { r with
      st := .off, reason := 0, quiesced := true, flr := false, resetOnOff := false,
      cmdPi := 0, cmdCi := 0, cplPi := 0, cplCi := 0, resPi := 0, resCi := 0,
      notices := [], cplUnsignalled := 0, resUnsignalled := 0 })
    let d := if clear then d.clearRingRegs f else d
    d.vfEvent f
  else d

/-- The commands a function may have in progress (R376). -/
def fetchLimit (f : Func) : Nat := if f = pf then 32 else 8

/-- Whether the engine may fetch a function's next command, mirror state apart (R376). -/
def Dev.fetchReady (d : Dev) (f : Func) : Bool :=
  (d.ring f).st == .active && (d.ring f).cmdCi != (d.ring f).cmdPi && d.inProgress f < fetchLimit f && 5 ≤ d.cplFree f

/-- COMMAND_FETCH (R373, R376): the command is staged and CMD_CI rises, or the failed fetch puts the rings into ERROR with reason DMA. -/
def commandFetch (f : Func) (r : FetchResult) (d : Dev) : Dev :=
  if !d.fetchReady f then d
  else match r with
    | .failed => if d.mirState = 2 ∨ d.mirState = 5 then d.ringError f 3 else d
    | .got desc =>
      if d.mayFetch (bits desc 15 0) then
        let i := (d.ring f).cmdCi
        let d := (d.emit (.cmdFetch f (d.cmdAddr f i.toNat))).updRing f (fun r => { r with cmdCi := r.cmdCi + 1, fetched := r.fetched ++ [{ idx := i.toNat, desc := desc, ord := d.host.fetches }] })
        let d := { d with host := { d.host with fetches := d.host.fetches + 1 } }
        d.statusBlock f
      else d

/-- COMMAND_FETCH. -/
def execCommandFetch (f : Func) (r : FetchResult) (s : State) : Host.Outcome State Fault Refusal := devStep s (commandFetch f r)

/-- NOTICE: the engine posts a notice of a kind of Table 12.11, or pends it (R380). -/
def execNotice (f : Func) (kind : Fin 7) (arg : BitVec 64) (s : State) : Host.Outcome State Fault Refusal :=
  devStep s (fun d => if kind = 0 then d else d.notice f kind.val arg)

/-- CPL_COALESCE_TIMER (R385). -/
def execCplCoalesceTimer (f : Func) (s : State) : Host.Outcome State Fault Refusal :=
  devStep s (fun d => if 0 < (d.ring f).cplUnsignalled then
    (d.updRing f (fun r => { r with cplUnsignalled := 0 })).interrupt f .cpl else d)

/-- RES_COALESCE_TIMER (R385). -/
def execResCoalesceTimer (f : Func) (s : State) : Host.Outcome State Fault Refusal :=
  devStep s (fun d => if 0 < (d.ring f).resUnsignalled then
    (d.updRing f (fun r => { r with resUnsignalled := 0 })).interrupt f .res else d)

/-- The owner ID of a lock user (Table 12.13). -/
def ownerId : LockUser → Nat
  | .core c => 1 + c.val
  | .fn f => if f = pf then 0x10 else 0x11 + f.val

/-- Whether LCK_GRANT_n lets an owner ID acquire lock n (R391, Table 12.17). -/
def Dev.granted (d : Dev) (n id : Nat) : Bool :=
  let g := d.reg (R.LCK_GRANT n)
  if id < 0x10 then fget F.LCK_GRANT_SURV g == 1
  else if id = 0x10 then fget F.LCK_GRANT_PF g == 1
  else if id < 0x40 then fget F.LCK_GRANT_VF g / 2 ^ (id - 0x11) % 2 == 1
  else fget F.LCK_GRANT_REMOTE g == 1

/-- Results of an acquisition (Table 12.14). -/
inductive AcqResult where
  | acquired | acquiredBroken | busy | heldSelf | denied
deriving DecidableEq, Repr

/-- The code of an acquisition result (Table 12.14). -/
def AcqResult.code : AcqResult → Nat
  | .acquired => 0 | .acquiredBroken => 1 | .busy => 2 | .heldSelf => 3 | .denied => 4

/-- The lock word (Table 12.14). -/
def lockWord (broken : Bool) (result life owner : Nat) : BitVec 32 :=
  BitVec.ofNat 32 (b2n broken * 2 ^ 31 + result * 2 ^ 28 + life % 65536 * 256 + owner % 256)

/-- The outcome of an acquisition by an owner ID (R389): the lock after it and the result. -/
def Lock.acquire (l : Lock) (granted : Bool) (id life : Nat) : Lock × AcqResult :=
  if !granted then (l, .denied)
  else if l.owner = 0 then
    ({ owner := id, life := life, broken := false }, if l.broken then .acquiredBroken else .acquired)
  else if l.owner = id then (l, .heldSelf)
  else (l, .busy)

/-- Acquires lock `n` for an owner ID; the lock word goes back to the reader (R388). -/
def Dev.lockAcquire (d : Dev) (n : Fin 64) (id : Nat) : AcqResult × BitVec 32 × Dev :=
  let life := d.rf (R.LCK_LIFE (lifeOfOwner id)) F.LCK_LIFE_LIFE
  let (l, r) := d.locks[n].acquire (d.granted n id) id life
  (r, lockWord (r == .acquiredBroken) r.code l.life l.owner, { d with locks := d.locks.set n l })

/-- LCK_ACQ: a read of LCK_ACQ_n (R388, R389). -/
def execLckAcq (u : LockUser) (n : Fin 64) (s : State) : Host.Outcome State Fault Refusal :=
  devStep s (fun d =>
    let (_, w, d) := d.lockAcquire n (ownerId u)
    d.emit (.lockWord (ownerId u) w))

/-- Releases lock `n` if the owner ID holds it; otherwise counts the attempt (R388). -/
def Dev.lockRelease (d : Dev) (n : Fin 64) (id : Nat) (rel : Bool) : Dev :=
  if rel ∧ d.locks[n].owner = id then { d with locks := d.locks.set n {} }
  else d.bump R.LCK_BAD_REL F.LCK_BAD_REL_BAD

/-- LCK_REL: a write of LCK_REL_n (R388). -/
def execLckRel (u : LockUser) (n : Fin 64) (v : BitVec 32) (s : State) : Host.Outcome State Fault Refusal :=
  devStep s (fun d => d.lockRelease n (ownerId u) (bit v 0))

end Sys2Proof.Machine
end

