-- ==== Sys2Proof/Machine/Paths.lean ====
section
/-!
DEFINITION. The geometry of a Survey group: coordinates, wires between chips, and dimension-ordered ways between chips round the wires that are out of
use (10_traverse_links.md R316, R323, R324, R326).
-/
namespace Sys2Proof.Machine

/-- The axis of a link: 0 X, 1 Y, 2 Z. Links 0 to 5 are X−, X+, Y−, Y+, Z−, Z+. -/
def axisOf (k : Fin 6) : Nat := k.val / 2

/-- Size of an axis of the group. -/
def Dev.axisSize (d : Dev) (a : Nat) : Nat :=
  1 + d.rf R.TRV_GRP_STAT (match a with
    | 0 => F.TRV_GRP_STAT_SX_M1
    | 1 => F.TRV_GRP_STAT_SY_M1
    | _ => F.TRV_GRP_STAT_SZ_M1)

/-- A chip's coordinate on an axis. -/
def coordOf (c a : Nat) : Nat := c / 4 ^ a % 4

/-- A chip with another coordinate on an axis. -/
def withCoord (c a x : Nat) : Nat := c - coordOf c a * 4 ^ a + x * 4 ^ a

/-- Whether a chip index lies within the group's sizes. -/
def Dev.inGroup (d : Dev) (c : Nat) : Bool :=
  decide (coordOf c 0 < d.axisSize 0) && decide (coordOf c 1 < d.axisSize 1) && decide (c / 16 < d.axisSize 2)

/-- The group state (TRV_GRP_STAT.STATE). -/
def Dev.grpSt (d : Dev) : Nat := d.rf R.TRV_GRP_STAT F.TRV_GRP_STAT_STATE

/-- Whether this chip is a GN8-0S, whose axes join minus to minus (R316). -/
def Dev.small (d : Dev) : Bool := d.fus.part == 4

/-- The link of an axis in a direction. A GN8-0S has only the minus links of a ring of 2 (R316). -/
def Dev.axisLink (d : Dev) (a : Nat) (plus : Bool) : Fin 6 := fin6 (2 * a + b2n (plus && !d.small))

/-- The neighbour of a chip on an axis in a direction (R316). -/
def Dev.stepOn (d : Dev) (c a : Nat) (plus : Bool) : Nat :=
  let s := d.axisSize a
  withCoord c a (if plus then (coordOf c a + 1) % s else (coordOf c a + s - 1) % s)

/-- The wire that a chip's link on an axis holds, named by the chip whose plus link it is, and the axis; on a GN8-0S, by coordinate 0 (R316). -/
def Dev.wireOf (d : Dev) (c a : Nat) (plus : Bool) : Nat × Nat :=
  if d.small then (withCoord c a 0, a) else if plus then (c, a) else (d.stepOn c a false, a)

/-- Whether a route may use a link: it is ACTIVE, or on its way back there (R312, R313, R326). -/
def Link.routable (l : Link) : Bool := l.st == .active || l.retraining

/-- The wires of this chip that are out of use (R326). -/
def Dev.ownCuts (d : Dev) : List (Nat × Nat) :=
  ((List.finRange 6).filter (fun k => decide (2 ≤ d.axisSize (axisOf k)) && (k.val % 2 == 0 || !d.small) && !(d.link k).routable)).map
    (fun k => d.wireOf d.selfChip (axisOf k) (k.val % 2 == 1))

/-- Whether a wire is out of use, as this chip finds or another has reported (R326). -/
def Dev.wireCut (d : Dev) (w : Nat × Nat) : Bool := d.grp.cuts.any (fun e => e.2 == w) || d.ownCuts.contains w

/-- Whether a direction round a ring leads from a chip to a coordinate, within `n` steps over wires in use. -/
def Dev.ringOpen (d : Dev) (a : Nat) (plus : Bool) (t : Nat) : Nat → Nat → Bool
  | 0, c => coordOf c a == t
  | n + 1, c => coordOf c a == t || (!d.wireCut (d.wireOf c a plus) && Dev.ringOpen d a plus t n (d.stepOn c a plus))

/-- Whether the shorter way round a ring of `s` from `me` to `dest` is the plus direction; a tie goes to the direction that does not cross the dateline
(R323). -/
def goesPlus (s me dest : Nat) : Bool :=
  let up := (dest + s - me) % s
  let down := (me + s - dest) % s
  if up = down then decide (me < dest) else decide (up < down)

/-- The way from a chip to a coordinate of an axis: the shorter (R323), or the other way round the ring where that one is out of use (R326). -/
def Dev.wayOn (d : Dev) (c a t : Nat) : Option Bool :=
  let plus := goesPlus (d.axisSize a) (coordOf c a) t
  [plus, !plus].find? (fun p => d.ringOpen a p t 3 c)

/-- The first axis on which two chips differ: X, then Y, then Z (R323). -/
def firstAxis (c dest : Nat) : Option Nat := [0, 1, 2].find? (fun a => coordOf c a != coordOf dest a)

/-- Whether a dimension-ordered route leads from a chip to another over the axes given. -/
def Dev.reaches (d : Dev) (dest : Nat) : List Nat → Nat → Bool
  | [], _ => true
  | a :: t, c => coordOf c a == coordOf dest a && Dev.reaches d dest t c
      || coordOf c a != coordOf dest a && (d.wayOn c a (coordOf dest a)).isSome && Dev.reaches d dest t (withCoord c a (coordOf dest a))

/-- The axis and direction in which chip `c` sends what is for `dest` (R323, R326). -/
def Dev.wayFrom (d : Dev) (c dest : Nat) : Option (Nat × Bool) :=
  if !d.inGroup dest || !d.reaches dest [0, 1, 2] c then none
  else match firstAxis c dest with
    | none => none
    | some a => (d.wayOn c a (coordOf dest a)).map (fun p => (a, p))

/-- The link by which chip `c` sends what is for `dest`. -/
def Dev.outFrom (d : Dev) (c dest : Nat) : Option (Fin 6) := (d.wayFrom c dest).map (fun w => d.axisLink w.1 w.2)

/-- This chip's link toward a chip. -/
def Dev.outFor (d : Dev) (dest : Nat) : Option (Fin 6) := d.outFrom d.selfChip dest

/-- Whether the route from chip `c` to `dest` passes chip `x`, within `n` hops. -/
def Dev.passes (d : Dev) (x dest : Nat) : Nat → Nat → Bool
  | 0, c => c == x
  | n + 1, c => c == x || (match d.wayFrom c dest with
    | none => false
    | some (a, p) => Dev.passes d x dest n (d.stepOn c a p))

end Sys2Proof.Machine
end

