-- ==== Sys2Proof/Machine/Links.lean ====
section
/-!
DEFINITION. Traverse links: training, flits, credits, replay, sealing and messages (10_traverse_links.md, R294 to R315).
-/
namespace Sys2Proof.Machine

/-- Moves a link to a state and posts its LINK notice to the PF (Table 12.11). -/
def Dev.setLink (d : Dev) (k : Fin 6) (st : LinkSt) : Dev :=
  let d := d.updLink k (fun l => { l with st := st })
  d.notice pf 5 (BitVec.ofNat 64 (k.val + 16 * st.code))

/-- The role of a link: 0 torus, 1 host attach, 2 storage attach. -/
def Dev.linkRole (d : Dev) (k : Fin 6) : Nat := d.rf (R.TRV_CTL k) F.TRV_CTL_ROLE

/-- The events that wait to enter a link that leaves ACTIVE are dropped and counted: none waits for its return (R313). -/
def Dev.dropWaiting (d : Dev) (k : Fin 6) : Dev :=
  let n := (d.link k).txEv[0].length + (d.link k).txEv[1].length
  (d.updLink k (fun l => { l with txEv := Vector.replicate 2 [] })).bump (R.TRV_DOWN_DROP k) F.TRV_DOWN_DROP_DOWN n

/-- A link goes to RETIRED with a reason, and the fault is logged (Table 10.8, Table 18.1). -/
def Dev.retireLink (d : Dev) (k : Fin 6) (reason : Nat) : Dev :=
  let d := (d.setRf (R.TRV_STAT k) F.TRV_STAT_REASON reason).setRf (R.TRV_STAT k) F.TRV_STAT_SEALED 0
  let d := (d.dropWaiting k).updLink k (fun l => { l with retraining := false, replay := [], nak := false })
  (d.setLink k .retired).raiseFrom (stLink k) (Flt.linkRetired k reason)

/-- Buffer sizes of the channels, in flits (Table 10.4). -/
def chanSize (c : Nat) : Nat := if c < 2 then 128 else if c < 4 then 32 else 16

/-- CRC-16 of a flit's bits 143:0 (R297). -/
def flitCrc (f : BitVec 160) : Nat := crcL 16 0x8BB7 0xFFFF (leBytes 18 (f.extractLsb' 0 144).toNat)

/-- A flit from its fields, with its CRC (Table 10.3). -/
def mkFlit (vc : Nat) (enc flag : Bool) (seq : Nat) (payload : BitVec 128) : BitVec 160 :=
  let w := BitVec.ofNat 160 (vc % 8 + b2n enc * 8 + b2n flag * 16 + seq % 256 * 32 + payload.toNat * 2 ^ 16)
  BitVec.ofNat 160 (w.toNat + flitCrc w * 2 ^ 144)

/-- VC of a flit. -/
def flitVc (f : BitVec 160) : Nat := bits f 2 0
/-- FLAG of a flit. -/
def flitFlag (f : BitVec 160) : Bool := bit f 4
/-- SEQ of a flit. -/
def flitSeq (f : BitVec 160) : BitVec 8 := f.extractLsb' 5 8
/-- PAYLOAD of a flit. -/
def flitPayload (f : BitVec 160) : BitVec 128 := f.extractLsb' 16 128
/-- Whether a flit's CRC is good (R297). -/
def flitGood (f : BitVec 160) : Bool := bits f 159 144 == flitCrc f

/-- Sixteen bytes as a payload. -/
def bytesTo128 (l : List Byte) : BitVec 128 := BitVec.ofNat 128 (ofLe (slice 0 16 l))

/-- The IV of block `b` of a direction: its nonce XOR b, as a little-endian number (R306). -/
def blockIv (nonce : BitVec 96) (b : Nat) : List Byte := leBytes 12 (nonce ^^^ BitVec.ofNat 96 b).toNat

/-- The keystream of flit `i` of block `b` in a direction: one AES block per flit (R306). -/
def keyPad (key : BitVec 256) (nonce : BitVec 96) (b i : Nat) : BitVec 128 := bytesTo128 (gcmPad (beBytes 32 key.toNat) (blockIv nonce b) i)

/-- The tag of a block of flits in a direction: AES-256-GCM with their 16-bit headers as additional data and their payloads as ciphertext (R306). -/
def tagOf (key : BitVec 256) (nonce : BitVec 96) (b : Nat) (fl : List (BitVec 160)) : BitVec 128 :=
  bytesTo128 (gcmTag (beBytes 32 key.toNat) (blockIv nonce b) (fl.flatMap (fun f => leBytes 2 (f.extractLsb' 0 16).toNat))
    (fl.flatMap (fun f => leBytes 16 (flitPayload f).toNat)))

/-! ### Lanes (R295, R296) -/

/-- Bytes of a superblock: sixteen flits. -/
def superblockBytes : Nat := 320

/-- The bytes of logical lane `i` in a superblock: byte j of the stream goes to lane j mod 8, which makes five data blocks of eight bytes (R296). -/
def laneBytes (b : List Byte) (i : Nat) : List Byte := (List.range 40).map (fun n => b.getD (8 * n + i) 0)

/-- The physical lane of each logical one, the spare being lane 8 (R295). -/
def laneMapOf (bad : Nat) : List Nat := (List.range 8).map (fun i => if i = bad then 8 else i)

/-- A flit leaves on the lanes: sixteen flits fill a superblock, and after 819 superblocks every lane sends its alignment marker (R296). -/
def Dev.putFlit (d : Dev) (k : Fin 6) (vc : Nat) (f : BitVec 160) : Dev :=
  let bytes := leBytes 20 f.toNat
  let d := d.emit (.flit k vc bytes)
  let b := (d.link k).superblock ++ bytes
  if b.length < superblockBytes then d.updLink k (fun l => { l with superblock := b })
  else
    let n := ((d.link k).superblocks + 1) % 819
    let lanes := (List.range 8).map (fun i => ((laneMapOf (d.rf (R.TRV_STAT k) F.TRV_STAT_BADLANE)).getD i i, laneBytes b i))
    let d := (d.updLink k (fun l => { l with superblock := b.drop superblockBytes, superblocks := n })).emit (.superblock k lanes)
    if n = 0 then d.emit (.laneMarker k) else d

/-- NULL flits fill the superblock that is under way when nothing else is sent (R297, R298). -/
def Dev.fillSuperblock (d : Dev) (k : Fin 6) : Dev :=
  if (d.link k).superblock.isEmpty then d
  else d.forEach (List.range ((superblockBytes - (d.link k).superblock.length) / 20)) (fun _ d => d.putFlit k 7 (mkFlit 7 false false 0 0))

/-- Whether a link's flits are sealed now (R306, R308). -/
def Dev.sealed (d : Dev) (k : Fin 6) : Bool := d.rf (R.TRV_STAT k) F.TRV_STAT_SEALED == 1

/-- Counts in a register that counts thousands (Table 10.15). -/
def Dev.bumpThousand (d : Dev) (a : Nat) (f : Fld) (n : Nat) : Dev := if n % 1000 = 0 then d.bump a f else d

/-- Sends one sequenced flit: sealed where the link is and the channel is S0 to P, kept for replay, entered into the open block
(R301, R306). -/
def Dev.sendFlit (d : Dev) (k : Fin 6) (vc : Nat) (flag : Bool) (payload : BitVec 128) : Dev :=
  let l := d.link k
  let enc := d.sealed k && vc < 4
  let pad := if enc then keyPad l.keys.txKey l.keys.txNonce l.txBlock l.txFlits.length else 0
  let f := mkFlit vc enc flag l.txSeq.toNat (payload ^^^ pad)
  let d := d.updLink k (fun l => { l with txSeq := l.txSeq + 1, replay := l.replay ++ [(l.txSeq, f)],
                                          txFlits := if enc then l.txFlits ++ [f] else l.txFlits, txCount := l.txCount + 1 })
  (d.putFlit k vc f).bumpThousand (R.TRV_FLIT_TX k) F.TRV_FLIT_TX_TX (l.txCount + 1)

/-- Closes the open sealed block: its tag goes out in a TAG flit (R306). -/
def Dev.closeBlock (d : Dev) (k : Fin 6) : Dev :=
  let l := d.link k
  if l.txFlits.isEmpty then d
  else d.updLink k (fun x => { x with txTags := x.txTags ++ [tagOf l.keys.txKey l.keys.txNonce l.txBlock l.txFlits], txBlock := x.txBlock + 1, txFlits := [] })

/-- Whether a channel holds a credit (R299, R300). -/
def Link.credit (l : Link) (c : Fin 5) : Bool := (l.sent[c] + 256 - l.got[c] % 256) % 256 < chanSize c

/-- Counts a sent flit against its channel. -/
def Link.spend (l : Link) (c : Fin 5) : Link := { l with sent := l.sent.set c ((l.sent[c] + 1) % 256) }

/-- Whether a link carries flits: in ACTIVE, and the ECHO exchanges of VERIFY (Table 10.8). -/
def Link.carries (l : Link) : Bool := l.st == .active || l.st == .verify

/-- Sends one flit that may go now, TAG first, then M, P, Q, S1, S0; at most 64 are unacknowledged (R298, R299, R301). -/
def Dev.sendOne (d : Dev) (k : Fin 6) : Dev :=
  let l := d.link k
  if !l.carries ∨ 64 ≤ l.replay.length then d
  else match l.txTags with
    | t :: ts => (d.updLink k (fun l => { l with txTags := ts })).sendFlit k 5 false t
    | [] =>
      match l.txMsg[2], l.credit 4 with
      | (fl, p) :: t, true => (d.updLink k (fun l => ({ l with txMsg := l.txMsg.set 2 t }).spend 4)).sendFlit k 4 fl p
      | _, _ =>
        match l.txMsg[1], l.credit 3 with
        | (fl, p) :: t, true => (d.updLink k (fun l => ({ l with txMsg := l.txMsg.set 1 t }).spend 3)).sendFlit k 3 fl p
        | _, _ =>
          match l.txMsg[0], l.credit 2 with
          | (fl, p) :: t, true => (d.updLink k (fun l => ({ l with txMsg := l.txMsg.set 0 t }).spend 2)).sendFlit k 2 fl p
          | _, _ =>
            match l.txEv[1], l.credit 1 with
            | a :: b :: t, true =>
              (d.updLink k (fun l => ({ l with txEv := l.txEv.set 1 t }).spend 1)).sendFlit k 1 false (b ++ a)
            | [a], true => (d.updLink k (fun l => ({ l with txEv := l.txEv.set 1 [] }).spend 1)).sendFlit k 1 true (a.setWidth 128)
            | _, _ =>
              match l.txEv[0], l.credit 0 with
              | a :: b :: t, true =>
                (d.updLink k (fun l => ({ l with txEv := l.txEv.set 0 t }).spend 0)).sendFlit k 0 false (b ++ a)
              | [a], true => (d.updLink k (fun l => ({ l with txEv := l.txEv.set 0 [] }).spend 0)).sendFlit k 0 true (a.setWidth 128)
              | _, _ => d

/-- Sends up to `n` flits; a block that reaches 256 flits closes (R306). -/
def Dev.pump (d : Dev) (k : Fin 6) : Nat → Dev
  | 0 => d
  | n + 1 =>
    let d := d.sendOne k
    let d := if 256 ≤ (d.link k).txFlits.length then d.closeBlock k else d
    Dev.pump d k n

/-- The most flits that can be unacknowledged (R301). -/
def window : Nat := 64

/-- The header payload of a message (Table 10.6). -/
def msgHeader (m : LinkMsg) : BitVec 128 :=
  BitVec.ofNat 128 (m.typ.toNat + m.src.toNat * 2 ^ 8 + m.dst.toNat * 2 ^ 14 + m.tag.toNat * 2 ^ 20
    + (m.data.length + 15) / 16 % 32 * 2 ^ 28 + m.arg.toNat * 2 ^ 64)

/-- The data flits of a message's bytes; the last flit carries FLAG. -/
def dataFlits : Nat → List Byte → List (Bool × BitVec 128)
  | 0, _ => []
  | n + 1, b => (n == 0, bytesTo128 (b.take 16)) :: dataFlits n (b.drop 16)

/-- The flits of a message (R304). -/
def msgFlits (m : LinkMsg) : List (Bool × BitVec 128) :=
  let n := (m.data.length + 15) / 16
  (n == 0, msgHeader m) :: dataFlits n m.data

/-- The channel a message type belongs to: 0 Q, 1 P, 2 M (Table 10.7). -/
def msgChan (typ : Nat) : Option (Fin 3) :=
  if 0x01 ≤ typ ∧ typ ≤ 0x07 then some 0
  else if typ = 0x81 ∨ typ = 0x82 ∨ typ = 0x85 ∨ typ = 0x86 then some 1
  else if 0x40 ≤ typ ∧ typ ≤ 0x44 then some 2
  else none

/-- Queues a message on a link and sends what may go. A link outside ACTIVE takes none (R313), but for M in VERIFY. -/
def Dev.sendMsg (d : Dev) (k : Fin 6) (m : LinkMsg) : Dev :=
  match msgChan m.typ.toNat with
  | none => d
  | some c => if (d.link k).st ≠ .active ∧ !(c == 2 && (d.link k).st == .verify) then d else (d.updLink k (fun l => { l with txMsg := l.txMsg.set c (l.txMsg[c] ++ msgFlits m) })).pump k window

/-- Sends an ECHO to the partner of a link, its count in ARG (R328, Table 10.7). -/
def Dev.sendEcho (d : Dev) (k : Fin 6) : Dev :=
  d.sendMsg k { typ := 0x41, src := BitVec.ofNat 6 d.selfChip, dst := BitVec.ofNat 6 (d.rf (R.TRV_STAT k) F.TRV_STAT_PCHIP), tag := 0,
                arg := BitVec.ofNat 64 (d.link k).echoes, data := [] }

/-- The link that a routing entry gives for a chip (Table 10.11). -/
def Dev.routeLink (d : Dev) (c : Nat) : Option (Fin 6) :=
  let out := d.rf (R.TRV_RT c) F.TRV_RT_WORD % 8
  if h : 2 ≤ out ∧ out < 8 then some ⟨out - 2, by omega⟩ else none

/-- Answers a request over the link it came from (R304): a P message with the request's tag. -/
def Dev.answer (d : Dev) (k : Fin 6) (m : LinkMsg) (typ : Nat) (arg : BitVec 64) (data : List Byte) : Dev :=
  d.sendMsg k { typ := BitVec.ofNat 8 typ, src := BitVec.ofNat 6 d.selfChip, dst := m.src, tag := m.tag, arg := arg, data := data }

/-- Frees `n` flits of a channel: credits to report (R300). Flits from before ACTIVE return none. -/
def Link.free (l : Link) (c : Fin 5) (n : Nat) : Link :=
  { l with freed := l.freed.set c ((l.freed[c] + (n - l.stale[c])) % 256), stale := l.stale.set c (l.stale[c] - n) }

/-- Flits of a message. -/
def msgLen (m : LinkMsg) : Nat := 1 + (m.data.length + 15) / 16

/-- Takes a message out of the link's receive buffer, its flits freed, if it stands there (R303). -/
def Dev.takeMsg (d : Dev) (k : Fin 6) (m : LinkMsg) : Dev :=
  if (d.link k).inbox.contains m then
    match msgChan m.typ.toNat with
    | some c => d.updLink k (fun l =>
        ({ l with inbox := l.inbox.erase m }).free ⟨c.val + 2, by have := c.isLt; omega⟩ (msgLen m))
    | none => d
  else d

/-- The message that header and data payloads spell, `none` when it is malformed (R304). -/
def parseMsg (chan : Fin 3) : List (BitVec 128) → Option LinkMsg
  | [] => none
  | h :: t =>
    let typ := bits h 7 0
    if msgChan typ = some chan ∧ bits h 32 28 = t.length then
      some { typ := h.extractLsb' 0 8, src := h.extractLsb' 8 6, dst := h.extractLsb' 14 6, tag := h.extractLsb' 20 8,
             arg := h.extractLsb' 64 64, data := t.flatMap (fun p => leBytes 16 p.toNat) }
    else none

/-- Whether a message is for this chip (R325): by its DST; every message of a link in a reserved role, every marker and echo, which go from link to link
(R327, R328), and every message to a chip without a coordinate (DEDUCED, log entry 32). -/
def Dev.forMe (d : Dev) (k : Fin 6) (m : LinkMsg) : Bool :=
  d.linkRole k != 0 || !d.grp.coordSet || m.dst.toNat == d.selfChip || m.typ == 0x40 || m.typ == 0x41 || m.typ == 0x42

/-- An ECHO_RSP in VERIFY ends an exchange; the next ECHO follows until sixteen are done (Table 10.8, R328). -/
def Dev.gotEcho (d : Dev) (k : Fin 6) : Dev :=
  if (d.link k).st ≠ .verify ∨ 16 ≤ (d.link k).echoes then d
  else
    let n := (d.link k).echoes + 1
    let d := d.updLink k (fun l => { l with echoes := n })
    if n < 16 then d.sendEcho k else d

/-- A message has come whole: malformed, for this chip, or to be passed on by its DST through the routing table (R304, R325); group management crosses a
chip that has no table yet along the routes of R323 (Table 10.10). -/
def Dev.gotMsg (d : Dev) (k : Fin 6) (chan : Fin 3) (ps : List (BitVec 128)) : Dev :=
  let c : Fin 5 := ⟨chan.val + 2, by have := chan.isLt; omega⟩
  match parseMsg chan ps with
  | none => (d.bump (R.TRV_MSG_ERR k) F.TRV_MSG_ERR_ERR).updLink k (fun l => l.free c ps.length)
  | some m =>
    if !d.forMe k m then
      let d := d.updLink k (fun l => l.free c ps.length)
      match (if m.typ = 0x44 ∧ d.grpSt ≤ 1 then d.outFor m.dst.toNat else d.routeLink m.dst.toNat) with
      | some o => d.sendMsg o m
      | none => d
    else if m.typ = 0x42 then (d.updLink k (fun l => l.free c ps.length)).gotEcho k
    else d.updLink k (fun l => { l with inbox := l.inbox ++ [m] })

/-- The events of an S flit's payload (Table 10.3). -/
def flitEvents (flag : Bool) (p : BitVec 128) : List (BitVec 64) :=
  if flag then [p.extractLsb' 0 64] else [p.extractLsb' 0 64, p.extractLsb' 64 64]

/-- A flit that a link must not carry: S, Q or P in plain text on a torus link, whose sealing cannot be disabled, or S on a link in a reserved role
(R149, R308). It is discarded; its events count as events from a link that are dropped, a message as one in error (DESIGN CHOICE, log entry 55). -/
def Dev.barredFlit (d : Dev) (k : Fin 6) (f : BitVec 160) : Bool :=
  if d.linkRole k = 0 then d.sealed k && decide (flitVc f < 4) && !bit f 3 else decide (flitVc f < 2)

/-- Discards a barred flit; its buffer is free again. -/
def Dev.dropFlit (d : Dev) (k : Fin 6) (f : BitVec 160) : Dev :=
  if h : flitVc f < 2 then
    (d.bump (R.TRV_RT_DROP k) F.TRV_RT_DROP_DROP (if flitFlag f then 1 else 2)).updLink k (fun l => l.free ⟨flitVc f, by omega⟩ 1)
  else if h2 : flitVc f < 4 then
    (if flitFlag f then d.bump (R.TRV_MSG_ERR k) F.TRV_MSG_ERR_ERR else d).updLink k (fun l => l.free ⟨flitVc f, by omega⟩ 1)
  else d

/-- An accepted flit is unsealed and delivered to its channel (R301, R307). -/
def Dev.acceptFlit (d : Dev) (k : Fin 6) (f : BitVec 160) : Dev :=
  let l := d.link k
  let vc := flitVc f
  let enc := bit f 3 && d.sealed k
  let pad := if enc then keyPad l.keys.rxKey l.keys.rxNonce l.rxBlock l.rxFlits.length else 0
  let p := flitPayload f ^^^ pad
  let d := d.updLink k (fun l => { l with rxSeq := l.rxSeq + 1, nak := false, rxCount := l.rxCount + 1,
                                          rxFlits := if enc then l.rxFlits ++ [f] else l.rxFlits })
  let d := d.bumpThousand (R.TRV_FLIT_RX k) F.TRV_FLIT_RX_RX (l.rxCount + 1)
  if d.barredFlit k f then d.dropFlit k f
  else if h : vc < 2 then
    let evs := flitEvents (flitFlag f) p
    d.updLink k (fun l => { l with rxS := l.rxS.set vc (l.rxS[vc] ++ [evs]), rxEvents := if enc then l.rxEvents ++ evs else l.rxEvents })
  else if h2 : vc < 5 then
    let c : Fin 3 := ⟨vc - 2, by omega⟩
    let ps := (d.link k).rxAsm[c] ++ [p]
    if flitFlag f then (d.updLink k (fun l => { l with rxAsm := l.rxAsm.set c [] })).gotMsg k c ps
    else d.updLink k (fun l => { l with rxAsm := l.rxAsm.set c ps })
  else
    d.updLink k (fun l =>
      let b : RxBlock := { tag := flitPayload f, num := l.rxBlock, flits := l.rxFlits, events := l.rxEvents }
      { l with rxClosed := l.rxClosed ++ [b], rxBlock := l.rxBlock + 1, rxFlits := [], rxEvents := [] })

/-- A link leaves ACTIVE for RETRAIN: the replay buffer is discarded (R312, Table 10.8). Entering it again within 1 s of reaching
ACTIVE makes the retrain before it a failed one; RETRAIN_MAX consecutive failed retrains retire the link. -/
def Dev.enterRetrain (d : Dev) (k : Fin 6) : Dev :=
  let l := d.link k
  if l.st ≠ .active then d
  else
    let early := l.wasRetrain && d.clk < l.activeAt + 100000000
    let fails := if early then l.failCount + 1 else 0
    let d := if early then d.bump (R.TRV_RETRAIN_CNT k) F.TRV_RETRAIN_CNT_FAILED else d
    let d := (d.dropWaiting k).updLink k (fun l => { l with failCount := fails, replay := [], replayTimes := [] })
    if d.rf (R.TRV_RETRY_CFG k) F.TRV_RETRY_CFG_RETRAIN_MAX ≤ fails ∧ early then d.retireLink k 3
    else
      let d := d.updLink k (fun l => { l with retraining := true })
      let d := (d.setRf (R.TRV_STAT k) F.TRV_STAT_SEALED 0).bump (R.TRV_RETRAIN_CNT k) F.TRV_RETRAIN_CNT_ALL
      (d.setLink k .retrain).raiseFrom (stLink k) (Flt.linkRetrain k (d.rf (R.TRV_STAT k) F.TRV_STAT_REASON))

/-- The sender replays its buffer in order, unchanged; REPLAY_MAX replays within REPLAY_WIN send the link to RETRAIN (R301, R312). -/
def Dev.doReplay (d : Dev) (k : Fin 6) : Dev :=
  let l := d.link k
  if l.st ≠ .active ∨ l.replay.isEmpty then d
  else
    let d := d.bump (R.TRV_REPLAY_CNT k) F.TRV_REPLAY_CNT_REPLAY
    let d := d.forEach l.replay (fun e d => d.putFlit k (flitVc e.2) e.2)
    let win := d.rf (R.TRV_RETRY_CFG k) F.TRV_RETRY_CFG_REPLAY_WIN * 100
    let times := d.clk :: l.replayTimes.filter (fun t => d.clk < t + win)
    let d := d.updLink k (fun l => { l with replayTimes := times })
    if d.rf (R.TRV_RETRY_CFG k) F.TRV_RETRY_CFG_REPLAY_MAX ≤ times.length then d.enterRetrain k else d

/-- Drops the flits up to an acknowledged SEQ from the replay buffer (R301). -/
def ackUpTo (seq : BitVec 8) (l : List (BitVec 8 × BitVec 160)) : List (BitVec 8 × BitVec 160) :=
  if l.any (fun e => e.1 == seq) then (l.dropWhile (fun e => e.1 != seq)).drop 1 else l

/-- An LCTL payload: acknowledgement, cumulative credits, replay on a NAK (R300, R301, Table 10.5). -/
def lctl (k : Fin 6) (p : BitVec 128) (d : Dev) : Dev :=
  if !(d.link k).carries then d
  else
    let d := d.updLink k (fun l => { l with
      replay := ackUpTo (p.extractLsb' 0 8) l.replay
      got := #v[bits p 23 16, bits p 31 24, bits p 39 32, bits p 47 40, bits p 55 48] })
    let d := if bit p 8 then d.doReplay k else d
    d.pump k window

/-- LCTL. -/
def execLctl (k : Fin 6) (p : BitVec 128) (s : State) : Host.Outcome State Fault Refusal := devStep s (lctl k p)

/-- A flit arrives (R301): LCTL and NULL are unsequenced; a sequenced flit is accepted when its CRC is good and its SEQ is the next
expected, else discarded with a NAK. -/
def flitReceive (k : Fin 6) (f : BitVec 160) (d : Dev) : Dev :=
  let l := d.link k
  if !l.carries then d
  else if !flitGood f then (d.bump (R.TRV_CRC_CNT k) F.TRV_CRC_CNT_CRC).updLink k (fun l => { l with nak := true })
  else if flitVc f = 7 then d
  else if flitVc f = 6 then lctl k (flitPayload f) d
  else if flitSeq f = l.rxSeq then d.acceptFlit k f
  else d.updLink k (fun l => { l with nak := true })

/-- FLIT_RECEIVE. -/
def execFlitReceive (k : Fin 6) (f : BitVec 160) (s : State) : Host.Outcome State Fault Refusal := devStep s (flitReceive k f)

/-- LCTL_SEND: acknowledgement, NAK and cumulative credits go out in an LCTL flit (R300). -/
def execLctlSend (k : Fin 6) (s : State) : Host.Outcome State Fault Refusal :=
  devStep s (fun d =>
    let l := d.link k
    if !l.carries then d
    else
      let p := BitVec.ofNat 128 ((l.rxSeq - 1).toNat + b2n l.nak * 2 ^ 8 + l.freed[0] * 2 ^ 16 + l.freed[1] * 2 ^ 24
        + l.freed[2] * 2 ^ 32 + l.freed[3] * 2 ^ 40 + l.freed[4] * 2 ^ 48)
      d.putFlit k 6 (mkFlit 6 false false 0 p))

/-- REPLAY_TIMEOUT: 2 µs with flits outstanding and no acknowledgement (R301). -/
def execReplayTimeout (k : Fin 6) (s : State) : Host.Outcome State Fault Refusal := devStep s (fun d => d.doReplay k)

/-- BLOCK_CLOSE: 1 µs after the block's first flit (R306). -/
def execBlockClose (k : Fin 6) (s : State) : Host.Outcome State Fault Refusal :=
  devStep s (fun d => (d.closeBlock k).pump k window)

/-- BLOCK_LOCK_LOSS (R312). -/
def execBlockLockLoss (k : Fin 6) (s : State) : Host.Outcome State Fault Refusal := devStep s (fun d => d.enterRetrain k)

/-- TRV_RETRAIN_WRITE: writing TRV_CTL.RETRAIN (R312, Table 10.14). -/
def execTrvRetrainWrite (k : Fin 6) (s : State) : Host.Outcome State Fault Refusal := devStep s (fun d => d.enterRetrain k)

/-- TAG: the receiver checks the tag of the oldest block whose TAG flit, with payload `p`, has come (FLIT_RECEIVE keeps it). A failed
check retires the link with reason TAG, counts the block's events as suspect and logs its number, its SEQ range and its events per slice
(R307); a block without events has one record with COUNT 0. -/
def tagCheck (k : Fin 6) (p : BitVec 128) (d : Dev) : Dev :=
  match (d.link k).rxClosed with
  | [] => d
  | b :: t =>
    if b.tag ≠ p then d
    else
    let d := d.updLink k (fun l => { l with rxClosed := t })
    if p = tagOf (d.link k).keys.rxKey (d.link k).keys.rxNonce b.num b.flits then d
    else
      let d := d.bump (R.TRV_TAG_FAIL k) F.TRV_TAG_FAIL_TAG
      let d := d.bump (R.TRV_SUSPECT k) F.TRV_SUSPECT_SUSPECT b.events.length
      let first := match b.flits.head? with | some f => (flitSeq f).toNat | none => 0
      let last := match b.flits.getLast? with | some f => (flitSeq f).toNat | none => 0
      let d := d.retireLink k 4
      if b.events.isEmpty then d.raiseFrom (stLink k) (Flt.linkTag k b.num 0 first last 0)
      else d.forEach (List.range 16) (fun s d =>
        let n := (b.events.filter (fun e => bits e 18 15 == s)).length
        if n = 0 then d else d.raiseFrom (stLink k) (Flt.linkTag k b.num s first last n))

/-- TAG. -/
def execTag (k : Fin 6) (p : BitVec 128) (s : State) : Host.Outcome State Fault Refusal := devStep s (tagCheck k p)

/-- ECHO: answered with ECHO_RSP on M (R328, Table 10.7). -/
def execEcho (k : Fin 6) (m : LinkMsg) (s : State) : Host.Outcome State Fault Refusal :=
  devStep s (fun d => (d.takeMsg k m).answer k m 0x42 m.arg m.data)

/-- Everything a link forgets when it comes into ACTIVE: sequence numbers, credits, transmit buffers, blocks (R300, R305). What stands
received stays for the trunk and the firmware. -/
def Link.freshLayer (l : Link) : Link :=
  let msgs (c : Nat) : Nat := ((l.inbox.filter (fun m => (msgChan m.typ.toNat).map (·.val) == some c)).map msgLen).sum
  { st := l.st, partner := l.partner, fast := l.fast, again := l.again, failCount := l.failCount, wasRetrain := l.wasRetrain,
    retraining := l.retraining, moved := l.moved, activeAt := l.activeAt, keys := l.keys, badLanes := l.badLanes, settings := l.settings, asked := l.asked, txCount := l.txCount, rxCount := l.rxCount,
    rxS := l.rxS, inbox := l.inbox, stale := #v[l.rxS[0].length, l.rxS[1].length, msgs 0, msgs 1, msgs 2] }

/-- The equalisation record of a link that trained: a full training writes or replaces it; either kind uses it, and the least recently
used of more than 32 goes (R311). -/
def Dev.recordEq (d : Dev) (k : Fin 6) (p : IdentRec) : Dev :=
  let same (e : EqRec) : Bool := e.partner == p.devId && e.link == k.val && e.pport == p.port.val
  let bad := d.rf (R.TRV_STAT k) F.TRV_STAT_BADLANE
  let e : EqRec := { partner := p.devId, link := k.val, pport := p.port.val, settings := (d.link k).settings, laneMap := laneMapOf bad, badLane := bad,
                     delay := d.rf (R.TRV_DELAY k) F.TRV_DELAY_D }
  let e := if (d.link k).fast then (d.led.eqRecs.find? same).getD e else e
  { d with led := { d.led with eqRecs := (e :: d.led.eqRecs.filter (fun x => !same x)).take 32 } }

/-- A link reaches ACTIVE (Table 10.8): sealing begins on a torus link (R305, R311). A link that a formed group finds cabled to another chip is treated as
RETIRED and logged. -/
def Dev.linkActive (d : Dev) (k : Fin 6) : Dev :=
  let l := d.link k
  let torus := d.linkRole k == 0
  let d := d.setRf (R.TRV_STAT k) F.TRV_STAT_SEALED (b2n torus)
  let d := match l.partner with
    | some p => d.recordEq k p
    | none => d
  let d := d.updLink k (fun l => { l.freshLayer with wasRetrain := l.retraining, retraining := false, activeAt := d.clk,
                                                     moved := false, priv := 0 })
  if l.moved then d.retireLink k 0 else (d.setRf (R.TRV_STAT k) F.TRV_STAT_REASON 0).setLink k .active

/-- A training attempt fails: a retrain starts over from RETRAIN, a first training from DETECT (DEDUCED, log entry 32). -/
def Dev.linkFail (d : Dev) (k : Fin 6) : Dev := d.setLink k (if (d.link k).retraining then .retrain else .detect)

/-- A retrain's 500 ms are over without ACTIVE (R312). -/
def Dev.retrainOver (d : Dev) (k : Fin 6) : Dev :=
  if !(d.link k).retraining then d
  else
    let n := (d.link k).failCount + 1
    let d := (d.bump (R.TRV_RETRAIN_CNT k) F.TRV_RETRAIN_CNT_FAILED).updLink k (fun l => { l with failCount := n })
    if d.rf (R.TRV_RETRY_CFG k) F.TRV_RETRY_CFG_RETRAIN_MAX ≤ n then d.retireLink k 3
    else (d.bump (R.TRV_RETRAIN_CNT k) F.TRV_RETRAIN_CNT_ALL).setLink k .retrain

/-- How many lanes a mask names. -/
def laneCount (m : BitVec 9) : Nat := ((List.range 9).filter (fun i => bit m i)).length

/-- The lane the spare replaces: the failed one, 0xF for none, as when the spare itself has failed (Table 10.14). -/
def spareFor (m : BitVec 9) : Nat := ((List.range 8).find? (fun i => bit m i)).getD 0xF

/-- The saved equalisation record that matches own port, partner and partner's port (R311). -/
def Dev.eqRecOf (d : Dev) (k : Fin 6) (p : IdentRec) : Option EqRec :=
  d.led.eqRecs.find? (fun e => e.partner == p.devId && e.link == k.val && e.pport == p.port.val)

/-- Whether such a record exists. -/
def Dev.eqKnown (d : Dev) (k : Fin 6) (p : IdentRec) : Bool := (d.eqRecOf k p).isSome

/-- Enters IDENT: this chip's own record goes out (R310). -/
def Dev.enterIdent (d : Dev) (k : Fin 6) : Dev :=
  let own : IdentRec := { version := 1, devId := d.fus.devid, port := k, part := d.fus.part, lab := d.boot.lab,
                          role := ⟨d.linkRole k % 3, Nat.mod_lt _ (by decide)⟩,
                          coord := if d.grp.coordSet then some ⟨d.selfChip % 64, Nat.mod_lt _ (by decide)⟩ else none }
  (d.emit (.ident k own)).setLink k .ident

/-- Enters VERIFY: the link layer begins anew, and the first of sixteen ECHO exchanges (Table 10.8). -/
def Dev.enterVerify (d : Dev) (k : Fin 6) : Dev := ((d.updLink k (fun l => { l.freshLayer with echoes := 0 })).setLink k .verify).sendEcho k

/-- What one side signs in KEYX: its public key, its own and the partner's device ID, its own and the partner's port (R305; the bytes' order is a DESIGN
CHOICE, log entry 60). -/
def keyMsg (pub : Nat × Nat) (own partner : BitVec 128) (port pport : Nat) : List Byte :=
  beBytes 48 pub.1 ++ beBytes 48 pub.2 ++ leBytes 16 own.toNat ++ leBytes 16 partner.toNat ++ leBytes 1 port ++ leBytes 1 pport

/-- Enters KEYX: an ephemeral key pair is generated, and its public key goes out signed, with the certificate (R305). The private key is a free value from
1 to n − 1. -/
def Dev.enterKeyx (d : Dev) (k : Fin 6) : Dev :=
  let (x, d) := d.fresh 384
  let priv := x.toNat % (n384 - 1) + 1
  let pub := (ecMul priv (some g384) 384).getD (0, 0)
  let p := (d.link k).partner.getD { devId := 0, port := 0, part := 0, lab := false, role := 0, coord := none }
  let sig := Config.deviceSign (keyMsg pub d.fus.devid p.devId k.val p.port.val)
  ((d.updLink k (fun l => { l with priv := priv })).emit (.keyx k { pub := pub, sig := sig, cert := Config.certificate })).setLink k .keyx

/-- The 88 bytes of key material of a training: HKDF with SHA-384 over the shared secret, the two device IDs as salt, the lower first (R305). -/
def keyMaterial (secret : Nat) (a b : BitVec 128) : List Byte :=
  let (lo, hi) := if a.toNat ≤ b.toNat then (a, b) else (b, a)
  hkdf384 (leBytes 16 lo.toNat ++ leBytes 16 hi.toNat) (beBytes 48 secret) [] 88

/-- The keys of the two directions: the first 44 bytes are the key and the nonce of the direction that leaves the lower device ID, or of two equal ones the
lower port (DESIGN CHOICE, log entry 60). -/
def linkKeys (mat : List Byte) (first : Bool) : LinkKeys :=
  let key (i : Nat) : BitVec 256 := BitVec.ofNat 256 (ofBe (slice i 32 mat))
  let nonce (i : Nat) : BitVec 96 := BitVec.ofNat 96 (ofLe (slice i 12 mat))
  if first then { txKey := key 0, txNonce := nonce 32, rxKey := key 44, rxNonce := nonce 76 }
  else { txKey := key 44, txNonce := nonce 76, rxKey := key 0, rxNonce := nonce 32 }

/-- What verifying the partner in KEYX comes to: the keys, or `none` for reason AUTH (R305). -/
def Dev.keyExchange (d : Dev) (k : Fin 6) (p : IdentRec) (x : KeyRec) : Option LinkKeys :=
  match Config.certifiedKey x.cert p.devId with
  | none => none
  | some dk =>
    if !onCurve x.pub || !ecdsaVerify dk (keyMsg x.pub p.devId d.fus.devid p.port.val k.val) x.sig.1 x.sig.2 then none
    else match ecMul (d.link k).priv (some x.pub) 384 with
      | none => none
      | some s =>
        let own := d.fus.devid
        some (linkKeys (keyMaterial s.1 own p.devId) (decide (own.toNat < p.devId.toNat ∨ (own = p.devId ∧ k.val < p.port.val))))

/-- The one-way delay: the mean of the sixteen round trips divided by 2 (R328). -/
def delayOf (trips : List Nat) : Nat := trips.sum / (2 * trips.length)

/-- A training state of a link ends (Table 10.8, R309 to R312). Training is held while the Surveyor recovers (Table 18.10). -/
def linkTrainingStep (k : Fin 6) (r : LinkStep) (d : Dev) : Dev :=
  let l := d.link k
  if d.mirState = 3 ∨ !d.domOn (24 + k.val) then d
  else if r.outcome = .retrainOver then d.retrainOver k
  else match l.st with
    | .off => if d.rf (R.TRV_CTL k) F.TRV_CTL_EN = 1 then d.setLink k .detect else d
    | .detect => if r.outcome = .ok then d.enterIdent k else d
    | .retrain => d.enterIdent k
    | .ident =>
      if r.outcome ≠ .ok ∨ r.ident.version ≠ 1 then d.linkFail k
      else if r.ident.role.val ≠ d.linkRole k then d.retireLink k 2
      else
        let grouped : Bool := d.linkRole k == 0 && decide (2 ≤ d.rf R.TRV_GRP_STAT F.TRV_GRP_STAT_STATE)
        let other : Bool := match l.partner with
          | some p => grouped && (p.devId != r.ident.devId || p.port != r.ident.port)
          | none => false
        let d := d.updLink k (fun l => { l with partner := some r.ident, fast := d.eqKnown k r.ident, again := false, moved := other, badLanes := 0 })
        let d := d.setRf (R.TRV_STAT k) F.TRV_STAT_PPORT r.ident.port.val
        let d := d.setRf (R.TRV_STAT k) F.TRV_STAT_PCHIP (match r.ident.coord with | some c => c.val | none => 0)
        let d := d.forEach (List.range 4) (fun i d => d.setReg (R.TRV_PARTNER_ID k i) (r.ident.devId.extractLsb' (32 * i) 32))
        d.setLink k .eq
    | .eq =>
      if r.outcome ≠ .ok then d.linkFail k
      else
        let s := if l.fast then (l.partner.bind (fun p => d.eqRecOf k p)).elim r.settings (·.settings) else r.settings
        (d.updLink k (fun l => { l with settings := s, badLanes := 0 })).setLink k .align
    | .align =>
      if r.outcome ≠ .ok then d.linkFail k
      else if 2 ≤ laneCount r.badLanes then d.retireLink k 5
      else ((d.updLink k (fun l => { l with badLanes := r.badLanes })).setRf (R.TRV_STAT k) F.TRV_STAT_BADLANE (spareFor r.badLanes)).enterVerify k
    | .verify =>
      let bad := l.badLanes ||| r.badLanes
      if r.outcome = .ok ∧ laneCount bad < 2 ∧ l.echoes = 16 ∧ r.trips.length = 16 then
        let d := (d.setRf (R.TRV_STAT k) F.TRV_STAT_BADLANE (spareFor bad)).setRf (R.TRV_DELAY k) F.TRV_DELAY_D (delayOf r.trips)
        if d.linkRole k = 0 then d.enterKeyx k else d.linkActive k
      else if l.fast ∧ !l.again then
        (d.updLink k (fun l => { l with fast := false, again := true })).setLink k .eq
      else if 2 ≤ laneCount bad then d.retireLink k 5
      else d.linkFail k
    | .keyx =>
      if r.outcome ≠ .ok then d.linkFail k
      else match l.partner.bind (fun p => d.keyExchange k p r.key) with
        | none => d.retireLink k 1
        | some x => (d.updLink k (fun l => { l with keys := x })).linkActive k
    | .active => d
    | .retired => d

/-- LINK_TRAINING_STEP. -/
def execLinkTrainingStep (k : Fin 6) (r : LinkStep) (s : State) : Host.Outcome State Fault Refusal :=
  devStep s (linkTrainingStep k r)

/-- Starts training a link that is enabled and powered: a RETIRED link forgets its history (R312, R315). -/
def Dev.enableLink (d : Dev) (k : Fin 6) : Dev :=
  let d := d.setRf (R.TRV_CTL k) F.TRV_CTL_EN 1
  match (d.link k).st with
  | .off => d.setLink k .detect
  | .retired => ((d.updLink k (fun l => { partner := l.partner })).setRf (R.TRV_STAT k) F.TRV_STAT_REASON 0).setLink k .detect
  | _ => d

end Sys2Proof.Machine
end

