-- ==== Sys2Proof/Machine/Memories.lean ====
section
/-!
DEFINITION. The memory stacks, the scratchpad, master regions and tests in service (11_memories.md, R333 to R361, R542).
-/
namespace Sys2Proof.Machine

/-- Surveyor address of stack address 0 (R333). -/
def stackWindow : Nat := 0x100000000
/-- Surveyor address of the scratchpad (R351). -/
def scpWindow : Nat := 0x90000000
/-- Bytes of the scratchpad. -/
def scpBytes : Nat := 0x800000
/-- 16 GiB, a stack's slot in the lower part of SA (Table 11.2). -/
def slot16 : Nat := 0x400000000
/-- 8 GiB, a stack's slot in the upper part of SA. -/
def slot8 : Nat := 0x200000000

/-- The stack and local offset of a stack address (Table 11.2). -/
def stackPlace (high : Bool) (sa : Nat) : Option (Fin 4 × Nat) :=
  if sa < 4 * slot16 then some (⟨sa / slot16 % 4, Nat.mod_lt _ (by decide)⟩, sa % slot16)
  else if high ∧ sa < 4 * slot16 + 4 * slot8 then
    some (⟨(sa - 4 * slot16) / slot8 % 4, Nat.mod_lt _ (by decide)⟩, slot16 + (sa - 4 * slot16) % slot8)
  else none

/-- The 4 KiB page within its stack of a page index in SA (Table 17.7, KIND 7). -/
def localPage (high : Bool) (page : Nat) : Nat := match stackPlace high (page * 4096) with
  | some (_, l) => l / 4096
  | none => 0

/-- The page index in SA of a 4 KiB page within a stack. -/
def saPage (s lp : Nat) : Nat :=
  if lp < slot16 / 4096 then s * (slot16 / 4096) + lp else 4 * (slot16 / 4096) + s * (slot8 / 4096) + (lp - slot16 / 4096)

/-- A stack's capacity C: 16 GiB, 24 GiB on -H parts (Table 11.1). -/
def Dev.stackCap (d : Dev) : Nat := if d.fus.high then slot16 + slot8 else slot16

/-- The pseudo-channel of a local offset (R336). -/
def pseudoChannel (split : Bool) (cap l : Nat) : Nat :=
  if !split then l / 64 % 32
  else if l < cap / 2 then l / 64 % 16
  else 16 + (l - cap / 2) / 64 % 16

/-- The unit index of a local offset within its pseudo-channel (R336). -/
def unitIndex (split : Bool) (cap l : Nat) : Nat :=
  if !split then l / 2048
  else if l < cap / 2 then l / 1024
  else (l - cap / 2) / 1024

/-- Where a local offset lies in its stack: pseudo-channel, column, bank and row (R336). -/
def stackCell (split : Bool) (cap l : Nat) : Nat × Nat × Nat × Nat :=
  let v := unitIndex split cap l
  (pseudoChannel split cap l, v % 16, v / 16 % 64, v / 1024)

/-- The pseudo-channel of a 64-byte unit of SA. -/
def Dev.unitPc (d : Dev) (s : Fin 4) (unit : Nat) : Nat :=
  match stackPlace d.fus.high (unit * 64) with
  | some (_, l) => (stackCell (d.rf (R.STK_CTL s) F.STK_CTL_MAP == 1) d.stackCap l).1
  | none => 0

/-- The regions of a stack. -/
def regions : List (Fin 16) := List.finRange 16

/-- Whether a stack region is valid. -/
def Dev.rgnValid (d : Dev) (s : Nat) (r : Nat) : Bool := d.rf (R.STK_RGN_BASE s r) F.STK_RGN_BASE_VALID == 1
/-- A region's owner. -/
def Dev.rgnOwner (d : Dev) (s : Nat) (r : Nat) : Nat := d.rf (R.STK_RGN_BASE s r) F.STK_RGN_BASE_OWNER
/-- A region's first unit. -/
def Dev.rgnLo (d : Dev) (s : Nat) (r : Nat) : Nat := d.rf (R.STK_RGN_BASE s r) F.STK_RGN_BASE_BASE * 16384
/-- A region's end, in units. -/
def Dev.rgnHi (d : Dev) (s : Nat) (r : Nat) : Nat := (d.rf (R.STK_RGN_LIM s r) F.STK_RGN_LIM_LIMIT + 1) * 16384
/-- A region's watermark as it was last set, in units. -/
def Dev.setWmAt (d : Dev) (s : Nat) (r : Nat) : Nat := d.rf (R.STK_RGN_WM s r) F.STK_RGN_WM_WM
/-- A region's watermark, in units (R343); a fill moves it on towards FILL_TO by one unit a nanosecond, the rate of a stack that is otherwise
idle (R345; that rate in every case is a DESIGN CHOICE, log entry 36). -/
def Dev.rgnWm (d : Dev) (s : Nat) (r : Nat) : Nat :=
  let w := d.setWmAt s r
  if d.rf (R.STK_RGN_CTL s r) F.STK_RGN_CTL_FILLING = 1 then
    max w (min (d.rf (R.STK_RGN_FILL s r) F.STK_RGN_FILL_FILL_TO) (w + 10 * (d.clk - (d.stk (fin4 s)).fills[fin16 r])))
  else w
/-- Sets a watermark; a fill goes on from it. -/
def Dev.setWm (d : Dev) (s : Nat) (r : Nat) (u : Nat) : Dev :=
  (d.setRf (R.STK_RGN_WM s r) F.STK_RGN_WM_WM u).updStk (fin4 s) (fun k => { k with fills := k.fills.set (fin16 r) d.clk })

/-- The valid region of a stack that holds units `u0` to `u1 - 1` whole (R342). -/
def Dev.regionOf (d : Dev) (s : Fin 4) (u0 u1 : Nat) : Option (Fin 16) :=
  regions.find? (fun r => d.rgnValid s r && d.rgnLo s r ≤ u0 && u1 ≤ d.rgnHi s r)

/-- The parcel byte of a region's owner. -/
def ownerParcel (o : Nat) : Nat := if o < 8 then o else 0xFF

/-- Retires a pseudo-channel (R347, R339). -/
def Dev.retirePc (d : Dev) (s : Fin 4) (pc : Nat) (region : Nat) : Dev :=
  let w := d.rf (R.STK_PC_RET s) F.STK_PC_RET_RET
  if w / 2 ^ pc % 2 = 1 then d
  else
    let d := d.setRf (R.STK_PC_RET s) F.STK_PC_RET_RET (w + 2 ^ pc)
    let d := d.retireMap 8 s pc
    d.raiseFrom (stStack s) (Flt.pcRetired s pc region)

/-- Retired pages that count for a pseudo-channel. -/
def Stack.pagesOf (k : Stack) (pc : Nat) : Nat := (k.pages.filter (fun e => e.2 == pc)).length

/-- The pseudo-channel with the most retired pages. -/
def Stack.worstPc (k : Stack) : Nat :=
  (List.range 32).foldl (fun b pc => if k.pagesOf b < k.pagesOf pc then pc else b) 0

/-- Retires a stack page (4 KiB of SA) for an error in a unit of it (R347): the retired-page table, the retire map, the fault that
names the owning region; PC_MAX pages retire their pseudo-channel; a 257th page retires the pseudo-channel with most pages, and
the table is compacted. DEDUCED (log entry 36): a page counts for the pseudo-channel of the failing unit. -/
def Dev.retirePage (d : Dev) (s : Fin 4) (unit : Nat) (region : Option (Fin 16)) : Dev :=
  let page := unit / 64
  let k := d.stk s
  if k.pages.any (fun e => e.1 == page) then d
  else
    let rg := match region with | some r => r.val | none => 0xFF
    let owner := match region with | some r => ownerParcel (d.rgnOwner s r) | none => 0xFF
    let d := if 256 ≤ k.pages.length then
        let w := k.worstPc
        (d.retirePc s w rg).updStk s (fun k => { k with pages := k.pages.filter (fun e => e.2 != w) })
      else d
    let pc := d.unitPc s unit
    let d := if (d.stk s).pages.length < 256 then d.updStk s (fun k => { k with pages := k.pages ++ [(page, pc)] }) else d
    let d := d.retireMap 7 s (localPage d.fus.high page)
    let d := d.raiseFrom (stStack s) (Flt.pageRetired s page rg owner)
    if d.rf (R.STK_RET_CFG s) F.STK_RET_CFG_PC_MAX ≤ (d.stk s).pagesOf pc then d.retirePc s pc rg else d

/-- Whether a unit's page or pseudo-channel is retired (R347). -/
def Dev.unitRetired (d : Dev) (s : Fin 4) (unit : Nat) : Bool :=
  (d.stk s).pages.any (fun e => e.1 == unit / 64)
    || d.rf (R.STK_PC_RET s) F.STK_PC_RET_RET / 2 ^ d.unitPc s unit % 2 == 1

/-- An hour in units of 10 ns. -/
def hour : Nat := 360000000000

/-- A correctable error in a unit (R334, R347). -/
def Dev.stackCe (d : Dev) (s : Fin 4) (unit : Nat) (r : Option (Fin 16)) : Dev :=
  let d := d.bump (R.STK_ECC_CNT s) F.STK_ECC_CNT_CE
  let win := d.rf (R.STK_RET_CFG s) F.STK_RET_CFG_CE_WIN * hour
  let d := d.updStk s (fun k => { k with ces := (unit / 64, d.clk) :: k.ces.filter (fun e => d.clk < e.2 + win) })
  if d.rf (R.STK_RET_CFG s) F.STK_RET_CFG_CE_MAX ≤ ((d.stk s).ces.filter (fun e => e.1 == unit / 64)).length then
    d.retirePage s unit r
  else d

/-- An uncorrectable error in a unit (R334, R347). -/
def Dev.stackUe (d : Dev) (s : Fin 4) (unit : Nat) (r : Option (Fin 16)) : Dev :=
  let d := d.bump (R.STK_ECC_CNT s) F.STK_ECC_CNT_UE
  let d := d.setReg (R.STK_UE_ADDR_LO s) (BitVec.ofNat 32 (unit * 64))
  let d := d.setReg (R.STK_UE_ADDR_HI s) (BitVec.ofNat 32 (unit * 64 / 2 ^ 32 % 32))
  let owner := match r with | some r => ownerParcel (d.rgnOwner s r) | none => 0xFF
  let d := d.raiseFrom (stStack s) (Flt.stackUe s (unit * 64) (match r with | some r => r.val | none => 0xFF) owner)
  let d := d.updStk s (fun k => { k with ues := unit / 64 :: k.ues })
  if d.rf (R.STK_RET_CFG s) F.STK_RET_CFG_UE_MAX ≤ ((d.stk s).ues.filter (fun p => p == unit / 64)).length then
    d.retirePage s unit r
  else d

/-- What reading a unit gives: its 64 bytes and whether it is poisoned (R334, R343, R347). Every corrected word counts, also beside an
uncorrectable one; a unit that the fill engine has passed reads zero. -/
def Mach.readUnit (m : Mach) (s : Fin 4) (r : Fin 16) (unit : Nat) (errs : List MemErr) : List Byte × Bool × Mach :=
  let d := m.dev
  if d.rgnWm s r ≤ unit then
    let d := d.bump (R.STK_RGN_UNW s r) F.STK_RGN_UNW_UNW
    let d := if d.rf (R.STK_RGN_CTL s r) F.STK_RGN_CTL_UNW_FAULT = 1 then
        d.raiseFrom (stStack s) (Flt.stackUnw s (unit * 64) r (ownerParcel (d.rgnOwner s r)))
      else d
    (List.replicate 64 0, false, { m with dev := d })
  else if d.unitRetired s unit then (List.replicate 64 0, true, m)
  else
    let here := errs.filter (fun e => e.addr / 64 == unit)
    let bytes := if d.setWmAt s r ≤ unit then List.replicate 64 0 else Memory.read m.mem (stackWindow + unit * 64) 64
    let d := d.forEach (here.filter (fun e => !e.ue)) (fun _ d => d.stackCe s unit (some r))
    if here.any (fun e => e.ue) then (bytes, true, { m with dev := d.stackUe s unit (some r) })
    else (bytes, false, { m with dev := d })

/-- Reads units in order: their bytes, and the units that are poisoned. -/
def Mach.readUnits (m : Mach) (s : Fin 4) (r : Fin 16) (errs : List MemErr) : List Nat → List Byte × List Nat × Mach
  | [] => ([], [], m)
  | u :: t =>
    let (b, p, m) := m.readUnit s r u errs
    let (bs, ps, m) := Mach.readUnits m s r errs t
    (b ++ bs, if p then u :: ps else ps, m)

/-- The units that `n` bytes from `sa` touch. -/
def unitsOf (sa n : Nat) : List Nat := (List.range ((sa + n + 63) / 64 - sa / 64)).map (fun i => sa / 64 + i)

/-- Writes the bytes whose address a test admits. -/
def Memory.writeWhere (keep : Nat → Bool) (m : Mem) (a : Nat) : List Byte → Mem
  | [] => m
  | b :: t => Memory.writeWhere keep (if keep a then Memory.writeByte m a b else m) (a + 1) t

/-- The bytes of a write that fall in units that are not retired; the write to each retired unit is discarded and counted (R347). -/
def Mach.storeBytes (m : Mach) (s : Fin 4) (sa : Nat) (b : List Byte) : Mach :=
  { dev := m.dev.bump (R.STK_ECC_CNT s) F.STK_ECC_CNT_RETWR ((unitsOf sa b.length).filter (fun u => m.dev.unitRetired s u)).length,
    mem := Memory.writeWhere (fun a => !m.dev.unitRetired s ((a - stackWindow) / 64)) m.mem (stackWindow + sa) b }

/-- Zero-fills a region from WM up to a unit, WM with it (R345). -/
def Mach.fillTo (m : Mach) (s : Fin 4) (r : Fin 16) (u : Nat) : Mach :=
  if m.dev.setWmAt s r < u then
    { dev := m.dev.setWm s r u, mem := Memory.zero m.mem (stackWindow + m.dev.setWmAt s r * 64) (stackWindow + u * 64) }
  else m

/-- Writes into a region against its watermark (R344): an ordinary write, one that advances WM, one that the fill engine prepares,
or one refused. The answer tells whether it was taken. -/
def Mach.writeRegion (m : Mach) (s : Fin 4) (r : Fin 16) (sa : Nat) (b : List Byte) : Bool × Mach :=
  let wm := m.dev.rgnWm s r
  let m := m.fillTo s r wm
  let u0 := sa / 64
  let u1 := (sa + b.length + 63) / 64
  if u1 ≤ wm then (true, m.storeBytes s sa b)
  else if u0 ≤ wm + 4096 then
    let m := { m with mem := Memory.zero m.mem (stackWindow + wm * 64) (stackWindow + u1 * 64) }
    let m := m.storeBytes s sa b
    (true, { m with dev := m.dev.setWm s r u1 })
  else (false, { m with dev := m.dev.bump (R.STK_SKIP_CNT s) F.STK_SKIP_CNT_SKIP })

/-- Whether master `m`'s regions let through an access to Surveyor addresses `lo` to `hi - 1` (R354). -/
def Dev.masterAdmits (d : Dev) (m : Fin 6) (f : Func) (lo hi : Nat) (write : Bool) : Bool :=
  (List.range 16).any (fun r =>
    let j := m.val * 16 + r
    let at_ := d.reg (R.SCP_MRG_ATTR j)
    fget F.SCP_MRG_ATTR_VALID at_ == 1
      && (if write then fget F.SCP_MRG_ATTR_W at_ == 1 else fget F.SCP_MRG_ATTR_R at_ == 1)
      && (m.val != 2 || fget F.SCP_MRG_ATTR_FUNC at_ == f.val || fget F.SCP_MRG_ATTR_FUNC at_ == 15)
      && d.rf (R.SCP_MRG_BASE j) F.SCP_MRG_BASE_BASE * 4096 ≤ lo
      && hi ≤ (d.rf (R.SCP_MRG_LIM j) F.SCP_MRG_LIM_LIMIT + 1) * 4096)

/-- The firmware's master regions of a VF (R356, R369): while its rings are quiesced it gives the host DMA master, for that function, a region over
each stack region of the parcel bound to it, in the first registers that are free. The spec places no staging areas: none is covered (DESIGN CHOICE,
log entry 50). -/
def Dev.vfRegions (d : Dev) (f : Func) : Dev :=
  if f = pf ∨ (d.ring f).st ≠ .off then d
  else
    let mine := (List.range 16).map (fun r => 32 + r)
    let d := d.forEach (mine.filter (fun j => d.rf (R.SCP_MRG_ATTR j) F.SCP_MRG_ATTR_FUNC == f.val)) (fun j d => d.setReg (R.SCP_MRG_ATTR j) 0)
    match d.parcelOf f with
    | none => d
    | some q => d.forEach ((List.range 4).flatMap (fun s => regions.map (fun r => (s, r.val)))) (fun e d =>
        if !d.rgnValid e.1 e.2 ∨ d.rgnOwner e.1 e.2 ≠ q.val then d
        else match mine.find? (fun j => d.rf (R.SCP_MRG_ATTR j) F.SCP_MRG_ATTR_VALID == 0) with
          | none => d
          | some j =>
            let page (units : Nat) : Nat := (stackWindow + units * 64) / 4096
            let d := d.setRf (R.SCP_MRG_BASE j) F.SCP_MRG_BASE_BASE (page (d.rgnLo e.1 e.2))
            let d := d.setRf (R.SCP_MRG_LIM j) F.SCP_MRG_LIM_LIMIT (page (d.rgnHi e.1 e.2) - 1)
            let d := (d.setRf (R.SCP_MRG_ATTR j) F.SCP_MRG_ATTR_FUNC f.val).setRf (R.SCP_MRG_ATTR j) F.SCP_MRG_ATTR_R 1
            (d.setRf (R.SCP_MRG_ATTR j) F.SCP_MRG_ATTR_W 1).setRf (R.SCP_MRG_ATTR j) F.SCP_MRG_ATTR_VALID 1)

/-- QUIESCE_COMPLETE: the rings reach OFF (R382); the firmware may then write the function's master regions (R356). -/
def execQuiesceComplete (f : Func) (s : State) : Host.Outcome State Fault Refusal := devStep s (fun d => (quiesceComplete f d).vfRegions f)

/-- A denied access of a master: counted, its address recorded when the register is empty, ended as Table 11.4 gives (R354). The
fault that masters 3 and 4 raise has no code in Table 18.7: its code is a free value. -/
def Dev.denyMaster (d : Dev) (m : Fin 6) (f : Func) (addr : Nat) (write : Bool) : Dev :=
  let d := d.bump (R.SCP_DENY_CNT m) F.SCP_DENY_CNT_DENY
  let d := if d.reg (R.SCP_DENY_ADDR_LO m) = 0 ∧ d.reg (R.SCP_DENY_ADDR_HI m) = 0 then
      (d.setReg (R.SCP_DENY_ADDR_LO m) (BitVec.ofNat 32 (addr / 4096 * 4096))).setReg (R.SCP_DENY_ADDR_HI m)
        (BitVec.ofNat 32 (addr / 2 ^ 32))
    else d
  if m.val = 2 then
    (if write then d.bump R.HST_AER_CNT F.HST_AER_CNT_UNCOR else d.emit (.barError f))
  else if m.val = 3 ∨ m.val = 4 then
    let (code, d) := d.fresh 8
    let d := d.collect { cls := 0, code := code.toNat, sev := 0 }
    if m.val = 3 ∧ !write then d.emit (.memData (.master m f) [] true) else d
  else d.emit (.memError (.master m f))

/-- A denied access of a Gallery (R342). -/
def Dev.denyGallery (d : Dev) (g : Fin 8) : Dev :=
  (d.bump (R.STK_DENY_CNT (g.val / 2)) F.STK_DENY_CNT_DENY).emit (.memError (.gallery g))

/-- A denied access. -/
def Dev.denyAccess (d : Dev) (q : Requester) (addr : Nat) (write : Bool) : Dev :=
  match q with
  | .gallery g => d.denyGallery g
  | .master m f => d.denyMaster m f addr write

/-- Whether a stack takes accesses: trained, its domain on (R338, R354). -/
def Dev.stackReady (d : Dev) (s : Fin 4) : Bool := (d.stk s).st == .ready && d.domOn (31 + s.val)

/-- Whether the march engine tests a stack: it admits no other traffic then (R359; also for the destructive form, DESIGN CHOICE, log entry
36). -/
def Dev.marchesStack (d : Dev) (s : Fin 4) : Bool := d.march.any (fun x => x.target == s.val + 1)

/-- Whether an access to a stack waits for its domain: asleep in retention, on its way there or back, and woken on demand (R348, R432). -/
def Dev.stackSleeps (d : Dev) (s : Fin 4) : Bool :=
  d.domPolicy (31 + s.val) && !d.domOn (31 + s.val) && (match d.domSt (31 + s.val) with
    | .retained => true
    | .entering => true
    | .waking => d.domPrior (31 + s.val) == 1
    | _ => false)

/-- The region that admits an access (R342, R354). -/
def Dev.admitStack (d : Dev) (q : Requester) (s : Fin 4) (sa len : Nat) (write : Bool) : Option (Fin 16) :=
  match d.regionOf s (sa / 64) ((sa + len + 63) / 64) with
  | none => none
  | some r =>
    match q with
    | .gallery g =>
      if s.val = g.val / 2 ∧ some (d.rgnOwner s r) = (d.parcelAt g).map Fin.val then some r else none
    | .master m f =>
      if d.masterAdmits m f (stackWindow + sa) (stackWindow + sa + len) write then some r else none

/-- Whether a parcel is alone in a column. -/
def Dev.aloneIn (d : Dev) (q : Fin 8) (c : Nat) : Bool :=
  decide ((d.parcelAt (2 * c) = some q ∨ d.parcelAt (2 * c) = none) ∧ (d.parcelAt (2 * c + 1) = some q ∨ d.parcelAt (2 * c + 1) = none))

/-- Entries of a column's 128-entry stack request queue that a parcel may use (R185, R198): all of them for a parcel alone there. -/
def Dev.stackPool (d : Dev) (q : Fin 8) (c : Nat) : Nat := if d.aloneIn q c then 128 else d.rf (R.PCL_POOL q) F.PCL_POOL_STACK

/-- Requests of a Gallery in its column's stack request queue: its cold fetches that are asked, and the accesses that wait. -/
def Dev.galleryReqs (d : Dev) (g : Fin 8) : Nat :=
  ((d.gal g).cold.filter (·.asked)).length + ((d.stk (fin4 (g.val / 2))).col.filter (fun x => x.acc.req == .gallery g)).length

/-- Requests of a parcel in a column's stack request queue. -/
def Dev.stackUsed (d : Dev) (q : Fin 8) (c : Nat) : Nat :=
  (([2 * c, 2 * c + 1].filter (fun g => d.parcelAt g == some q)).map (fun g => d.galleryReqs (fin8 g))).sum

/-- Room for a Gallery's next request in its parcel's stack pool. -/
def Dev.reqRoom (d : Dev) (g : Fin 8) : Bool := match d.parcelAt g.val with
  | some q => decide (d.stackUsed q (g.val / 2) < d.stackPool q (g.val / 2))
  | none => false

/-- Whether the accesses to a stack wait at its node. -/
def Dev.stackHeld (d : Dev) (s : Fin 4) : Bool := d.stackSleeps s || (d.stackReady s && d.marchesStack s)

/-- A stack serves an access that a region has admitted (R343 to R347). A command/address parity error is counted and the command retried
once (Table 11.1); a retry that fails too ends the access in an error (DESIGN CHOICE, log entry 36). -/
def Mach.serveStack (m : Mach) (s : Fin 4) (r : Fin 16) (a : StackAccess) : Mach :=
  let m := if a.ca = 0 then m else { m with dev := m.dev.updStk s (fun k => { k with caErrs := k.caErrs + a.ca.val }) }
  if a.ca = 2 then { m with dev := m.dev.emit (.memError a.req) }
  else match a.write with
    | some b =>
      let (took, m) := m.writeRegion s r a.sa b
      { m with dev := m.dev.emit (if took then .memDone a.req else .memError a.req) }
    | none =>
      let (b, p, m) := m.readUnits s r a.errs (unitsOf a.sa a.len)
      { m with dev := m.dev.emit (.memData a.req (slice (a.sa % 64) a.len b) (!p.isEmpty)) }

/-- An admitted access waits at its port, where there is room, and wakes the stack's domain (R337, R348); without room it is not taken and
waits at its source. -/
def Dev.queueStack (d : Dev) (s : Fin 4) (r : Fin 16) (a : StackAccess) : Dev :=
  let x : StkReq := { acc := a, region := r }
  let d := match a.req with
    | .gallery g => if d.reqRoom g then d.updStk s (fun k => { k with col := k.col ++ [x] }) else d
    | .master _ _ => if (d.stk s).sys.length < 32 then d.updStk s (fun k => { k with sys := k.sys ++ [x] }) else d
  d.wakeEvent (31 + s.val)

/-- A stack node serves the next request that waits: the two ports alternate while both hold requests (R337). -/
def Mach.serveNext (m : Mach) (s : Fin 4) : Mach :=
  let k := m.dev.stk s
  let useSys : Bool := !k.sys.isEmpty && (k.col.isEmpty || !k.lastSys)
  match (if useSys then k.sys else k.col) with
  | [] => m
  | x :: t =>
    let d := m.dev.updStk s (fun k => if useSys then { k with sys := t, lastSys := true } else { k with col := t, lastSys := false })
    Mach.serveStack { m with dev := d } s x.region x.acc

/-- The requests that waited at a stack node are served once nothing holds them. -/
def Mach.drainStack (m : Mach) (s : Fin 4) : Mach :=
  if m.dev.stackReady s && !m.dev.stackHeld s then
    (List.range ((m.dev.stk s).col.length + (m.dev.stk s).sys.length)).foldl (fun m _ => m.serveNext s) m
  else m

/-- The requests that wait at the node of a stack that goes off are denied (R350). -/
def Dev.denyQueued (d : Dev) (s : Fin 4) : Dev :=
  let l := (d.stk s).col ++ (d.stk s).sys
  let d := d.updStk s (fun k => { k with col := [], sys := [] })
  d.forEach l (fun x d => d.denyAccess x.acc.req (stackWindow + x.acc.sa) x.acc.write.isSome)

/-- An access at a stack node (R342 to R348, R354): denied, served, or held while the stack sleeps or is marched. -/
def stackAccess (a : StackAccess) (m : Mach) : Mach :=
  let write := a.write.isSome
  let deny : Mach := { m with dev := m.dev.denyAccess a.req (stackWindow + a.sa) write }
  match stackPlace m.dev.fus.high a.sa with
  | none => deny
  | some (s, _) =>
    if !m.dev.stackHeld s && !m.dev.stackReady s then deny
    else match m.dev.admitStack a.req s a.sa (match a.write with | some b => b.length | none => a.len) write with
      | none => deny
      | some r => if m.dev.stackHeld s then { m with dev := m.dev.queueStack s r a } else m.serveStack s r a

/-- STACK_ACCESS. -/
def execStackAccess (a : StackAccess) (s : State) : Host.Outcome State Fault Refusal := memStep s (stackAccess a)

/-- Starts the fill engine of a region (R345). -/
def Dev.startFill (d : Dev) (s : Fin 4) (r : Fin 16) : Dev :=
  if d.rgnValid s r ∧ d.stackReady s then (d.setWm s r (d.rgnWm s r)).setRf (R.STK_RGN_CTL s r) F.STK_RGN_CTL_FILLING 1 else d

/-- FILL: writing STK_RGN_CTL_r.FILL. -/
def execFill (k : Fin 4) (r : Fin 16) (s : State) : Host.Outcome State Fault Refusal := devStep s (fun d => d.startFill k r)

/-- The fill engine reaches FILL_TO (R345); a MEM_FILL that waited for it completes. -/
def fillComplete (k : Fin 4) (r : Fin 16) (m : Mach) : Mach :=
  if m.dev.rf (R.STK_RGN_CTL k r) F.STK_RGN_CTL_FILLING = 1 then
    let m := m.fillTo k r (m.dev.rf (R.STK_RGN_FILL k r) F.STK_RGN_FILL_FILL_TO)
    let d := m.dev.setRf (R.STK_RGN_CTL k r) F.STK_RGN_CTL_FILLING 0
    { m with dev := d }
  else m

/-- REFRESH: REFpb to the next bank of a stack in service (R341); a stack in self refresh takes none. -/
def execRefresh (k : Fin 4) (s : State) : Host.Outcome State Fault Refusal :=
  devStep s (fun d => if d.stackReady k = true then
      (d.emit (.refresh k (d.stk k).nextBank.val)).updStk k (fun x => { x with nextBank := x.nextBank + 1 })
    else d)

/-- STACK_TEMP_READ (R341): the temperature in steps of 2 °C, the doubled refresh above 85 °C, HOT and its fault above 95 °C. -/
def stackTemp (k : Fin 4) (t : BitVec 8) (d : Dev) : Dev :=
  if (d.stk k).st = .ready then
    let was := d.rf (R.STK_STAT k) F.STK_STAT_HOT
    let d := d.updStk k (fun x => { x with temp := t.toNat, double := 85 < t.toNat })
    let d := d.setRf (R.STK_STAT k) F.STK_STAT_TEMP (min (t.toNat / 2) 63)
    let d := d.setRf (R.STK_STAT k) F.STK_STAT_HOT (b2n (decide (95 < t.toNat)))
    if 95 < t.toNat ∧ was = 0 then d.raiseFrom (stStack k) (Flt.stackHot k t.toNat) else d
  else d

/-- STACK_TEMP_READ. -/
def execStackTempRead (k : Fin 4) (t : BitVec 8) (s : State) : Host.Outcome State Fault Refusal := devStep s (stackTemp k t)

/-- The bank of a scratchpad byte offset (R351). -/
def scpBank (off : Nat) : Nat := off / 64 % 16

/-- Retires a scratchpad bank: the spare takes it, or the scratchpad becomes DEGRADED (R353). -/
def Dev.retireBank (d : Dev) (bank off : Nat) : Dev :=
  if d.rf R.SCP_STAT F.SCP_STAT_RETIRED = 0xF then
    let d := d.setRf R.SCP_STAT F.SCP_STAT_RETIRED bank
    let d := { d with scp := { d.scp with copying := some bank } }
    (d.retireMap 6 0 bank).raiseFrom 0x03 (Flt.scpSpared bank off)
  else
    let d := if d.rf R.SCP_STAT F.SCP_STAT_DEGRADED = 1 then d
      else (d.setRf R.SCP_STAT F.SCP_STAT_DEGRADED 1).setRf R.SCP_STAT F.SCP_STAT_FAILED bank
    d.raiseFrom 0x03 (Flt.scpDegraded bank off)

/-- The block of a stack's background test at position `i` or above it: ascending, wrapping, retired pages skipped (R357). -/
def Dev.blockAt (d : Dev) (s : Fin 4) (i : Nat) : Nat :=
  let n := d.stackCap / 4096
  (((List.range 257).map (fun j => (i + j) % n)).find? (fun b => !(d.stk s).pages.any (fun e => e.1 == saPage s b))).getD 0

/-- One background test block of target 0 (scratchpad) or 1 to 4 (stacks): the block in turn is tested and the position moves on; a failure
retires its page, or the failing line's bank (R357, R358). -/
def backgroundBlock (target : Fin 5) (r : TestResult) (d : Dev) : Dev :=
  if h : target.val = 0 then
    if d.rf R.SCP_CTL F.SCP_CTL_BG_EN = 1 then
      let off := d.scp.bgPos * 4096
      let d := { d with scp := { d.scp with bgPos := (d.scp.bgPos + 1) % 2048 } }
      match r with
      | .pass => d
      | .fail i => d.retireBank (scpBank (i.val * 64)) (off + i.val * 64)
    else d
  else
    let s : Fin 4 := ⟨target.val - 1, by have := target.isLt; omega⟩
    if d.rf (R.STK_CTL s) F.STK_CTL_BG_EN = 1 ∧ d.stackReady s then
      let b := d.blockAt s (d.stk s).bgPos
      let d := d.updStk s (fun k => { k with bgPos := (b + 1) % (d.stackCap / 4096) })
      match r with
      | .pass => d
      | .fail i =>
        let u := saPage s b * 64 + i.val
        d.retirePage s u (d.regionOf s u (u + 1))
    else d

/-- BACKGROUND_TEST_BLOCK. -/
def execBackgroundTestBlock (target : Fin 5) (r : TestResult) (s : State) : Host.Outcome State Fault Refusal :=
  devStep s (backgroundBlock target r)

/-- An uncorrectable scratchpad word (R353). -/
def Dev.scpUe (d : Dev) (off : Nat) : Dev :=
  let word := off / 8 * 8
  let bank := scpBank off
  let d := d.bump R.SCP_ECC_CNT F.SCP_ECC_CNT_UE
  let d := d.setRf R.SCP_UE_ADDR F.SCP_UE_ADDR_ADDR word
  let d := { d with scp := { d.scp with poison := word :: d.scp.poison.filter (fun w => w != word), ues := bank :: d.scp.ues } }
  let d := d.raiseFrom 0x03 (Flt.scpUe bank word)
  if d.rf R.SCP_RET_CFG F.SCP_RET_CFG_UE_MAX ≤ (d.scp.ues.filter (fun b => b == bank)).length then
    ({ d with scp := { d.scp with ues := d.scp.ues.filter (fun b => b != bank) } }).retireBank bank word
  else d

/-- A read of the lines it spans: an unwritten line counts, and faults with UNW_FAULT (R352); errors are handled (R353). -/
def Dev.scpReadLines (d : Dev) (errs : List MemErr) : List Nat → Dev
  | [] => d
  | l :: t =>
    let d := if SMap.get false d.scp.written l then
        d.forEach (errs.filter (fun e => e.addr / 64 == l)) (fun e d =>
          if e.ue then d.scpUe e.addr else d.bump R.SCP_ECC_CNT F.SCP_ECC_CNT_CE)
      else
        let d := d.bump R.SCP_UNW_CNT F.SCP_UNW_CNT_UNW
        if d.rf R.SCP_CTL F.SCP_CTL_UNW_FAULT = 1 then d.raiseFrom 0x03 (Flt.scpUnw (l * 64)) else d
    Dev.scpReadLines d errs t

/-- The lines an access spans. -/
def scpLines (off len : Nat) : List Nat := (List.range ((off + len + 63) / 64 - off / 64)).map (fun i => off / 64 + i)

/-- Writes scratchpad bytes: each line's written bit is set, the rest of an unwritten line is zero (R352). -/
def Mach.scpWrite (m : Mach) (off : Nat) (b : List Byte) : Mach :=
  let fresh := (scpLines off b.length).filter (fun l => !(SMap.get false m.dev.scp.written l))
  let mem := fresh.foldl (fun x l => Memory.zero x (scpWindow + l * 64) (scpWindow + l * 64 + 64)) m.mem
  let w := fresh.foldl (fun x l => SMap.set false x l true) m.dev.scp.written
  let clean := m.dev.scp.poison.filter (fun p => !(off ≤ p && p + 8 ≤ off + b.length))
  { dev := { m.dev with scp := { m.dev.scp with written := w, poison := clean } }, mem := Memory.write mem (scpWindow + off) b }

/-- The length of a scratchpad access. -/
def scpLen (a : ScpAccess) : Nat := match a.write with
  | some b => b.length
  | none => a.len

/-- The banks that a scratchpad access touches. -/
def scpBanks (a : ScpAccess) : List Nat := (scpLines a.off (scpLen a)).map (fun l => l % 16)

/-- Whether an admitted access waits: for a bank that is being copied (R353), or while the march engine tests the scratchpad, which admits no
other traffic (R359). -/
def Dev.scpHeld (d : Dev) (a : ScpAccess) : Bool :=
  (scpBanks a).any (fun b => d.scp.copying == some b) || d.march.any (fun x => x.target == 0)

/-- The scratchpad serves an admitted access (R351 to R353): an access that touches the failed bank ends with an error. -/
def Mach.serveScp (m : Mach) (a : ScpAccess) : Mach :=
  let d := m.dev
  let q : Requester := .master a.m a.func
  if d.rf R.SCP_STAT F.SCP_STAT_DEGRADED = 1 ∧ (scpBanks a).contains (d.rf R.SCP_STAT F.SCP_STAT_FAILED) then
    let b := d.rf R.SCP_STAT F.SCP_STAT_FAILED
    let d := d.bump (R.SCP_DENY_CNT a.m) F.SCP_DENY_CNT_DENY
    { m with dev := (d.raiseFrom 0x03 (Flt.scpDegraded b a.off)).emit (.memError q) }
  else match a.write with
    | some b =>
      let m := m.scpWrite a.off b
      { m with dev := m.dev.emit (.memDone q) }
    | none =>
      let d := d.scpReadLines a.errs (scpLines a.off a.len)
      let bytes := (List.range a.len).map (fun i =>
        if SMap.get false d.scp.written ((a.off + i) / 64) then Memory.readByte m.mem (scpWindow + a.off + i) else 0)
      let poisoned := d.scp.poison.any (fun p => p < a.off + a.len && a.off < p + 8)
      { m with dev := d.emit (.memData q bytes poisoned) }

/-- An admitted access is served, or waits (R353, R356, R359). -/
def Mach.takeScp (m : Mach) (a : ScpAccess) : Mach :=
  if m.dev.scpHeld a then { m with dev := { m.dev with scp := { m.dev.scp with waiting := m.dev.scp.waiting ++ [a] } } } else m.serveScp a

/-- Whether a master's regions admit a scratchpad access (R354). -/
def Dev.admitScp (d : Dev) (a : ScpAccess) : Bool :=
  decide (a.off + scpLen a ≤ scpBytes) && d.masterAdmits a.m a.func (scpWindow + a.off) (scpWindow + a.off + scpLen a) a.write.isSome

/-- An access to the scratchpad (R351 to R354). -/
def scpAccess (a : ScpAccess) (m : Mach) : Mach :=
  if m.dev.admitScp a then m.takeScp a else { m with dev := m.dev.denyMaster a.m a.func (scpWindow + a.off) a.write.isSome }

/-- The accesses that waited go on in order, under the regions that admitted them (R353, R356). -/
def Mach.resumeScp (m : Mach) : Mach :=
  let wait := m.dev.scp.waiting
  wait.foldl (fun m a => m.takeScp a) { m with dev := { m.dev with scp := { m.dev.scp with waiting := [] } } }

/-- SCRATCHPAD_ACCESS. -/
def execScratchpadAccess (a : ScpAccess) (s : State) : Host.Outcome State Fault Refusal := memStep s (scpAccess a)

/-- SCP_BANK_COPY_DONE: the spare serves the bank; the accesses that waited proceed in order (R353). -/
def scpCopyDone (m : Mach) : Mach :=
  match m.dev.scp.copying with
  | none => m
  | some _ =>
    let d := { m.dev with scp := { m.dev.scp with copying := none } }
    Mach.resumeScp { m with dev := d.setRf R.SCP_STAT F.SCP_STAT_SPARE_USED 1 }

/-- SCP_BANK_COPY_DONE. -/
def execScpBankCopyDone (s : State) : Host.Outcome State Fault Refusal := memStep s scpCopyDone

/-- The bytes of BAR0, BAR2 and BAR4 of a function (Table 12.4). -/
def barSize (f : Func) (bar : Nat) : Nat := if bar = 4 then 2 ^ 37 else if bar = 2 then 0x1000000 else if f = pf then 0x10000 else 0x4000

/-- BAR_ACCESS: a host access through BAR2 (scratchpad) or BAR4 (stack window), made by the host DMA master (R368, R369). An address outside the
BAR is claimed by no function. -/
def barAccess (a : BarAccess) (m : Mach) : Mach :=
  let errs := a.errs.map (fun e => ({ addr := e.1, ue := e.2 } : MemErr))
  if barSize a.func (if a.bar4 then 4 else 2) < a.off + a.len then m
  else if a.bar4 then stackAccess { req := .master 2 a.func, sa := a.off, len := a.len, write := a.write, errs := errs } m
  else scpAccess { m := 2, func := a.func, off := a.off, len := a.len, write := a.write, errs := errs } m

/-- BAR_ACCESS. -/
def execBarAccess (a : BarAccess) (s : State) : Host.Outcome State Fault Refusal := memStep s (barAccess a)

/-- A march target (Table 11.8). -/
inductive MarchTarget where
  | scratchpad
  | stack (s : Fin 4)
  | gallery (g : Fin 8)
deriving DecidableEq, Repr

/-- The target SCP_MT_CTL.TARGET names. -/
def marchTarget (t : Nat) : Option MarchTarget :=
  if t = 0 then some .scratchpad
  else if h : 1 ≤ t ∧ t ≤ 4 then some (.stack ⟨t - 1, by omega⟩)
  else if h : 8 ≤ t ∧ t ≤ 15 then some (.gallery ⟨t - 8, by omega⟩)
  else none

/-- Whether a target has a form in service (Table 11.8). -/
def formAllowed (t : MarchTarget) (preserve : Bool) : Bool :=
  match t with
  | .scratchpad => preserve
  | .stack _ => true
  | .gallery _ => !preserve

/-- The precondition of a march (Table 11.8): `none` when it holds, else the state code of what blocks it. -/
def Dev.marchBlocked (d : Dev) (t : MarchTarget) (preserve : Bool) : Option Nat :=
  match t with
  | .scratchpad => none
  | .stack s =>
    if !d.stackReady s then some (d.stk s).st.code
    else if preserve then
      (if regions.any (fun r => d.rgnValid s r && d.rgnOwner s r < 8 &&
          (if h : d.rgnOwner s r < 8 then (d.pcl ⟨d.rgnOwner s r, h⟩).st == .run else false)) then some PclSt.run.code else none)
    else if regions.any (fun r => d.rgnValid s r && d.rgnOwner s r < 8) then some (d.stk s).st.code
    else none
  | .gallery g => if (d.gal g).st = .empty ∧ d.domOn (4 + g.val) then none else some (d.gal g).st.code

/-- Starts the march engine (R359). -/
def Dev.startMarch (d : Dev) (t : Nat) (preserve : Bool) : Dev :=
  let d := d.setReg R.SCP_MT_CTL (BitVec.ofNat 32 (t + b2n preserve * 65536))
  let d := d.setReg R.SCP_MT_STAT (BitVec.ofNat 32 (2 ^ 31))
  { (d.setReg R.SCP_MT_FAIL 0) with march := some { target := t, preserve := preserve } }

/-- MARCH_GO: writing SCP_MT_CTL.GO; a request whose form or precondition fails changes nothing (R359). -/
def execMarchGo (target : BitVec 5) (preserve : Bool) (s : State) : Host.Outcome State Fault Refusal :=
  devStep s (fun d =>
    match marchTarget target.toNat with
    | none => d
    | some t =>
      if d.march = none ∧ formAllowed t preserve ∧ d.marchBlocked t preserve = none then d.startMarch target.toNat preserve else d)

/-- What a destructive march leaves (R359): zeros, written bits cleared, watermarks at BASE. -/
def Mach.marchZero (m : Mach) (t : MarchTarget) : Mach :=
  match t with
  | .scratchpad => m
  | .stack s =>
    let d := m.dev.forEach regions (fun r d => if d.rgnValid s r then d.setWm s r (d.rgnLo s r) else d)
    let lo := stackWindow + s.val * slot16
    let hi := stackWindow + 4 * slot16 + s.val * slot8
    { dev := d, mem := Memory.zero (Memory.zero m.mem lo (lo + slot16)) hi (hi + slot8) }
  | .gallery g =>
    let d := m.dev.updGal g (fun x => { x with state := [], axons := [], syn := [], ringInit := false, ring := [], occ := [], bad := [] })
    { m with dev := d.updPlane g (fun x => { x with bufs := Vector.replicate 2 {} }) }

/-- The march engine finishes (R359, R360): pass or fail per memory, the failing address where the memory holds no dark storage (of a
Gallery's memories only the weight buffers, Table 4.1) or in lab mode, retirement of failing pages and banks; the traffic that waited goes
on. -/
def marchDone (r : MarchResult) (m : Mach) : Mach :=
  match m.dev.march with
  | none => m
  | some run =>
    let m := match marchTarget run.target with
      | some t => if run.preserve then m else m.marchZero t
      | none => m
    let d : Dev := { m.dev with march := none }
    let fail : Bool := r.mems != 0
    let d := d.setReg R.SCP_MT_STAT (BitVec.ofNat 32 (b2n fail * 2 ^ 30 + r.mems.toNat))
    let dark : Bool := match marchTarget run.target with
      | some (.gallery _) => r.mem != .weights
      | _ => false
    let d := if fail && (!dark || d.boot.lab) then d.setReg R.SCP_MT_FAIL r.addr else d.setReg R.SCP_MT_FAIL 0
    let d := if fail then
        (match marchTarget run.target with
         | some .scratchpad => d.forEach r.places (fun b d => d.retireBank (b % 16) (b % 16 * 64))
         | some (.stack s) => d.forEach r.places (fun p d => d.retirePage s (p * 64) (d.regionOf s (p * 64) (p * 64 + 64)))
         | _ => d)
      else d
    match marchTarget run.target with
    | some .scratchpad => Mach.resumeScp { m with dev := d }
    | some (.stack s) => Mach.drainStack { m with dev := d } s
    | _ => { m with dev := d }

/-- STACK_TRAIN fails the stack: FAILED, its domain held off with TRAIN_FAIL (R339, Table 11.3). -/
def Dev.failStack (d : Dev) (s : Fin 4) (state : StkSt) : Dev :=
  let d := d.updStk s (fun k => { k with st := .failed })
  let d := d.updDom (31 + s.val) (fun x => { x with st := .held, reason := 10 })
  d.raiseFrom (stStack s) (Flt.stackTrain s state.code)

/-- Retires every pseudo-channel that a mask names. -/
def Dev.retirePcs (d : Dev) (s : Fin 4) (mask : BitVec 32) : Dev :=
  d.forEach ((List.range 32).filter (fun i => bit mask i)) (fun i d => d.retirePc s i 0xFF)

/-- A training state of a stack ends (R338 to R340). -/
def stackTrainStep (s : Fin 4) (r : TrainResult) (d : Dev) : Dev :=
  match (d.stk s).st with
  | .phyinit => if r.failed then d.failStack s .phyinit else d.updStk s (fun k => { k with st := .ident, again := false })
  | .ident =>
    if r.failed then d.failStack s .ident
    else
      let known := match d.led.stackRecs[s] with
        | some x => x.devId == r.devId
        | none => false
      (d.updStk s (fun k => { k with st := .lane, devId := r.devId, temp := r.temp, fast := known })).setRf (R.STK_STAT s)
        F.STK_STAT_TEMP (min (r.temp / 2) 63)
  | .lane => (d.retirePcs s r.badPcs).updStk s (fun k => { k with st := .cal, repairs := r.repairs })
  | .cal =>
    if (d.stk s).fast ∧ r.badPcs ≠ 0 then d.updStk s (fun k => { k with st := .lane, fast := false, again := true })
    else
      let saved := match d.led.stackRecs[s] with
        | some x => x.settings
        | none => []
      (d.retirePcs s r.badPcs).updStk s (fun k => { k with st := .verify, settings := if k.fast then saved else r.settings })
  | .verify =>
    if (d.stk s).fast ∧ r.badPcs ≠ 0 then d.updStk s (fun k => { k with st := .lane, fast := false, again := true })
    else
      let d := d.retirePcs s r.badPcs
      let d := if (d.stk s).fast then d
        else
          let k := d.stk s
          let x : StkRec := { devId := k.devId, repairs := k.repairs, settings := k.settings, pcs := BitVec.ofNat 32 (d.rf (R.STK_PC_RET s) F.STK_PC_RET_RET) }
          { d with led := { d.led with stackRecs := d.led.stackRecs.set s (some x) } }
      (d.updStk s (fun k => { k with st := .ready })).setRf (R.STK_CTL s) F.STK_CTL_EN 1
  | _ => d

/-- STACK_TRAIN_STEP. -/
def execStackTrainStep (k : Fin 4) (r : TrainResult) (s : State) : Host.Outcome State Fault Refusal := devStep s (stackTrainStep k r)

end Sys2Proof.Machine
end

