-- ==== Sys2Proof/Machine/Neuron.lean ====
section
/-!
DEFINITION. Events, axon entries, synapse words, neuron state words and the model table, and the arithmetic of the lazy update, of
integration and of the fire check (02_events_and_state.md).
-/
namespace Sys2Proof.Machine

/-! Fields of an event word (Table 2.1). -/
def evChipX : Fld := ⟨62, 2⟩
def evChipY : Fld := ⟨60, 2⟩
def evChipZ : Fld := ⟨58, 2⟩
def evGallery : Fld := ⟨55, 3⟩
def evAxon : Fld := ⟨37, 18⟩
def evAdly : Fld := ⟨27, 10⟩
def evStamp : Fld := ⟨19, 8⟩
def evSlice : Fld := ⟨15, 4⟩
def evKind : Fld := ⟨13, 2⟩
def evPayload : Fld := ⟨5, 8⟩
def evHops : Fld := ⟨0, 5⟩

/-- An event word from its fields (R53). `chip` is CHIP_X, CHIP_Y and CHIP_Z as one 6-bit number. -/
def mkEvent (chip gallery axon adly stamp slice kind payload : Nat) : BitVec 64 :=
  BitVec.ofNat 64 (chip % 64 * 2 ^ 58 + gallery % 8 * 2 ^ 55 + axon % 2 ^ 18 * 2 ^ 37 + adly % 1024 * 2 ^ 27 + stamp % 256 * 2 ^ 19
    + slice % 16 * 2 ^ 15 + kind % 4 * 2 ^ 13 + payload % 256 * 2 ^ 5)

/-- The chip index x + 4y + 16z of a chip field x [5:4], y [3:2], z [1:0] (Tables 2.1, 8.6). -/
def chipIndex (f : Nat) : Nat := f / 16 % 4 + 4 * (f / 4 % 4) + 16 * (f % 4)

/-- The chip field x [5:4], y [3:2], z [1:0] of a chip index. -/
def chipField (c : Nat) : Nat := c % 4 * 16 + c / 4 % 4 * 4 + c / 16 % 4

/-- The index of the chip an event is bound for. -/
def evChip (e : BitVec 64) : Nat := chipIndex (bits e 63 58)

/-- An event whose HOPS has risen by `n` (R56). -/
def addHops (e : BitVec 64) (n : Nat) : BitVec 64 := fput evHops e (min 31 (fget evHops e + n))

/-- The origin tick of an event: the latest tick at or before `t` whose low 8 bits equal STAMP (R53). -/
def originTick (t : Nat) (e : BitVec 64) : Nat := t - (t + 256 - fget evStamp e) % 256

/-- The due tick of an event (R54). -/
def dueTick (t : Nat) (e : BitVec 64) : Nat := originTick t e + fget evAdly e

/-! Fields of an axon table entry (Table 2.3). -/
def axW : Fld := ⟨63, 1⟩
def axDark : Fld := ⟨62, 1⟩
def axIsrc : Fld := ⟨61, 1⟩
def axCold : Fld := ⟨60, 1⟩
def axSlice : Fld := ⟨56, 4⟩
def axPre : Fld := ⟨48, 8⟩
def axHead : Fld := ⟨40, 8⟩
def axCount : Fld := ⟨24, 16⟩
def axBase : Fld := ⟨0, 24⟩

/-! Fields of a synapse word (Table 2.4). -/
def syWeight : Fld := ⟨24, 8⟩
def syDdly : Fld := ⟨20, 4⟩
def syPlastic : Fld := ⟨19, 1⟩
def syDplastic : Fld := ⟨18, 1⟩
def syLive : Fld := ⟨17, 1⟩
def syTarget : Fld := ⟨0, 17⟩

/-! Fields of a neuron state word (Table 2.5). -/
def nsW : Fld := ⟨63, 1⟩
def nsP : Fld := ⟨62, 1⟩
def nsModel : Fld := ⟨58, 4⟩
def nsV : Fld := ⟨40, 18⟩
def nsLast : Fld := ⟨32, 8⟩
def nsRefr : Fld := ⟨26, 6⟩
def nsTrace : Fld := ⟨16, 10⟩
def nsAdapt : Fld := ⟨4, 12⟩

/-- V of a state word, signed. -/
def stV (w : BitVec 64) : Int := sext 18 (fget nsV w)

/-- A state word with another V. -/
def putV (w : BitVec 64) (v : Int) : BitVec 64 := fput nsV w (toTwos 18 v)

/-- A model entry (Table 2.6). -/
structure Model where
  ashift : Nat
  refrac : Nat
  wshift : Nat
  expo : Bool
  subtract : Bool
  theta : Nat
  traceInc : Nat
  vreset : Int
  traceDecay : Nat
  leak : Nat
  adaptInc : Nat
  adaptDecay : Nat
deriving DecidableEq, Repr

/-- The model entry that four words spell (Table 2.6). -/
def modelOf (w0 w1 w2 w3 : Word) : Model :=
  { ashift := bits w0 31 29, refrac := bits w0 28 23, wshift := bits w0 22 20, expo := bit w0 19, subtract := bit w0 18,
    theta := bits w0 17 0, traceInc := bits w1 25 18, vreset := sext 18 (bits w1 17 0), traceDecay := bits w2 31 16, leak := bits w2 15 0,
    adaptInc := bits w3 23 16, adaptDecay := bits w3 15 0 }

/-- One step of pow_q16: square, and multiply by `d` when the bit of `g` is set, each rounded half up (R72). -/
def powStep (d : Nat) (bitSet : Bool) (f : Nat) : Nat :=
  let q := (f * f + 0x8000) / 65536
  if bitSet then (q * d + 0x8000) / 65536 else q

/-- pow_q16 over the bits of `g` from bit `n - 1` down to bit 0 (R72). -/
def powBits (d g : Nat) : Nat → Nat → Nat
  | 0, f => f
  | n + 1, f => powBits d g n (powStep d (g.testBit n) f)

/-- pow_q16 (R72). -/
def powQ16 (d g : Nat) : Nat := powBits d g 8 0x10000

/-- The gap since LAST (R71). -/
def gap (t : Nat) (w : BitVec 64) : Nat := (t % 256 + 256 - fget nsLast w) % 256

/-- V after a leak over a gap (R71). -/
def leakV (m : Model) (g : Nat) (v : Int) : Int :=
  let a := if m.expo then v.natAbs * powQ16 m.leak g / 65536 else v.natAbs - min v.natAbs (m.leak * g)
  if v < 0 then -(a : Int) else a

/-- The lazy update of a state word to tick `t` (R71). -/
def lazyUpdate (m : Model) (t : Nat) (w : BitVec 64) : BitVec 64 :=
  let g := gap t w
  if g = 0 then w
  else
    let w := putV w (leakV m g (stV w))
    let w := fput nsTrace w (fget nsTrace w * powQ16 m.traceDecay g / 65536)
    let w := fput nsAdapt w (fget nsAdapt w * powQ16 m.adaptDecay g / 65536)
    let w := fput nsRefr w (fget nsRefr w - g)
    fput nsLast w (t % 256)

/-- The effective threshold of a neuron (R69). -/
def threshold (m : Model) (w : BitVec 64) : Nat := m.theta + fget nsAdapt w * 2 ^ m.ashift

/-- The contribution of a synapse to its target (R70): `graded` holds PAYLOAD of a graded spike. -/
def contribution (wshift : Nat) (weight : Int) (graded : Option Nat) : Int :=
  match graded with
  | none => weight * 2 ^ wshift
  | some p =>
    let a := weight.natAbs * p * 2 ^ wshift / 256
    if weight < 0 then -(a : Int) else a

/-- The fire's effect on the state word (R78), P and the spike apart. -/
def fireWord (m : Model) (w : BitVec 64) : BitVec 64 :=
  let v := if m.subtract then stV w - threshold m w else m.vreset
  let w := fput nsRefr (putV w v) m.refrac
  fput nsAdapt (fput nsTrace w (min 1023 (fget nsTrace w + m.traceInc))) (min 4095 (fget nsAdapt w + m.adaptInc))

/-- What an integration does: the new word, whether V saturated, and V before reset of a fire (R77, R78). -/
structure Integrated where
  word : BitVec 64
  sat : Bool
  fired : Option Int
deriving DecidableEq, Repr

/-- The fire check (R78). -/
def fireCheck (m : Model) (w : BitVec 64) : BitVec 64 × Option Int :=
  if fget nsRefr w = 0 ∧ (threshold m w : Int) ≤ stV w then (fireWord m w, some (stV w)) else (w, none)

/-- Integration of an input into an updated word (R77). -/
def integrate (m : Model) (x : Int) (w : BitVec 64) : Integrated :=
  if 0 < fget nsRefr w then { word := w, sat := false, fired := none }
  else
    let s := stV w + x
    let c := clamp (-131072) 131071 s
    let r := fireCheck m (putV w c)
    { word := r.1, sat := decide (s ≠ c), fired := r.2 }

/-- A slot sum, saturated (R67). -/
def slotAdd (a x : Int) : Int := clamp (-32768) 32767 (a + x)

/-- The word an uncorrectable state word is rewritten with (R84). -/
def safeWord (safe : Nat) : BitVec 64 := fput nsModel (fput nsW 0 1) safe

end Sys2Proof.Machine
end

