-- ==== Sys2Proof/Machine/Words.lean ====
section
/-!
DEFINITION. A Gallery's memories as the engines meet them: model table, dark ranges and windows, ECC (R82 to R84, R507), and the entry
into FAULTED (R508 to R510).
-/
namespace Sys2Proof.Machine

/-- Whether a licensed feature is in effect: 0 LRN-STRUCT, 1 GROUP-64, 2 PARCELS-8, 3 SITE-PERSIST, 4 EDGE-STORAGE, 5 LAB-MODE. -/
def Dev.licensed (d : Dev) (f : Nat) : Bool := d.rf R.LIC_EFFECT F.LIC_EFFECT_EFFECT / 2 ^ f % 2 == 1

/-- The parcel byte of a Gallery (R503). -/
def Dev.galParcel (d : Dev) (g : Fin 8) : Nat := parcelByte (d.parcelAt g.val)

/-- A model entry of a Gallery (R68). -/
def Dev.model (d : Dev) (g : Fin 8) (m : Nat) : Model :=
  modelOf (d.reg (R.GAL_MODEL g (4 * m))) (d.reg (R.GAL_MODEL g (4 * m + 1))) (d.reg (R.GAL_MODEL g (4 * m + 2)))
    (d.reg (R.GAL_MODEL g (4 * m + 3)))

/-- SAFE_MODEL. -/
def Dev.safeModel (d : Dev) (g : Fin 8) : Nat := d.rf (R.GAL_STATE_CTL g) F.GAL_STATE_CTL_SAFE_MODEL

/-- The port of the dark range that holds a neuron (R124). -/
def Dev.darkPort (d : Dev) (g : Fin 8) (n : Nat) : Option Nat :=
  ((List.range 16).find? (fun k => d.rf (R.GAL_DARK_LO g k) F.GAL_DARK_LO_VALID = 1 ∧ d.rf (R.GAL_DARK_LO g k) F.GAL_DARK_LO_LO ≤ n
    ∧ n ≤ d.rf (R.GAL_DARK_HI g k) F.GAL_DARK_HI_HI)).map (fun k => d.rf (R.GAL_DARK_LO g k) F.GAL_DARK_LO_PORT)

/-- The port of the intake window that holds an axon (R124). -/
def Dev.windowPort (d : Dev) (g : Fin 8) (a : Nat) : Option Nat :=
  ((List.range 8).find? (fun k => d.rf (R.GAL_IWIN_LO g k) F.GAL_IWIN_LO_VALID = 1 ∧ d.rf (R.GAL_IWIN_LO g k) F.GAL_IWIN_LO_AXLO ≤ a
    ∧ a ≤ d.rf (R.GAL_IWIN_HI g k) F.GAL_IWIN_HI_AXHI)).map (fun k => d.rf (R.GAL_IWIN_LO g k) F.GAL_IWIN_LO_PORT)

/-- The synapse word a Gallery holds at an index, its error apart. -/
def Gal.synWord (x : Gal) (i : Nat) : Word := (SMap.get 0 x.syn i).setWidth 32

/-- Writes a synapse bank word: it is written, and holds no error. -/
def Gal.putSyn (x : Gal) (i : Nat) (w : Word) : Gal :=
  { x with syn := SMap.set 0 x.syn i (w.setWidth 33 ||| (1#33 <<< 32)), bad := x.bad.filter (fun e => !(e.kind == .syn && e.idx == i)) }

/-- The port that a dark axon is tied to: that of its intake window, or of the range that holds its first target (R125, R131). -/
def Dev.axonPort (d : Dev) (g : Fin 8) (a : Nat) (e : BitVec 64) : Option Nat :=
  if fget axDark e = 0 then none
  else if fget axIsrc e = 1 then d.windowPort g a
  else if fget axCount e = 0 then none
  else d.darkPort g (fget syTarget ((d.gal g).synWord (fget axBase e)))

/-- Whether a port's erase fence is up in a Gallery (R131). -/
def Dev.fenced (d : Dev) (g : Fin 8) (p : Option Nat) : Bool := match p with
  | some p => bit (d.gal g).fence p
  | none => false

/-- Whether a neuron is in the dead-neuron table (R507). -/
def Dev.isDead (d : Dev) (g : Fin 8) (n : Nat) : Bool :=
  (List.range 16).any (fun i => d.rf (R.GAL_DEAD g i) F.GAL_DEAD_VALID = 1 ∧ d.rf (R.GAL_DEAD g i) F.GAL_DEAD_NEURON = n)

/-- The neurons of a Gallery that hold a spike in their P bit (R79). -/
def Gal.pendingNeurons (x : Gal) : List Nat := (x.state.filter (fun e => fget nsP e.2 = 1)).map (·.1)

/-- Clears every P bit (R509). -/
def Gal.clearP (x : Gal) : Gal := { x with state := x.state.map (fun e => (e.1, fput nsP e.2 0)) }

/-- The ports tagged in the dark ranges of a Gallery. -/
def Dev.taggedPorts (d : Dev) (g : Fin 8) : List Nat :=
  (List.range 16).filter (fun p => (List.range 16).any (fun k =>
    d.rf (R.GAL_DARK_LO g k) F.GAL_DARK_LO_VALID = 1 ∧ d.rf (R.GAL_DARK_LO g k) F.GAL_DARK_LO_PORT = p))

/-- Raises the fence of a port and queues its erasure, in ascending port order behind the one that runs (R131, R132). -/
def Gal.askErase (x : Gal) (p : Nat) : Gal :=
  let q := match x.eraseQ with
    | [] => [p]
    | h :: t => if (h :: t).contains p then h :: t else h :: (t.filter (· < p) ++ [p] ++ t.filter (p < ·))
  { x with fence := x.fence ||| BitVec.ofNat 16 (2 ^ p), eraseQ := q }

/-- Events that wait in the four ingress sub-queues. -/
def Gal.ingress (x : Gal) : Nat := x.rail.length + x.mesh.length + x.rel.length + x.loop.length

/-- A Gallery enters FAULTED (R508 to R510): engine, Compass unit, Leveler and plane halt; what it held is discarded and counted; the
discard sink is set; all its dark storage is to be erased under the fence. -/
def Dev.enterFaulted (d : Dev) (g : Fin 8) (cause : Nat) : Dev :=
  if (d.gal g).st = .faulted then d
  else
    let x := d.gal g
    let drop := x.pendingNeurons.length + x.emitQ.length + x.delayQ.length + (d.plane g).outEvents.length + x.cmp.fwd.length
    let ports := d.taggedPorts g
    let d := (d.bump (R.GAL_STOP_DROP_CNT g) F.GAL_STOP_DROP_CNT_STOP drop).bump (R.GAL_NOTRUN_CNT g) F.GAL_NOTRUN_CNT_NOTRUN x.ingress
    let d := d.updGal g (fun x =>
      let x := x.clearP
      let x := { x with st := .faulted, emitQ := [], delayQ := [], rail := [], mesh := [], rel := [], loop := [], cold := [],
                        sink := true, cmp := { x.cmp with fwd := [] } }
      ports.foldl Gal.askErase x)
    let d := d.updPlane g (fun y => { y with outEvents := [] })
    let d := d.setRf (R.GAL_FLT_STAT g) F.GAL_FLT_STAT_CAUSE cause
    let d := if cause = 1 ∨ cause = 2 then d.setRf (R.GAL_FLT_STAT g) F.GAL_FLT_STAT_PEND_START 1 else d
    d.raiseFrom (stGal g) (Flt.galFaulted g (d.galParcel g) cause)

/-- Hours in units of 10 ns. -/
def hours (n : Nat) : Nat := n * 360000000000

/-- Errors of one key within a sliding window, the new one included (Table 18.1). -/
def recent (l : List (Nat × Nat)) (key now win : Nat) : List (Nat × Nat) :=
  (key, now) :: l.filter (fun e => e.1 = key → now < e.2 + win)

/-- Counts the errors of a key. -/
def countKey (l : List (Nat × Nat)) (key : Nat) : Nat := (l.filter (fun e => e.1 == key)).length

/-- A neuron spends its budget and enters the dead-neuron table, or finds it full (R507, R508). -/
def Dev.neuronDead (d : Dev) (g : Fin 8) (n : Nat) : Dev :=
  if d.isDead g n then d
  else
    let used := d.rf (R.GAL_FLT_STAT g) F.GAL_FLT_STAT_DEAD
    let d := d.retireMap 2 g.val (n / 16)
    if 16 ≤ used then d.enterFaulted g 2
    else
      let d := d.setReg (R.GAL_DEAD g used) (BitVec.ofNat 32 (2 ^ 31 + n % 2 ^ 17))
      let d := d.setRf (R.GAL_FLT_STAT g) F.GAL_FLT_STAT_DEAD (used + 1)
      d.raiseFrom (stGal g) (Flt.neuronDead g (d.galParcel g) n (used + 1))

/-- An uncorrectable error of a state word, the rewrite apart: counted, recorded, faulted, charged to the neuron's budget (R84). -/
def Dev.stateUe (d : Dev) (g : Fin 8) (n : Nat) : Dev :=
  let d := (d.bump (R.GAL_ECC_UE_CNT g) F.GAL_ECC_UE_CNT_STATE).setReg (R.GAL_UE_ADDR g) (BitVec.ofNat 32 n)
  let d := d.raiseFrom (stGal g) (Flt.galUeState g (d.galParcel g) n)
  let win := hours (d.rf (R.GAL_FLT_CFG g) F.GAL_FLT_CFG_NEU_WIN)
  let d := d.updGal g (fun x => { x with neuUe := recent x.neuUe n d.clk win })
  if d.rf (R.GAL_FLT_CFG g) F.GAL_FLT_CFG_NEU_UE_MAX ≤ countKey (d.gal g).neuUe n then d.neuronDead g n else d

/-- An uncorrectable error of a synapse word, the rewrite apart; a bank that spends its budget faults the Gallery (R84, Table 18.1). -/
def Dev.synUe (d : Dev) (g : Fin 8) (i : Nat) : Dev :=
  let d := (d.bump (R.GAL_ECC_UE_CNT g) F.GAL_ECC_UE_CNT_SYN).setReg (R.GAL_UE_ADDR g) (BitVec.ofNat 32 (2 ^ 31 + i % 2 ^ 24))
  let d := d.raiseFrom (stGal g) (Flt.galUeSyn g (d.galParcel g) i (i % 8))
  let win := hours (d.rf (R.GAL_FLT_CFG g) F.GAL_FLT_CFG_BANK_WIN)
  let d := d.updGal g (fun x => { x with bankUe := recent x.bankUe (i % 8) d.clk win })
  let n := countKey (d.gal g).bankUe (i % 8)
  if d.rf (R.GAL_FLT_CFG g) F.GAL_FLT_CFG_BANK_UE_MAX ≤ n ∧ (d.gal g).st ≠ .faulted then
    let d := (d.retireMap 1 g.val (i % 8)).raiseFrom (stGal g) (Flt.bankRetired g (d.galParcel g) (i % 8) n)
    d.enterFaulted g 1
  else d

/-- An unwritten read: counted, and faulted under UNW_FAULT (R82). -/
def Dev.unwritten (d : Dev) (g : Fin 8) (i : Nat) : Dev :=
  let d := d.bump (R.GAL_UNW_CNT g) F.GAL_UNW_CNT_UNW
  if d.rf (R.GAL_STATE_CTL g) F.GAL_STATE_CTL_UNW_FAULT = 1 then d.raiseFrom (stGal g) (Flt.galUnw g (d.galParcel g) i) else d

/-- The error that a word holds. -/
def Gal.badAt (x : Gal) (k : WordKind) (i : Nat) : Option EccErr := x.bad.find? (fun e => e.kind == k && e.idx == i)

/-- Clears a word's error: it has been corrected, or rewritten. -/
def Gal.clean (x : Gal) (k : WordKind) (i : Nat) : Gal := { x with bad := x.bad.filter (fun e => !(e.kind == k && e.idx == i)) }

/-- Writes a state word; a write to a dead neuron is discarded (R507). -/
def Dev.putState (d : Dev) (g : Fin 8) (n : Nat) (w : BitVec 64) : Dev :=
  if d.isDead g n then d else d.updGal g (fun x => ({ x with state := SMap.set 0 x.state n w }).clean .state n)

/-- The ECC of a state word as it is read (R83, R84): false for an uncorrectable word, which has been rewritten with the safe model. -/
def Dev.stateEcc (d : Dev) (g : Fin 8) (n : Nat) : Bool × Dev :=
  match (d.gal g).badAt .state n with
  | none => (true, d)
  | some e =>
    if e.ue then (false, (d.putState g n (safeWord (d.safeModel g))).stateUe g n)
    else (true, (d.updGal g (fun x => x.clean .state n)).bump (R.GAL_ECC_CE_CNT g) F.GAL_ECC_CE_CNT_STATE)

/-- Reads a state word (R82 to R84, R507): `none` for an uncorrectable word, which has been rewritten with the safe model. -/
def Dev.readState (d : Dev) (g : Fin 8) (n : Nat) : Option (BitVec 64) × Dev :=
  if d.isDead g n then (some (safeWord (d.safeModel g)), d.bump (R.GAL_DEAD_HIT g) F.GAL_DEAD_HIT_HIT)
  else match d.stateEcc g n with
    | (false, d) => (none, d)
    | (true, d) =>
      let w := SMap.get 0 (d.gal g).state n
      (some w, if fget nsW w = 0 then d.unwritten g n else d)

/-- Reads an axon entry: `none` for an uncorrectable one, which faults the Gallery (R508, CONFIG_UE). -/
def Dev.readAxon (d : Dev) (g : Fin 8) (a : Nat) : Option (BitVec 64) × Dev :=
  match (d.gal g).badAt .axon a with
  | some { ue := true, .. } => (none, (d.bump (R.GAL_ECC_UE_CNT g) F.GAL_ECC_UE_CNT_STATE).enterFaulted g 4)
  | e =>
    let d := if e.isSome then (d.updGal g (fun x => x.clean .axon a)).bump (R.GAL_ECC_CE_CNT g) F.GAL_ECC_CE_CNT_STATE else d
    let w := SMap.get 0 (d.gal g).axons a
    (some w, if fget axW w = 0 then d.unwritten g a else d)

/-- Writes an axon entry. -/
def Dev.putAxon (d : Dev) (g : Fin 8) (a : Nat) (w : BitVec 64) : Dev :=
  d.updGal g (fun x => ({ x with axons := SMap.set 0 x.axons a w }).clean .axon a)

/-- Reads a synapse word: `none` for an uncorrectable one, which is rewritten with LIVE = 0 and WEIGHT = 0 (R84). -/
def Dev.readSyn (d : Dev) (g : Fin 8) (i : Nat) : Option Word × Dev :=
  match (d.gal g).badAt .syn i with
  | some { ue := true, .. } =>
    (none, (d.updGal g (fun x => x.putSyn i (fput syWeight (fput syLive (x.synWord i) 0) 0))).synUe g i)
  | e =>
    let d := if e.isSome then (d.updGal g (fun x => x.clean .syn i)).bump (R.GAL_ECC_CE_CNT g) F.GAL_ECC_CE_CNT_SYN else d
    (some ((d.gal g).synWord i), if bit (SMap.get 0 (d.gal g).syn i) 32 then d else d.unwritten g i)

/-- Key of slot `k` of neuron `n`. -/
def slotKey (k n : Nat) : Nat := k * 131072 + n

/-- The value of a ring slot. -/
def Gal.slot (x : Gal) (k n : Nat) : Int := sext 16 (SMap.get 0 x.ring (slotKey k n)).toNat

/-- The occupancy bit of a slot. -/
def Gal.occupied (x : Gal) (k n : Nat) : Bool := SMap.get false x.occ (slotKey k n)

/-- Writes a ring slot and its occupancy bit. -/
def Gal.putSlot (x : Gal) (k n : Nat) (v : Int) (o : Bool) : Gal :=
  { x with ring := SMap.set 0 x.ring (slotKey k n) (BitVec.ofInt 16 v), occ := SMap.set false x.occ (slotKey k n) o }

/-- Brings a ring group of four slots to readable words: a correctable error is corrected; of an uncorrectable one the spec gives the
count and no value, so its four slots take free values. R84 speaks of state and synapse words alone: the model records a ring group in no
GAL_UE_ADDR and raises no fault for it (DESIGN CHOICE, log entry 18). -/
def Dev.touchRing (d : Dev) (g : Fin 8) (k n : Nat) : Dev :=
  match (d.gal g).badAt .ring (4 * n + k / 4) with
  | none => d
  | some e =>
    let d := d.updGal g (fun x => x.clean .ring (4 * n + k / 4))
    if e.ue then
      let d := d.bump (R.GAL_ECC_UE_CNT g) F.GAL_ECC_UE_CNT_SYN
      d.forEach [0, 1, 2, 3] (fun j d =>
        let (v, d) := d.fresh 16
        d.updGal g (fun x => { x with ring := SMap.set 0 x.ring (slotKey (k / 4 * 4 + j) n) v }))
    else d.bump (R.GAL_ECC_CE_CNT g) F.GAL_ECC_CE_CNT_SYN

/-- Index of the slot bitmap word that holds the occupancy bit of slot `k` of neuron `n` (R67). -/
def mapIndex (k n : Nat) : Nat := k * 2048 + n / 64

/-- Brings the slot bitmap word `i` to a readable word (R82, R83): a correctable error is corrected; of an uncorrectable one Table 2.9 gives
the count and the spec no value, so its 64 occupancy bits are free, and as for a ring group nothing is recorded or faulted (DESIGN CHOICE,
log entry 18). -/
def Dev.touchMap (d : Dev) (g : Fin 8) (i : Nat) : Dev :=
  match (d.gal g).badAt .bmap i with
  | none => d
  | some e =>
    let d := d.updGal g (fun x => x.clean .bmap i)
    if e.ue then
      let d := d.bump (R.GAL_ECC_UE_CNT g) F.GAL_ECC_UE_CNT_SYN
      let (v, d) := d.fresh 64
      d.updGal g (fun x => { x with
        occ := (List.range 64).foldl (fun m j => SMap.set false m (slotKey (i / 2048) (i % 2048 * 64 + j)) (bit v j)) x.occ })
    else d.bump (R.GAL_ECC_CE_CNT g) F.GAL_ECC_CE_CNT_SYN

/-- Brings to readable words every slot bitmap word that a test names. -/
def Dev.touchMaps (d : Dev) (g : Fin 8) (t : Nat → Bool) : Dev :=
  d.forEach ((d.gal g).bad.filter (fun e => e.kind == .bmap && t e.idx)) (fun e d => d.touchMap g e.idx)

/-- Words of a Gallery come to hold ECC errors. -/
def Dev.corrupt (d : Dev) (g : Fin 8) (errs : List EccErr) : Dev := d.updGal g (fun x => { x with bad := x.bad ++ errs })

/-- The current tick. -/
def Dev.tick (d : Dev) : Nat := d.dat.tick

/-- The slice bound to a Gallery's parcel. -/
def Dev.galSlice (d : Dev) (g : Fin 8) : Option Nat := (d.parcelAt g.val).map (fun q => d.rf (R.PCL_BIND q) F.PCL_BIND_SLICE)

/-- GRACE. -/
def Dev.grace (d : Dev) (g : Fin 8) : Nat := d.rf (R.GAL_EVT_CTL g) F.GAL_EVT_CTL_GRACE

/-- Whether an event's deadline tick has ended (R171). -/
def Dev.late (d : Dev) (g : Fin 8) (e : BitVec 64) : Bool := dueTick d.tick e + d.grace g < d.tick

end Sys2Proof.Machine
end

