-- ==== Sys2Proof/Machine/Nodes.lean ====
section
/-!
DEFINITION. The input buffers of the Passage mesh's nodes (06_passage_mesh.md R178 to R181, Tables 6.1 and 6.2).
-/
namespace Sys2Proof.Machine

/-- Flits of a message: a submission has two, operand data three (R218), every other message one. -/
def Freight.flits : Freight → Nat
  | .submit _ => 2
  | .data _ _ _ _ _ => 3
  | _ => 1

/-- The lane of a message: 0 SA, 1 SB, 2 VN-Q, 3 VN-P, 4 VN-M (Table 6.2). -/
def Freight.lane : Freight → Fin 5
  | .event ev => if 16 ≤ fget evAdly ev then 1 else 0
  | .submit _ => 2
  | .read _ _ _ _ _ => 2
  | .answer _ _ => 3
  | .data _ _ _ _ _ => 3
  | .access => 4

/-- Flits that an input buffer of a lane holds (Table 6.2). -/
def laneSize (l : Fin 5) : Nat := match l with
  | 0 => 16
  | 1 => 16
  | 2 => 8
  | 3 => 8
  | 4 => 4

/-- The input buffer of a port and a lane. -/
def bufAt (port : Fin 4) (l : Fin 5) : Fin 20 := ⟨port.val * 5 + l.val, by omega⟩

/-- Whether an input buffer has credits for a message: one for each of its flits, for it moves as a whole (DESIGN CHOICE, log entry 55). -/
def Gal.laneRoom (x : Gal) (port : Fin 4) (b : Freight) : Bool :=
  decide (((x.node[bufAt port b.lane]).map (fun m => m.body.flits)).sum + b.flits ≤ laneSize b.lane)

/-- Puts a message into an input buffer, and raises the high-water mark of its VN-S lane (Table 6.10). -/
def Dev.pushNode (d : Dev) (g : Fin 8) (port : Fin 4) (m : MeshMsg) : Dev :=
  let i := bufAt port m.body.lane
  let d := d.updGal g (fun x => { x with node := x.node.set i (x.node[i] ++ [m]) })
  match m.body with
  | .event ev => d.raiseTo (R.MSH_NODE_HIWATER g) (if 16 ≤ fget evAdly ev then F.MSH_NODE_HIWATER_SB else F.MSH_NODE_HIWATER_SA)
      ((d.gal g).node[i]).length
  | _ => d

/-- The messages of a Gallery's units enter its node, in order within each network, as room allows. -/
def Dev.refill (d : Dev) (g : Fin 8) : Dev :=
  let posts := (d.gal g).posts
  let r := posts.foldl (fun (s : List MeshMsg × Dev) m =>
    if (s.2.gal g).laneRoom 3 m.body && !(s.1.any (fun w => w.body.lane == m.body.lane)) then (s.1, s.2.pushNode g 3 m)
    else (s.1 ++ [m], s.2)) ([], d)
  r.2.updGal g (fun x => { x with posts := r.1 })

/-- A unit of a Gallery sends a message. -/
def Dev.post (d : Dev) (g : Fin 8) (m : MeshMsg) : Dev := (d.updGal g (fun x => { x with posts := x.posts ++ [m] })).refill g

/-- The output of the node of Gallery `g` towards Gallery `h`: along the row, then along the column (R178, R181): 0 to the west, 1 to the
east, 2 to the other row, 3 to the own Gallery. -/
def outTo (g h : Nat) : Fin 4 :=
  if h / 2 < g / 2 then 0 else if g / 2 < h / 2 then 1 else if g % 2 ≠ h % 2 then 2 else 3

/-- The node that an output leads to, and the input port there (0 from the west, 1 from the east, 2 from the other row). -/
def neighbour (g : Fin 8) (o : Fin 4) : Option (Fin 8 × Fin 4) := match o with
  | 0 => if 2 ≤ g.val then some (⟨g.val - 2, by omega⟩, 1) else none
  | 1 => if h : g.val < 6 then some (⟨g.val + 2, by omega⟩, 0) else none
  | 2 => some (⟨if g.val % 2 = 0 then g.val + 1 else g.val - 1, by split <;> omega⟩, 2)
  | 3 => none

/-- The parcel field of flits from a Gallery (Table 6.3). -/
def Dev.flitParcel (d : Dev) (g : Nat) : Nat := match d.parcelAt g with
  | some q => q.val
  | none => 7

end Sys2Proof.Machine
end

