-- ==== Sys2Proof/Machine/Firmware.lean ====
section
/-!
DEFINITION. How the firmware serves a command: the descriptor's fields, the order of checks of Table 13.1, refusals that change
nothing (R393), completions, and reports (13_firmware_commands.md, R392 to R399).
-/
namespace Sys2Proof

/-- OPCODE of the descriptor (Table 12.9). -/
def Cmd.opcode (c : Cmd) : Nat := (c.desc.extractLsb' 0 16).toNat
/-- TAG. -/
def Cmd.tag (c : Cmd) : Nat := (c.desc.extractLsb' 16 16).toNat
/-- TARGET: the parcel, or 0xFF. -/
def Cmd.target (c : Cmd) : Nat := (c.desc.extractLsb' 32 8).toNat
/-- NOTIFY. -/
def Cmd.notify (c : Cmd) : Bool := c.desc.getLsbD 40
/-- FENCE. -/
def Cmd.fence (c : Cmd) : Bool := c.desc.getLsbD 41
/-- DATA_LEN. -/
def Cmd.dataLen (c : Cmd) : Nat := (c.desc.extractLsb' 128 32).toNat
/-- PARAM byte `i` (P`i`). -/
def Cmd.p (c : Cmd) (i : Nat) : Nat := (c.desc.extractLsb' (192 + 8 * i) 8).toNat
/-- `n` PARAM bytes from P`i`, little-endian (R22). -/
def Cmd.pn (c : Cmd) (i n : Nat) : Nat := (c.desc.extractLsb' (192 + 8 * i) (8 * n)).toNat
/-- The parcel TARGET names. -/
def Cmd.parcel (c : Cmd) : Fin 8 := ⟨c.target % 8, Nat.mod_lt _ (by decide)⟩

/-- The length of a scatter-list entry (R378). -/
def sgLen (e : BitVec 128) : Nat := Machine.bits e 95 64

/-- Whether a scatter list is one of R378: at most 65,536 entries of 16 bytes, each of a length that is a multiple of 4 from 4 to 2^31, bytes 12 to 15
zero. -/
def sgOk (l : List (BitVec 128)) : Bool :=
  decide (l.length ≤ 65536) && l.all (fun e => sgLen e % 4 == 0 && decide (4 ≤ sgLen e ∧ sgLen e ≤ 2 ^ 31) && Machine.bits e 127 96 == 0)

/-- The bytes that a buffer transfers (R378): `none` for a failed transfer, and for a scatter list that is not one of R378 or does not span the bytes
(DESIGN CHOICE, log entry 58). -/
def Buf.read (x : Buf) : Option (List Byte) := match x with
  | .bytes b => some b
  | .scattered l b => if sgOk l && (l.map sgLen).sum == b.length then some b else none
  | .failed => none

/-- SGL: whether DATA_ADDR is that of a scatter list. -/
def Cmd.sgl (c : Cmd) : Bool := c.desc.getLsbD 42

/-- Bytes of a command's buffer: DATA_LEN, or with SGL set, which makes DATA_LEN the bytes of the list, what the list spans (Table 12.9). -/
def Cmd.bufLen (c : Cmd) : Nat := if !c.sgl then c.dataLen else match c.buf with
  | .bytes b => b.length
  | .scattered l _ => (l.map sgLen).sum
  | .failed => 0

end Sys2Proof

namespace Sys2Proof.Machine

/-- DETAIL reasons of Table 13.3. -/
inductive Reason where
  | none | privilege | field | range | absent | mode | fuse | signature | binding | capacity | check | power | state | owner | buffer
deriving DecidableEq, Repr

/-- The code of a reason (Table 13.3). -/
def Reason.code : Reason → Nat
  | .none => 0 | .privilege => 1 | .field => 2 | .range => 3 | .absent => 4 | .mode => 5 | .fuse => 6 | .signature => 7
  | .binding => 8 | .capacity => 9 | .check => 10 | .power => 11 | .state => 12 | .owner => 13 | .buffer => 14

/-- DETAIL: REASON, INDEX and SUB (R394). -/
def detail (r : Reason) (index sub : Nat := 0) : BitVec 32 := BitVec.ofNat 32 (r.code + 256 * (index % 256) + 65536 * (sub % 65536))

/-- What a command's handler answers: a refusal, which changes nothing (R393); a finished command with its results; or a command
that waits on the device. -/
inductive Reply (σ : Type) where
  | refuse (st : Status) (detail : BitVec 32)
  | finish (d : σ) (st : Status) (r0 r1 : BitVec 64) (detail : BitVec 32)
  | hold (d : σ) (w : Wait)

/-- A finished command with status OK. -/
def done {σ : Type} (d : σ) (r0 r1 : BitVec 64 := 0) : Reply σ := .finish d .ok r0 r1 0

/-- REFUSED with a reason. -/
def refused {σ : Type} (r : Reason) (index sub : Nat := 0) : Reply σ := .refuse .refused (detail r index sub)

/-- BUSY: DETAIL STATE with the state code of the blocking object (Table 13.2). -/
def busy {σ : Type} (code : Nat) : Reply σ := .refuse .busy (detail .state code)

/-- Changes the state a reply carries. -/
def Reply.map {σ τ : Type} (f : σ → τ) : Reply σ → Reply τ
  | .refuse st dt => .refuse st dt
  | .finish d st r0 r1 dt => .finish (f d) st r0 r1 dt
  | .hold d w => .hold (f d) w

/-- Who may issue an opcode (13_firmware_commands.md: Conventions). -/
inductive Rights where
  | any | own | pf
deriving DecidableEq, Repr

/-- What an Own opcode names: the parcel in TARGET, the port in P0, the stack region in P0 and P1, or nothing in particular. -/
inductive Names where
  | nothing | parcel | port | region | block | domains
deriving DecidableEq, Repr

/-- An opcode's row: code, rights, what it names, the PARAM bytes it uses with the bits used of each, and whether it takes a
buffer (Tables 13.5 to 13.18). -/
structure CmdSpec where
  op : Nat
  rights : Rights
  names : Names := .nothing
  used : List (Nat × Nat) := []
  buffer : Bool := false
deriving DecidableEq, Repr

/-- Whole PARAM bytes `lo` to `hi`. -/
def params (lo hi : Nat) : List (Nat × Nat) := (List.range (hi + 1 - lo)).map (fun i => (lo + i, 0xFF))

/-- The used bits of PARAM byte `i` of an opcode. -/
def CmdSpec.usedBits (sp : CmdSpec) (i : Nat) : Nat := match sp.used.find? (fun e => e.1 == i) with
  | some e => e.2
  | none => 0

/-- The first PARAM byte with a reserved bit set. -/
def CmdSpec.badParam (sp : CmdSpec) (c : Cmd) : Option Nat :=
  (List.range 40).find? (fun i => Nat.xor (Nat.lor (c.p i) (sp.usedBits i)) (sp.usedBits i) != 0)

/-- Whether a reserved bit of the descriptor outside PARAM is set (Table 12.9). -/
def descBad (c : Cmd) : Bool := bits c.desc 47 43 != 0 || bits c.desc 63 48 != 0 || bits c.desc 191 160 != 0

/-- The function whose rights a command has: the attach path acts with those of HST_ATTACH_CFG (R386). -/
def Dev.actsFor (d : Dev) (i : Issuer) : Func :=
  match i with
  | .fn f => f
  | .attach => if h : d.rf R.HST_ATTACH_CFG F.HST_ATTACH_CFG_FUNC < 8 then ⟨_, Nat.lt_of_lt_of_le h (by decide)⟩ else pf

/-- The codes of COUNTERS_READ blocks (Table 13.17) whose instance belongs to a parcel, and whether it is parcel `q`'s. -/
def Dev.ownsBlock (d : Dev) (q : Fin 8) (block inst : Nat) : Bool :=
  if block = 1 ∨ block = 2 ∨ block = 3 ∨ block = 4 then inst < 8 && d.parcelAt inst == some q
  else if block = 6 then inst == q.val
  else if block = 7 then inst < 16 && d.parcelOfPort inst == some q
  else false

/-- The domains of a parcel's Galleries, planes, hubs and stacks (POWER_STATUS, TELEMETRY_READ). -/
def Dev.parcelDomains (d : Dev) (q : Fin 8) : List Nat :=
  (List.range 8).flatMap (fun g => if d.parcelAt g = some q then [4 + g, 12 + g, 20 + g / 2, 31 + g / 2] else [])

/-- Step 3 of Table 13.1: the issuing function holds the opcode's rights (R365). -/
def Dev.rightsOk (d : Dev) (c : Cmd) (sp : CmdSpec) : Bool :=
  let f := d.actsFor c.issuer
  if f = pf then true
  else match sp.rights with
    | .any => true
    | .pf => false
    | .own =>
      match d.parcelOf f with
      | none => false
      | some q =>
        match sp.names with
        | .nothing => true
        | .parcel => c.target == q.val
        | .port => c.p 0 < 16 && d.parcelOfPort (c.p 0) == some q
        | .region => c.p 0 < 4 && c.p 1 < 16 && d.rf (R.STK_RGN_BASE (c.p 0) (c.p 1)) F.STK_RGN_BASE_OWNER == q.val
        | .block => d.ownsBlock q (c.p 0) (c.p 1)
        | .domains => Nat.lor (c.pn 0 8) (maskOf (d.parcelDomains q)) == maskOf (d.parcelDomains q)

/-- Steps 1 and 3 of Table 13.1, which every opcode shares, and TARGET's range (step 7) where it names a parcel. -/
def Dev.admission (d : Dev) (c : Cmd) (sp : CmdSpec) : Option (Status × BitVec 32) :=
  if descBad c then some (.refused, detail .field)
  else match sp.badParam c with
    | some i => some (.refused, detail .field i)
    | none =>
      if !sp.buffer && c.dataLen != 0 then some (.refused, detail .field)
      else if c.issuer = Issuer.attach ∧ c.dataLen ≠ 0 then some (.refused, detail .field)
      else if !d.rightsOk c sp then some (.refused, detail .privilege)
      else if sp.names = Names.parcel ∧ 8 ≤ c.target then some (.refused, detail .range)
      else none

/-- The completion of a command. -/
def cplOf (c : Cmd) (st : Status) (r0 r1 : BitVec 64) (dt : BitVec 32) : Cpl :=
  { opcode := c.opcode, tag := c.tag, idx := c.idx, notify := c.notify, status := st, result0 := r0, result1 := r1, detail := dt }

/-- Serves a command whose effect is on the device and its memory: the checks of Table 13.1, then the handler. While the mirror state
keeps commands from being fetched, the command stays with the host (Table 12.7); a sleeping SURVEYOR is woken for it (R440). -/
def serveMach (sp : CmdSpec) (h : Cmd → Mach → Reply Mach) (c : Cmd) (m : Mach) : Mach :=
  if !m.dev.mayFetch sp.op then m
  else if !m.dev.domOn 1 then { m with dev := m.dev.wakeEvent 1 }
  else match m.dev.admission c sp with
    | some (st, dt) => { m with dev := m.dev.finish c.issuer (cplOf c st 0 0 dt) }
    | none => match h c m with
      | .refuse st dt => { m with dev := m.dev.finish c.issuer (cplOf c st 0 0 dt) }
      | .finish m' st r0 r1 dt => { m' with dev := m'.dev.finish c.issuer (cplOf c st r0 r1 dt) }
      | .hold m' w => { m' with dev := { m'.dev with host := { m'.dev.host with
          started := m'.dev.host.started ++ [{ issuer := c.issuer, idx := c.idx, desc := c.desc, wait := w }] } } }

/-- Serves a command whose effect is on the device alone. -/
def serveDev (sp : CmdSpec) (h : Cmd → Dev → Reply Dev) (c : Cmd) (d : Dev) : Dev :=
  if !d.mayFetch sp.op then d
  else if !d.domOn 1 then d.wakeEvent 1
  else match d.admission c sp with
    | some (st, dt) => d.finish c.issuer (cplOf c st 0 0 dt)
    | none => match h c d with
      | .refuse st dt => d.finish c.issuer (cplOf c st 0 0 dt)
      | .finish d' st r0 r1 dt => d'.finish c.issuer (cplOf c st r0 r1 dt)
      | .hold d' w => { d' with host := { d'.host with
          started := d'.host.started ++ [{ issuer := c.issuer, idx := c.idx, desc := c.desc, wait := w }] } }

/-- The outcome of a firmware command that acts on the device alone. -/
def cmdStep (sp : CmdSpec) (h : Cmd → Dev → Reply Dev) (c : Cmd) (s : State) : Host.Outcome State Fault Refusal :=
  .next { s with dev := serveDev sp h c s.dev }

/-- The outcome of a firmware command that also acts on memory. -/
def machStep (sp : CmdSpec) (h : Cmd → Mach → Reply Mach) (c : Cmd) (s : State) : Host.Outcome State Fault Refusal :=
  let m := serveMach sp h c { dev := s.dev, mem := s.mem }
  .next { s with dev := m.dev, mem := m.mem }

/-- Completes a started command whose wait is over. -/
def Dev.release (d : Dev) (w : Wait → Bool) (st : Status) (r0 r1 : BitVec 64) (dt : BitVec 32) : Dev :=
  let ended := d.host.started.filter (fun x => w x.wait)
  let d := { d with host := { d.host with started := d.host.started.filter (fun x => !w x.wait) } }
  d.forEach ended (fun x d =>
    let c : Cmd := { issuer := x.issuer, idx := x.idx, desc := x.desc }
    d.finish x.issuer { (cplOf c st r0 r1 dt) with orphan := x.orphan })

/-- The bytes a command's input buffer holds; `none` for a failed transfer, or where SGL and DATA_LEN are not those of the buffer (R378, Table 12.9). -/
def inputOf (c : Cmd) : Option (List Byte) := match c.buf with
  | .scattered l _ => if c.sgl && c.dataLen == 16 * l.length then c.buf.read else none
  | x => x.read

/-- DMA_ERROR (R378). -/
def dmaError {σ : Type} : Reply σ := .refuse .dmaError 0

/-- Writes bytes into the command's buffer. -/
def Dev.toBuffer (d : Dev) (c : Cmd) (b : List Byte) : Dev := d.emit (.buffer c.tag b)

/-- An entry of a report: address and value (R397). -/
def reportEntry (addr : Nat) (v : Word) : List Byte := leBytes 8 addr ++ leBytes 4 v.toNat ++ [0, 0, 0, 0]

/-- The header of a report (R397). -/
def reportHeader (op count tick : Nat) : List Byte :=
  leBytes 2 op ++ [0, 0] ++ leBytes 4 count ++ leBytes 6 tick ++ [0, 0]

/-- The address of firmware value `k` in a report (R397). -/
def fwValue (k : Nat) : Nat := 0xFF00000000 + k

/-- Answers a report command: RESULT0 as given, the entries that fit whole into the buffer, RESULT1 with the bytes written and
needed (R397). With DATA_LEN 0 only RESULT0 is returned. -/
def report (c : Cmd) (d : Dev) (r0 : BitVec 64) (entries : List (Nat × Word)) : Reply Dev :=
  if c.dataLen = 0 then done d r0 0
  else match inputOf c with
    | none => dmaError
    | some b =>
      let need := 16 + 16 * entries.length
      let fit := if b.length < 16 then 0 else min entries.length ((b.length - 16) / 16)
      let wrote := if b.length < 16 then 0 else 16 + 16 * fit
      let body := reportHeader c.opcode fit d.dat.tick ++ ((entries.take fit).flatMap (fun e => reportEntry e.1 e.2))
      let d := if wrote = 0 then d else d.toBuffer c body
      done d r0 (BitVec.ofNat 64 (wrote + 2 ^ 32 * need))

end Sys2Proof.Machine
end

