-- ==== Sys2Proof/Machine/Taps.lean ====
section
/-!
DEFINITION. Spike taps: what a fire adds to one, and how one ends (DIAG_TAP, Table 13.18, R405).
-/
namespace Sys2Proof.Machine

/-- What a spike tap makes of a fire. -/
def Tap.meet (t : Tap) (g n tick : Nat) : Tap :=
  if t.gallery = g ∧ t.lo ≤ n ∧ n ≤ t.hi then
    (if t.records.length < t.room then
      { t with records := t.records ++ [BitVec.ofNat 64 (n % 2 ^ 17 + g % 8 * 2 ^ 17 + tick % 2 ^ 24 * 2 ^ 20)] }
     else { t with missed := t.missed + 1 })
  else t

/-- Whether a tap ends: its buffer is full or its ticks have passed. -/
def Tap.over (t : Tap) : Bool := decide (t.room ≤ t.records.length) || t.left == 0

/-- A command that waits for a tap. -/
def Wait.isTap (t : Tap) : Wait → Bool
  | .tap i n => i == t.issuer && n == t.idx
  | _ => false

/-- A tap ends: its records go into the buffer and its command completes. -/
def Dev.endTap (d : Dev) (t : Tap) : Dev :=
  let d := d.emit (.buffer t.tag (t.records.flatMap (fun r => leBytes 8 r.toNat)))
  d.release (Wait.isTap t) .ok (BitVec.ofNat 64 t.records.length) (BitVec.ofNat 64 t.missed) 0

/-- Ends every tap that is over. -/
def Dev.endTaps (d : Dev) : Dev :=
  let ended := d.taps.filter Tap.over
  ({ d with taps := d.taps.filter (fun t => !t.over) }).forEach ended (fun t d => d.endTap t)

/-- The spike taps meet a fire. -/
def Dev.tapFire (d : Dev) (g : Fin 8) (n : Nat) : Dev :=
  if d.taps.isEmpty then d else ({ d with taps := d.taps.map (fun (t : Tap) => t.meet g.val n d.dat.tick) }).endTaps

/-- A tick passes for the spike taps. -/
def Dev.tapTick (d : Dev) : Dev :=
  if d.taps.isEmpty then d else ({ d with taps := d.taps.map (fun (t : Tap) => { t with left := t.left - 1 }) }).endTaps

end Sys2Proof.Machine
end

