-- ==== Sys2Proof/Machine/Engine.lean ====
section
/-!
DEFINITION. The event engine of a Gallery: arrival, take, fan-out, firing, emission, sweeps (02, 05, and the arrival parts of 04, 06 and
09 of spec/).
-/
namespace Sys2Proof.Machine

/-! ### Firing -/

/-- Share of a model's emission entries in use (R166). -/
def Gal.shareUsed (x : Gal) (m : Nat) : Nat := (x.emitQ.filter (fun e => e.model == m)).length

/-- Whether some neuron of a model holds a pending spike (R166). -/
def Gal.pendingOf (x : Gal) (m : Nat) : Bool := x.state.any (fun e => fget nsP e.2 = 1 ∧ fget nsModel e.2 = m)

/-- Whether the emission queue is full for a neuron of a model (R166). -/
def Dev.emissionFull (d : Dev) (g : Fin 8) (m : Nat) : Bool :=
  decide (d.rf (R.GAL_EMIT_SHARE g m) F.GAL_EMIT_SHARE_SHARE ≤ (d.gal g).shareUsed m) || (d.gal g).pendingOf m

/-- A word of a learning profile (Table 9.2). -/
def Dev.prof (d : Dev) (g : Fin 8) (m w : Nat) : Word :=
  d.reg (match w with
    | 0 => R.LRN_PROF_W0 g m
    | 1 => R.LRN_PROF_W1 g m
    | 2 => R.LRN_PROF_W2 g m
    | 3 => R.LRN_PROF_W3 g m
    | 4 => R.LRN_PROF_W4 g m
    | 5 => R.LRN_PROF_W5 g m
    | _ => R.LRN_PROF_W6 g m)

/-- LRN_CTL.EN of a Gallery in RUN (R272). -/
def Dev.learning (d : Dev) (g : Fin 8) : Bool := d.rf (R.LRN_CTL g) F.LRN_CTL_EN == 1 && (d.gal g).st == .run

/-- Changes the Leveler. -/
def Dev.updLrn (d : Dev) (g : Fin 8) (f : Leveler → Leveler) : Dev := d.updGal g (fun x => { x with lrn := f x.lrn })

/-- One step of the sampler register (R270). -/
def samplerStep (x : BitVec 32) : BitVec 32 := if bit x 0 then (x >>> 1) ^^^ 0x80200003#32 else x >>> 1

/-- Adds a pair to the candidate table of the epoch (R270). -/
def Dev.addCandidate (d : Dev) (g : Fin 8) (p : Nat × Nat) : Dev :=
  if (d.gal g).lrn.cands.contains p then d
  else if 64 ≤ (d.gal g).lrn.cands.length then d.bump (R.LRN_SKIP_CNT g) F.LRN_SKIP_CNT_CAND_LOST
  else d.updLrn g (fun l => { l with cands := l.cands ++ [p] })

/-- The co-activity sampler meets a fire of neuron `n`, model `m` (R270). -/
def Dev.sampleFire (d : Dev) (g : Fin 8) (n m : Nat) : Dev :=
  if !d.learning g ∨ !bit (d.prof g m 0) 3 ∨ (d.darkPort g n).isSome then d
  else
    let x := samplerStep (d.gal g).lrn.x
    let d := d.updLrn g (fun l => { l with x := x })
    if x.toNat % 2 ^ d.rf (R.LRN_CO_CFG g) F.LRN_CO_CFG_SSHIFT ≠ 0 then d
    else
      match (d.gal g).lrn.ring[(⟨x.toNat / 256 % 16, Nat.mod_lt _ (by decide)⟩ : Fin 16)] with
      | some (a, t) => if d.tick ≤ t + d.rf (R.LRN_CO_CFG g) F.LRN_CO_CFG_CO_WIN then d.addCandidate g (a, n) else d
      | none => d

/-- Graded payload of a spike: min(255, V ÷ 2^WSHIFT) (Table 5.4). -/
def gradedPayload (m : Model) (v : Nat) : Nat := min 255 (v / 2 ^ m.wshift)

/-- A neuron has fired: its spike goes to the emission queue, or to its P bit, or merges with the one there (R78 to R81). Answers the
state word to write. -/
def Dev.offerSpike (d : Dev) (g : Fin 8) (n : Nat) (mo : Model) (v : Int) (w : BitVec 64) : BitVec 64 × Dev :=
  let m := fget nsModel w
  let d := ((d.bump (R.GAL_FIRE_CNT g) F.GAL_FIRE_CNT_FIRE).sampleFire g n m).tapFire g n
  if fget nsP w = 1 then (w, d.bump (R.GAL_MERGE_CNT g) F.GAL_MERGE_CNT_MERGE)
  else if d.emissionFull g m then (fput nsP w 1, d.bump (R.GAL_PSET_CNT g) F.GAL_PSET_CNT_PSET)
  else
    let d := d.updGal g (fun x => { x with emitQ := x.emitQ ++ [{ neuron := n, model := m, payload := gradedPayload mo v.toNat }] })
    (w, d.raiseTo (R.GAL_HIWATER g) F.GAL_HIWATER_EMIT (d.gal g).emitQ.length)

/-- Integrates an input into an updated word, counts its saturation, and offers its spike (R77, R78). -/
def Dev.integrateAt (d : Dev) (g : Fin 8) (n : Nat) (mo : Model) (x : Int) (w : BitVec 64) : BitVec 64 × Dev :=
  let r := integrate mo x w
  let d := if r.sat then d.bump (R.GAL_SAT_CNT g) F.GAL_SAT_CNT_V else d
  match r.fired with
  | some v => d.offerSpike g n mo v r.word
  | none => (r.word, d)

/-- The current slot of a neuron is integrated, zeroed and its occupancy bit cleared; a dead neuron's slot contributes nothing (R67,
R76, R507). -/
def Dev.takeSlot (d : Dev) (g : Fin 8) (n : Nat) (mo : Model) (w : BitVec 64) : BitVec 64 × Dev :=
  let k := d.tick % 16
  let d := d.touchMap g (mapIndex k n)
  if (d.gal g).occupied k n then
    let d := d.touchRing g k n
    let v := (d.gal g).slot k n
    let d := d.updGal g (fun x => x.putSlot k n 0 false)
    if d.isDead g n then (w, d) else d.integrateAt g n mo v w
  else (w, d)

/-- Opens an access that may change a state word: the read and the lazy update (R71); `none` ends the operation (R84). -/
def Dev.openState (d : Dev) (g : Fin 8) (n : Nat) : Option (BitVec 64 × Model) × Dev :=
  match d.readState g n with
  | (none, d) => (none, d)
  | (some w, d) =>
    let mo := d.model g (fget nsModel w)
    (some (lazyUpdate mo d.tick (fput nsW w 1), mo), d)

/-- Direct input to a neuron (R76). -/
def Dev.directInput (d : Dev) (g : Fin 8) (n : Nat) (mo : Model) (w : BitVec 64) (x : Int) : Dev :=
  let (w, d) := d.takeSlot g n mo w
  let (w, d) := d.integrateAt g n mo x w
  d.putState g n w

/-- Input for a future slot (R67). -/
def Dev.slotInput (d : Dev) (g : Fin 8) (n k : Nat) (x : Int) : Dev :=
  let d := (d.touchMap g (mapIndex k n)).touchRing g k n
  let a := (d.gal g).slot k n
  let v := slotAdd a x
  let d := if v ≠ a + x then d.bump (R.GAL_SAT_CNT g) F.GAL_SAT_CNT_RING else d
  d.updGal g (fun y => y.putSlot k n v true)

/-! ### Plastic lists -/

/-- Index of the companion word of synapse `i` of a list (R262). -/
def compIndex (e : BitVec 64) (i : Nat) : Nat := fget axBase e + fget axCount e + fget axHead e + i / 2

/-- Shadow byte of a synapse in its companion word (Table 9.1). -/
def shadowFld (i : Nat) : Fld := ⟨i % 2 * 16, 8⟩
/-- Base or age byte of a synapse in its companion word. -/
def ageFld (i : Nat) : Fld := ⟨i % 2 * 16 + 8, 8⟩

/-- Whether an axon's list is plastic: its first word has PLASTIC = 1 (R262). -/
def Gal.plasticList (x : Gal) (e : BitVec 64) : Bool :=
  fget axW e = 1 && fget axCold e = 0 && fget axCount e + fget axHead e != 0 && fget syPlastic (x.synWord (fget axBase e)) = 1

/-- Reads a companion word; of an uncorrectable one, both synapses are rewritten with LIVE = 0 and WEIGHT = 0 (R286). -/
def Dev.readComp (d : Dev) (g : Fin 8) (e : BitVec 64) (i : Nat) : Option Word × Dev :=
  let c := compIndex e i
  match (d.gal g).badAt .syn c with
  | some { ue := true, .. } =>
    let s0 := fget axBase e + i / 2 * 2
    let kill (x : Gal) (j : Nat) : Gal := x.putSyn j (fput syWeight (fput syLive (x.synWord j) 0) 0)
    let d := d.updGal g (fun x =>
      let x := kill (x.putSyn c 0) s0
      if i / 2 * 2 + 1 < fget axCount e + fget axHead e then kill x (s0 + 1) else x)
    let d := d.bump (R.LRN_ECC_CNT g) F.LRN_ECC_CNT_UE
    let d := d.setReg (R.GAL_UE_ADDR g) (BitVec.ofNat 32 (2 ^ 31 + s0 % 2 ^ 24))
    let d := d.raiseFrom (stGal g) (Flt.galUeSyn g (d.galParcel g) s0 (c % 8))
    let win := hours (d.rf (R.GAL_FLT_CFG g) F.GAL_FLT_CFG_BANK_WIN)
    let d := d.updGal g (fun x => { x with bankUe := recent x.bankUe (c % 8) d.clk win })
    let n := countKey (d.gal g).bankUe (c % 8)
    (none, if d.rf (R.GAL_FLT_CFG g) F.GAL_FLT_CFG_BANK_UE_MAX ≤ n then
        ((d.retireMap 1 g.val (c % 8)).raiseFrom (stGal g) (Flt.bankRetired g (d.galParcel g) (c % 8) n)).enterFaulted g 1
      else d)
  | b =>
    let d := if b.isSome then (d.updGal g (fun x => x.clean .syn c)).bump (R.LRN_ECC_CNT g) F.LRN_ECC_CNT_CE else d
    (some ((d.gal g).synWord c), d)

/-- Whether delay learning counts for a synapse word: DPLASTIC is ignored without LRN-STRUCT, and never stands in a dark list (R64,
R125). -/
def Dev.delayPlastic (d : Dev) (e : BitVec 64) (w : Word) : Bool :=
  fget syDplastic w = 1 && d.licensed 0 && fget axDark e = 0

/-- A shadow byte after an arrival that meets trace `T` (R267): the accumulation loses, and the delay vote moves. -/
def shadowArrival (dplastic : Bool) (loss trace dvLo dvHi : Nat) (b : Nat) : Nat :=
  if dplastic then
    let acc := clamp (-8) 7 (sext 4 b - loss)
    let v := sext 4 (b / 16) - (if dvHi ≤ trace then 1 else 0)
    let v := clamp (-8) 7 (v + (if trace < dvLo then 1 else 0))
    toTwos 4 acc + 16 * toTwos 4 v
  else toTwos 8 (clamp (-128) 127 (sext 8 b - loss))

/-- A plastic contribution's shadow write (R267, R268). -/
def Dev.shadowWrite (d : Dev) (g : Fin 8) (e : BitVec 64) (i : Nat) (w : Word) (m trace : Nat) : Dev :=
  match d.readComp g e i with
  | (none, d) => d
  | (some c, d) =>
    let loss := bits (d.prof g m 0) 23 16 * trace / 1024
    let b := shadowArrival (d.delayPlastic e w) loss trace (bits (d.prof g m 4) 9 0) (bits (d.prof g m 4) 25 16) (fget (shadowFld i) c)
    d.updGal g (fun x => x.putSyn (compIndex e i) (fput (shadowFld i) c b))

/-- An arrival on a plastic list: PRE_TRACE rises and the sampler's ring takes the event (R267, R270). -/
def Dev.plasticArrival (d : Dev) (g : Fin 8) (a : Nat) (e : BitVec 64) (origin : Nat) : Dev :=
  let d := d.putAxon g a (fput axPre e (min 255 (fget axPre e + d.rf (R.LRN_PRE_CFG g) F.LRN_PRE_CFG_PRE_INC)))
  if fget axDark e = 0 ∧ 0 < fget axHead e then
    d.updLrn g (fun l => { l with ring := l.ring.set (l.ringPos % 16) (some (a, origin)) (Nat.mod_lt _ (by decide)), ringPos := (l.ringPos + 1) % 16 })
  else d

/-! ### Fan-out -/

/-- A fan-out: the event, its due tick, its axon entry, whether learning accumulates. -/
structure Fan where
  ev : BitVec 64
  due : Nat
  entry : BitVec 64
  learn : Bool
deriving DecidableEq, Repr

/-- Whether an engine still runs its fan-outs. -/
def Gal.fans (x : Gal) : Bool := x.st == .run || x.st == .stopping

/-- Counts a synaptic update in the 64-bit counter (Table 5.10). -/
def Dev.countSyn (d : Dev) (g : Fin 8) : Dev :=
  let v := d.rf (R.GAL_SYN_CNT_LO g) F.GAL_SYN_CNT_LO_SYN + 2 ^ 32 * d.rf (R.GAL_SYN_CNT_HI g) F.GAL_SYN_CNT_HI_SYN
  let v := satAdd 64 v 1
  (d.setReg (R.GAL_SYN_CNT_LO g) (BitVec.ofNat 32 v)).setReg (R.GAL_SYN_CNT_HI g) (BitVec.ofNat 32 (v / 2 ^ 32))

/-- The payload of a graded spike. -/
def gradedOf (e : BitVec 64) : Option Nat := if fget evKind e = 1 then some (fget evPayload e) else none

/-- One contribution of synapse word `w`, the `i`-th of its list (R70, R76, R131, R161, R267, R540). A slot that is or has been the
current one takes no more input: the contribution is direct (DEDUCED, R76, R171, log entry 17). -/
def Dev.contribute (d : Dev) (g : Fin 8) (f : Fan) (i : Nat) (w : Word) : Dev :=
  let n := fget syTarget w
  if d.fenced g (d.darkPort g n) then d.bump (R.GAL_DARK_CNT g) F.GAL_DARK_CNT_FENCE
  else
    let weight := sext 8 (fget syWeight w)
    let slotTick := f.due + fget syDdly w
    let plastic : Bool := f.learn && fget syPlastic w = 1
    if fget syDdly w = 0 ∨ slotTick ≤ d.tick ∨ plastic = true then
      match d.openState g n with
      | (none, d) => d
      | (some (sw, mo), d) =>
        let x := contribution mo.wshift weight (gradedOf f.ev)
        let trace := fget nsTrace sw
        let m := fget nsModel sw
        let d := if fget syDdly w = 0 ∨ slotTick ≤ d.tick then d.directInput g n mo sw x
          else (d.putState g n sw).slotInput g n (slotTick % 16) x
        let d := d.countSyn g
        if plastic then d.shadowWrite g f.entry i w m trace else d
    else
      match d.readState g n with
      | (none, d) => d
      | (some sw, d) =>
        let mo := d.model g (fget nsModel sw)
        (d.slotInput g n (slotTick % 16) (contribution mo.wshift weight (gradedOf f.ev))).countSyn g

/-- The `i`-th word of a hot list (R161 step 5). -/
def Dev.fanWord (d : Dev) (g : Fin 8) (f : Fan) (i : Nat) : Dev :=
  if !(d.gal g).fans then d
  else match d.readSyn g (fget axBase f.entry + i) with
    | (none, d) => d
    | (some w, d) => if fget syLive w = 1 then d.contribute g f i w else d

/-- A hot list fans out in index order (R161). -/
def Dev.fanOut (d : Dev) (g : Fin 8) (f : Fan) : Dev :=
  d.forEach (List.range (fget axCount f.entry)) (fun i d => d.fanWord g f i)

/-- SPILL_BASE in bytes (R163). -/
def Dev.spillBase (d : Dev) (g : Fin 8) : Nat :=
  (d.reg (R.GAL_SPILL_BASE_LO g)).toNat / 64 * 64 + d.rf (R.GAL_SPILL_BASE_HI g) F.GAL_SPILL_BASE_HI_BASE * 2 ^ 32

/-- Sends the requests of the fetches that wait for room in the stack pool, oldest first. -/
def Dev.askCold (d : Dev) (g : Fin 8) : Dev :=
  d.forEach (List.range 64) (fun i d => match (d.gal g).cold[i]? with
    | some c => if !c.asked && d.reqRoom g then d.updGal g (fun x => { x with cold := x.cold.set i { c with asked := true } }) else d
    | none => d)

/-- A fetch slot falls free; the requests of its column that wait for the pool go out, row 0 first. -/
def Dev.freeCold (d : Dev) (g : Fin 8) (slot : Nat) : Dev :=
  let d := d.updGal g (fun x => { x with cold := x.cold.eraseIdx slot })
  (d.askCold (fin8 (g.val / 2 * 2))).askCold (fin8 (g.val / 2 * 2 + 1))

/-- A cold list takes a fetch slot, or the event is dropped (R163, R164); its request waits in the slot for room in the parcel's stack pool
(R185, R198). A list of several units holds one slot and fetches them one after the other (DESIGN CHOICE, log entry 57). The fan-out of an
event whose fetch is started has begun (R171; 05_galleries.md: Corners). -/
def Dev.startCold (d : Dev) (g : Fin 8) (ev e : BitVec 64) : Dev :=
  if 64 ≤ (d.gal g).cold.length then d.bump (R.GAL_COLD_DROP_CNT g) F.GAL_COLD_DROP_CNT_COLD
  else
    let c : ColdFetch := { ev := ev, addr := d.spillBase g + fget axBase e * 64, left := fget axCount e, asked := d.reqRoom g }
    (d.updGal g (fun x => { x with cold := x.cold ++ [c] })).bump (R.GAL_COLD_FETCH_CNT g) F.GAL_COLD_FETCH_CNT_FETCH

/-- The control decoder (R58). -/
def Dev.control (d : Dev) (g : Fin 8) (e : BitVec 64) : Dev :=
  let code := fget evPayload e / 16
  if d.galSlice g ≠ some (fget evSlice e) ∨ 2 ≤ code then d.bump (R.GAL_BADEVT_CNT g) F.GAL_BADEVT_CNT_CTRL
  else if code = 1 then
    let acc := clamp (-32768) 32767 (sext 16 (d.rf (R.LRN_REWARD g) F.LRN_REWARD_ACC) + sext 4 (fget evPayload e))
    d.setRf (R.LRN_REWARD g) F.LRN_REWARD_ACC (toTwos 16 acc)
  else d

/-- The count window of the Gallery's plane takes a spike (R222). -/
def Dev.countWindow (d : Dev) (g : Fin 8) (a : Nat) : Dev :=
  let lo := d.rf (R.DNS_CNT_WIN g) F.DNS_CNT_WIN_CNT_LO
  let n := d.rf (R.DNS_CNT_CFG g) F.DNS_CNT_CFG_ROWS * d.rf (R.DNS_CNT_CFG g) F.DNS_CNT_CFG_KT * 16
  if d.rf (R.DNS_CNT_WIN g) F.DNS_CNT_WIN_EN = 1 ∧ lo ≤ a ∧ a < lo + n then
    let c := SMap.get 0 (d.plane g).counts (a - lo)
    if 15 ≤ c then d.bump (R.DNS_CNTSAT g) F.DNS_CNTSAT_CNTSAT
    else d.updPlane g (fun p => { p with counts := SMap.set 0 p.counts (a - lo) (c + 1) })
  else d

/-- A spike or graded spike at its axon entry (R161 steps 4 and 5, R62, R131, R222, R267). -/
def Dev.lookup (d : Dev) (g : Fin 8) (ev : BitVec 64) : Dev :=
  let a := fget evAxon ev
  match d.readAxon g a with
  | (none, d) => d
  | (some e, d) =>
    if fget axSlice e ≠ fget evSlice ev then d.bump (R.GAL_BADEVT_CNT g) F.GAL_BADEVT_CNT_EVT
    else if d.fenced g (d.axonPort g a e) then d.bump (R.GAL_DARK_CNT g) F.GAL_DARK_CNT_FENCE
    else
      let d := d.countWindow g a
      if fget axW e = 0 ∨ (fget axCount e = 0 ∧ !(d.gal g).plasticList e) then d
      else if fget axCold e = 1 then d.startCold g ev e
      else
        let learn : Bool := d.learning g && (d.gal g).plasticList e
        let d := if learn then d.plasticArrival g a e (originTick d.tick ev) else d
        d.fanOut g { ev := ev, due := dueTick d.tick ev, entry := e, learn := learn }

/-- Counts a late event of a sub-queue: 0 RAIL, 1 MESH, 2 REL, 3 LOOP (R172). -/
def Dev.countLate (d : Dev) (g : Fin 8) (q : Nat) (n : Nat := 1) : Dev :=
  d.bump (R.GAL_LATE_CNT g) (match q with
    | 0 => F.GAL_LATE_CNT_RAIL
    | 1 => F.GAL_LATE_CNT_MESH
    | 2 => F.GAL_LATE_CNT_REL
    | _ => F.GAL_LATE_CNT_LOOP) n

/-- An ingress sub-queue (Table 5.3). -/
def Gal.sub (x : Gal) (q : Nat) : List (BitVec 64) := match q with
  | 0 => x.rail
  | 1 => x.mesh
  | 2 => x.rel
  | _ => x.loop

/-- Replaces an ingress sub-queue. -/
def Gal.setSub (x : Gal) (q : Nat) (l : List (BitVec 64)) : Gal := match q with
  | 0 => { x with rail := l }
  | 1 => { x with mesh := l }
  | 2 => { x with rel := l }
  | _ => { x with loop := l }

/-- Entries of an ingress sub-queue (Table 5.3). -/
def subSize (q : Nat) : Nat := match q with
  | 0 => 1024
  | 1 => 2048
  | _ => 512

/-- The sub-queue the engine serves next (R160). -/
def Gal.nextSub (x : Gal) : Option Nat :=
  ([x.turn % 4, (x.turn + 1) % 4, (x.turn + 2) % 4, (x.turn + 3) % 4]).find? (fun q => !(x.sub q).isEmpty)

/-- Whether a Gallery's engine takes events: in RUN, its domain on, no resume sweep due (R154, R177). -/
def Dev.engineOn (d : Dev) (g : Fin 8) : Bool := (d.gal g).st == .run && d.domOn (4 + g.val) && (d.gal g).resume.isNone

/-- Treats an event that the engine has taken (R161). -/
def Dev.treat (d : Dev) (g : Fin 8) (q : Nat) (ev : BitVec 64) : Dev :=
  if d.late g ev then d.countLate g q
  else if fget evKind ev = 2 then d.control g ev
  else if fget evKind ev = 3 then d.updGal g (fun x => { x with cmp := { x.cmp with refs := x.cmp.refs ++ [ev] } })
  else d.lookup g ev

/-- EVENT_TAKE (R160, R161): words may have come to hold errors. -/
def eventTake (g : Fin 8) (errs : List EccErr) (d : Dev) : Dev :=
  let d := d.corrupt g errs
  if !d.engineOn g then d
  else match (d.gal g).nextSub with
    | none => d
    | some q => match (d.gal g).sub q with
      | [] => d
      | ev :: t =>
        let d := d.updGal g (fun x => { x.setSub q t with turn := (q + 1) % 4 })
        (d.bump (R.GAL_EVT_CNT g) F.GAL_EVT_CNT_EVT).treat g q ev

/-- EVENT_TAKE. -/
def execEventTake (g : Fin 8) (errs : List EccErr) (s : State) : Host.Outcome State Fault Refusal := devStep s (eventTake g errs)

/-! ### Arrival -/

/-- High-water marks of the ingress and delay queues (Table 5.9). -/
def Dev.markWater (d : Dev) (g : Fin 8) : Dev :=
  let d := d.raiseTo (R.GAL_HIWATER g) F.GAL_HIWATER_INGRESS (((d.gal g).ingress + 15) / 16)
  d.raiseTo (R.GAL_HIWATER g) F.GAL_HIWATER_DLYQ (((d.gal g).delayQ.length + 63) / 64)

/-- Whether an event is malformed: its ADLY lies between 1 and 15 (R55). -/
def malformed (ev : BitVec 64) : Bool := decide (0 < fget evAdly ev ∧ fget evAdly ev < 16)

/-- The mesh node's checks of an event, and its entry into a sub-queue or the router delay queue (R158, R159, R127). Only a spike or a
graded spike addresses an axon (Table 2.2); a tally reference must have ADLY 0 (R250). -/
def Dev.accept (d : Dev) (g : Fin 8) (q : Nat) (ev : BitVec 64) : Dev :=
  let adly := fget evAdly ev
  if fget evKind ev = 3 ∧ adly ≠ 0 then d.bump (R.CMP_REF_ERR g) F.CMP_REF_ERR_REF
  else if malformed ev then d.bump (R.GAL_BADEVT_CNT g) F.GAL_BADEVT_CNT_EVT
  else if fget evHops ev = 31 then d.bump (R.GAL_DROP_CNT g) F.GAL_DROP_CNT_HOPS
  else if 16 ≤ adly ∧ fget evKind ev < 2 ∧ fget axDark (SMap.get 0 (d.gal g).axons (fget evAxon ev)) = 1 then d.bump (R.GAL_DARK_CNT g) F.GAL_DARK_CNT_VIOL
  else if (d.gal g).st ≠ .run ∨ (d.gal g).sink = true then d.bump (R.GAL_NOTRUN_CNT g) F.GAL_NOTRUN_CNT_NOTRUN
  else if 16 ≤ adly then
    if 16384 ≤ (d.gal g).delayQ.length then d.bump (R.GAL_DLYQ_DROP_CNT g) F.GAL_DLYQ_DROP_CNT_DLYQ
    else (d.updGal g (fun x => { x with delayQ := x.delayQ ++ [(dueTick d.tick ev, ev)] })).markWater g
  else (d.updGal g (fun x => x.setSub q (x.sub q ++ [ev]))).markWater g

/-- Whether a sub-queue can take an event now: a credit for SA traffic; a delay queue always accepts or drops (R157, R203). A Gallery
outside RUN discards at once, so its credits never run out. -/
def Dev.hasRoom (d : Dev) (g : Fin 8) (q : Nat) (ev : BitVec 64) : Bool :=
  (d.gal g).st != .run || decide (16 ≤ fget evAdly ev) || decide (((d.gal g).sub q).length < subSize q)

/-- Whether a Gallery sleeps, or is on its way: an event wakes it (Table 5.2). -/
def Dev.asleep (d : Dev) (g : Fin 8) : Bool :=
  (d.domSt (4 + g.val) == .retained || d.domSt (4 + g.val) == .entering || d.domSt (4 + g.val) == .waking) && !d.domOn (4 + g.val)

/-- Whether an event for a Gallery waits in a wake slot: while the Gallery sleeps, and until its resume sweep is done, so that no event
overtakes those that wait (R177; that order is a DESIGN CHOICE, log entry 57). -/
def Dev.holdsEvents (d : Dev) (g : Fin 8) : Bool := d.asleep g || (d.gal g).resume.isSome

/-- An event at the mesh node: into its queue; for a Gallery that sleeps or has not resumed into a wake slot, of which there are four
(06_passage_mesh.md: Corners, R177). `none` where it must wait in its lane. -/
def Dev.deliver (d : Dev) (g : Fin 8) (q : Nat) (ev : BitVec 64) : Option Dev :=
  if d.holdsEvents g then
    (if (d.gal g).wakeSlots.length < 4 then
      some ((d.updGal g (fun x => { x with wakeSlots := x.wakeSlots ++ [(q, ev)] })).wakeEvent (4 + g.val))
     else none)
  else if d.hasRoom g q ev then some ((d.accept g q ev).wakeEvent (4 + g.val))
  else none

/-- Counts an isolation drop against a Gallery's parcel (R183). -/
def Dev.isolDrop (d : Dev) (q : Option (Fin 8)) : Dev := match q with
  | some q => d.bump (R.PCL_CNT q) F.PCL_CNT_ISOL
  | none => d

/-- A VN-S flit at the node of its Gallery (R183). -/
def Dev.arriveFlit (d : Dev) (g : Fin 8) (parcel : Nat) (ev : BitVec 64) : Option Dev :=
  if parcel ≠ d.flitParcel g.val ∨ parcel = 7 then
    some ((d.bump (R.MSH_NODE_DROP g) F.MSH_NODE_DROP_PARCEL).isolDrop (d.parcelAt g.val))
  else d.deliver g 1 ev

/-- A flit that fails parity at a node (R180). -/
def Dev.parityDrop (d : Dev) (g : Fin 8) : Dev :=
  let d := d.bump (R.MSH_NODE_ERR g) F.MSH_NODE_ERR_PAR
  d.raiseFrom (stNode g) (Flt.mesh g (d.rf (R.MSH_NODE_ERR g) F.MSH_NODE_ERR_PAR))

/-- Removes the first event of a hub's inbound buffer that is bound for a Gallery. -/
def takeInbound (g : Nat) : List (Nat × BitVec 64) → Option (BitVec 64 × List (Nat × BitVec 64))
  | [] => none
  | (q, e) :: t =>
    if fget evGallery e = g then some (e, t)
    else (takeInbound g t).map (fun r => (r.1, (q, e) :: r.2))

/-- The port of a Gallery's column. -/
def columnPort (g : Fin 8) (p : Fin 4) : Fin 16 := ⟨g.val / 2 * 4 + p.val, by omega⟩

/-- The column of a Gallery. -/
def columnOf (g : Fin 8) : Fin 4 := ⟨g.val / 2, by omega⟩

/-- Changes an intake port. -/
def Dev.updPort (d : Dev) (p : Fin 16) (f : Port → Port) : Dev := { d with ports := d.ports.set p (f d.ports[p]) }

/-- Changes a hub's trunk buffers. -/
def Dev.updHub (d : Dev) (c : Fin 4) (f : Hub → Hub) : Dev := { d with hubs := d.hubs.set c (f d.hubs[c]) }

/-- An event released from the router delay queue: ADLY 0, restamped (R54). -/
def restamp (t : Nat) (ev : BitVec 64) : BitVec 64 := fput evStamp (fput evAdly ev 0) (t % 256)

/-- Releases due events into REL in arrival order while it has credits (R159). Events left of an older released bucket, which GRACE keeps
from being late, and those of the new tick's go in one order of arrival (DESIGN CHOICE, log entry 57). -/
def releaseDue (t grace : Nat) : List (Nat × BitVec 64) → List (BitVec 64) → List (Nat × BitVec 64) × List (BitVec 64)
  | [], rel => ([], rel)
  | (due, ev) :: l, rel =>
    if due ≤ t ∧ t ≤ due + grace ∧ rel.length < 512 then releaseDue t grace l (rel ++ [restamp t ev])
    else
      let r := releaseDue t grace l rel
      ((due, ev) :: r.1, r.2)

/-- DELAY_RELEASE (R159): released events do not meet the mesh. -/
def delayRelease (g : Fin 8) (d : Dev) : Dev :=
  if (d.gal g).st ≠ .run ∨ !d.domOn (4 + g.val) then d
  else
    let r := releaseDue d.tick (d.grace g) (d.gal g).delayQ (d.gal g).rel
    (d.updGal g (fun x => { x with delayQ := r.1, rel := r.2 })).markWater g

/-- DELAY_RELEASE. -/
def execDelayRelease (g : Fin 8) (s : State) : Host.Outcome State Fault Refusal := devStep s (delayRelease g)

/-! ### Emission -/

/-- An emission descriptor as one word (Table 5.4). -/
def Dev.edesc (d : Dev) (g : Fin 8) (i : Nat) : BitVec 128 :=
  d.reg (R.GAL_EDESC g (4 * i + 3)) ++ d.reg (R.GAL_EDESC g (4 * i + 2)) ++ d.reg (R.GAL_EDESC g (4 * i + 1)) ++ d.reg (R.GAL_EDESC g (4 * i))

/-- The valid descriptors that cover a neuron, in index order (R168). -/
def Dev.descsFor (d : Dev) (g : Fin 8) (n : Nat) : List (BitVec 128) :=
  ((List.range 256).map (d.edesc g)).filter (fun w => bit w 77 && bits w 16 0 ≤ n && n ≤ bits w 33 17)

/-- The event a descriptor forms from an emission entry (R169). -/
def descEvent (w : BitVec 128) (t : Nat) (e : EmEntry) : BitVec 64 :=
  mkEvent (bits w 69 64) (bits w 72 70) (bits w 51 34 + (e.neuron - bits w 16 0)) (bits w 61 52) t (bits w 76 73) (b2n (bit w 78))
    (if bit w 78 then e.payload else 0)

/-- Size of a parcel's outbound or inbound trunk pool in a column (R190, R198): all of it for a parcel alone there. -/
def Dev.trunkPool (d : Dev) (q : Fin 8) (c : Nat) : Nat :=
  if d.aloneIn q c then 256
  else d.rf (R.PCL_POOL q) F.PCL_POOL_TRUNK

/-- Room in the outbound trunk pool of a Gallery's parcel. -/
def Dev.outRoom (d : Dev) (g : Fin 8) : Bool := match d.parcelAt g.val with
  | some q => ((d.hubs[columnOf g].out.filter (fun e => e.1 == q.val)).length < d.trunkPool q (columnOf g).val)
  | none => false

/-- Whether an event can leave a Gallery's emission port now (R157, R169, R190, R203): one for another Gallery needs room in its own node,
and waits for what follows in the lanes. One with another slice, or malformed, is dropped there. -/
def Dev.canSend (d : Dev) (g : Fin 8) (ev : BitVec 64) : Bool :=
  if some (fget evSlice ev) ≠ d.galSlice g ∨ malformed ev = true then true
  else if evChip ev ≠ d.selfChip then d.outRoom g
  else if fget evGallery ev = g.val then d.hasRoom g 3 ev
  else (d.gal g).laneRoom 3 (.event ev)

/-- Marks that a parcel found a pool full (PCL_CNT.POOLFULL counts ticks). -/
def Dev.markPool (d : Dev) (g : Fin 8) : Dev := match d.parcelAt g.val with
  | some q => if d.outRoom g then d else d.updPcl q (fun p => { p with poolFull := true })
  | none => d

/-- Sends an event from a Gallery's emission port: to LOOP, into the own mesh node, or down the TRO lane (R169, R181, R189). -/
def Dev.sendEvent (d : Dev) (g : Fin 8) (ev : BitVec 64) : Dev :=
  if some (fget evSlice ev) ≠ d.galSlice g then d.bump (R.GAL_DROP_CNT g) F.GAL_DROP_CNT_SLICE
  else if malformed ev then d.bump (R.GAL_BADEVT_CNT g) F.GAL_BADEVT_CNT_EVT
  else if evChip ev ≠ d.selfChip then
    let d := d.bump (R.MSH_NODE_FWD g) F.MSH_NODE_FWD_FWD
    let d := d.updHub (columnOf g) (fun h => { h with out := h.out ++ [(d.flitParcel g.val, g.val, addHops ev 2)] })
    d.markPool g
  else if fget evGallery ev = g.val then d.accept g 3 ev
  else d.pushNode g 3 { parcel := d.flitParcel g.val, dst := fget evGallery ev, body := .event ev }

/-- Sends events one after the other, each taking its credit; `none` where one finds none. -/
def Dev.sendAll (d : Dev) (g : Fin 8) : List (BitVec 64) → Option Dev
  | [] => some d
  | ev :: t => if d.canSend g ev then (d.sendEvent g ev).sendAll g t else none

/-- Sends the head emission entry if all its events can go (R168, R169). -/
def Dev.sendEntry (d : Dev) (g : Fin 8) : Option Dev :=
  match (d.gal g).emitQ with
  | [] => none
  | e :: t =>
    (d.updGal g (fun x => { x with emitQ := t, emitToggle := true })).sendAll g ((d.descsFor g e.neuron).map (fun w => descEvent w d.tick e))

/-- Sends one event that waits beside the emission queue: of the plane, or of the Compass unit (R224, R253), stamped with the tick in
which it leaves. -/
def Dev.sendOther (d : Dev) (g : Fin 8) : Option Dev :=
  match (d.plane g).outEvents, (d.gal g).cmp.fwd with
  | ev :: t, _ =>
    let ev := fput evStamp ev (d.tick % 256)
    if d.canSend g ev then
      some (((d.updPlane g (fun p => { p with outEvents := t })).updGal g (fun x => { x with emitToggle := false })).sendEvent g ev)
    else none
  | [], ev :: t =>
    let ev := fput evStamp ev (d.tick % 256)
    if d.canSend g ev then
      some ((d.updGal g (fun x => { x with emitToggle := false, cmp := { x.cmp with fwd := t } })).sendEvent g ev)
    else none
  | [], [] => none

/-- EMISSION_SEND: the emission port serves the queue and the events beside it one for one (R168, R169, R224). -/
def emissionSend (g : Fin 8) (d : Dev) : Dev :=
  if (d.gal g).fans ∧ d.domOn (4 + g.val) then
    (if (d.gal g).emitToggle then (d.sendOther g).getD ((d.sendEntry g).getD d) else (d.sendEntry g).getD ((d.sendOther g).getD d))
  else d

/-- EMISSION_SEND. -/
def execEmissionSend (g : Fin 8) (s : State) : Host.Outcome State Fault Refusal := devStep s (emissionSend g)

/-- The neuron the scanner serves next: the first of the model with P = 1 above the last one served, wrapping (R167). -/
def Gal.nextPending (x : Gal) (m last : Nat) : Option Nat :=
  let l := (x.state.filter (fun e => fget nsP e.2 = 1 ∧ fget nsModel e.2 = m)).map (·.1)
  match l.find? (fun n => last < n) with
  | some n => some n
  | none => l.head?

/-- PENDING_EMIT: a free entry of a model's share goes to the next pending neuron (R80, R167). Its payload is the effective threshold
(Table 5.4). -/
def pendingEmit (g : Fin 8) (m : Fin 16) (d : Dev) : Dev :=
  if !(d.gal g).fans ∨ !d.domOn (4 + g.val) then d
  else if d.rf (R.GAL_EMIT_SHARE g m) F.GAL_EMIT_SHARE_SHARE ≤ (d.gal g).shareUsed m then d
  else match (d.gal g).nextPending m (d.gal g).scanPos[m] with
    | none => d
    | some n =>
      let d := d.updGal g (fun x => { x with scanPos := x.scanPos.set m n })
      match d.openState g n with
      | (none, d) => d
      | (some (w, mo), d) =>
        if fget nsP w = 0 then d
        else
          let d := d.putState g n (fput nsP w 0)
          let d := d.updGal g (fun x => { x with emitQ := x.emitQ ++ [{ neuron := n, model := m.val, payload := gradedPayload mo (threshold mo w) }] })
          d.raiseTo (R.GAL_HIWATER g) F.GAL_HIWATER_EMIT (d.gal g).emitQ.length

/-- PENDING_EMIT. -/
def execPendingEmit (g : Fin 8) (m : Fin 16) (s : State) : Host.Outcome State Fault Refusal := devStep s (pendingEmit g m)

/-! ### Sweeps, stop, configuration reset, faults -/

/-- The Galleries that settle: LOADED, RUN or STOPPING, with their domain on (Table 5.2) and no resume sweep due. -/
def Dev.settles (d : Dev) (g : Fin 8) : Bool :=
  ((d.gal g).st == .loaded || (d.gal g).st == .run || (d.gal g).st == .stopping) && d.domOn (4 + g.val) && (d.gal g).resume.isNone

/-- Puts a number into its place in a rising list, once. -/
def insertNat (n : Nat) : List Nat → List Nat
  | [] => [n]
  | m :: t => if n < m then n :: m :: t else if n = m then m :: t else m :: insertNat n t

/-- The neurons whose word a sweep can find other than unwritten and without an error, in order. -/
def Gal.sweptNeurons (x : Gal) : List Nat :=
  ((x.bad.filter (fun e => e.kind == .state)).map (·.idx)).foldl (fun l n => insertNat n l) (x.state.map (·.1))

/-- The settling sweep's visit of one neuron: its word is read (R83, R84), then the lazy update, and nothing else (R73). -/
def Dev.settleOne (d : Dev) (g : Fin 8) (t0 n : Nat) : Dev :=
  if (d.gal g).st = .faulted then d
  else match d.stateEcc g n with
    | (false, d) => d
    | (true, d) =>
      let w := SMap.get 0 (d.gal g).state n
      if fget nsW w = 0 ∨ (fget nsLast w).testBit 7 = t0.testBit 7 then d
      else match d.openState g n with
        | (none, d) => d
        | (some (w, _), d) => (d.putState g n w).updGal g (fun x => { x with settled := x.settled + 1 })

/-- A settling sweep starts and visits the neurons in order (R73). -/
def Dev.startSweep (d : Dev) (g : Fin 8) : Dev :=
  let d := d.updGal g (fun x => { x with sweepBusy := true, sweepStart := d.tick, settled := 0 })
  d.forEach (d.gal g).sweptNeurons (fun n d => d.settleOne g (d.gal g).sweepStart n)

/-- A sweep is due in a Gallery; one still running makes it late (R74). -/
def Dev.sweepDue (d : Dev) (g : Fin 8) : Dev :=
  if !d.settles g then d
  else if (d.gal g).sweepBusy then
    let d := d.setRf (R.GAL_STATE_STAT g) F.GAL_STATE_STAT_SWEEP_LATE 1
    let d := d.updGal g (fun x => { x with sweepOverdue := true })
    d.raiseFrom (stGal g) (Flt.sweepLate g (d.galParcel g) d.tick)
  else d.startSweep g

/-- SETTLING_SWEEP (R73): due at every tick count that is a multiple of 128, in each Gallery. -/
def settlingSweep (errs : List (Fin 8 × EccErr)) (d : Dev) : Dev :=
  let d := d.forEach errs (fun e d => d.corrupt e.1 [e.2])
  if d.tick % 128 = 0 then d.forEach (List.finRange 8) (fun g d => d.sweepDue g) else d

/-- SETTLING_SWEEP. -/
def execSettlingSweep (errs : List (Fin 8 × EccErr)) (s : State) : Host.Outcome State Fault Refusal := devStep s (settlingSweep errs)

/-- SETTLING_SWEEP_COMPLETE (R74); GAL_SETTLE_LAST saturates (Table 2.9). -/
def sweepComplete (g : Fin 8) (d : Dev) : Dev :=
  if !(d.gal g).sweepBusy then d
  else
    let d := d.setRf (R.GAL_SETTLE_LAST g) F.GAL_SETTLE_LAST_SETTLED (min 131071 (d.gal g).settled)
    let due := (d.gal g).sweepOverdue
    let d := d.updGal g (fun x => { x with sweepBusy := false, sweepOverdue := false })
    if due ∧ d.settles g then d.startSweep g else d

/-- SETTLING_SWEEP_COMPLETE. -/
def execSettlingSweepComplete (g : Fin 8) (s : State) : Host.Outcome State Fault Refusal := devStep s (sweepComplete g)

/-- A neuron in the resume sweep (R177): to rest after 256 ticks or more, else the lazy update. -/
def resumeWord (mo : Model) (t entry : Nat) (w : BitVec 64) : BitVec 64 :=
  let last := entry - (entry + 256 - fget nsLast w) % 256
  if last + 256 ≤ t then fput nsLast (fput nsAdapt (fput nsTrace (fput nsRefr (putV w 0) 0) 0) 0) (t % 256)
  else lazyUpdate mo t w

/-- The resume sweep's visit of one neuron: its word is read (R83, R84), and a written one resumes (R177). -/
def Dev.resumeOne (d : Dev) (g : Fin 8) (entry n : Nat) : Dev :=
  match d.stateEcc g n with
  | (false, d) => d
  | (true, d) =>
    if fget nsW (SMap.get 0 (d.gal g).state n) = 0 then d
    else match d.readState g n with
      | (none, d) => d
      | (some w, d) => d.putState g n (resumeWord (d.model g (fget nsModel w)) d.tick entry w)

/-- RESUME_SWEEP (R177): after a wake from retention, before the Gallery takes any event; the events of the wake slots then meet the
node's checks. -/
def resumeSweep (g : Fin 8) (d : Dev) : Dev :=
  if !d.domOn (4 + g.val) then d
  else match (d.gal g).resume with
    | none => d
    | some entry =>
      let d := d.forEach (d.gal g).sweptNeurons (fun n d => d.resumeOne g entry n)
      let slots := (d.gal g).wakeSlots
      let d := d.updGal g (fun x => { x with resume := none, wakeSlots := [] })
      d.forEach slots (fun e d => d.accept g e.1 e.2)

/-- RESUME_SWEEP. -/
def execResumeSweep (g : Fin 8) (s : State) : Host.Outcome State Fault Refusal := devStep s (resumeSweep g)

/-- Occupied ring slots, as (slot, neuron). -/
def Gal.occupiedSlots (x : Gal) : List (Nat × Nat) := (x.occ.filter (fun e => e.2)).map (fun e => (e.1 / 131072, e.1 % 131072))

/-- Moves a Gallery to LOADED: the input left in its rings is discarded and counted (R541). -/
def Dev.galLoaded (d : Dev) (g : Fin 8) : Dev :=
  let d := d.touchMaps g (fun _ => true)
  let l := (d.gal g).occupiedSlots
  let d := d.bump (R.GAL_STOP_DROP_CNT g) F.GAL_STOP_DROP_CNT_STOP l.length
  let d := d.forEach l (fun e d => d.updGal g (fun x => x.putSlot e.1 e.2 0 false))
  d.updGal g (fun x => { x with st := .loaded })

/-- When every Gallery of a parcel is LOADED, or FAULTED and so left, a STOPPING parcel is LOADED (Table 6.5, R511). -/
def Dev.parcelSettles (d : Dev) (q : Fin 8) : Bool :=
  (d.pcl q).st == .stopping && (List.finRange 8).all (fun g => d.parcelAt g.val != some q || (d.gal g).st == .loaded || (d.gal g).st == .faulted)

/-- A Gallery stops: queued events are discarded as NOTRUN and the delay queue into STOP (R155, Table 5.2). -/
def Dev.stopGallery (d : Dev) (g : Fin 8) : Dev :=
  if (d.gal g).st ≠ .run then d
  else
    let x := d.gal g
    let d := d.bump (R.GAL_NOTRUN_CNT g) F.GAL_NOTRUN_CNT_NOTRUN x.ingress
    let d := d.bump (R.GAL_STOP_DROP_CNT g) F.GAL_STOP_DROP_CNT_STOP x.delayQ.length
    d.updGal g (fun x => { x with st := .stopping, rail := [], mesh := [], rel := [], loop := [], delayQ := [] })

/-- Whether a STOPPING Gallery has drained: emission empty, no P bit, no fan-out in progress (Table 5.2). -/
def Dev.drained (d : Dev) (g : Fin 8) : Bool :=
  (d.gal g).st == .stopping && (d.gal g).emitQ.isEmpty && (d.gal g).pendingNeurons.isEmpty && (d.gal g).cold.isEmpty

/-- A Gallery enters a configuration reset (R156): accepted in EMPTY, LOADING, LOADED and FAULTED. -/
def Dev.startCfgReset (d : Dev) (g : Fin 8) : Dev :=
  match (d.gal g).st with
  | .run => d.setRf (R.GAL_EVT_STAT g) F.GAL_EVT_STAT_CFG_ERR 1
  | .stopping => d.setRf (R.GAL_EVT_STAT g) F.GAL_EVT_STAT_CFG_ERR 1
  | _ => d.updGal g (fun x => { x with cfgBusy := true })

/-- Offsets from GAL that a configuration reset returns to their reset values: emission descriptors, dark ranges and windows,
expert tables and learning profiles (R156, R261, R293). -/
def cfgResetReg (off : Nat) : Bool :=
  (0x1000 ≤ off && off < 0x2000) || (0x4200 ≤ off && off < 0x42C0) || (0x6000 ≤ off && off < 0x6800)
    || (0x7100 ≤ off && off < 0x7300)

/-- Base of a Gallery's register block. -/
def galBase (g : Nat) : Nat := 0x20000000 + g * 0x01000000

/-- Base of a plane's register block. -/
def dnsBase (p : Nat) : Nat := 0x30000000 + p * 0x00100000

/-- The configuration reset's effect (R156, R216, R261, R293): written bits, descriptors, ranges and windows cleared, locks released,
the plane's descriptors, count window and tags cleared; counters and the dead-neuron table kept. -/
def Dev.cfgReset (d : Dev) (g : Fin 8) : Dev :=
  let d := { d with regs := d.regs.filter (fun e =>
    !((galBase g.val ≤ e.1 && e.1 < galBase (g.val + 1) && cfgResetReg (e.1 - galBase g.val))
      || (dnsBase g.val + 0x1000 ≤ e.1 && e.1 < dnsBase g.val + 0x1400))) }
  let d := d.setRf (R.GAL_STATE_CTL g) F.GAL_STATE_CTL_COMMIT 0
  let d := (d.setRf (R.CMP_CTL g) F.CMP_CTL_COMMIT 0).setRf (R.LRN_CTL g) F.LRN_CTL_COMMIT 0
  let d := d.setRf (R.DNS_CTL g) F.DNS_CTL_COMMIT 0
  let d := (d.setReg (R.DNS_CNT_WIN g) 0).setReg (R.DNS_CNT_CFG g) 0
  let d := (d.setReg (R.LRN_REWARD g) 0)
  let d := d.updPlane g (fun p => { p with bufs := p.bufs.map (fun b => { b with tag := none }), counts := [] })
  d.updGal g (fun x =>
    { turn := x.turn, neuUe := x.neuUe, bankUe := x.bankUe, fence := x.fence, eraseQ := x.eraseQ, node := x.node, wakeSlots := x.wakeSlots,
      sink := x.sink && x.st != .faulted, lrn := { x := x.lrn.x, nextEpoch := x.lrn.nextEpoch } })

/-- CFG_RESET_DONE: the reset completes and the Gallery is EMPTY (R156). -/
def cfgResetDone (g : Fin 8) (d : Dev) : Dev := if (d.gal g).cfgBusy then d.cfgReset g else d

/-- CFG_RESET_DONE. -/
def execCfgResetDone (g : Fin 8) (s : State) : Host.Outcome State Fault Refusal := devStep s (cfgResetDone g)

/-- GALLERY_FAULT: a cause of Table 18.11 (R508). -/
def galleryFault (g : Fin 8) (cause : Fin 16) (d : Dev) : Dev :=
  if 1 ≤ cause.val ∧ cause.val ≤ 5 then d.enterFaulted g cause.val else d

/-- GALLERY_FAULT. -/
def execGalleryFault (g : Fin 8) (cause : Fin 16) (s : State) : Host.Outcome State Fault Refusal := devStep s (galleryFault g cause)

/-- ENGINE_STALL: an event held over 100 µs in one engine stage (R508, STALL). -/
def execEngineStall (g : Fin 8) (s : State) : Host.Outcome State Fault Refusal := devStep s (fun d => d.enterFaulted g 3)

/-! ### Cold lists -/

/-- The words of a 64-byte unit. -/
def unitWords (l : List Byte) : List Word := (List.range 16).map (fun i => BitVec.ofNat 32 (leAt l (4 * i) 4))

/-- The unit's words fan out (R161, R163); a cold list holds no plastic word. -/
def Dev.fanUnit (d : Dev) (g : Fin 8) (c : ColdFetch) (ws : List Word) : Dev :=
  let f : Fan := { ev := c.ev, due := dueTick d.tick c.ev, entry := 0, learn := false }
  d.forEach (ws.take c.left) (fun w d => if (d.gal g).fans ∧ fget syLive w = 1 then d.contribute g f 0 w else d)

end Sys2Proof.Machine
end

