-- ==== Sys2Proof/Machine/Checker.lean ====
section
/-!
DEFINITION. The dark range checker (Table 4.2; R125, R126; numbered by Table 14.7), as the loader, DIAG_WRITE,
the Leveler and a register write use it.
-/
namespace Sys2Proof.Machine

/-- A dark range or an intake window: first and last number, port. -/
structure Span where
  lo : Nat
  hi : Nat
  port : Nat
deriving DecidableEq, Repr

/-- The dark ranges and the intake windows of a Gallery (R124). -/
structure DarkMap where
  ranges : List Span
  windows : List Span
deriving DecidableEq, Repr

/-- Whether a span holds a number. -/
def Span.holds (s : Span) (n : Nat) : Bool := decide (s.lo ≤ n) && decide (n ≤ s.hi)

/-- The port of the span that holds a number. -/
def spanPort (l : List Span) (n : Nat) : Option Nat := (l.find? (fun s => s.holds n)).map (·.port)

/-- Whether a number lies in a span tagged with a port. -/
def inPort (l : List Span) (p n : Nat) : Bool := l.any (fun s => s.holds n && s.port == p)

/-- The ranges and windows in a Gallery's registers. -/
def Dev.darkMap (d : Dev) (g : Fin 8) : DarkMap :=
  { ranges := ((List.range 16).filter (fun k => d.rf (R.GAL_DARK_LO g k) F.GAL_DARK_LO_VALID = 1)).map (fun k =>
      { lo := d.rf (R.GAL_DARK_LO g k) F.GAL_DARK_LO_LO, hi := d.rf (R.GAL_DARK_HI g k) F.GAL_DARK_HI_HI,
        port := d.rf (R.GAL_DARK_LO g k) F.GAL_DARK_LO_PORT })
    windows := ((List.range 8).filter (fun k => d.rf (R.GAL_IWIN_LO g k) F.GAL_IWIN_LO_VALID = 1)).map (fun k =>
      { lo := d.rf (R.GAL_IWIN_LO g k) F.GAL_IWIN_LO_AXLO, hi := d.rf (R.GAL_IWIN_HI g k) F.GAL_IWIN_HI_AXHI,
        port := d.rf (R.GAL_IWIN_LO g k) F.GAL_IWIN_LO_PORT }) }

/-- The check of Table 4.2 that an axon entry breaks with its list: its COUNT words, then its headroom words. The numbers are those of
Table 14.7. -/
def DarkMap.axonCheck (m : DarkMap) (a : Nat) (e : BitVec 64) (words head : List Word) : Option Nat :=
  let ts := words.map (fget syTarget)
  let dark := fget axDark e == 1
  if fget axIsrc e = 1 ∧ (match spanPort m.windows a with
      | none => true
      | some p => ts.any (fun t => !inPort m.ranges p t)) = true then some 1
  else if dark ∧ fget axIsrc e = 0 ∧ (match ts with
      | [] => false
      | t :: _ => (match spanPort m.ranges t with
        | none => true
        | some p => ts.any (fun x => !inPort m.ranges p x))) = true then some 2
  else if !dark ∧ ts.any (fun t => m.ranges.any (fun s => s.holds t)) then some 3
  else if dark ∧ fget axCold e = 1 then some 4
  else if dark ∧ (words ++ head).any (fun w => fget syDplastic w == 1) then some 5
  else none

/-- The chip and Gallery of an emission descriptor. -/
def edTarget (w : BitVec 128) : Nat × Nat := (bits w 69 64, bits w 72 70)
/-- Whether an emission descriptor is valid. -/
def edValid (w : BitVec 128) : Bool := bit w 77
/-- ADLY of an emission descriptor. -/
def edAdly (w : BitVec 128) : Nat := bits w 61 52
/-- The first and last axon of an emission descriptor. -/
def edAxons (w : BitVec 128) : Nat × Nat := (bits w 51 34, bits w 51 34 + (bits w 33 17 - bits w 16 0))

/-- The axons a map entry reaches, first and last (R114): those of the full m × m tile, also where the frame covers only part of it (DESIGN
CHOICE, log entry 22). -/
def mapAxons (geom w : Word) : Nat × Nat :=
  let m := 8 * 2 ^ fget F.INT_GEOM_TSHIFT geom / 2 ^ bits w 27 26
  (bits w 17 0, bits w 17 0 + m * m * (if bit w 29 then 2 else 1) - 1)

/-- Words of a cold list in the stacks (R163). -/
def coldWords (mem : Mem) (sa n : Nat) : List Word :=
  (List.range n).map (fun i => BitVec.ofNat 32 (ofLe (Memory.read mem (stackWindow + sa + 4 * i) 4)))

/-- The list of an axon entry: COUNT words and headroom words, with the words being written in place of those on die. -/
def Mach.listOf (m : Mach) (g : Fin 8) (e : BitVec 64) (new : Nat → Option Word) : List Word × List Word :=
  let n := fget axCount e
  let w (i : Nat) : Word := (new (fget axBase e + i)).getD ((m.dev.gal g).synWord (fget axBase e + i))
  if fget axCold e = 1 then (coldWords m.mem (m.dev.spillBase g + fget axBase e * 64) n, [])
  else ((List.range n).map w, (List.range (fget axHead e)).map (fun i => w (n + i)))

/-- Whether an emission descriptor of this chip with ADLY of 16 or more reaches an axon of a Gallery. -/
def Dev.delayReaches (d : Dev) (h : Fin 8) (a : Nat) : Bool :=
  (List.finRange 8).any (fun g => (List.range 256).any (fun i =>
    let w := d.edesc g i
    edValid w && decide (16 ≤ edAdly w) && chipIndex (edTarget w).1 == d.selfChip && (edTarget w).2 == h.val
      && decide ((edAxons w).1 ≤ a ∧ a ≤ (edAxons w).2)))

/-- Check 6 at descriptor `i` of Gallery `g`: it would carry ADLY of 16 or more to a dark axon of this chip. -/
def Dev.descBreaks (d : Dev) (g : Fin 8) (i : Nat) : Bool :=
  let w := d.edesc g i
  edValid w && decide (16 ≤ edAdly w) && chipIndex (edTarget w).1 == d.selfChip
    && (d.gal (fin8 (edTarget w).2)).axons.any (fun x => fget axDark x.2 == 1 && decide ((edAxons w).1 ≤ x.1 ∧ x.1 ≤ (edAxons w).2))

/-- Checks 1 to 5 over the axons of a Gallery: the first that one breaks. -/
def Mach.axonBreaks (m : Mach) (g : Fin 8) : Option Nat :=
  (m.dev.gal g).axons.findSome? (fun x =>
    let l := m.listOf g x.2 (fun _ => none)
    (m.dev.darkMap g).axonCheck x.1 x.2 l.1 l.2)

/-- Check 7 at map entry `e` of a port: it reaches an axon outside the windows of its port. -/
def Dev.mapBreaks (d : Dev) (p e : Nat) : Bool :=
  let w := d.reg (R.INT_MAP p e)
  let (lo, hi) := mapAxons (d.reg (R.INT_GEOM p)) w
  bit w 31 && (List.range (hi + 1 - lo)).any (fun i => !inPort (d.darkMap (fin8 (p / 4 * 2 + bits w 30 30))).windows p (lo + i))

/-- Check 7 over the map of a port. -/
def Dev.portMapBreaks (d : Dev) (p : Nat) : Bool := (List.range 4096).any (fun e => d.mapBreaks p e)

/-- The check of Table 4.2 that the device breaks at what a register holds: an emission descriptor, a dark range, an intake window, a map entry
or the geometry it is read with. -/
def Mach.regBreaks (m : Mach) (r : RegAt) : Option Nat :=
  let g := fin8 r.inst
  let o := r.spec.off
  if r.block.base = Blk.gal.base then
    (if o = 0x1000 then (if m.dev.descBreaks g (r.idx / 4) then some 6 else none)
     else if o = 0x4200 ∨ o = 0x4204 then m.axonBreaks g
     else if o = 0x4280 ∨ o = 0x4284 then
      (match m.axonBreaks g with
        | some k => some k
        | none => if (List.range 4).any (fun i => m.dev.portMapBreaks (r.inst / 2 * 4 + i)) then some 7 else none)
     else none)
  else if r.block.base = Blk.int.base then
    (if o = 0x10000 then (if m.dev.mapBreaks r.inst r.idx then some 7 else none)
     else if o = 0x14 then (if m.dev.portMapBreaks r.inst then some 7 else none)
     else none)
  else none

/-- A write that the checker drops: counted and faulted (R126). -/
def Dev.darkDropped (d : Dev) (g : Fin 8) (check : Nat) : Dev :=
  (d.bump (R.GAL_DARK_CNT g) F.GAL_DARK_CNT_VIOL).raiseFrom (stGal g) (Flt.darkViol g (d.galParcel g) check)

end Sys2Proof.Machine
end

