-- ==== Sys2Proof/Machine/Ledger.lean ====
section
/-!
DEFINITION. The Ledger's records: signatures, firmware slots and the boot record, licences, the retire map's effects, the fault log
(14 R412; 17 R478 to R490; 18 R502).
-/
namespace Sys2Proof.Machine

/-- An elliptic-curve signature stored little-endian at an offset: r, then s, 48 bytes each (R22, R412). -/
def sigAt (b : List Byte) (off : Nat) : Nat × Nat := (leAt b off 48, leAt b (off + 48) 48)

/-- Whether a SIGNATURE section names a key and signs a message (Table 14.4). -/
def sectionSigns (key : Nat × Nat) (msg sec : List Byte) : Bool :=
  leAt sec 0 2 == 1 && (leAt sec 8 48, leAt sec 56 48) == key && ecdsaVerify key msg (sigAt sec 104).1 (sigAt sec 104).2

/-- A page of a firmware slot: 4 KiB. -/
def fwPage : Nat := 4096

/-- Bytes of a firmware slot: 16 MiB. -/
def fwSlotBytes : Nat := 0x1000000

/-- The first `n` bytes of a written slot; a page that FW_WRITE has not written reads as zeros. -/
def slotBytes (m : SMap (List Byte)) (n : Nat) : List Byte :=
  ((List.range ((n + fwPage - 1) / fwPage)).flatMap (fun i => slice 0 fwPage (SMap.get [] m i))).take n

/-- IMAGE_LEN of a firmware header (Table 17.5). -/
def imageLen (h : List Byte) : Nat := leAt h 24 4

/-- Whether Sathen accepts an image of `n` bytes on a part: signature, PARTS and SECVER (R478, R479). -/
def imageAccepted (f : Fuses) (b : List Byte) (n : Nat) : Bool :=
  decide (320 ≤ n) && decide (n ≤ fwSlotBytes) && sectionSigns Config.firmwareKey (b.take (n - 256)) (b.drop (n - 256))
    && leAt b 12 1 / 2 ^ f.part % 2 == 1 && decide (f.secver ≤ leAt b 6 2)

/-- What FW_COMMIT checks of a slot read back (R482). -/
def commitAccepted (f : Fuses) (m : SMap (List Byte)) (n : Nat) : Bool :=
  let b := slotBytes m n
  leAt b 0 4 == 0x57464E47 && leAt b 4 2 == 1 && imageLen b == n && imageAccepted f b n

/-- A verified image: its length, security version and version. -/
structure FwImage where
  len : Nat
  secver : Nat
  version : BitVec 32
deriving DecidableEq, Repr

/-- What Sathen makes of a slot at stage 2; `damaged` slots come back with wrong bytes (R479). The delivered image passes. -/
def bootImage (f : Fuses) (s : FwSlot) (damaged : Bool) : Option FwImage :=
  if damaged then none
  else match s with
    | .delivered => if f.secver = 0 then some { len := Config.deliveredLen, secver := 0, version := Config.deliveredVersion } else none
    | .pages m =>
      let n := imageLen (slotBytes m 64)
      let b := slotBytes m n
      if imageAccepted f b n then some { len := n, secver := leAt b 6 2, version := BitVec.ofNat 32 (leAt b 8 4) } else none

/-- The boot record in force: the copy with the higher sequence number (R479). -/
def Ledger.bootRec (l : Ledger) : BootRec := if l.bootCopies[0].seq < l.bootCopies[1].seq then l.bootCopies[1] else l.bootCopies[0]

/-- Writes the boot record into the copy with the lower sequence number (R479). -/
def Ledger.writeBoot (l : Ledger) (confirmed : Fin 2) (trial : Option (Fin 2)) : Ledger :=
  let r : BootRec := { confirmed := confirmed, trial := trial, seq := l.bootRec.seq + 1 }
  if l.bootCopies[0].seq < l.bootCopies[1].seq then { l with bootCopies := l.bootCopies.set 0 r }
  else { l with bootCopies := l.bootCopies.set 1 r }

/-- Changes the Ledger. -/
def Dev.updLed (d : Dev) (f : Ledger → Ledger) : Dev := { d with led := f d.led }

/-- Clears the TRIAL of the boot record (R479, R480, R481). -/
def Dev.clearTrial (d : Dev) : Dev :=
  if d.led.bootRec.trial = none then d else d.updLed (fun l => l.writeBoot l.bootRec.confirmed none)

/-- Whether a licence record is well formed: MAGIC, FORMAT, FEATURE and the reserved bytes (R488, R489, Table 17.9). -/
def licenceFormed (b : List Byte) : Bool :=
  b.length == 256 && leAt b 0 4 == 0x434C4E47 && leAt b 4 2 == 1 && decide (leAt b 6 2 ≤ 5)
    && leAt b 12 4 == 0 && leAt b 32 72 == 0 && leAt b 200 56 == 0

/-- Whether a licence record's signature holds (R488). -/
def licenceSigned (b : List Byte) : Bool := ecdsaVerify Config.licenceKey (b.take 104) (sigAt b 104).1 (sigAt b 104).2

/-- Whether a licence record is bound to this device (R15); device ID 0 is not accepted. -/
def licenceBound (f : Fuses) (b : List Byte) : Bool := leAt b 16 16 != 0 && leAt b 16 16 == f.devid.toNat

/-- Whether a stored licence record passes the check of a cold start (R490). -/
def licencePasses (f : Fuses) (b : List Byte) : Bool := licenceFormed b && licenceSigned b && licenceBound f b

/-- KIND of a retire map entry (Table 17.7). -/
def rmKind (e : BitVec 32) : Nat := bits e 31 28
/-- UNIT of a retire map entry. -/
def rmUnit (e : BitVec 32) : Nat := bits e 26 24
/-- LOC of a retire map entry. -/
def rmLoc (e : BitVec 32) : Nat := bits e 23 0
/-- FIELD of a retire map entry. -/
def rmField (e : BitVec 32) : Bool := bit e 27

/-- The spare bank of a Gallery takes a synapse bank (R153, R486). -/
def Dev.spareGalBank (d : Dev) (g bank : Nat) : Dev :=
  (d.setRf (R.GAL_BANK_MAP g) F.GAL_BANK_MAP_SPARE_USED 1).setRf (R.GAL_BANK_MAP g) F.GAL_BANK_MAP_RETIRED bank

/-- Whether the spare bank of a Gallery is in service. -/
def Dev.spareUsed (d : Dev) (g : Nat) : Bool := d.rf (R.GAL_BANK_MAP g) F.GAL_BANK_MAP_SPARE_USED == 1

/-- A retire map entry is applied (R485, Table 17.8). -/
def Dev.applyRetire (d : Dev) (e : BitVec 32) : Dev :=
  let u := rmUnit e
  match rmKind e with
  | 1 => if d.spareUsed u then d else d.spareGalBank u (rmLoc e % 8)
  | 4 => d.bump (R.DNS_REPAIR u) F.DNS_REPAIR_SROWS
  | 5 => d.bump (R.DNS_REPAIR u) F.DNS_REPAIR_SCOLS
  | 6 =>
    if d.rf R.SCP_STAT F.SCP_STAT_SPARE_USED = 1 then d
    else (d.setRf R.SCP_STAT F.SCP_STAT_RETIRED (rmLoc e % 16)).setRf R.SCP_STAT F.SCP_STAT_SPARE_USED 1
  | 7 =>
    let s : Fin 4 := ⟨u % 4, Nat.mod_lt _ (by decide)⟩
    let page := saPage s.val (rmLoc e % 2 ^ 23)
    if (d.stk s).pages.any (fun x => x.1 == page) then d
    else d.updStk s (fun k => { k with pages := k.pages ++ [(page, d.unitPc s (page * 64))] })
  | 8 =>
    let s : Fin 4 := ⟨u % 4, Nat.mod_lt _ (by decide)⟩
    d.setRf (R.STK_PC_RET s) F.STK_PC_RET_RET (Nat.lor (d.rf (R.STK_PC_RET s) F.STK_PC_RET_RET) (2 ^ (rmLoc e % 32)))
  | _ => d

/-- The log keeps the newest 262,144 records (R502). -/
def logTail (l : List FltRec) : List FltRec := l.drop (l.length - 262144)

/-- The firmware drains the collector into the Ledger log (R502). A failed write leaves the records where they are, and is itself
logged (Table 18.7, LEDGER). -/
def Dev.drain (d : Dev) (ok : Bool) : Dev :=
  if d.flt.recs.isEmpty then d
  else if ok then
    let recs := d.flt.recs
    let d := { d with flt := { d.flt with recs := [] } }
    d.updLed (fun l => { l with log := logTail (l.log ++ recs), nextSeq := d.rf R.FLT_SEQ F.FLT_SEQ_SEQ })
  else d.collect (Flt.ledger 3)

/-- Whether the firmware drains the collector now: ONLINE, UPDATING, or stages 6 to 10 of a start (R502). -/
def Dev.drains (d : Dev) : Bool :=
  d.mirState == 2 || d.mirState == 5 || (d.mirState == 1 && decide (6 ≤ d.rf R.LNT_MIR_STATE F.LNT_MIR_STATE_STAGE))

/-- COLLECTOR_DRAIN (R502). -/
def execCollectorDrain (ok : Bool) (s : State) : Host.Outcome State Fault Refusal :=
  devStep s (fun d => if d.drains then d.drain ok else d)

/-- FLT_DRAIN: writing N frees the N oldest records (Table 18.12). -/
def execFltDrain (n : BitVec 9) (s : State) : Host.Outcome State Fault Refusal :=
  devStep s (fun d => { d with flt := { d.flt with recs := d.flt.recs.drop n.toNat } })

end Sys2Proof.Machine
end

