-- ==== Sys2Proof/Machine/Egress.lean ====
section
/-!
DEFINITION. The egress unit: record requests, the meter, the backlog and the device records (04_dark_zone.md R137 to R148).
-/
namespace Sys2Proof.Machine

/-- Whether a record payload sets a reserved bit, carries a reserved STATE or a reserved ZONE (R139, R140). `v` is bits [127:64]. -/
def payloadBad (typ : Nat) (v : BitVec 64) : Bool :=
  let zoneBad (z : Nat) : Bool := 64 ≤ z && z ≤ 254
  match typ with
  | 1 => zoneBad (bits v 7 0)
  | 2 => false
  | 3 => bits v 33 32 == 3 || bits v 39 34 != 0 || zoneBad (bits v 47 40) || bits v 63 48 != 0
  | 4 => bits v 15 11 != 0 || zoneBad (bits v 23 16) || bits v 63 32 != 0
  | _ => true

/-- A record's header (Table 4.6). -/
def Dev.recHeader (d : Dev) (typ stream q seq src : Nat) (dev : Bool) : Nat :=
  typ % 16 + stream % 16 * 2 ^ 4 + d.dat.qual % 4 * 2 ^ 8 + q % 8 * 2 ^ 10 + b2n dev * 2 ^ 14 + chipField d.selfChip * 2 ^ 16
    + d.tick % 2 ^ 24 * 2 ^ 24 + seq % 256 * 2 ^ 48 + src % 256 * 2 ^ 56

/-- A record entry from header and payload. -/
def recEntry (header : Nat) (payload : BitVec 64) : BitVec 128 := BitVec.ofNat 128 (header + payload.toNat * 2 ^ 64)

/-- A parcel's backlog takes a record, displacing its oldest when it is full (R148). -/
def Dev.toBacklog (d : Dev) (q : Fin 8) (entry : BitVec 128) : Dev :=
  let full := 256 ≤ (d.pcl q).backlog.length
  let d := if full then (d.bump (R.EGR_BL_DROP q) F.EGR_BL_DROP_FULL).updPcl q (fun p => { p with hbBl := p.hbBl + 1 }) else d
  d.updPcl q (fun p => { p with backlog := (if full then p.backlog.drop 1 else p.backlog) ++ [{ entry := entry ||| (1#128 <<< 13), at_ := d.clk }] })

/-- An admitted record goes to the result ring of the parcel's function, or behind the records that wait (R148, R381). -/
def Dev.deliverRecord (d : Dev) (q : Fin 8) (entry : BitVec 128) : Dev :=
  match d.funcOf q with
  | some f => if d.resRoom f ∧ (d.pcl q).backlog.isEmpty then d.writeRes f entry else d.toBacklog q entry
  | none => d

/-- The meter (R144, R145): a record needs 128 bits of both buckets and takes them. -/
def Dev.meter (d : Dev) (p : Nat) : Option Dev :=
  let lvl := d.rf (R.EGR_MTR_LVL p) F.EGR_MTR_LVL_LVL
  let ceil := d.rf (R.EGR_MTR_LVL p) F.EGR_MTR_LVL_CEIL_LVL
  if 128 ≤ lvl ∧ 128 ≤ ceil then
    some (((d.setRf (R.EGR_MTR_LVL p) F.EGR_MTR_LVL_LVL (lvl - 128)).setRf (R.EGR_MTR_LVL p) F.EGR_MTR_LVL_CEIL_LVL (ceil - 128)).bump
      (R.EGR_MTR_PASS p) F.EGR_MTR_PASS_PASS)
  else none

/-- A record request: schema, header, meter, ring or backlog (R137 to R141, R145). -/
def Dev.recordRequest (d : Dev) (q : Fin 8) (src : Nat) (payload : BitVec 64) : Dev :=
  let e := SMap.get 0 (d.pcl q).schema src
  let typ := e % 16
  let stream := e / 16
  if h : stream < 16 then
    if typ = 0 ∨ payloadBad typ payload then d.bump R.EGR_SCHEMA_ERR F.EGR_SCHEMA_ERR_SCHEMA
    else
      let seq := d.ports[stream].recSeq
      let d := { d with ports := d.ports.set stream { d.ports[stream] with recSeq := (seq + 1) % 256 } }
      let entry := recEntry (d.recHeader typ stream q seq src false) payload
      match d.meter stream with
      | some d => d.deliverRecord q entry
      | none => (d.bump (R.EGR_MTR_DROP stream) F.EGR_MTR_DROP_DROP).updPcl q (fun p => { p with hbMtr := p.hbMtr + 1 })
  else d.bump R.EGR_SCHEMA_ERR F.EGR_SCHEMA_ERR_SCHEMA

/-- Whether the egress unit takes requests: EGR_CTL.EN (Table 4.10). -/
def Dev.egressOn (d : Dev) : Bool := d.rf R.EGR_CTL F.EGR_CTL_EN == 1 && !d.halted 0x04

/-- RECORD_REQUEST: a record-forming operator's request (R137). -/
def execRecordRequest (q : Fin 8) (src : BitVec 8) (payload : BitVec 64) (s : State) : Host.Outcome State Fault Refusal :=
  devStep s (fun d => if d.egressOn ∧ (d.pcl q).st ≠ .free then d.recordRequest q src.toNat payload else d)

/-- A bucket after a refill (R144, R147): it gains its rate and is capped at its depth. -/
def refill (lvl rate depth : Nat) : Nat := min (lvl + rate) depth

/-- METER_REFILL: every 15,625 µs (R144, R147). -/
def execMeterRefill (s : State) : Host.Outcome State Fault Refusal :=
  devStep s (fun d => d.forEach (List.range 16) (fun p d =>
    let lvl := refill (d.rf (R.EGR_MTR_LVL p) F.EGR_MTR_LVL_LVL) (d.rf (R.EGR_MTR_CFG p) F.EGR_MTR_CFG_RATE_U)
      (d.rf (R.EGR_MTR_CFG p) F.EGR_MTR_CFG_BURST * 128)
    let ceil := refill (d.rf (R.EGR_MTR_LVL p) F.EGR_MTR_LVL_CEIL_LVL) d.fus.ceilU (d.fus.ceilBurst * 128)
    (d.setRf (R.EGR_MTR_LVL p) F.EGR_MTR_LVL_LVL lvl).setRf (R.EGR_MTR_LVL p) F.EGR_MTR_LVL_CEIL_LVL ceil))

/-- Fills both buckets of a stream to their depth (R147). -/
def Dev.fillBuckets (d : Dev) (p : Nat) : Dev :=
  (d.setRf (R.EGR_MTR_LVL p) F.EGR_MTR_LVL_LVL (d.rf (R.EGR_MTR_CFG p) F.EGR_MTR_CFG_BURST * 128)).setRf (R.EGR_MTR_LVL p)
    F.EGR_MTR_LVL_CEIL_LVL (d.fus.ceilBurst * 128)

/-- A device record, past the meter, numbered per parcel (R141, R142). -/
def Dev.deviceRecord (d : Dev) (q : Fin 8) (typ : Nat) (payload : BitVec 64) : Dev :=
  let seq := (d.pcl q).seq
  let d := d.updPcl q (fun p => { p with seq := (seq + 1) % 256 })
  d.deliverRecord q (recEntry (d.recHeader typ 0 q seq 0 true) payload)

/-- The ports of a parcel's mask. -/
def Dev.maskPorts (d : Dev) (q : Fin 8) : List (Fin 16) :=
  (List.finRange 16).filter (fun p => d.rf (R.PCL_PORTMASK q) F.PCL_PORTMASK_MASK / 2 ^ p.val % 2 = 1)

/-- The Galleries of a parcel's rectangle. -/
def Dev.parcelGals (d : Dev) (q : Fin 8) : List (Fin 8) := (List.finRange 8).filter (fun g => d.parcelAt g.val = some q)

/-- Whether OVERLOAD is set on a port. -/
def Dev.overload (d : Dev) (p : Fin 16) : Bool := d.rf (R.INT_STAT p) F.INT_STAT_OVERLOAD == 1

/-- A Heartbeat's payload (Table 4.7). OVL covers the parcel's ports. -/
def Dev.heartbeat (d : Dev) (q : Fin 8) : BitVec 64 :=
  let ports := d.maskPorts q
  let ovl := maskOf ((ports.filter (fun p => d.overload p)).map (·.val))
  BitVec.ofNat 64 (min 0xFFFF (d.pcl q).hbMtr + min 0xFFFF (d.pcl q).hbBl * 2 ^ 16 + ovl * 2 ^ 32
    + b2n (ports.any (fun p => d.ports[p].st == .retired)) * 2 ^ 48 + b2n (d.pcl q).hbErased * 2 ^ 49
    + b2n ((d.parcelGals q).any (fun g => d.rf (R.LRN_CTL g) F.LRN_CTL_EN = 1)) * 2 ^ 50 + b2n d.boot.lab * 2 ^ 51)

/-- HEARTBEAT: every HB_PERIOD seconds, for each running parcel (R142). -/
def execHeartbeat (s : State) : Host.Outcome State Fault Refusal :=
  devStep s (fun d => if !d.egressOn then d else d.forEach (List.finRange 8) (fun q d =>
    if (d.pcl q).st = .run then
      (d.deviceRecord q 5 (d.heartbeat q)).updPcl q (fun p => { p with hbMtr := 0, hbBl := 0, hbErased := false })
    else d))

/-- A LearningStatus record's payload (Table 4.7). -/
def LearnRep.payload (r : LearnRep) : BitVec 64 :=
  BitVec.ofNat 64 (r.gals.toNat + min 0xFFFF ((r.ends.map (·.2)).sum) * 2 ^ 8 + min 0xFFFF r.created * 2 ^ 24
    + min 0xFFFF r.pruned * 2 ^ 40 + b2n r.dense * 2 ^ 56 + b2n r.overrun * 2 ^ 57)

/-- LEARNING_STATUS: at most once a second, if an epoch end waits to be reported (R142). -/
def execLearningStatus (q : Fin 8) (s : State) : Host.Outcome State Fault Refusal :=
  devStep s (fun d => if !d.egressOn ∨ (d.pcl q).learn.ends.isEmpty then d
    else (d.deviceRecord q 6 (d.pcl q).learn.payload).updPcl q (fun p => { p with learn := {} }))

/-- BACKLOG_WRITE: the oldest record that waits goes to the ring (R148, R381). -/
def execBacklogWrite (q : Fin 8) (s : State) : Host.Outcome State Fault Refusal :=
  devStep s (fun d => match (d.pcl q).backlog, d.funcOf q with
    | r :: t, some f => if d.resRoom f then (d.writeRes f r.entry).updPcl q (fun p => { p with backlog := t }) else d
    | _, _ => d)

/-- Whether a record of the backlog is older than EGR_BL_CFG.AGE milliseconds (R148). -/
def Dev.aged (d : Dev) (r : BackRec) : Bool := decide (r.at_ + d.rf R.EGR_BL_CFG F.EGR_BL_CFG_AGE * 100000 < d.clk)

/-- BACKLOG_AGE: the oldest record that waits is discarded once it is older than AGE (R148). -/
def execBacklogAge (q : Fin 8) (s : State) : Host.Outcome State Fault Refusal :=
  devStep s (fun d => match (d.pcl q).backlog with
    | r :: t => if d.aged r then (d.updPcl q (fun p => { p with backlog := t, hbBl := p.hbBl + 1 })).bump (R.EGR_BL_DROP q) F.EGR_BL_DROP_AGE else d
    | [] => d)

end Sys2Proof.Machine
end

