-- ==== Sys2Proof/Machine/Plane.lean ====
section
/-!
DEFINITION. The Dense Plane: job port, operands, weights, arithmetic and output actions (07_dense_plane.md); cold fetches of the
Gallery beside it (R163).
-/
namespace Sys2Proof.Machine

/-- A job descriptor (Table 7.4). -/
def Dev.jdesc (d : Dev) (p : Fin 8) (j : Nat) : BitVec 128 :=
  d.reg (R.DNS_JDESC p (4 * j + 3)) ++ d.reg (R.DNS_JDESC p (4 * j + 2)) ++ d.reg (R.DNS_JDESC p (4 * j + 1)) ++ d.reg (R.DNS_JDESC p (4 * j))

/-- VALID of a descriptor. -/
def jdValid (w : BitVec 128) : Bool := bit w 0
/-- MODE. -/
def jdMode (w : BitVec 128) : Nat := bits w 2 1
/-- KT. -/
def jdKt (w : BitVec 128) : Nat := bits w 7 3
/-- K of a job. -/
def jdK (w : BitVec 128) : Nat := (jdKt w - 1) * 16 + bits w 11 8 + 1
/-- N tiles. -/
def jdNt (w : BitVec 128) : Nat := bits w 14 12 + 1
/-- N of a job. -/
def jdN (w : BitVec 128) : Nat := bits w 14 12 * 64 + bits w 20 15 + 1
/-- OUT. -/
def jdOut (w : BitVec 128) : Nat := bits w 23 21
/-- The tag of a descriptor's weight set (R212). -/
def jdTag (w : BitVec 128) : WTag := { wsrc := bits w 39 38, wbase := bits w 63 40, mode := jdMode w, kt := jdKt w, nt := jdNt w }

/-- Bytes of a weight image (R211). -/
def imageBytes (w : BitVec 128) : Nat := jdKt w * jdNt w * (if jdMode w = 1 then 512 else 1024)

/-- The weight of row `k` and column `n` in an image (R211). -/
def weightAt (w : BitVec 128) (img : List Byte) (k n : Nat) : Int :=
  let i := ((k / 16 * jdNt w + n / 64) * 16 + k % 16) * 64 + n % 64
  if jdMode w = 1 then sext 4 ((img.getD (i / 2) 0).toNat / (if n % 2 = 0 then 1 else 16))
  else sext 8 (img.getD i 0).toNat

/-- An operand element (R208): int8 and int4 are signed, spike counts are not. -/
def operandAt (w : BitVec 128) (row : List Byte) (k : Nat) : Int :=
  let b := (row.getD k 0).toNat
  if jdMode w = 2 then (b % 16 : Nat) else if jdMode w = 1 then sext 4 b else sext 8 b

/-- The sum of an operand row and a column (R208). -/
def dotAt (w : BitVec 128) (img row : List Byte) (n : Nat) : Int :=
  ((List.range (jdK w)).map (fun k => operandAt w row k * weightAt w img k n)).sum

/-- A requantised sum before the clamp: halves round toward plus infinity (R209). -/
def requant (w : BitVec 128) (x : Int) : Int :=
  let r := bits w 29 25
  let q := if r = 0 then x else (x + (2 ^ (r - 1) : Nat)) / ((2 ^ r : Nat) : Int)
  if bit w 24 then max q 0 else q

/-- A requantised row, clamped to the range of its destination (R209). -/
def rowResult (w : BitVec 128) (lo hi : Int) (img row : List Byte) : List Int :=
  (List.range (jdN w)).map (fun n => clamp lo hi (requant w (dotAt w img row n)))

/-- Queue entries of a plane in use: a running job keeps its own (R217, R219). -/
def Plane.inUse (x : Plane) : Nat := x.queue.length + (if x.running.isSome then 1 else 0)

/-- Adds to a load counter of a Compass unit (R254). -/
def Dev.countLoad (d : Dev) (p : Fin 8) (j n : Nat) : Dev := d.bump (R.CMP_LOAD_NOW p j) F.CMP_LOAD_NOW_NOW n

/-- The job port's answer to a submission (R217, Table 7.6): 0 ACCEPT, 1 FULL, 2 NOJOB, 3 NOTRUN, 4 SLICE. -/
def Dev.portAnswer (d : Dev) (p : Fin 8) (j : Nat) (slice : Option Nat) : Nat :=
  if (d.gal p).st ≠ .run ∨ d.rf (R.DNS_CTL p) F.DNS_CTL_EN = 0 then 3
  else if !jdValid (d.jdesc p j) ∨ d.rf (R.DNS_CTL p) F.DNS_CTL_COMMIT = 0 then 2
  else if d.galSlice p ≠ slice then 4
  else if 8 ≤ (d.plane p).inUse then 1
  else 0

/-- The job port takes a submission (R217, R228): its answer, and the plane with the job queued on ACCEPT. -/
def Dev.submitJob (d : Dev) (p : Fin 8) (job : Job) (slice : Option Nat) : Nat × Dev :=
  let code := d.portAnswer p job.desc slice
  if code = 0 then
    let load : Bool := match job.src with
      | .compass => true
      | .remote _ _ _ _ => true
      | _ => false
    let d := if load then d.countLoad p job.desc job.n else d
    (0, (d.updPlane p (fun x => { x with queue := x.queue ++ [job] })).wakeEvent (12 + p.val))
  else (code, d.bump (R.DNS_RESP_CNT p) (if code = 1 then F.DNS_RESP_CNT_FULL else F.DNS_RESP_CNT_OTHER))

/-! ### Submissions over VN-Q -/

/-- JOB, ROWS, TAG and the submitter's chip, Gallery and unit, and the plane's chip and Gallery, of a submission's first flit (Table 7.7). -/
def jfJob (w : BitVec 64) : Nat := bits w 5 0
/-- ROWS. -/
def jfRows (w : BitVec 64) : Nat := bits w 9 6
/-- TAG. -/
def jfTag (w : BitVec 64) : Nat := bits w 23 16
/-- SRC_CHIP, as an index. -/
def jfChip (w : BitVec 64) : Nat := chipIndex (bits w 29 24)
/-- SRC_NODE. -/
def jfNode (w : BitVec 64) : Nat := bits w 33 30

/-- The first flit of a submission (Table 7.7). -/
def jobFlit (job rows tag chip node dstChip dstGallery : Nat) : BitVec 64 :=
  BitVec.ofNat 64 (job + rows * 2 ^ 6 + tag * 2 ^ 16 + chipField chip * 2 ^ 24 + node * 2 ^ 30 + chipField dstChip * 2 ^ 36 + dstGallery * 2 ^ 42)

/-- Whether a submission that reaches plane `p` is one of Table 7.7: its reserved bits are 0, it carries 1 to 8 rows, comes from the Compass
unit of a Gallery, and is for this plane. -/
def Dev.jobForm (d : Dev) (p : Nat) (w : BitVec 64) : Bool :=
  bits w 15 10 == 0 && bits w 63 45 == 0 && decide (1 ≤ jfRows w ∧ jfRows w ≤ 8) && decide (jfNode w < 8) && bits w 35 34 == 0
    && chipIndex (bits w 41 36) == d.selfChip && bits w 44 42 == p

/-- Whether the PARCEL of a VN-S, VN-Q or VN-P flit is another than its Gallery's (R183). -/
def Dev.badParcel (d : Dev) (g : Fin 8) (parcel : Nat) : Bool := decide (parcel ≠ d.flitParcel g.val ∨ parcel = 7)

/-- A flit with a bad PARCEL is dropped and counted (R183). -/
def Dev.dropParcel (d : Dev) (g : Fin 8) : Dev := (d.bump (R.MSH_NODE_DROP g) F.MSH_NODE_DROP_PARCEL).isolDrop (d.parcelAt g.val)

/-- A message of a unit of Gallery `g` for a Gallery of this chip (R180). -/
def Dev.send (d : Dev) (g : Fin 8) (dst : Nat) (b : Freight) : Dev := d.post g { parcel := d.flitParcel g.val, dst := dst, body := b }

/-- The plane's answer to a submission leaves on VN-P, or for another chip (R217). -/
def Dev.answerJob (d : Dev) (p : Fin 8) (q : JobFlit) (code : Nat) : Dev :=
  if jfChip q.word = d.selfChip then
    d.send p (jfNode q.word) (.answer { tag := BitVec.ofNat 8 (jfTag q.word), ref := q.ref, parcel := BitVec.ofNat 3 (d.flitParcel p.val) } (fin8 code))
  else d.emit (.jobAnswer (jfChip q.word) (jfNode q.word) (jfTag q.word) code)

/-- After an ACCEPT the plane asks for its operands: one read for each 16-byte chunk of each row; the slot has room for them all (R191, R218). -/
def Dev.askOperands (d : Dev) (p : Fin 8) (q : JobFlit) : Dev :=
  let kt := jdKt (d.jdesc p (jfJob q.word))
  d.forEach (List.range (jfRows q.word * kt)) (fun i d =>
    if jfChip q.word = d.selfChip then d.send p (jfNode q.word) (.read p.val (jfTag q.word) q.ref (i / kt) (i % kt))
    else d.emit (.operandRead (jfChip q.word) (jfNode q.word) (jfTag q.word) (i / kt) (i % kt)))

/-- A submission at the job port of a Gallery that is awake (R217, R218, R509); a malformed one is dropped and not answered (DESIGN CHOICE, log
entry 55). -/
def Dev.takeJob (d : Dev) (p : Fin 8) (q : JobFlit) : Dev :=
  if (d.gal p).sink then d.bump (R.GAL_NOTRUN_CNT p) F.GAL_NOTRUN_CNT_NOTRUN
  else if !d.jobForm p.val q.word then d
  else
    let n := jfRows q.word
    let w := d.jdesc p (jfJob q.word)
    let src : JobSrc := .remote (jfChip q.word) (jfNode q.word) (jfTag q.word) q.ref
    let job : Job := { desc := jfJob q.word, n := n, rows := List.replicate n [], reads := n * jdKt w, src := src, chain := 0 }
    let r := d.submitJob p job (d.galSlice (fin8 (if jfChip q.word = d.selfChip then jfNode q.word else p.val)))
    let d := r.2.answerJob p q r.1
    if r.1 = 0 then d.askOperands p q else d

/-- A message that reaches the node of its Gallery: its PARCEL is checked (R183); one that finds the Gallery asleep wakes it, and waits in the
node while that has room (R229, R432). -/
def Dev.meetNode (d : Dev) (g : Fin 8) (parcel : Nat) (b : Freight) (act : Dev → Dev) : Dev :=
  if d.badParcel g parcel then d.dropParcel g
  else if d.asleep g then
    let d := d.wakeEvent (4 + g.val)
    if (d.gal g).laneRoom 3 b then d.pushNode g 3 { parcel := parcel, dst := g.val, body := b } else d
  else act d

/-- JOB_SUBMIT: a VN-Q submission reaches the plane's node (R183, R217, R218, R229). -/
def jobSubmit (p : Fin 8) (q : JobFlit) (d : Dev) : Dev := d.meetNode p q.parcel.toNat (.submit q) (fun d => d.takeJob p q)

/-- JOB_SUBMIT. -/
def execJobSubmit (p : Fin 8) (q : JobFlit) (s : State) : Host.Outcome State Fault Refusal := devStep s (jobSubmit p q)

/-- Changes the Compass unit. -/
def Dev.updCmp (d : Dev) (g : Fin 8) (f : Compass → Compass) : Dev := d.updGal g (fun x => { x with cmp := f x.cmp })

/-- Replaces the first job of a list that satisfies a test. -/
def mapFirst {α : Type} (t : α → Bool) (f : α → α) : List α → List α
  | [] => []
  | x :: l => if t x then f x :: l else x :: mapFirst t f l

/-- A plane's operand read at the node of its submitter: 16 bytes of a row of the staging slot go back on VN-P; the slot is zeroed and freed
after its last read (R218, R248). A read of a slot no longer held is not answered. -/
def Dev.serveRead (d : Dev) (g : Fin 8) (plane tag : Nat) (ref : BitVec 64) (row chunk : Nat) : Dev :=
  let here (x : Staging) : Bool := x.tag == tag && x.ref == ref
  match (d.gal g).cmp.staging.find? here with
  | none => d
  | some sl =>
    let st := (d.gal g).cmp.staging
    let st := if sl.reads ≤ 1 then st.filter (fun x => !here x) else mapFirst here (fun x => { x with reads := x.reads - 1 }) st
    let bytes := slice (chunk * 16) 16 (match sl.rows[row]? with | some r => r.feats | none => [])
    (d.updCmp g (fun c => { c with staging := st })).send g plane (.data g.val tag ref row bytes)

/-- A chunk of operands arrives at the plane (R218); one whose job is no longer queued is discarded (R191). -/
def Dev.takeOperands (d : Dev) (p : Fin 8) (gallery tag : Nat) (ref : BitVec 64) (row : Nat) (bytes : List Byte) : Dev :=
  let mine (j : Job) : Bool := j.reads != 0 && j.src == .remote d.selfChip gallery tag ref
  d.updPlane p (fun x => { x with queue := mapFirst mine (fun j => { j with reads := j.reads - 1, rows := j.rows.modify row (fun r => r ++ bytes) }) x.queue })

/-- The plane's read at the head of one of the VN-Q buffers of a Gallery's node and bound for that Gallery: its input port and the message. -/
def Gal.readHead (x : Gal) (g : Nat) : Option (Fin 4 × MeshMsg) :=
  (List.finRange 4).findSome? (fun port => match x.node[bufAt port 2] with
    | m :: _ => (match m.body with
      | .read _ _ _ _ _ => if m.dst = g then some (port, m) else none
      | _ => none)
    | [] => none)

/-- The head of an input buffer leaves; a unit's messages may enter the room it leaves. -/
def Dev.popNode (d : Dev) (g : Fin 8) (port : Fin 4) (l : Fin 5) : Dev :=
  (d.updGal g (fun x => { x with node := x.node.set (bufAt port l) (x.node[bufAt port l].drop 1) })).refill g

/-- OPERAND_READ: the read that stands first at the Gallery's node is served from its staging slot (R183, R218). -/
def operandRead (g : Fin 8) (d : Dev) : Dev :=
  match (d.gal g).readHead g.val with
  | some (port, { parcel := parcel, body := .read plane tag ref row chunk, .. }) =>
    if d.asleep g then d.wakeEvent (4 + g.val)
    else
      let d := d.popNode g port 2
      if d.badParcel g parcel then d.dropParcel g else d.serveRead g plane tag ref row chunk
  | _ => d

/-- OPERAND_READ. -/
def execOperandRead (g : Fin 8) (s : State) : Host.Outcome State Fault Refusal := devStep s (operandRead g)

/-- An abandoned request is counted at its node (R191). -/
def Dev.requestLost (d : Dev) (g : Fin 8) : Dev :=
  let d := d.bump (R.MSH_NODE_ERR g) F.MSH_NODE_ERR_TMO
  d.raiseFrom (stNode g) (Flt.mesh g (d.rf (R.MSH_NODE_ERR g) F.MSH_NODE_ERR_TMO))

/-- OPERAND_TIMEOUT: a job whose read went unanswered for 10 µs is abandoned, its slot zeroed and freed (R191, R218). -/
def operandTimeout (p : Fin 8) (j : Fin 8) (d : Dev) : Dev :=
  match (d.plane p).queue[j.val]? with
  | some x =>
    if x.reads = 0 then d
    else ((d.updPlane p (fun y => { y with queue := y.queue.eraseIdx j.val })).bump (R.DNS_ERR_CNT p) F.DNS_ERR_CNT_OPTMO).requestLost p
  | none => d

/-- OPERAND_TIMEOUT. -/
def execOperandTimeout (p : Fin 8) (j : Fin 8) (s : State) : Host.Outcome State Fault Refusal := devStep s (operandTimeout p j)

/-! ### Weights -/

/-- The buffer that holds a weight set. -/
def Plane.bufOf (x : Plane) (t : WTag) : Option (Fin 2) := (List.finRange 2).find? (fun b => x.bufs[b].tag = some t)

/-- The jobs of a plane in order: the running one, then the queue. -/
def Plane.jobs (x : Plane) : List Job := x.running.toList ++ x.queue

/-- What the plane loads next (R212): the weight set of its first job that is not resident, and the buffer it goes into: one that no job ahead
of it uses or waits for, rather the one not used last. -/
def Dev.nextLoad (d : Dev) (p : Fin 8) : Option (BitVec 128 × Fin 2) :=
  let x := d.plane p
  let ws := x.jobs.map (fun j => d.jdesc p j.desc)
  let ahead := (ws.takeWhile (fun w => (x.bufOf (jdTag w)).isSome)).filterMap (fun w => x.bufOf (jdTag w))
  let other : Fin 2 := if x.lastBuf = 0 then 1 else 0
  match ws.find? (fun w => (x.bufOf (jdTag w)).isNone), [other, x.lastBuf].find? (fun b => !ahead.contains b) with
  | some w, some b => some (w, b)
  | _, _ => none

/-- The words of a weight set that meet errors as it loads (R214): those corrected count, those lost load as 0 and count, each with a fault. -/
def Dev.weightErrs (d : Dev) (p : Fin 8) (ces ues : List Nat) (img : List Byte) : List Byte × Dev :=
  let ces := ces.filter (fun w => 4 * w < img.length)
  let ues := ues.filter (fun w => 4 * w < img.length)
  let d := (d.bump (R.DNS_ERR_CNT p) F.DNS_ERR_CNT_WCE ces.length).bump (R.DNS_ERR_CNT p) F.DNS_ERR_CNT_WUE ues.length
  let d := d.forEach ues (fun w d => d.raiseFrom (stPlane p) (Flt.dnsWeight p (d.galParcel p) w))
  (ues.foldl (fun l w => (List.range 4).foldl (fun l i => l.set (4 * w + i) 0) l) img, d)

/-- A Gallery's read of stack units over its stack rail: the bytes and the units that are poisoned, through a region of its own parcel, or
denied, as poison (R342, R350). `none` while the stack sleeps or is marched: the read waits there (R348, R359). -/
def Mach.galleryRead (m : Mach) (g : Fin 8) (sa n : Nat) (errs : List MemErr) : Option (List Byte × List Nat × Mach) :=
  let c : Fin 4 := columnOf g
  let denied := some (List.replicate (64 * n) (0 : Byte), unitsOf sa (64 * n), { m with dev := m.dev.denyGallery g })
  if m.dev.stackHeld c then none
  else if !m.dev.stackReady c then denied
  else match m.dev.admitStack (.gallery g) c sa (64 * n) false with
    | some r => some (m.readUnits c r errs (unitsOf sa (64 * n)))
    | none => denied

/-- A weight set comes into a buffer (R212). -/
def Dev.fillBuf (d : Dev) (p : Fin 8) (w : BitVec 128) (b : Fin 2) (ces ues : List Nat) (img : List Byte) : Dev :=
  let (img, d) := d.weightErrs p ces ues img
  let d := d.updPlane p (fun x => { x with bufs := x.bufs.set b { tag := some (jdTag w), bytes := img } })
  d.bump (R.DNS_WLOAD_CNT p) F.DNS_WLOAD_CNT_WLOAD ((imageBytes w + 1023) / 1024)

/-- The indices of the words with correctable, or with uncorrectable, errors. -/
def errWords (ue : Bool) (l : List WeightErr) : List Nat := (l.filter (fun e => e.ue == ue)).map (·.word)

/-- The bank words of a weight set as the load meets them: an unwritten word counts (R82), a stored error joins those of the load, and a
correctable one is written back corrected (R83, R214). -/
def Dev.bankErrs (d : Dev) (p : Fin 8) (base n : Nat) : List WeightErr × Dev :=
  let stored := (d.gal p).bad.filter (fun e => e.kind == .syn && decide (base ≤ e.idx ∧ e.idx < base + n))
  let d := d.forEach (List.range n) (fun i d => if bit (SMap.get 0 (d.gal p).syn (base + i)) 32 then d else d.unwritten p (base + i))
  let d := d.forEach stored (fun e d => if e.ue then d else d.updGal p (fun x => x.clean .syn e.idx))
  (stored.map (fun e => { word := e.idx - base, ue := e.ue }), d)

/-- The weight set `w` finishes loading over the stack rail, where the parcel's stack pool has room for its read (R185, R198, R210 to R214).
Every word of a poisoned unit is an uncorrectable one (R334). -/
def Mach.stackLoad (m : Mach) (p : Fin 8) (w : BitVec 128) (b : Fin 2) (errs : List WeightErr) : Mach :=
  let n := imageBytes w
  let sa := m.dev.spillBase p + bits w 63 40 * 64
  if !m.dev.reqRoom p then m
  else match m.galleryRead p sa ((n + 63) / 64) (errs.map (fun e => { addr := sa + 4 * e.word, ue := e.ue })) with
    | none => { m with dev := m.dev.wakeEvent (31 + p.val / 2) }
    | some (img, bad, m) =>
      { m with dev := m.dev.fillBuf p w b (errWords false errs) (bad.flatMap (fun u => (List.range 16).map (fun i => (u - sa / 64) * 16 + i))) (img.take n) }

/-- WEIGHT_LOAD: a set finishes loading from the banks, or over the stack rail (R210 to R214). -/
def weightLoad (p : Fin 8) (errs : List WeightErr) (m : Mach) : Mach :=
  let d := m.dev
  if !d.domOn (12 + p.val) ∨ (d.gal p).st = .faulted then m
  else match d.nextLoad p with
    | none => m
    | some (w, b) =>
      let n := imageBytes w
      if bits w 39 38 = 0 then
        let words := (List.range ((n + 3) / 4)).flatMap (fun i => leBytes 4 ((d.gal p).synWord (bits w 63 40 + i)).toNat)
        let (more, d) := d.bankErrs p (bits w 63 40) ((n + 3) / 4)
        let all := errs ++ more
        { m with dev := d.fillBuf p w b (errWords false all) (errWords true all) (words.take n) }
      else m.stackLoad p w b errs

/-- WEIGHT_LOAD. -/
def execWeightLoad (p : Fin 8) (errs : List WeightErr) (s : State) : Host.Outcome State Fault Refusal := memStep s (weightLoad p errs)

/-- Whether the limiter makes a plane pass over this job slot: under its second-slot rule each plane starts a job only in every second
slot (R445, R447). -/
def Dev.jobSlotSkipped (d : Dev) (p : Fin 8) : Bool := (d.pwr.secondSlot || d.pwr.hotSlot) && bit d.pwr.slotSkip p.val

/-- The next job slot of a plane: under the second-slot rule it is passed over and taken in turn. -/
def Dev.nextJobSlot (d : Dev) (p : Fin 8) : Dev :=
  if d.pwr.secondSlot ∨ d.pwr.hotSlot then
    { d with pwr := { d.pwr with slotSkip := d.pwr.slotSkip ^^^ BitVec.ofNat 8 (2 ^ p.val) } }
  else { d with pwr := { d.pwr with slotSkip := 0 } }

/-- Whether PLL-D relocks: the Dense clock is gated at every plane (R457, Table 16.5). -/
def Dev.denseGated (d : Dev) : Bool := (d.clks.mons[2]).relock

/-- JOB_START: a job slot. The head of the queue starts once its operands and weights are there, its plane on and clocked, no Dense clock change,
failed Dense clock or limit holds starts, and the output buffer is free (R219, R224, R228, R461, R445). -/
def jobStart (p : Fin 8) (d : Dev) : Dev :=
  let x := d.plane p
  let skip := d.jobSlotSkipped p
  let d := d.nextJobSlot p
  if x.running.isSome ∨ !d.domOn (12 + p.val) ∨ d.denseGated ∨ d.clks.holdJobs = true ∨ d.clks.fullOnly = true ∨ d.pwr.stopJobs = true ∨ !x.outEvents.isEmpty
      ∨ (d.gal p).st = .faulted ∨ skip = true then d
  else match x.queue with
    | [] => d
    | j :: t =>
      if j.reads ≠ 0 then d
      else match x.bufOf (jdTag (d.jdesc p j.desc)) with
        | none => d
        | some b => d.updPlane p (fun x => { x with running := some j, queue := t, lastBuf := b })

/-- JOB_START. -/
def execJobStart (p : Fin 8) (s : State) : Host.Outcome State Fault Refusal := devStep s (jobStart p)

/-- The events of an EVENTS job: rows in order, columns in order, q at least THR (R224). -/
def jobEvents (w : BitVec 128) (slice : Nat) (rows : List (List Int)) : List (BitVec 64) :=
  rows.flatMap (fun r => (r.zipIdx.filter (fun e => (bits w 103 96 : Int) ≤ e.1)).map (fun e =>
    mkEvent (bits w 90 85) (bits w 84 82) (bits w 81 64 + e.2) 0 0 slice 1 e.1.toNat))

/-- The payload of a RECORD job's row: columns COL8 × 8 to COL8 × 8 + 7 (R225). -/
def jobPayload (w : BitVec 128) (r : List Int) : BitVec 64 :=
  BitVec.ofNat 64 (ofLe ((List.range 8).map (fun i => BitVec.ofInt 8 (r.getD (bits w 74 72 * 8 + i) 0))))

/-- A synapse's scaled weight is written, unless its word has meanwhile been rewritten as one without a synapse (R84). -/
def Dev.putScaled (d : Dev) (g : Fin 8) (s : Scale) (v : Int) : Dev :=
  d.updGal g (fun x => if fget syLive (x.synWord s.word) = 1 then x.putSyn s.word (fput syWeight (x.synWord s.word) (toTwos 8 v)) else x)

/-- The Leveler takes column 16g + c of a row as the weight of its pair g, clamped to the bounds of the target's profile (R279, R280). -/
def Dev.takeScaled (d : Dev) (g : Fin 8) (l : List Scale) (rows : List (List Int)) : Dev :=
  d.forEach l.zipIdx (fun e d =>
    d.putScaled g e.1 (clamp e.1.lo e.1.hi ((rows.getD (e.2 / 8) []).getD (16 * (e.2 % 8) + e.1.code) 0)))

/-- A normalisation batch's results reach the Leveler: its batch is done, and the Dense path has served part of the pass (R226, R280, R281,
Table 9.9). -/
def Dev.levelerRows (d : Dev) (g : Fin 8) (ref : BitVec 64) (rows : List (List Int)) : Dev :=
  match (d.gal g).lrn.passB with
  | none => d
  | some b => match b.sent.find? (fun e => e.1 == ref) with
    | none => d
    | some e =>
      ((d.takeScaled g e.2 rows).updLrn g (fun l => { l with passB := some { b with sent := b.sent.filter (fun e => e.1 != ref), served := true } })).bump
        (R.LRN_NORM_CNT g) F.LRN_NORM_CNT_DENSE

/-- Adds a signed value to a Gallery's running reward (R269). -/
def Dev.addReward (d : Dev) (g : Fin 8) (x : Int) : Dev :=
  d.setRf (R.LRN_REWARD g) F.LRN_REWARD_ACC (toTwos 16 (clamp (-32768) 32767 (sext 16 (d.rf (R.LRN_REWARD g) F.LRN_REWARD_ACC) + x)))

/-- A job's output action on its requantised rows (R224 to R226, R269). -/
def Dev.jobOutput (d : Dev) (p : Fin 8) (w : BitVec 128) (img : List Byte) (j : Job) : Dev :=
  let rows (lo hi : Int) : List (List Int) := (j.rows.take j.n).map (rowResult w lo hi img)
  let fin (d : Dev) : Dev := d.updPlane p (fun x => { x with running := none })
  match jdOut w with
  | 0 =>
    let nx := d.jdesc p (bits w 37 32)
    let r := if jdMode nx = 1 then rows (-8) 7 else rows (-128) 127
    if bit w 30 then
      d.updPlane p (fun x => { x with running := some { j with desc := bits w 37 32, rows := r.map (fun l => l.map (fun q => BitVec.ofInt 8 q)), chain := j.chain + 1 } })
    else fin d
  | 1 =>
    let evs := jobEvents w ((d.galSlice p).getD 0) (rows 0 255)
    (fin (d.updPlane p (fun x => { x with outEvents := x.outEvents ++ evs }))).bump (R.DNS_OUT_CNT p) F.DNS_OUT_CNT_OUT evs.length
  | 2 =>
    let r := rows 0 255
    let d := d.forEach r (fun l d => match d.parcelAt p.val with
      | some q => d.recordRequest q (bits w 71 64) (jobPayload w l)
      | none => d)
    (fin d).bump (R.DNS_OUT_CNT p) F.DNS_OUT_CNT_OUT r.length
  | 3 =>
    let r := rows (-128) 127
    fin (if bit w 64 then d.forEach r (fun l d => d.addReward p (l.getD 0 0))
      else match j.src with
        | .leveler ref => d.levelerRows p ref r
        | _ => d)
  | _ => fin d

/-- JOB_COMPLETE: the running job's sums are requantised and its output action is performed; an uncorrectable error of the weight
buffer, `bufUe` the index of its word, discards the output and the tag instead (R208, R209, R214, R219, R224 to R227). A chain step whose weights are not resident
waits for them. -/
def jobComplete (p : Fin 8) (bufUe : Option Nat) (d : Dev) : Dev :=
  let x := d.plane p
  if !d.domOn (12 + p.val) ∨ d.denseGated ∨ (d.gal p).st = .faulted ∨ !x.outEvents.isEmpty then d
  else match x.running with
    | none => d
    | some j =>
      let w := d.jdesc p j.desc
      match x.bufOf (jdTag w) with
      | none => d
      | some b =>
        match bufUe with
        | some i =>
          let d := d.updPlane p (fun x => { x with running := none, bufs := x.bufs.set b {} })
          (d.bump (R.DNS_ERR_CNT p) F.DNS_ERR_CNT_WUE).raiseFrom (stPlane p) (Flt.dnsWeight p (d.galParcel p) i)
        | none =>
          let d := (d.updPlane p (fun x => { x with lastBuf := b })).bump (R.DNS_JOB_CNT p) F.DNS_JOB_CNT_JOB
          d.jobOutput p w x.bufs[b].bytes j

/-- JOB_COMPLETE. -/
def execJobComplete (p : Fin 8) (bufUe : Option Nat) (s : State) : Host.Outcome State Fault Refusal := devStep s (jobComplete p bufUe)

/-- FLUSH: queued jobs are discarded and their slots zeroed; a running job finishes (Table 7.10, Corners). -/
def Dev.flushPlane (d : Dev) (p : Fin 8) : Dev :=
  (d.bump (R.DNS_ERR_CNT p) F.DNS_ERR_CNT_DISC (d.plane p).queue.length).updPlane p (fun x => { x with queue := [] })

/-- FLUSH. -/
def execFlush (p : Fin 8) (s : State) : Host.Outcome State Fault Refusal := devStep s (fun d => d.flushPlane p)

/-- At a turn marker, the plane copies the count window of the ending tick into an operand slot, clears it and queues its job (R223). The
window of a Gallery whose domain is not on stays as it is. -/
def Dev.countSnapshot (d : Dev) (p : Fin 8) : Dev :=
  if d.rf (R.DNS_CNT_WIN p) F.DNS_CNT_WIN_EN = 0 ∨ !d.domOn (4 + p.val) then d
  else
    let k := d.rf (R.DNS_CNT_CFG p) F.DNS_CNT_CFG_KT * 16
    let n := d.rf (R.DNS_CNT_CFG p) F.DNS_CNT_CFG_ROWS
    let c := (d.plane p).counts
    let rows := (List.range n).map (fun r => (List.range k).map (fun i => BitVec.ofNat 8 (SMap.get 0 c (r * k + i))))
    let d := d.updPlane p (fun x => { x with counts := [] })
    let job : Job := { desc := d.rf (R.DNS_CNT_CFG p) F.DNS_CNT_CFG_JOB, n := n, rows := rows, reads := 0, src := .window, chain := 0 }
    let r := d.submitJob p job (d.galSlice p)
    if r.1 = 0 then r.2 else r.2.bump (R.DNS_CNT_DROP p) F.DNS_CNT_DROP_DROP

/-- COLD_FETCH_RESPONSE: a 64-byte unit of a cold list returns and its words fan out; the next unit is fetched while words are left. A
unit that returns uncorrectable ends the event's fan-out, handled as an uncorrectable synapse word (R84, R163; 05_galleries.md: Corners). A
request that the stack pool has not let out, or that a stack holds, has no response yet. -/
def coldFetchResponse (g : Fin 8) (slot : Nat) (errs : List MemErr) (m : Mach) : Mach :=
  match (m.dev.gal g).cold[slot]? with
  | none => m
  | some c =>
    if !(m.dev.gal g).fans ∨ !c.asked then m
    else match m.galleryRead g c.addr 1 errs with
      | none => { m with dev := m.dev.wakeEvent (31 + g.val / 2) }
      | some (b, bad, m) =>
        let d := m.dev
        if !bad.isEmpty then
          let i := (c.addr - d.spillBase g) / 64
          let d := (d.bump (R.GAL_ECC_UE_CNT g) F.GAL_ECC_UE_CNT_SYN).setReg (R.GAL_UE_ADDR g) (BitVec.ofNat 32 (2 ^ 31 + i % 2 ^ 24))
          let d := d.raiseFrom (stGal g) (Flt.galUeSyn g (d.galParcel g) i 0)
          { m with dev := d.freeCold g slot }
        else
          let d := d.fanUnit g c (unitWords b)
          let d := if (d.gal g).st = .faulted then d
            else if 16 < c.left then
              (d.updGal g (fun x => { x with cold := x.cold.set slot { c with addr := c.addr + 64, left := c.left - 16 } })).bump
                (R.GAL_COLD_FETCH_CNT g) F.GAL_COLD_FETCH_CNT_FETCH
            else d.freeCold g slot
          { m with dev := d }

/-- COLD_FETCH_RESPONSE. -/
def execColdFetchResponse (g : Fin 8) (slot : Nat) (errs : List MemErr) (s : State) : Host.Outcome State Fault Refusal :=
  memStep s (coldFetchResponse g slot errs)

end Sys2Proof.Machine
end

