-- ==== Sys2Proof/Machine/Compass.lean ====
section
/-!
DEFINITION. The tally unit, the Compass unit and the Bearing loop (08_expert_routing.md), and abandoned mesh requests (R191).
-/
namespace Sys2Proof.Machine

/-! ### Tallies -/

/-- KEY of a tally (Table 8.1). -/
def Dev.tallyKey (d : Dev) (port tile : Nat) : BitVec 32 :=
  BitVec.ofNat 32 (chipField d.selfChip * 2 ^ 26 + port % 16 * 2 ^ 22 + tile % 4096 * 2 ^ 10)

/-- KEY.PORT. -/
def keyPort (k : BitVec 32) : Nat := bits k 25 22

/-- The cell of a position in a tile of side `s` (R234). -/
def cellOf (x y s : Nat) : Nat := 4 * ((y % s) * 4 / s) + (x % s) * 4 / s

/-- Counts an event in its cell, by polarity, saturating at 16 bits (R234). -/
def OpenTally.count (t : OpenTally) (i : Nat) (pol : Bool) : OpenTally :=
  if pol then { t with a := t.a.modify i (fun n => satAdd 16 n 1) } else { t with b := t.b.modify i (fun n => satAdd 16 n 1) }

/-- Counts an event in the open tally of its key, which opens in key order while fewer than 1,024 are open (R170, R234). -/
def tapInto (key : BitVec 32) (i : Nat) (pol room : Bool) : List OpenTally → List OpenTally
  | [] => if room then [({ key := key, a := List.replicate 16 0, b := List.replicate 16 0 } : OpenTally).count i pol] else []
  | t :: l =>
    if t.key = key then t.count i pol :: l
    else if key.toNat < t.key.toNat ∧ room then
      ({ key := key, a := List.replicate 16 0, b := List.replicate 16 0 } : OpenTally).count i pol :: t :: l
    else t :: tapInto key i pol room l

/-- The tally unit's tap of one mapped event (R115, R170, R234). The taps of a sleeping Gallery wake it (R432). -/
def Dev.tallyTap (d : Dev) (g : Fin 8) (port tile x y s : Nat) (pol : Bool) : Dev :=
  if (d.gal g).st ≠ .run then d
  else if !d.domOn (4 + g.val) then d.wakeEvent (4 + g.val)
  else
    let key := d.tallyKey port tile
    let l := (d.gal g).tallies
    let room := decide (l.length < 1024)
    if !room ∧ !(l.any (fun t => t.key == key)) then d.bump (R.GAL_TALLY_DROP_CNT g) F.GAL_TALLY_DROP_CNT_TALLY
    else d.updGal g (fun z => { z with tallies := tapInto key (cellOf x y s) pol room z.tallies })

/-- Number of ones of a word. -/
def popcount (w : BitVec 32) : Nat := ((List.range 32).filter (fun i => bit w i)).length

/-- The features and the signature of a tally at close (R236). -/
def OpenTally.close (t : OpenTally) (fshift act : Nat) : Tally :=
  let sum (i : Nat) : Nat := t.a.getD i 0 + t.b.getD i 0
  let diff (i : Nat) : Int := (t.a.getD i 0 : Int) - t.b.getD i 0
  let f0 := (List.range 16).map (fun i => BitVec.ofNat 8 (min 127 (sum i / 2 ^ fshift)))
  let f1 := (List.range 16).map (fun i => BitVec.ofInt 8 (clamp (-128) 127 (diff i / ((2 ^ fshift : Nat) : Int))))
  let on := (List.range 16).filter (fun i => act ≤ sum i)
  let up := on.filter (fun i => t.b.getD i 0 < t.a.getD i 0)
  { key := t.key, sig := BitVec.ofNat 32 (maskOf (on ++ up.map (fun i => 16 + i))), feats := f0 ++ f1 }

/-- Whether the Compass unit acts: enabled, its Gallery in RUN and its domain on (Table 8.6). -/
def Dev.cmpOn (d : Dev) (g : Fin 8) : Bool :=
  d.rf (R.CMP_CTL g) F.CMP_CTL_EN == 1 && (d.gal g).st == .run && d.domOn (4 + g.val)

/-- A closed tally reaches the Compass unit's queue (R237). -/
def Dev.receiveTally (d : Dev) (g : Fin 8) (t : Tally) : Dev :=
  if !d.cmpOn g then d
  else
    let d := d.bump (R.CMP_TALLY_CNT g) F.CMP_TALLY_CNT_TALLY
    if 1024 ≤ (d.gal g).cmp.queue.length then d.bump (R.CMP_DROP_CNT g) F.CMP_DROP_CNT_QFULL
    else d.updCmp g (fun c => { c with queue := c.queue ++ [t] })

/-- A closed tally's features go to job EJOB (R239). -/
def Dev.embed (d : Dev) (g : Fin 8) (t : Tally) : Dev :=
  if d.rf (R.CMP_TALLY_CFG g) F.CMP_TALLY_CFG_EMBED_EN = 0 then d
  else
    let job : Job := { desc := d.rf (R.CMP_TALLY_CFG g) F.CMP_TALLY_CFG_EJOB, n := 1, rows := [t.feats], reads := 0, src := .embed, chain := 0 }
    let r := d.submitJob g job (d.galSlice g)
    if r.1 = 0 then r.2 else r.2.bump (R.CMP_EMBED_DROP g) F.CMP_EMBED_DROP_EMBED

/-! ### Candidates and scores -/

/-- cmp_hash (R242). -/
def cmpHash (key salt : BitVec 32) : BitVec 32 :=
  let x := key ^^^ salt
  let x := x ^^^ (x >>> 16)
  let x := x * 0x45D9F3B5#32
  x ^^^ (x >>> 13)

/-- The four candidates of a key (R242); none where there is no pool. -/
def candidates (key salt : BitVec 32) (pool : Nat) : List Nat :=
  if pool = 0 then [] else
  let h := (cmpHash key salt).toNat
  let h1 := h % 65536 % pool
  let h2 := Nat.lor (h / 65536 % pool) 1
  [h1 % pool, (h1 + h2) % pool, (h1 + 2 * h2) % pool, (h1 + 3 * h2) % pool]

/-- Drops candidates equal to a lower one (R243). -/
def firstOnes : List Nat → List Nat → List Nat
  | _, [] => []
  | seen, x :: l => if seen.contains x then firstOnes seen l else x :: firstOnes (x :: seen) l

/-- An expert table entry (Table 8.2). -/
def Dev.expert (d : Dev) (g e : Nat) : BitVec 64 := d.reg (R.CMP_EXP g (2 * e + 1)) ++ d.reg (R.CMP_EXP g (2 * e))

/-- VALID, UNREACH, home chip index, home Gallery, JOB and BIAS of an entry. -/
def exValid (w : BitVec 64) : Bool := bit w 63
/-- UNREACH. -/
def exUnreach (w : BitVec 64) : Bool := bit w 62
/-- Home chip, as an index. -/
def exChip (w : BitVec 64) : Nat := chipIndex (bits w 54 49)
/-- Home Gallery. -/
def exGallery (w : BitVec 64) : Nat := bits w 48 46
/-- JOB. -/
def exJob (w : BitVec 64) : Nat := bits w 45 40
/-- BIAS. -/
def exBias (w : BitVec 64) : Int := sext 8 (bits w 39 32)

/-- The score of a candidate (R244). -/
def score (sig : BitVec 32) (w : BitVec 64) : Int := 8 * popcount (~~~(sig ^^^ w.setWidth 32)) + exBias w

/-- Inserts a scored candidate behind every candidate of its score or a higher one (R244). -/
def insertScore (p : Int × Nat) : List (Int × Nat) → List (Int × Nat)
  | [] => [p]
  | q :: l => if q.1 < p.1 then p :: q :: l else q :: insertScore p l

/-- Scores a tally's candidates (R242 to R244): in order, and how many were UNREACH. -/
def Dev.scoreTally (d : Dev) (g : Fin 8) (t : Tally) : List Nat × Nat :=
  let c := firstOnes [] (candidates t.key (d.reg (R.CMP_SALT g)) (d.rf (R.CMP_POOL g) F.CMP_POOL_SIZE))
  let ok := c.filter (fun e => !exUnreach (d.expert g e))
  (((ok.map (fun e => (score t.sig (d.expert g e), e))).foldl (fun l p => insertScore p l) []).map (·.2), c.length - ok.length)

/-! ### Batches and submission -/

/-- A row whose candidate is full passes to its next one, or is dropped (R245); a row of an erased port is discarded (R238). -/
def Dev.passRow (d : Dev) (g : Fin 8) (r : ExpRow) : Dev :=
  if d.fenced g r.port then d.bump (R.CMP_LATE_CNT g) F.CMP_LATE_CNT_ERASE
  else match r.cands.drop 1 with
    | [] => d.bump (R.CMP_DROP_CNT g) F.CMP_DROP_CNT_ALLFULL
    | l => (d.bump (R.CMP_FALL_CNT g) F.CMP_FALL_CNT_FALL).updCmp g (fun c => { c with rows := c.rows ++ [{ r with cands := l }] })

/-- An event of a Compass unit for Gallery `h` of chip `c` (Table 8.3). -/
def Dev.refEvent (d : Dev) (g : Fin 8) (c h axon part rem : Nat) : BitVec 64 :=
  mkEvent (chipField c) h axon 0 0 ((d.galSlice g).getD 0) 3 (part * 4 + rem)

/-- The 36 events of a train (R251). -/
def Dev.trainEvents (d : Dev) (g : Fin 8) (c h : Nat) (r : ExpRow) : List (BitVec 64) :=
  let src := chipField d.selfChip * 2 ^ 12 + g.val * 2 ^ 9
  let rem := r.cands.length - 1
  (List.range 36).map (fun k =>
    let v := if k < 4 then r.cands.getD k 0 else (r.feats.getD (k - 4) 0).toNat
    d.refEvent g c h (src + v) k (if k = 0 then rem else 0))

/-- A train moves into the forward buffer if it fits whole (R245, R253). -/
def Dev.sendTrain (d : Dev) (g : Fin 8) (c h : Nat) (r : ExpRow) : Dev :=
  if 576 < (d.gal g).cmp.fwd.length + 36 then d.passRow g r
  else (d.updCmp g (fun x => { x with fwd := x.fwd ++ d.trainEvents g c h r })).bump (R.CMP_TRAIN_CNT g) F.CMP_TRAIN_CNT_OUT

/-- The lowest free staging slot (R248). -/
def Compass.freeSlot (c : Compass) : Option Nat := (List.range 32).find? (fun i => !(c.staging.any (fun s => s.tag == i)))

/-- Submits a batch on one of the three paths (R247); a batch whose entry is not valid is taken as full. -/
def Dev.submitBatch (d : Dev) (g : Fin 8) (b : Batch) : Dev :=
  let w := d.expert g b.expert
  let d := d.updCmp g (fun c => { c with batches := c.batches.filter (fun x => x.expert != b.expert) })
  if !exValid w then d.forEach b.rows (fun r d => d.passRow g r)
  else if exChip w ≠ d.selfChip then d.forEach b.rows (fun r d => d.sendTrain g (exChip w) (exGallery w) r)
  else if exGallery w = g.val then
    let job : Job := { desc := exJob w, n := b.rows.length, rows := b.rows.map (·.feats), reads := 0, src := .compass, chain := 0 }
    let r := d.submitJob g job (d.galSlice g)
    if r.1 = 0 then r.2.bump (R.CMP_SUB_CNT g) F.CMP_SUB_CNT_SUB b.rows.length
    else r.2.forEach b.rows (fun x d => d.passRow g x)
  else match (d.gal g).cmp.freeSlot with
    | none => d.forEach b.rows (fun r d => d.passRow g r)
    | some i =>
      let ref := (d.gal g).cmp.nextRef
      let s : Staging := { tag := i, ref := ref, rows := b.rows, plane := exGallery w, job := exJob w, answered := false, reads := 2 * b.rows.length }
      let q : JobFlit := { word := jobFlit (exJob w) b.rows.length i d.selfChip g.val d.selfChip (exGallery w), ref := ref,
                           parcel := BitVec.ofNat 3 (d.flitParcel g.val) }
      (d.updCmp g (fun c => { c with staging := c.staging ++ [s], nextRef := ref + 1 })).send g (exGallery w) (.submit q)

/-- With the tally queue empty, every open batch is submitted (R246). -/
def Dev.flushBatches (d : Dev) (g : Fin 8) : Dev :=
  if d.cmpOn g = true ∧ (d.gal g).cmp.queue.isEmpty then
    d.forEach (d.gal g).cmp.batches (fun b d => d.submitBatch g b)
  else d

/-- A row joins the batch of its expert, or opens one, the oldest of sixteen going first; a batch of eight rows is submitted (R246). -/
def Dev.placeRow (d : Dev) (g : Fin 8) (r : ExpRow) : Dev :=
  match r.cands with
  | [] => d.bump (R.CMP_DROP_CNT g) F.CMP_DROP_CNT_ALLFULL
  | e :: _ =>
    let d :=
      if (d.gal g).cmp.batches.any (fun b => b.expert == e) then
        d.updCmp g (fun c => { c with batches := mapFirst (fun b => b.expert == e) (fun b => { b with rows := b.rows ++ [r] }) c.batches })
      else
        let d := if 16 ≤ (d.gal g).cmp.batches.length then
            (match (d.gal g).cmp.batches with
              | b :: _ => d.submitBatch g b
              | [] => d)
          else d
        d.updCmp g (fun c => { c with batches := c.batches ++ [{ expert := e, rows := [r] }] })
    match (d.gal g).cmp.batches.find? (fun b => b.expert == e) with
    | some b => if 8 ≤ b.rows.length then d.submitBatch g b else d
    | none => d

/-- Step 3 of the tick turn in a Gallery: tallies that still wait are retired, then the ending tick's tallies close in key order (R170,
R237). -/
def Dev.closeTallies (d : Dev) (g : Fin 8) : Dev :=
  if !d.domOn (4 + g.val) then d
  else
    let late := (d.gal g).cmp.queue.length + (d.gal g).cmp.rows.length
    let d := (d.bump (R.CMP_LATE_CNT g) F.CMP_LATE_CNT_LATE late).updCmp g (fun c => { c with queue := [], rows := [] })
    let l := (d.gal g).tallies
    let d := d.updGal g (fun x => { x with tallies := [] })
    let fs := d.rf (R.CMP_TALLY_CFG g) F.CMP_TALLY_CFG_FSHIFT
    let act := d.rf (R.CMP_TALLY_CFG g) F.CMP_TALLY_CFG_SIG_ACT
    (d.forEach l (fun t d => (d.embed g (t.close fs act)).receiveTally g (t.close fs act))).flushBatches g

/-- The erase request of a port reaches the tally and Compass units (R238); a queue that it empties lets the open batches go (R246). -/
def Dev.cmpErase (d : Dev) (g : Fin 8) (p : Nat) : Dev :=
  let keep (r : ExpRow) : Bool := r.port != some p
  let x := d.gal g
  let n := (x.tallies.filter (fun t => keyPort t.key == p)).length + (x.cmp.queue.filter (fun t => keyPort t.key == p)).length
    + (x.cmp.rows.filter (fun r => !keep r)).length + ((x.cmp.batches.map (fun b => (b.rows.filter (fun r => !keep r)).length)).sum)
  let d := d.bump (R.CMP_LATE_CNT g) F.CMP_LATE_CNT_ERASE n
  let d := d.updGal g (fun x => { x with tallies := x.tallies.filter (fun t => keyPort t.key != p) })
  let d := d.updCmp g (fun c =>
    { c with queue := c.queue.filter (fun t => keyPort t.key != p), rows := c.rows.filter keep,
             batches := (c.batches.map (fun b => { b with rows := b.rows.filter keep })).filter (fun b => !b.rows.isEmpty) })
  d.flushBatches g

/-- TALLY_SCORE: a row that waits for its next candidate is placed, else the queue's head is scored and placed (R242 to R246). -/
def tallyScore (g : Fin 8) (d : Dev) : Dev :=
  if !d.cmpOn g then d
  else match (d.gal g).cmp.rows, (d.gal g).cmp.queue with
    | r :: t, _ => ((d.updCmp g (fun c => { c with rows := t })).placeRow g r).flushBatches g
    | [], t :: q =>
      let d := d.updCmp g (fun c => { c with queue := q })
      let s := d.scoreTally g t
      let d := d.bump (R.CMP_DROP_CNT g) F.CMP_DROP_CNT_UNREACH s.2
      (d.placeRow g { feats := t.feats, cands := s.1, port := some (keyPort t.key) }).flushBatches g
    | [], [] => d

/-- TALLY_SCORE. -/
def execTallyScore (g : Fin 8) (s : State) : Host.Outcome State Fault Refusal := devStep s (tallyScore g)

/-- BATCH_SUBMIT: the `b`-th open batch is submitted (R246). -/
def execBatchSubmit (g : Fin 8) (b : Fin 16) (s : State) : Host.Outcome State Fault Refusal :=
  devStep s (fun d => match (d.gal g).cmp.batches[b.val]? with
    | some x => if d.cmpOn g then d.submitBatch g x else d
    | none => d)

/-- A Compass unit takes the answer to a VN-Q submission (R245, R246, R248); one whose request is no longer outstanding, by its tag and its
reference, is discarded (R191). -/
def Dev.takeAnswer (d : Dev) (g : Fin 8) (a : JobAnswer) (code : Fin 8) : Dev :=
  let here (s : Staging) : Bool := s.tag == a.tag.toNat && s.ref == a.ref
  match (d.gal g).cmp.staging.find? here with
  | none => d
  | some s =>
    if s.answered then d
    else if code.val = 0 then
      (d.updCmp g (fun c => { c with staging := mapFirst here (fun x => { x with answered := true }) c.staging })).bump
        (R.CMP_SUB_CNT g) F.CMP_SUB_CNT_SUB s.rows.length
    else
      let d := d.updCmp g (fun c => { c with staging := c.staging.filter (fun x => !here x) })
      d.forEach s.rows (fun r d => d.passRow g r)

/-- JOB_RESPONSE: a VN-P response reaches the submitter's node (R183, R245). -/
def jobResponse (g : Fin 8) (a : JobAnswer) (code : Fin 8) (d : Dev) : Dev :=
  d.meetNode g a.parcel.toNat (.answer a code) (fun d => d.takeAnswer g a code)

/-- JOB_RESPONSE. -/
def execJobResponse (g : Fin 8) (a : JobAnswer) (code : Fin 8) (s : State) : Host.Outcome State Fault Refusal := devStep s (jobResponse g a code)

/-- Zeroes and frees a staging slot (R248). -/
def Dev.freeStaging (d : Dev) (g : Fin 8) (slot : Nat) : Dev :=
  d.updCmp g (fun c => { c with staging := c.staging.filter (fun x => x.tag != slot) })

/-- STAGING_TIMEOUT (R248). -/
def execStagingTimeout (g : Fin 8) (slot : Fin 32) (s : State) : Host.Outcome State Fault Refusal :=
  devStep s (fun d => d.freeStaging g slot.val)

/-- Whether a plane awaits weights over the stack rail. -/
def Dev.awaitsStack (d : Dev) (p : Fin 8) : Bool := match d.nextLoad p with
  | some (w, _) => bits w 39 38 == 1
  | none => false

/-- A request that waits at a stack node is abandoned: its requester gets an error; a Gallery's is counted at its node (R191, R337). -/
def Dev.dropQueued (d : Dev) (s : Fin 4) (sys : Bool) (i : Nat) : Dev :=
  match (if sys then (d.stk s).sys else (d.stk s).col)[i]? with
  | none => d
  | some x =>
    let d := d.updStk s (fun k => if sys then { k with sys := k.sys.eraseIdx i } else { k with col := k.col.eraseIdx i })
    let d := d.emit (.memError x.acc.req)
    match x.acc.req with
    | .gallery g => d.requestLost g
    | .master _ _ => d

/-- REQUEST_TIMEOUT: a request with no response within 10 µs is abandoned and its reservation freed (R191). A plane still in want of its
weights asks for them again. -/
def requestTimeout (g : Fin 8) (r : MeshRequest) (d : Dev) : Dev :=
  match r with
  | .submission slot =>
    if (d.gal g).cmp.staging.any (fun s => s.tag == slot.val && !s.answered) then (d.freeStaging g slot.val).requestLost g else d
  | .coldFetch slot =>
    if ((d.gal g).cold[slot]?).any (·.asked) then (d.freeCold g slot).requestLost g else d
  | .weightRead => if d.awaitsStack g then d.requestLost g else d
  | .queued sys i => d.dropQueued (columnOf g) sys i

/-- REQUEST_TIMEOUT. -/
def execRequestTimeout (g : Fin 8) (r : MeshRequest) (s : State) : Host.Outcome State Fault Refusal := devStep s (requestTimeout g r)

/-! ### Tally references -/

/-- PART of a tally reference event (Table 8.3). -/
def refPart (ev : BitVec 64) : Nat := fget evPayload ev / 4

/-- Discards a train and counts it INCOMPLETE (R252); the parts of it that still come are ignored. -/
def Dev.dropTrain (d : Dev) (g : Fin 8) (src : Nat × Nat) : Dev :=
  (d.updCmp g (fun c => { c with trains := c.trains.filter (fun t => (t.chip, t.gallery) != src), dead := src :: c.dead.erase src })).bump
    (R.CMP_TRAIN_ERR g) F.CMP_TRAIN_ERR_INCOMPLETE

/-- A context takes its next part. -/
def TrainCtx.take (t : TrainCtx) (part data : Nat) : TrainCtx :=
  if part < 4 then { t with next := part + 1, cands := if part ≤ t.rem then t.cands ++ [data] else t.cands }
  else { t with next := part + 1, feats := t.feats ++ [BitVec.ofNat 8 data] }

/-- Part 0 always begins a train (R251, R252). -/
def Dev.trainStart (d : Dev) (g : Fin 8) (src : Nat × Nat) (rem data : Nat) : Dev :=
  let d := if (d.gal g).cmp.trains.any (fun t => (t.chip, t.gallery) == src) then d.dropTrain g src else d
  if 32 ≤ (d.gal g).cmp.trains.length then
    (d.updCmp g (fun c => { c with dead := src :: c.dead.erase src })).bump (R.CMP_TRAIN_ERR g) F.CMP_TRAIN_ERR_NOCTX
  else
    let t : TrainCtx := { chip := src.1, gallery := src.2, next := 1, rem := rem, cands := [data], feats := [] }
    d.updCmp g (fun c => { c with trains := c.trains ++ [t], dead := c.dead.erase src })

/-- A train part (R251, R252). A part without a train, whose part 0 was lost, is out of sequence and discards its train; a part of a train
already discarded is ignored, and the last one ends that. -/
def Dev.trainPart (d : Dev) (g : Fin 8) (ev : BitVec 64) : Dev :=
  let a := fget evAxon ev
  let src := (a / 2 ^ 12, a / 2 ^ 9 % 8)
  let part := refPart ev
  let data := a % 256
  if part = 0 then d.trainStart g src (fget evPayload ev % 4) data
  else match (d.gal g).cmp.trains.find? (fun t => (t.chip, t.gallery) == src) with
    | none =>
      let d := if (d.gal g).cmp.dead.contains src then d else d.dropTrain g src
      if part = 35 then d.updCmp g (fun c => { c with dead := c.dead.erase src }) else d
    | some t =>
      if t.next ≠ part then
        (d.dropTrain g src).updCmp g (fun c => if part = 35 then { c with dead := c.dead.erase src } else c)
      else
        let t := t.take part data
        if part = 35 then
          let d := d.updCmp g (fun c => { c with trains := c.trains.filter (fun t => (t.chip, t.gallery) != src) })
          let d := (d.bump (R.CMP_TRAIN_CNT g) F.CMP_TRAIN_CNT_IN).bump (R.CMP_TALLY_CNT g) F.CMP_TALLY_CNT_TALLY
          (d.placeRow g { feats := t.feats, cands := t.cands, port := none }).flushBatches g
        else d.updCmp g (fun c => { c with trains := mapFirst (fun t => (t.chip, t.gallery) == src) (fun _ => t) c.trains })

/-- A LOAD report: the leader, while it collects, keeps one for each expert (R256). -/
def Dev.loadReport (d : Dev) (g : Fin 8) (ev : BitVec 64) : Dev :=
  let a := fget evAxon ev
  if d.rf (R.CMP_BEAR_LEADER g) F.CMP_BEAR_LEADER_SELF = 1 ∧ (d.gal g).cmp.collecting then
    d.updCmp g (fun c => { c with reports := c.reports.filter (fun r => r.1 != a / 1024) ++ [(a / 1024, a % 1024)] })
  else d

/-- Writes the BIAS of an entry. -/
def Dev.setBias (d : Dev) (g : Fin 8) (e b : Nat) : Dev :=
  d.setReg (R.CMP_EXP g (2 * e + 1)) (fput ⟨0, 8⟩ (d.reg (R.CMP_EXP g (2 * e + 1))) b)

/-- A BIAS update (R258). -/
def Dev.biasUpdate (d : Dev) (g : Fin 8) (ev : BitVec 64) : Dev :=
  let a := fget evAxon ev
  if a / 1024 < d.rf (R.CMP_POOL g) F.CMP_POOL_SIZE then d.setBias g (a / 1024) (a / 4 % 256) else d

/-- A tally reference event at the Compass unit (R250, Table 8.3). -/
def Dev.takeRef (d : Dev) (g : Fin 8) (ev : BitVec 64) : Dev :=
  let d := d.updCmp g (fun c => { c with refs := c.refs.erase ev })
  if !d.cmpOn g then d
  else if fget evAdly ev ≠ 0 ∨ some (fget evSlice ev) ≠ d.galSlice g ∨ (36 ≤ refPart ev ∧ refPart ev ≤ 61) then
    d.bump (R.CMP_REF_ERR g) F.CMP_REF_ERR_REF
  else if refPart ev < 36 then d.trainPart g ev
  else if refPart ev = 62 then d.loadReport g ev
  else d.biasUpdate g ev

/-- TRAIN_PART. -/
def execTrainPart (g : Fin 8) (ev : BitVec 64) (s : State) : Host.Outcome State Fault Refusal := devStep s (fun d => d.takeRef g ev)

/-- LOAD_EVENT. -/
def execLoadEvent (g : Fin 8) (ev : BitVec 64) (s : State) : Host.Outcome State Fault Refusal := devStep s (fun d => d.takeRef g ev)

/-- BIAS_EVENT. -/
def execBiasEvent (g : Fin 8) (ev : BitVec 64) (s : State) : Host.Outcome State Fault Refusal := devStep s (fun d => d.takeRef g ev)

/-- TRAIN_TIMEOUT (R252). -/
def execTrainTimeout (g : Fin 8) (ctx : Fin 32) (s : State) : Host.Outcome State Fault Refusal :=
  devStep s (fun d => match (d.gal g).cmp.trains[ctx.val]? with
    | some t => d.dropTrain g (t.chip, t.gallery)
    | none => d)

/-! ### The Bearing loop -/

/-- A LOAD or BIAS event enters the forward buffer, or is lost (R256). -/
def Dev.sendRef (d : Dev) (g : Fin 8) (c h part axon : Nat) : Dev :=
  if 576 ≤ (d.gal g).cmp.fwd.length then d.bump (R.CMP_BEAR_LOST g) F.CMP_BEAR_LOST_LOST
  else d.updCmp g (fun x => { x with fwd := x.fwd ++ [d.refEvent g c h axon part 0] })

/-- Valid experts of the pool. -/
def Dev.validExperts (d : Dev) (g : Fin 8) : List Nat :=
  (List.range (d.rf (R.CMP_POOL g) F.CMP_POOL_SIZE)).filter (fun e => exValid (d.expert g e))

/-- Settings of EXPERT_SET_BEARING take effect (Table 8.4), their period in ticks of the length now in use (R255). -/
def Dev.applyBearing (d : Dev) (g : Fin 8) : Dev :=
  match (d.gal g).cmp.nextCfg with
  | none => d
  | some c =>
    let d := d.setReg (R.CMP_BEAR_CFG g) (BitVec.ofNat 32 (bearTicks c.ms d.dat.tperiod % 65536 * 2 ^ 16 + c.lshift * 256 + c.tol * 16 + c.step))
    (d.setRf (R.CMP_CTL g) F.CMP_CTL_BEAR_EN (b2n c.en)).updCmp g (fun x => { x with nextCfg := none, ms := c.ms })

/-- One expert's load moves to LAST and is reported (R256). -/
def Dev.closeLoad (d : Dev) (g : Fin 8) (e : Nat) : Dev :=
  let w := d.expert g e
  if exChip w ≠ d.selfChip ∨ exGallery w ≠ g.val then d
  else
    let n := d.reg (R.CMP_LOAD_NOW g (exJob w))
    let d := (d.setReg (R.CMP_LOAD_LAST g (exJob w)) n).setReg (R.CMP_LOAD_NOW g (exJob w)) 0
    if d.rf (R.CMP_CTL g) F.CMP_CTL_BEAR_EN = 0 then d
    else
      let l := min 1023 (n.toNat / 2 ^ d.rf (R.CMP_BEAR_CFG g) F.CMP_BEAR_CFG_LSHIFT)
      d.sendRef g (d.rf (R.CMP_BEAR_LEADER g) F.CMP_BEAR_LEADER_LCHIP) (d.rf (R.CMP_BEAR_LEADER g) F.CMP_BEAR_LEADER_LGAL) 62 (e * 1024 + l)

/-- BEARING_PERIOD_END: at a turn marker whose count is a multiple of BT (R255, R256, R259). -/
def bearingPeriodEnd (g : Fin 8) (d : Dev) : Dev :=
  if !d.cmpOn g ∨ d.tick % d.rf (R.CMP_BEAR_CFG g) F.CMP_BEAR_CFG_BT ≠ 0 then d
  else
    let d := (d.applyBearing g).bump (R.CMP_BEAR_CNT g) F.CMP_BEAR_CNT_PERIODS
    let lead : Bool := d.rf (R.CMP_CTL g) F.CMP_CTL_BEAR_EN = 1 && d.rf (R.CMP_BEAR_LEADER g) F.CMP_BEAR_LEADER_SELF = 1
    let d := if lead then d.updCmp g (fun c => { c with collecting := true, reports := [] }) else d
    d.forEach (d.validExperts g) (fun e d => d.closeLoad g e)

/-- BEARING_PERIOD_END. -/
def execBearingPeriodEnd (g : Fin 8) (s : State) : Host.Outcome State Fault Refusal := devStep s (bearingPeriodEnd g)

/-- The Galleries marked in CMP_BEAR_DEST, as (chip, Gallery) (Table 8.6). -/
def Dev.bearDests (d : Dev) (g : Fin 8) : List (Nat × Nat) :=
  (List.range 16).flatMap (fun k => ((List.range 32).filter (fun i => bit (d.reg (R.CMP_BEAR_DEST g k)) i)).map (fun i => (4 * k + i / 8, i % 8)))

/-- Sends a bias to every marked Gallery (R258). -/
def Dev.sendBias (d : Dev) (g : Fin 8) (e : Nat) (b : Int) : Dev :=
  d.forEach (d.bearDests g) (fun x d => d.sendRef g x.1 x.2 63 (e * 1024 + toTwos 8 b * 4))

/-- The bias that the step gives an expert of load `l` (R257). -/
def bearBias (m band step l : Nat) (b : Int) : Int :=
  clamp (-64) 64 (if m + band < l then b - step else if l + band < m then b + step else b)

/-- BEARING_STEP: the leader's step over its reports (R257, R258). -/
def bearingStep (g : Fin 8) (d : Dev) : Dev :=
  if !d.cmpOn g ∨ !(d.gal g).cmp.collecting then d
  else
    let reports := (d.gal g).cmp.reports.filter (fun r => (d.validExperts g).contains r.1)
    let miss := (d.validExperts g).length - reports.length
    let d := (d.bump (R.CMP_BEAR_CNT g) F.CMP_BEAR_CNT_MISS miss).updCmp g (fun c => { c with collecting := false, reports := [] })
    if reports.isEmpty ∨ d.rf (R.CMP_CTL g) F.CMP_CTL_BEAR_EN = 0 then d
    else
      let load (r : Nat × Nat) : Nat := r.2 * 2 ^ d.rf (R.CMP_BEAR_CFG g) F.CMP_BEAR_CFG_LSHIFT
      let m := (reports.map load).sum / reports.length
      let band := m * d.rf (R.CMP_BEAR_CFG g) F.CMP_BEAR_CFG_TOL / 16
      d.forEach reports (fun r d =>
        let b := exBias (d.expert g r.1)
        let b' := bearBias m band (d.rf (R.CMP_BEAR_CFG g) F.CMP_BEAR_CFG_STEP) (load r) b
        if b' = b then d else d.sendBias g r.1 b')

/-- BEARING_STEP. -/
def execBearingStep (g : Fin 8) (s : State) : Host.Outcome State Fault Refusal := devStep s (bearingStep g)

end Sys2Proof.Machine
end

