-- ==== Sys2Proof/Machine/Time.lean ====
section
/-!
DEFINITION. The Datum block: acquisition, slew, lock, holdover, the Datum block's part of the tick turn, and the Time commands that set
it (01_time_and_datum.md). Periods and times are in units of 10 ns.
-/
namespace Sys2Proof.Machine

/-- Changes the Datum block. -/
def Dev.updDat (d : Dev) (f : Datum → Datum) : Dev := { d with dat := f d.dat }

/-- Whether this chip is a follower of its group (R37). -/
def Dev.follower (d : Dev) : Bool := d.rf R.TRV_GRP_STAT F.TRV_GRP_STAT_STATE == 3

/-- The time quality of a state (Table 1.2): 0 LOCKED, 1 HOLDOVER, 2 FREE. -/
def Datum.quality (t : Datum) : Nat :=
  match t.st with
  | .free => 2
  | .acquire | .slew | .follow => t.entryQual
  | .locked => 0
  | .holdover => 1

/-- The DAT_STAT word (Table 1.9). -/
def Dev.datStat (d : Dev) : Nat :=
  d.dat.st.code + d.dat.reason * 16 + b2n d.dat.stepPend * 128 + d.dat.qual * 256 + b2n d.follower * 1024

/-- The accepted periods of a source (Table 1.1), as bounds. -/
def sourceRange (src : Nat) : Nat × Nat := if src = 1 then (1400000, 2500000) else (10000, 200000000)

/-- Whether a period gives a tick between 20 µs and 20 ms under a ratio (R28). -/
def tickOk (p mul div : Nat) : Bool := 2000 * div ≤ p * mul && p * mul ≤ 2000000 * div

/-- Whether a period is valid for a source and ratio (R27, R28). -/
def periodOk (src p mul div : Nat) : Bool := (sourceRange src).1 ≤ p && p ≤ (sourceRange src).2 && tickOk p mul div

/-- Whether a source has a usable period under a ratio (R28): the longest of the shortest bounds is within the shortest of the
longest. -/
def sourceUsable (src mul div : Nat) : Bool :=
  max (sourceRange src).1 ((2000 * div + mul - 1) / mul) ≤ min (sourceRange src).2 (2000000 * div / mul)

/-- DAT_MUL. -/
def Dev.mul (d : Dev) : Nat := d.rf R.DAT_RATIO F.DAT_RATIO_MUL
/-- DAT_DIV. -/
def Dev.div (d : Dev) : Nat := d.rf R.DAT_RATIO F.DAT_RATIO_DIV
/-- DAT_CTL.SRC. -/
def Dev.src (d : Dev) : Nat := d.rf R.DAT_CTL F.DAT_CTL_SRC

/-- Whether two periods differ by more than `n` 1,024ths of the second. -/
def differs (p q n : Nat) : Bool := decide (n * q < (if p < q then q - p else p - q) * 1024)

/-- Whether any parcel is in Run. -/
def Dev.anyRun (d : Dev) : Bool := (List.finRange 8).any (fun q => (d.pcl q).st == .run)

/-- A DATUM fault record and a TIME notice with DAT_STAT (R38, R41). -/
def Dev.datumFault (d : Dev) : Dev := (d.raiseFrom 0x06 (Flt.datum d.datStat)).timeNotice d.datStat

/-- The device loses the Datum (R38): HOLDOVER with a reason, the last mean period held. -/
def Dev.enterHoldover (d : Dev) (reason : Nat) : Dev :=
  let d := d.updDat (fun t => { t with st := .holdover, reason := reason, entryQual := 1, held := some t.period, run := [], err := 0,
                                       projected := t.lastValid })
  (d.bump R.DAT_LOSS_CNT F.DAT_LOSS_CNT_LOSS).datumFault

/-- Whether a loss takes the device to HOLDOVER from where it is (Table 1.2). -/
def Datum.canLose (t : Datum) : Bool := t.st == .slew || t.st == .locked

/-- The instant at which the Datum is lost for want of an edge: DAT_TOL.LOSS eighths of the held mean period after the last valid
edge (R38). -/
def Dev.lossAt (d : Dev) : Nat := d.dat.lastValid.getD 0 + d.rf R.DAT_TOL F.DAT_TOL_LOSS * d.dat.period / 8

/-- The Datum is lost as MISSING where the limit has passed before now (R38): the case that occurs first decides the reason. -/
def Dev.lossCheck (d : Dev) : Dev := if d.dat.canLose ∧ !d.follower ∧ d.lossAt < d.clk then d.enterHoldover 1 else d

/-- The phase error of a turn against the anchor of an edge (R29, R30): modulo a tick period, in the shorter direction; a turn
later than its target is positive. -/
def phaseError (turn edge off period tp : Nat) : Int :=
  if tp = 0 then 0
  else
    let e := ((turn : Int) - (edge + off * period / 256 : Nat)) % (tp : Int)
    if (tp : Int) < 2 * e then e - tp else e

/-- Measures the phase error of the coming turn at an anchor (R30, DAT_PHERR): the correction of the tick under way has been taken. -/
def Dev.measurePhase (d : Dev) (edge : Nat) : Dev :=
  let e := phaseError (d.dat.lastTurn + d.dat.turnLen) edge (d.rf R.DAT_PHASE F.DAT_PHASE_OFFSET) d.dat.period (d.dat.period * d.mul / d.div)
  (d.updDat (fun t => { t with err := e, lastAnchor := some edge })).setReg R.DAT_PHERR (BitVec.ofInt 32 e)

/-- The mean of a list of periods. -/
def mean (l : List Nat) : Nat := if l.isEmpty then 0 else l.sum / l.length

/-- Adopts a period and slews toward its grid (Table 1.2, R33, R41); the edge is the first anchor. The periods whose mean the grid
then follows are the valid ones since the run that acquired it (DEDUCED, log entry 14). -/
def Dev.adoptPeriod (d : Dev) (p edge : Nat) : Dev :=
  let d := d.updDat (fun t => { t with st := .slew, period := p, recent := t.seen, edges := 0, run := [], pend := none, stepPend := false, accept := false })
  d.measurePhase edge

/-- ACQUIRE has obtained a period (R35, R41). In HOLDOVER on a step the phase is projected from the last valid edge (R109). -/
def Dev.acquired (d : Dev) (p edge : Nat) : Dev :=
  let step : Bool := match d.dat.held with
    | some h => differs p h (d.rf R.DAT_TOL F.DAT_TOL_BAND)
    | none => false
  if step ∧ d.anyRun then
    (d.updDat (fun t => { t with st := .holdover, reason := 2, stepPend := true, pend := some p, projected := t.lastValid })).datumFault
  else d.adoptPeriod p edge

/-- A valid period in ACQUIRE: four consecutive ones, each within ACQ of the one before, acquire the Datum (R35). Which value the
acquired period then has the spec does not say: the model takes the mean of the four (DESIGN CHOICE, log entry 53). The last valid
periods are the run's from then on (log entry 14). -/
def Dev.acquireEdge (d : Dev) (p edge : Nat) : Dev :=
  let run := match d.dat.run with
    | [] => [p]
    | q :: t => if differs p q (d.rf R.DAT_TOL F.DAT_TOL_ACQ) then [p] else p :: q :: t
  let d := d.updDat (fun t => { t with run := run })
  if 4 ≤ run.length then (d.updDat (fun t => { t with seen := run })).acquired (mean run) edge else d

/-- A valid period in SLEW or LOCKED: a period off the held mean by more than BAND is a loss; otherwise the mean of the last 8 follows,
and every DAT_MUL-th edge is an anchor (R29, R30, R38). -/
def Dev.trackEdge (d : Dev) (p edge : Nat) : Dev :=
  if differs p d.dat.period (d.rf R.DAT_TOL F.DAT_TOL_BAND) then d.enterHoldover 2
  else
    let d := d.updDat (fun t =>
      let r := (p :: t.recent).take 8
      { t with recent := r, period := mean r, edges := t.edges + 1 })
    if d.mul ≤ d.dat.edges then (d.updDat (fun t => { t with edges := 0 })).measurePhase edge else d

/-- An edge of the selected source arrives (R25, R27): its period since the edge before is measured. After an edge whose period was not
valid the next period is measured from that edge, not from the last valid one: the spec does not say which (DESIGN CHOICE, log entry 53).
An edge in HOLDOVER returns the device to ACQUIRE unless a step is pending (Table 1.2, R41). -/
def Dev.datumEdge (d : Dev) : Dev :=
  let now := d.clk
  let d := if d.dat.st = .holdover ∧ d.dat.stepPend = false then d.updDat (fun t => { t with st := .acquire, entryQual := 1, run := [] }) else d
  let last := d.dat.lastMeasured
  let d := d.updDat (fun t => { t with lastMeasured := some now })
  match last with
  | none => d
  | some m =>
    let p := now - m
    if periodOk d.src p d.mul d.div then
      let d := d.updDat (fun t => { t with lastValid := some now, seen := (p :: t.seen).take 8 })
      match d.dat.st with
      | .acquire => d.acquireEdge p now
      | .slew | .locked => d.trackEdge p now
      | _ => d
    else if d.dat.st = .acquire then d.updDat (fun t => { t with run := [] })
    else d

/-- Whether an input is an edge of the selected source (R23 to R25). -/
def Dev.isSource (d : Dev) (i : DatumIn) : Bool :=
  match i with
  | .glitch => false
  | .pin falling => (d.src == 1 || d.src == 3) && falling == (d.rf R.DAT_CTL F.DAT_CTL_EDGE == 1)
  | .sync port line => d.src == 2 && d.rf R.DAT_CTL F.DAT_CTL_PORT == port.val && line == (d.rf R.DAT_CTL F.DAT_CTL_SYNC == 1)

/-- An input of the Datum block (R25, R37). -/
def Dev.datumInput (d : Dev) (i : DatumIn) : Dev :=
  if i = .glitch then d.bump R.DAT_GLITCH_CNT F.DAT_GLITCH_CNT_GLITCH
  else if d.follower ∨ !d.isSource i then d
  else d.lossCheck.datumEdge

/-- DATUM_EDGE: `dt` units of 10 ns after the command before it. -/
def execDatumEdge (dt : Nat) (i : DatumIn) (s : State) : Host.Outcome State Fault Refusal :=
  devStep s (fun d => (d.advance dt).datumInput i)

/-- DATUM_LOSS: no valid edge within the loss limit (R38, MISSING). Before the limit nothing is lost. -/
def execDatumLoss (s : State) : Host.Outcome State Fault Refusal :=
  devStep s (fun d => if d.dat.canLose ∧ !d.follower ∧ d.lossAt ≤ d.clk then d.enterHoldover 1 else d)

/-- The port that supplies the Datum leaves RUN (R38, SOURCE_PORT_DOWN). -/
def Dev.sourcePortDown (d : Dev) (p : Nat) : Dev :=
  if d.src = 2 ∧ d.rf R.DAT_CTL F.DAT_CTL_PORT = p ∧ !d.follower then
    (let d := d.lossCheck
     if d.dat.canLose then d.enterHoldover 3 else d)
  else d

/-- Sets the tick period in use; the mesh's admitted rate and the Bearing periods of the loaded parcels follow it (R187, R255). -/
def Dev.setTickPeriod (d : Dev) (tp : Nat) : Dev :=
  if tp = d.dat.tperiod then d
  else
    let d := (d.updDat (fun t => { t with tperiod := tp })).setReg R.MSH_ADMIT (BitVec.ofNat 32 (tp * 10 / 4))
    d.forEach (List.finRange 8) (fun g d =>
      if (d.parcelAt g.val).isSome then d.setRf (R.CMP_BEAR_CFG g) F.CMP_BEAR_CFG_BT (bearTicks (d.gal g).cmp.ms tp) else d)

/-- The tick period of the Datum period in use, where it lies between 20 µs and 20 ms (R28). A Datum period whose tick would not is not
accepted: the tick period stays (DEDUCED, log entry 14). -/
def Dev.followPeriod (d : Dev) : Dev :=
  if d.dat.period ≠ 0 ∧ tickOk d.dat.period d.mul d.div then d.setTickPeriod (d.dat.period * d.mul / d.div) else d

/-- The correction a tick takes toward zero phase error: at most 1/16 of a period (R33). -/
def slewStep (err : Int) (tp : Nat) : Int := clamp (-(tp / 16 : Nat)) (tp / 16 : Nat) err

/-- SLEW gives way to LOCKED when the error is within 1/256 of the Datum period (Table 1.2). -/
def Datum.lockStep (t : Datum) : Datum :=
  if t.st = .slew ∧ t.err.natAbs * 256 ≤ t.period then { t with st := .locked, reason := 0, held := none } else t

/-- The Datum block's part of a tick turn (Table 1.3 step 1; R30, R31, R33, R39, R41, R45): a pending step
is adopted once accepted, or once no parcel runs; a loss that is overdue comes first (R38). In HOLDOVER the held period keeps giving the
tick, under the ratio in force. A follower that slews back returns to FOLLOW
within 10 ns (R329). -/
def Dev.datumTurn (d : Dev) : Dev :=
  let d := d.lossCheck
  let d := if d.dat.accept ∨ (d.dat.stepPend ∧ !d.anyRun) then
      (match d.dat.pend with
       | some p => d.adoptPeriod p (d.dat.lastValid.getD d.clk)
       | none => d.updDat (fun t => { t with accept := false }))
    else d
  let d := match d.dat.st with
    | .free => d.setTickPeriod (d.rf R.DAT_FREE_PERIOD F.DAT_FREE_PERIOD_FPERIOD)
    | .acquire =>
      if d.dat.entryQual = 2 ∧ d.dat.recent.isEmpty then d.setTickPeriod (d.rf R.DAT_FREE_PERIOD F.DAT_FREE_PERIOD_FPERIOD) else d
    | .slew | .locked => d.followPeriod
    | .holdover => if d.follower then d else d.followPeriod
    | _ => d
  let d := if d.dat.st = .holdover then d.bump R.DAT_HOLD_TICKS F.DAT_HOLD_TICKS_HOLD else d
  d.updDat (fun t =>
    let t := t.lockStep
    let c := if t.st = .slew ∨ t.st = .locked ∨ d.grp.slewing = true then slewStep t.err t.tperiod else 0
    let t := { t with tick := (t.tick + 1) % 2 ^ 48, qual := t.quality, lastTurn := d.clk, err := t.err - c,
                      turnLen := ((t.tperiod : Int) - c).toNat }
    if d.grp.slewing = true ∧ t.err.natAbs ≤ 1 then { t with st := .follow, reason := 0 } else t)

/-- TIME_SET_SOURCE's row (Table 13.9). -/
def specTimeSetSource : CmdSpec := { op := 0x0501, rights := .pf, used := params 0 3 }

/-- ACQUIRE on a source, the tick period kept: quality HOLDOVER unless it was FREE (R36). -/
def Dev.enterAcquire (d : Dev) : Dev :=
  let q := if d.dat.quality = 2 then 2 else 1
  let held := if q = 1 then (if d.dat.canLose then some d.dat.period else d.dat.held <|> (if d.dat.period = 0 then none else some d.dat.period)) else none
  d.updDat (fun t => { t with st := .acquire, entryQual := q, held := held, stepPend := false, pend := none, accept := false,
                              run := [], lastMeasured := none, err := 0 })

/-- TIME_SET_SOURCE (R23 to R28, R36, R37). -/
def timeSetSource (c : Cmd) (d : Dev) : Reply Dev :=
  let src := c.p 0
  if 4 ≤ src then refused .field 0
  else if src = 2 ∧ c.p 3 < 16 ∧ !bit d.fus.ports (c.p 3) then refused .absent (c.p 3)
  else if src = 2 ∧ d.boot.lab then refused .mode
  else if 2 ≤ c.p 1 then refused .range 1
  else if 2 ≤ c.p 2 then refused .range 2
  else if 16 ≤ c.p 3 then refused .range 3
  else if src ≠ 0 ∧ !sourceUsable src d.mul d.div then refused .range 0
  else
    let old := d.reg R.DAT_CTL
    let new := BitVec.ofNat 32 (src + c.p 3 * 16 + c.p 1 * 256 + c.p 2 * 512)
    let e := d.setReg R.DAT_CTL new
    if d.follower ∨ old = new then done e
    else if src = 0 then
      done (e.updDat (fun t => { t with st := .free, reason := 0, held := none, stepPend := false, pend := none, accept := false,
                                        run := [], recent := [], lastMeasured := none, err := 0, entryQual := 2 }))
    else done e.enterAcquire

/-- TIME_SET_SOURCE. -/
def execTimeSetSource (c : Cmd) (s : State) : Host.Outcome State Fault Refusal := cmdStep specTimeSetSource timeSetSource c s

/-- TIME_SET_RATIO's row. -/
def specTimeSetRatio : CmdSpec := { op := 0x0502, rights := .pf, used := params 0 0 ++ params 2 7 }

/-- TIME_SET_RATIO (R28, R31, R32). -/
def timeSetRatio (c : Cmd) (d : Dev) : Reply Dev :=
  let mul := c.p 0
  let div := c.pn 2 2
  let fp := c.pn 4 4
  if mul = 0 then refused .range 0
  else if div = 0 ∨ 4095 < div then refused .range 2
  else if fp ≠ 0 ∧ (fp < 2000 ∨ 2000000 < fp) then refused .range 4
  else if d.src ≠ 0 ∧ !sourceUsable d.src mul div then refused .range 0
  else if d.anyRun then busy PclSt.run.code
  else
    let d := d.setReg R.DAT_RATIO (BitVec.ofNat 32 (mul + div * 256))
    done (if fp = 0 then d else d.setReg R.DAT_FREE_PERIOD (BitVec.ofNat 32 fp))

/-- TIME_SET_RATIO. -/
def execTimeSetRatio (c : Cmd) (s : State) : Host.Outcome State Fault Refusal := cmdStep specTimeSetRatio timeSetRatio c s

/-- TIME_SET_PHASE's row. -/
def specTimeSetPhase : CmdSpec := { op := 0x0503, rights := .pf, used := params 0 0 }

/-- TIME_SET_PHASE: the new slew target from the tick the device is in (R34). -/
def timeSetPhase (c : Cmd) (d : Dev) : Reply Dev :=
  let d := d.setReg R.DAT_PHASE (BitVec.ofNat 32 (c.p 0))
  match d.dat.lastAnchor with
  | some e => done (if d.dat.canLose then d.measurePhase e else d)
  | none => done d

/-- TIME_SET_PHASE. -/
def execTimeSetPhase (c : Cmd) (s : State) : Host.Outcome State Fault Refusal := cmdStep specTimeSetPhase timeSetPhase c s

/-- TIME_ACCEPT_PERIOD's row. -/
def specTimeAcceptPeriod : CmdSpec := { op := 0x0504, rights := .pf }

/-- TIME_ACCEPT_PERIOD: a pending step is adopted at the next tick turn (R41). -/
def timeAcceptPeriod (_ : Cmd) (d : Dev) : Reply Dev :=
  if d.dat.stepPend then done (d.updDat (fun t => { t with accept := true })) 1 0 else done d 0 0

/-- TIME_ACCEPT_PERIOD. -/
def execTimeAcceptPeriod (c : Cmd) (s : State) : Host.Outcome State Fault Refusal := cmdStep specTimeAcceptPeriod timeAcceptPeriod c s

/-- TIME_SET_LABEL's row. -/
def specTimeSetLabel : CmdSpec := { op := 0x0505, rights := .pf, used := params 0 7 }

/-- TIME_SET_LABEL: the label is stored as written, and a LABEL record is logged (R51, R502). -/
def timeSetLabel (c : Cmd) (d : Dev) : Reply Dev :=
  let v := c.pn 0 8
  let d := (d.setReg R.LNT_HLABEL_LO (BitVec.ofNat 32 v)).setReg R.LNT_HLABEL_HI (BitVec.ofNat 32 (v / 2 ^ 32))
  done ((d.setRf R.LNT_SESS_STAT F.LNT_SESS_STAT_LVALID 1).collect (Flt.label v))

/-- TIME_SET_LABEL. -/
def execTimeSetLabel (c : Cmd) (s : State) : Host.Outcome State Fault Refusal := cmdStep specTimeSetLabel timeSetLabel c s

end Sys2Proof.Machine
end

