-- ==== Sys2Proof/Machine/Intake.lean ====
section
/-!
DEFINITION. Intake ports: states, CSI-2 and Seam packets, conversion, flicker notch, mapper and shed governor (03_intake.md).
-/
namespace Sys2Proof.Machine

/-- A port. -/
def Dev.port (d : Dev) (p : Fin 16) : Port := d.ports[p]

/-! ### Port states -/

/-- Whether a port's parcel is in Run (R88). -/
def Dev.portRuns (d : Dev) (p : Fin 16) : Bool := match d.parcelOfPort p.val with
  | some q => (d.pcl q).st == .run
  | none => false

/-- `n` packets leave a Seam port's decoder: their buffers are free and as many credits return (R107). -/
def Dev.seamReturn (d : Dev) (p : Fin 16) (n : Nat) : Dev :=
  let n := min n (d.port p).bufs
  let d := d.updPort p (fun x => { x with bufs := x.bufs - n, credits := min 8 (x.credits + n) })
  d.forEach (List.range n) (fun _ d => d.emit (.seamCredit p.val))

/-- A port enters START: sequence and line numbering begin anew, and a Seam port with its PHY on returns eight credits, its eight
buffers free (R105, R107). -/
def Dev.enterStart (d : Dev) (p : Fin 16) : Dev :=
  let seam : Bool := d.rf (R.INT_CTL p) F.INT_CTL_KIND == 1 && !d.boot.lab
  let d := d.updPort p (fun x => { x with line := 0, seq := none, frame := none, segs := 0, syncFrame := none, bufs := 0,
                                          credits := if seam then 8 else 0 })
  if seam then d.forEach (List.range 8) (fun _ d => d.emit (.seamCredit p.val)) else d

/-- A port's stream stops (R93, Table 4.5): its FIFO is retired, its intake storage cleared, its resident storage to be erased. -/
def Dev.streamStop (d : Dev) (p : Fin 16) : Dev :=
  let d := d.bump (R.INT_LATE_CNT p) F.INT_LATE_CNT_LATE (d.port p).fifo.length
  let d := d.updPort p (fun x =>
    { x with fifo := [], plane := [], hyst := 0, hist := [], flags := [], frame := none, segs := 0,
             stoppedAt := some (x.stoppedAt.getD d.clk) })
  d.sourcePortDown p.val

/-- A port goes to a state (Table 3.1). -/
def Dev.setPort (d : Dev) (p : Fin 16) (st : PortSt) : Dev :=
  let d := if (d.port p).st = .run ∧ st ≠ .run then d.streamStop p else d
  let d := d.updPort p (fun x => { x with st := st })
  if st = .start then d.enterStart p else d

/-- A port whose parcel enters Run (R88). -/
def Dev.portParcelRun (d : Dev) (p : Fin 16) : Dev :=
  if (d.port p).st = .off ∧ d.rf (R.INT_CTL p) F.INT_CTL_EN = 1 then d.setPort p .start else d

/-- A port whose parcel leaves Run (R88). -/
def Dev.portParcelStop (d : Dev) (p : Fin 16) : Dev :=
  if (d.port p).st = .off ∨ (d.port p).st = .retired then d else d.setPort p .off

/-- The first valid packet takes a port from START to RUN (R91). -/
def Dev.firstValid (d : Dev) (p : Fin 16) : Dev := if (d.port p).st = .start then d.setPort p .run else d

/-- PORT_SYNC_LOSS: loss of sync for SYNC_TO (R91, R92); it does not apply in lab mode (R402). -/
def portSyncLoss (p : Fin 16) (d : Dev) : Dev :=
  if ((d.port p).st ≠ .start ∧ (d.port p).st ≠ .run) ∨ d.boot.lab = true then d
  else
    let win := d.rf (R.INT_RETRY_CFG p) F.INT_RETRY_CFG_WINDOW * 100000000
    let times := d.clk :: (d.port p).restarts.filter (fun t => d.clk < t + win)
    let d := (d.updPort p (fun x => { x with restarts := times })).bump (R.INT_RESTART_CNT p) F.INT_RESTART_CNT_RESTART
    let q := parcelByte (d.parcelOfPort p.val)
    if d.rf (R.INT_RETRY_CFG p) F.INT_RETRY_CFG_MAX_RESTART ≤ times.length then
      ((d.setPort p .retired).raiseFrom (stPort p) (Flt.portRetired p q times.length)).noticeParcel ((d.parcelOfPort p.val).map (·.val)) 6
        (BitVec.ofNat 64 p.val)
    else (d.setPort p .restart).raiseFrom (stPort p) (Flt.portRestart p q times.length)

/-- PORT_SYNC_LOSS. -/
def execPortSyncLoss (p : Fin 16) (s : State) : Host.Outcome State Fault Refusal := devStep s (portSyncLoss p)

/-- PORT_RESTART_END: 1 ms in RESTART is over (R92). -/
def execPortRestartEnd (p : Fin 16) (s : State) : Host.Outcome State Fault Refusal :=
  devStep s (fun d =>
    if (d.port p).st ≠ .restart then d
    else d.setPort p (if d.rf (R.INT_CTL p) F.INT_CTL_EN = 1 ∧ d.portRuns p then .start else .off))

/-- INTAKE_CLOCK_FALLBACK: the pipeline's clock; the switch changes no port state (R465). -/
def execIntakeClockFallback (p : Fin 16) (b : Bool) (s : State) : Host.Outcome State Fault Refusal :=
  devStep s (fun d => d.updPort p (fun x => { x with fallback := b }))

/-! ### Geometry, notch, mapper, governor -/

/-- Width of the port's frame; a mode 3 port is 16 × 1 (R543). -/
def Dev.portWidth (d : Dev) (p : Fin 16) : Nat := d.rf (R.INT_GEOM p) F.INT_GEOM_WIDTH_M1 + 1
/-- Height of the port's frame. -/
def Dev.portHeight (d : Dev) (p : Fin 16) : Nat := d.rf (R.INT_GEOM p) F.INT_GEOM_HEIGHT_M1 + 1
/-- Side of the port's tiles. -/
def Dev.tileSide (d : Dev) (p : Fin 16) : Nat := 8 * 2 ^ d.rf (R.INT_GEOM p) F.INT_GEOM_TSHIFT
/-- MODE of the port. -/
def Dev.convMode (d : Dev) (p : Fin 16) : Nat := d.rf (R.INT_CONV p) F.INT_CONV_MODE
/-- The shed level S. -/
def Dev.shedLevel (d : Dev) (p : Fin 16) : Nat := d.rf (R.INT_SHED_STAT p) F.INT_SHED_STAT_S

/-- The tile of a position, in row-major order. -/
def Dev.tileOf (d : Dev) (p : Fin 16) (x y : Nat) : Nat :=
  let s := d.tileSide p
  y / s * ((d.portWidth p + s - 1) / s) + x / s

/-- Whether there is a Datum phase (R112): none in FREE, none before a first period is adopted, and none on a follower, which takes no
edges (R37). -/
def Dev.hasPhase (d : Dev) : Bool := d.dat.st != .free && !d.dat.recent.isEmpty && d.dat.period != 0 && !d.follower

/-- The edge from which phase is counted: the last valid one or, in HOLDOVER, one that the held period projects (R109). -/
def Dev.phaseEdge (d : Dev) : Nat := (if d.dat.st = .holdover then d.dat.projected else d.dat.lastValid).getD 0

/-- The phase bin of an instant `extra` units of 10 ns from now (R109). -/
def Dev.phaseBin (d : Dev) (extra : Nat) : Nat := 16 * ((d.clk + extra - d.phaseEdge) % d.dat.period) / d.dat.period

/-- A converted event: its coordinate, polarity, level if it has one, and the offset of its Datum phase. -/
structure Conv where
  x : Nat
  y : Nat
  pol : Bool
  level : Option Nat
  extra : Nat
deriving DecidableEq, Repr

/-- The notch (R109 to R112): whether the event passes. -/
def Dev.notch (d : Dev) (p : Fin 16) (tile extra : Nat) : Bool × Dev :=
  if d.rf (R.INT_FLK_CFG p) F.INT_FLK_CFG_EN = 0 ∨ !d.hasPhase then (true, d)
  else
    let b := d.phaseBin extra
    let d := d.updPort p (fun x => { x with hist := SMap.set 0 x.hist (tile * 16 + b) (SMap.get 0 x.hist (tile * 16 + b) + 1) })
    if bit (SMap.get 0 (d.port p).flags tile) b then (false, d.bump (R.INT_FLK_DROP_CNT p) F.INT_FLK_DROP_CNT_FLK) else (true, d)

/-- The governor's verdict on an offered event of a tile (R116). -/
def Governor.passes (v : Governor) (budget res tile : Nat) : Bool × Governor :=
  if v.passed < budget - res then
    (true, { v with passed := v.passed + 1, seen := if v.seen.contains tile then v.seen else tile :: v.seen })
  else if budget ≤ v.passed then (false, v)
  else
    let v := if v.passed = budget - res ∧ v.k = 0 ∧ v.rnd = 0 then { v with act := max 1 v.seen.length } else v
    let n := SMap.get 0 v.cnt tile
    if v.rnd < n then (false, v)
    else
      let v := { v with cnt := SMap.set 0 v.cnt tile (n + 1), passed := v.passed + 1 }
      (true, if v.act ≤ v.k + 1 then { v with rnd := v.rnd + 1, k := 0 } else { v with k := v.k + 1 })

/-- A map entry's axon for a position and polarity (R114). -/
def mapAxon (e : Word) (s x y : Nat) (pol : Bool) : Nat :=
  let sh := bits e 27 26
  let m := s / 2 ^ sh
  let l := y % s / 2 ^ sh * m + x % s / 2 ^ sh
  bits e 17 0 + (if bit e 29 then 2 * l + b2n pol else l)

/-- The event word of a mapped event (R115, R90). -/
def Dev.portEvent (d : Dev) (p : Fin 16) (e : Word) (c : Conv) (injected : Bool) : BitVec 64 :=
  let slice := match d.parcelOfPort p.val with
    | some q => d.rf (R.PCL_BIND q) F.PCL_BIND_SLICE
    | none => 0
  let graded : Bool := bit e 28 && (c.level.isSome || (injected && d.convMode p != 1))
  let payload := if graded then (match c.level with
    | some l => l * 17
    | none => 255) else 0
  mkEvent (chipField d.selfChip) (p.val / 4 * 2 + b2n (bit e 30)) (mapAxon e (d.tileSide p) c.x c.y c.pol) 0 d.tick slice (b2n graded) payload

/-- A converted event meets the notch, the mapper, the tally tap, the governor and the FIFO (R111, R113, R115, R116, R120). -/
def Dev.portOut (d : Dev) (p : Fin 16) (injected : Bool) (c : Conv) : Dev :=
  let d := d.bump (R.INT_EVT_CNT p) F.INT_EVT_CNT_EVT
  let tile := d.tileOf p c.x c.y
  let (pass, d) := d.notch p tile c.extra
  if !pass then d
  else
    let e := d.reg (R.INT_MAP p tile)
    if !bit e 31 then d.bump (R.INT_UNMAP_CNT p) F.INT_UNMAP_CNT_UNMAP
    else
      let g : Fin 8 := ⟨(p.val / 4 * 2 + b2n (bit e 30)) % 8, Nat.mod_lt _ (by decide)⟩
      let d := d.tallyTap g p.val tile c.x c.y (d.tileSide p) c.pol
      let (ok, v) := (d.port p).gov.passes (d.rf (R.INT_SHED_BUDGET p) F.INT_SHED_BUDGET_BUDGET) (d.rf (R.INT_SHED_STAT p) F.INT_SHED_STAT_RES) tile
      let d := d.updPort p (fun x => { x with gov := { v with offered := v.offered + 1, shed := if ok then v.shed else v.shed + 1 } })
      if !ok then d.bump (R.INT_SHED_CNT p) F.INT_SHED_CNT_SHED
      else if 64 ≤ (d.port p).fifo.length then d.bump (R.INT_RAIL_DROP_CNT p) F.INT_RAIL_DROP_CNT_RAIL
      else d.updPort p (fun x => { x with fifo := x.fifo ++ [d.portEvent p e c injected] })

/-! ### Conversion -/

/-- A reference plane entry. -/
def Dev.refLevel (d : Dev) (p : Fin 16) (x y : Nat) : Nat := SMap.get 0 (d.port p).plane (y * d.portWidth p + x)

/-- Sets a reference plane entry. -/
def Dev.setRef (d : Dev) (p : Fin 16) (x y v : Nat) : Dev :=
  d.updPort p (fun z => { z with plane := SMap.set 0 z.plane (y * d.portWidth p + x) v })

/-- The level of a pixel of `b` bits: floor(16 × log2(v + 1) / b), clamped to 15, that is the greatest L with
2^(L × b) at most (v + 1)^16 (Table 3.7). -/
def contrastLevel (v b : Nat) : Nat := ((List.range 16).filter (fun l => decide (2 ^ (l * b) ≤ (v + 1) ^ 16))).length - 1

/-- One pixel of mode 0 (Table 3.7). -/
def Dev.contrastPixel (d : Dev) (p : Fin 16) (y b x v : Nat) : Dev :=
  let l := contrastLevel v b
  let r := d.refLevel p x y
  let thr := min 15 (d.rf (R.INT_CONV p) F.INT_CONV_THR_BASE + d.shedLevel p)
  if thr ≤ max l r - min l r then (d.setRef p x y l).portOut p false { x := x, y := y, pol := decide (r < l), level := some l, extra := 0 } else d

/-- A RAW line (mode 0). -/
def Dev.rawLine (d : Dev) (p : Fin 16) (y b : Nat) (vals : List Nat) : Dev :=
  d.forEach vals.zipIdx (fun e d => d.contrastPixel p y b e.2 e.1)

/-- TOFF of an IEF word in units of 10 ns (R99). -/
def Dev.toff (d : Dev) (p : Fin 16) (w : Word) : Nat := bits w 5 0 * 2 ^ d.rf (R.INT_CONV p) F.INT_CONV_TUNIT_SEL * 100

/-- One IEF word of mode 1 (R97 to R99, Table 3.7). -/
def Dev.iefWord (d : Dev) (p : Fin 16) (w : Word) : Dev :=
  let x := bits w 31 20
  let y := bits w 19 8
  if x = 0xFFF ∧ y = 0xFFF then d
  else if d.portWidth p ≤ x ∨ d.portHeight p ≤ y then d.bump (R.INT_PKT_ERR_CNT p) F.INT_PKT_ERR_CNT_RANGE
  else
    let r := d.refLevel p x y
    if d.shedLevel p ≤ r then (d.setRef p x y 0).portOut p false { x := x, y := y, pol := bit w 6, level := none, extra := d.toff p w }
    else d.setRef p x y (min 15 (r + 1))

/-- One injected word of modes 0, 2 and 3: an event as it stands (R90). -/
def Dev.rawWord (d : Dev) (p : Fin 16) (w : Word) : Dev :=
  let x := bits w 31 20
  let y := bits w 19 8
  if x = 0xFFF ∧ y = 0xFFF then d
  else if d.portWidth p ≤ x ∨ d.portHeight p ≤ y then d.bump (R.INT_PKT_ERR_CNT p) F.INT_PKT_ERR_CNT_RANGE
  else d.portOut p true { x := x, y := y, pol := bit w 6, level := none, extra := d.toff p w }

/-- The words of a byte list (R22). -/
def wordsOf (l : List Byte) : List Word := (List.range (l.length / 4)).map (fun i => BitVec.ofNat 32 (leAt l (4 * i) 4))

/-- INTAKE_INJECT's words enter at the convert stage (R90, R402). -/
def Dev.inject (d : Dev) (p : Fin 16) (ws : List Word) : Dev :=
  d.forEach ws (fun w d => if d.convMode p = 1 then d.iefWord p w else d.rawWord p w)

/-- One thermal pixel of mode 2 (Table 3.7, R106): `j` is its index in the frame. The spec states no level for bands of width 0. -/
def Dev.thermalPixel (d : Dev) (p : Fin 16) (j v : Nat) : Dev :=
  let w := d.portWidth p
  if w * d.portHeight p ≤ j then d.bump (R.INT_PKT_ERR_CNT p) F.INT_PKT_ERR_CNT_RANGE
  else
    let den := d.rf (R.INT_THERM p) F.INT_THERM_T_STEP + d.shedLevel p * d.rf (R.INT_THERM p) F.INT_THERM_T_INC
    let free := d.fresh 4
    let l := if den = 0 then free.1.toNat else min 15 ((v - d.rf (R.INT_THERM p) F.INT_THERM_T_BASE) / den)
    let d := if den = 0 then free.2 else d
    let r := d.refLevel p (j % w) (j / w)
    if l = r then d
    else (d.setRef p (j % w) (j / w) l).portOut p false { x := j % w, y := j / w, pol := decide (r < l), level := some l, extra := 0 }

/-- Whether the segments received cover the frame (R106). -/
def Dev.frameWhole (d : Dev) (p : Fin 16) : Bool :=
  (List.range ((d.portWidth p * d.portHeight p + 127) / 128)).all (fun i => bit (d.port p).segs i)

/-- A thermal segment (R106). -/
def Dev.thermalSegment (d : Dev) (p : Fin 16) (arg : Nat) (payload : List Byte) : Dev :=
  let fr := arg / 32
  let seg := arg % 32
  let new : Bool := (d.port p).frame != some fr
  let d := if new ∧ (d.port p).frame.isSome ∧ !d.frameWhole p then d.bump (R.SEAM_ERR_CNT p) F.SEAM_ERR_CNT_INCOMPLETE else d
  let d := d.updPort p (fun x => { x with frame := some fr, segs := (if new then 0 else x.segs) ||| BitVec.ofNat 32 (2 ^ seg) })
  d.forEach (List.range (payload.length / 2)) (fun i d => d.thermalPixel p (seg * 128 + i) (leAt payload (2 * i) 2))

/-- One SCALAR sample of mode 3 (Table 3.7). -/
def Dev.scalarSample (d : Dev) (p : Fin 16) (c : Nat) (v : Int) : Dev :=
  let high := bit (d.port p).hyst c
  let set (b : Bool) (d : Dev) : Dev := d.updPort p (fun x => { x with hyst := fput ⟨c, 1⟩ x.hyst (b2n b) })
  if !high ∧ (d.reg (R.INT_SCAL_HI p c)).toInt ≤ v then (set true d).portOut p false { x := c, y := 0, pol := true, level := none, extra := 0 }
  else if high ∧ v ≤ (d.reg (R.INT_SCAL_LO p c)).toInt then (set false d).portOut p false { x := c, y := 0, pol := false, level := none, extra := 0 }
  else d

/-! ### CSI-2 -/

/-- Whether a port takes packets of a kind: in START or RUN, its PHY on (R90, Table 3.1). -/
def Dev.portTakes (d : Dev) (p : Fin 16) (kind : Nat) : Bool :=
  ((d.port p).st == .start || (d.port p).st == .run) && !d.boot.lab && d.rf (R.INT_CTL p) F.INT_CTL_KIND == kind

/-- Counts a packet header's errors; `none` for a packet that is dropped (Table 3.2). -/
def Dev.csiHeader (d : Dev) (p : Fin 16) (h : CsiHeader) : Bool × Dev :=
  match h with
  | .good => (true, d)
  | .corrected => (true, d.bump (R.INT_PKT_ERR_CNT p) F.INT_PKT_ERR_CNT_ECC_CE)
  | .bad => (false, d.bump (R.INT_PKT_ERR_CNT p) F.INT_PKT_ERR_CNT_ECC_UE)

/-- Counts an unsupported or unaccepted packet (Table 3.14). -/
def Dev.unsup (d : Dev) (p : Fin 16) : Dev := d.bump (R.INT_PKT_ERR_CNT p) F.INT_PKT_ERR_CNT_UNSUP

/-- The configured RAW data type and its bits per pixel (PRESUMED, log entry 21: the CSI-2 codes of RAW8, RAW10, RAW12 and RAW16). -/
def rawType (n : Nat) : Nat × Nat := match n with
  | 0 => (0x2A, 8)
  | 1 => (0x2B, 10)
  | 2 => (0x2C, 12)
  | _ => (0x2E, 16)

/-- The pixels of a line (PRESUMED, log entry 21: the CSI-2 packing of each RAW type). -/
def unpackRaw (b : Nat) (l : List Byte) (width : Nat) : List Nat :=
  let at_ (i : Nat) : Nat := (l.getD i 0).toNat
  (List.range width).map (fun i => match b with
    | 8 => at_ i
    | 10 => at_ (i / 4 * 5 + i % 4) * 4 + at_ (i / 4 * 5 + 4) / 4 ^ (i % 4) % 4
    | 12 => at_ (i / 2 * 3 + i % 2) * 16 + at_ (i / 2 * 3 + 2) / 16 ^ (i % 2) % 16
    | _ => at_ (2 * i) * 256 + at_ (2 * i + 1))

/-- A RAW line's packet (R95). -/
def Dev.rawPacket (d : Dev) (p : Fin 16) (k : CsiLong) (b : Nat) : Dev :=
  let y := (d.port p).line
  let d := d.updPort p (fun x => { x with line := y + 1 })
  if !k.crcOk then d.bump (R.INT_PKT_ERR_CNT p) F.INT_PKT_ERR_CNT_ECC_UE
  else if k.payload.length * 8 ≠ d.portWidth p * b ∨ d.portHeight p ≤ y then d.bump (R.INT_PKT_ERR_CNT p) F.INT_PKT_ERR_CNT_LINE
  else
    let d := d.bump (R.INT_RX_CNT p) F.INT_RX_CNT_RX
    if (d.port p).st = .run then d.rawLine p y b (unpackRaw b k.payload (d.portWidth p)) else d

/-- An IEF packet (R96). -/
def Dev.iefPacket (d : Dev) (p : Fin 16) (k : CsiLong) : Dev :=
  if !k.crcOk then d.bump (R.INT_PKT_ERR_CNT p) F.INT_PKT_ERR_CNT_ECC_UE
  else if k.payload.length % 4 ≠ 0 then d.bump (R.INT_PKT_ERR_CNT p) F.INT_PKT_ERR_CNT_LINE
  else
    let d := d.bump (R.INT_RX_CNT p) F.INT_RX_CNT_RX
    if (d.port p).st = .run then d.forEach (wordsOf k.payload) (fun w d => d.iefWord p w) else d

/-- CSI2_LONG_PACKET (R94 to R96, Table 3.2). A stream is converted while the port is in RUN (DEDUCED, R93, log entry 22). -/
def csi2LongPacket (p : Fin 16) (k : CsiLong) (d : Dev) : Dev :=
  if !d.portTakes p 0 then d
  else match d.csiHeader p k.header with
    | (false, d) => d
    | (true, d) =>
      let dt := k.dt.toNat
      let raw := rawType (d.rf (R.INT_CONV p) F.INT_CONV_RAWBITS)
      if k.vc.toNat ≠ d.rf (R.INT_CSI_CFG p) F.INT_CSI_CFG_VC then d.unsup p
      else if dt = 0x12 then d
      else if d.convMode p = 0 ∧ dt = raw.1 then d.rawPacket p k raw.2
      else if d.convMode p = 1 ∧ 0x30 ≤ dt ∧ dt ≤ 0x37 ∧ (d.rf (R.INT_CSI_CFG p) F.INT_CSI_CFG_DT_MASK).testBit (dt - 0x30) then d.iefPacket p k
      else d.unsup p

/-- CSI2_LONG_PACKET. -/
def execCsi2LongPacket (p : Fin 16) (k : CsiLong) (s : State) : Host.Outcome State Fault Refusal := devStep s (csi2LongPacket p k)

/-- CSI2_SHORT_PACKET (R24, R91, R95, Table 3.2). Of a generic short packet on a virtual channel that is not converted Table 3.2 says
both that it is ignored without counting and that it counts in UNSUP: it is ignored (DEDUCED, log entry 22). -/
def csi2ShortPacket (p : Fin 16) (k : CsiShort) (d : Dev) : Dev :=
  if !d.portTakes p 0 then d
  else match d.csiHeader p k.header with
    | (false, d) => d
    | (true, d) =>
      let dt := k.dt.toNat
      let d := if k.vc = 0#2 ∧ dt = 0 then d.datumInput (.sync p false) else d
      let d := if k.vc = 0#2 ∧ dt = 2 then d.datumInput (.sync p true) else d
      if 8 ≤ dt ∧ dt ≤ 15 then d
      else if 4 ≤ dt then d.unsup p
      else if k.vc.toNat ≠ d.rf (R.INT_CSI_CFG p) F.INT_CSI_CFG_VC then d.unsup p
      else
        let d := d.bump (R.INT_RX_CNT p) F.INT_RX_CNT_RX
        if dt = 0 then (d.firstValid p).updPort p (fun x => { x with line := 0 }) else d

/-- CSI2_SHORT_PACKET. -/
def execCsi2ShortPacket (p : Fin 16) (k : CsiShort) (s : State) : Host.Outcome State Fault Refusal := devStep s (csi2ShortPacket p k)

/-! ### Seam -/

/-- CRC-16 of a Seam payload (R104). -/
def seamCrc (l : List Byte) : Nat := crcL 16 0x1021 0xFFFF l

/-- Whether a Seam header stands (R105). -/
def seamHeaderOk (b : List Byte) : Bool :=
  let h := leAt b 0 4
  let typ := h % 16
  let len := h / 256 % 128
  decide (4 ≤ b.length) && crc8 (b.take 3) == h / 2 ^ 24 && decide (len ≤ 64) && !h.testBit 15 && decide (typ ≤ 4) &&
    (match typ with
      | 0 => len == 0
      | 3 => len == 0
      | 4 => len == 1
      | _ => true)

/-- Counts a Seam error. -/
def Dev.seamErr (d : Dev) (p : Fin 16) (f : Fld) : Dev := d.bump (R.SEAM_ERR_CNT p) f

/-- The Datum syncs of a THERMAL header (R24). -/
def Dev.seamSync (d : Dev) (p : Fin 16) (arg : Nat) : Dev :=
  let new : Bool := (d.port p).syncFrame != some (arg / 32)
  let d := d.updPort p (fun x => { x with syncFrame := some (arg / 32) })
  let d := if new then d.datumInput (.sync p false) else d
  d.datumInput (.sync p true)

/-- An accepted packet by its type and the port's mode (Tables 3.6, 3.7). A valid packet whose TYPE is no source of the mode converts
nothing, and counts in INT_RX_CNT like every valid packet (DEDUCED, log entry 22). -/
def Dev.seamAccept (d : Dev) (p : Fin 16) (typ arg : Nat) (payload : List Byte) : Dev :=
  if typ = 1 ∧ d.convMode p = 2 then d.thermalSegment p arg payload
  else if typ = 2 ∧ d.convMode p = 3 then d.forEach (wordsOf payload) (fun w d => d.scalarSample p (arg % 16) w.toInt)
  else if typ = 3 ∧ d.convMode p = 3 then d.portOut p false { x := arg % 16, y := 0, pol := arg.testBit 4, level := none, extra := 0 }
  else if typ = 4 then d.setReg (R.SEAM_HELLO_ID p) (BitVec.ofNat 32 (leAt payload 0 4))
  else d

/-- A packet with its header checked: sync, payload check, sequence (R24, R104, R105). -/
def Dev.seamBody (d : Dev) (p : Fin 16) (b : List Byte) : Dev :=
  if !seamHeaderOk b then d.seamErr p F.SEAM_ERR_CNT_HDR
  else
    let h := leAt b 0 4
    let typ := h % 16
    let seq := h / 16 % 16
    let len := h / 256 % 128
    let arg := h / 65536 % 256
    let d := if typ = 1 then d.seamSync p arg else d
    let need := 4 + 4 * len + (if len = 0 then 0 else 2)
    if b.length < need then d.seamErr p F.SEAM_ERR_CNT_PCRC
    else
      let d := if need < b.length then d.seamErr p F.SEAM_ERR_CNT_HDR else d
      let payload := slice 4 (4 * len) b
      if len ≠ 0 ∧ d.rf (R.SEAM_CTL p) F.SEAM_CTL_CRC_EN = 1 ∧ seamCrc payload ≠ leAt b (4 + 4 * len) 2 then d.seamErr p F.SEAM_ERR_CNT_PCRC
      else
        let gap : Bool := match (d.port p).seq with
          | some s => decide (seq ≠ (s + 1) % 16)
          | none => false
        let d := if gap then d.seamErr p F.SEAM_ERR_CNT_SEQ_GAP else d
        let d := (d.updPort p (fun x => { x with seq := some seq })).bump (R.INT_RX_CNT p) F.INT_RX_CNT_RX
        (d.firstValid p).seamAccept p typ arg payload

/-- A Seam packet takes a buffer and a credit (R107); every buffer is free again 200 ns after the last byte. -/
def Dev.seamTake (d : Dev) (p : Fin 16) : Dev :=
  d.updPort p (fun x => { x with bufs := x.bufs + 1, credits := x.credits - 1, lastByte := d.clk })

/-- SEAM_PACKET (R103 to R107): a packet that begins with no free buffer is discarded whole; any other takes one. `leave` packets leave the
decoder before the next packet begins, and after 200 ns every one has. -/
def seamPacket (p : Fin 16) (k : SeamPkt) (d : Dev) : Dev :=
  if !d.portTakes p 1 then d
  else
    let d := if (d.port p).lastByte + 20 ≤ d.clk then d.seamReturn p 8 else d
    if 8 ≤ (d.port p).bufs then (d.seamErr p F.SEAM_ERR_CNT_NOCREDIT).seamReturn p k.leave
    else ((d.seamTake p).seamBody p k.bytes).seamReturn p k.leave

/-- SEAM_PACKET. -/
def execSeamPacket (p : Fin 16) (k : SeamPkt) (s : State) : Host.Outcome State Fault Refusal := devStep s (seamPacket p k)

/-! ### Windows and ticks -/

/-- The bins a tile flags at the end of a window (R110). -/
def flagged (hist : SMap Nat) (tile ratio min_ : Nat) : BitVec 16 :=
  let c (b : Nat) : Nat := SMap.get 0 hist (tile * 16 + b)
  let sum := ((List.range 16).map c).sum
  let l := (List.range 16).filter (fun b => decide (min_ ≤ c b ∧ ratio * sum < 16 * c b))
  if 8 < l.length then 0 else BitVec.ofNat 16 (maskOf l)

/-- FLICKER_WINDOW_END (R110). -/
def flickerWindowEnd (p : Fin 16) (d : Dev) : Dev :=
  if d.rf (R.INT_FLK_CFG p) F.INT_FLK_CFG_EN = 0 ∨ !d.hasPhase then d
  else
    let h := (d.port p).hist
    let tiles := (h.map (fun e => e.1 / 16)).eraseDups
    let ratio := d.rf (R.INT_FLK_CFG p) F.INT_FLK_CFG_FLK_RATIO
    let mn := d.rf (R.INT_FLK_CFG p) F.INT_FLK_CFG_FLK_MIN
    d.updPort p (fun x => { x with hist := [], flags := tiles.foldl (fun m t => SMap.set 0 m t (flagged h t ratio mn)) [] })

/-- FLICKER_WINDOW_END. -/
def execFlickerWindowEnd (p : Fin 16) (s : State) : Host.Outcome State Fault Refusal := devStep s (flickerWindowEnd p)

/-- Sets OVERLOAD and counts the tick; its rising edge posts a notice (R118). -/
def Dev.setOverload (d : Dev) (p : Fin 16) (b : Bool) : Dev :=
  let was := d.overload p
  let d := d.setRf (R.INT_STAT p) F.INT_STAT_OVERLOAD (b2n b)
  let d := if b then d.bump (R.INT_OVL_TICKS p) F.INT_OVL_TICKS_OVL else d
  if b ∧ !was then d.noticeParcel ((d.parcelOfPort p.val).map (·.val)) 3 (BitVec.ofNat 64 p.val) else d

/-- New shed settings take effect (R117, Table 13.8). -/
def Dev.applyShed (d : Dev) (p : Fin 16) : Dev :=
  match (d.port p).nextShed with
  | none => d
  | some (budget, res, low, decay, smax) =>
    let d := d.setReg (R.INT_SHED_CFG p) (BitVec.ofNat 32 (smax * 2 ^ 16 + decay * 256 + low))
    let d := (d.setRf (R.INT_SHED_BUDGET p) F.INT_SHED_BUDGET_BUDGET budget).setRf (R.INT_SHED_STAT p) F.INT_SHED_STAT_RES res
    let d := d.updPort p (fun x => { x with nextShed := none })
    if smax < d.shedLevel p then (d.setRf (R.INT_SHED_STAT p) F.INT_SHED_STAT_S smax).setRf (R.INT_SHED_STAT p) F.INT_SHED_STAT_QUIET 0 else d

/-- S and the quiet count for the new tick (R117). -/
def nextShedLevel (s quiet shed offered budget low decay smax : Nat) : Nat × Nat :=
  if 0 < shed then (if s < smax then s + 1 else s, 0)
  else
    let q := if offered ≤ budget * low / 16 then quiet + 1 else 0
    if decay ≤ q then (s - 1, 0) else (s, q)

/-- Step 8 of the tick turn at a port (R117 to R120): the FIFO's events are retired, S is set, new settings take effect. The governor
of a hub whose domain is not on does not run (DEDUCED, log entry 22). -/
def Dev.portTurn (d : Dev) (p : Fin 16) : Dev :=
  let d := (d.bump (R.INT_LATE_CNT p) F.INT_LATE_CNT_LATE (d.port p).fifo.length).updPort p (fun x => { x with fifo := [] })
  if !d.domOn (20 + p.val / 4) then (d.updPort p (fun x => { x with gov := {} })).applyShed p
  else
    let v := (d.port p).gov
    let s := d.shedLevel p
    let smax := d.rf (R.INT_SHED_CFG p) F.INT_SHED_CFG_SMAX
    let r := nextShedLevel s (d.rf (R.INT_SHED_STAT p) F.INT_SHED_STAT_QUIET) v.shed v.offered (d.rf (R.INT_SHED_BUDGET p) F.INT_SHED_BUDGET_BUDGET)
      (d.rf (R.INT_SHED_CFG p) F.INT_SHED_CFG_LOW) (d.rf (R.INT_SHED_CFG p) F.INT_SHED_CFG_DECAY) smax
    let d := (d.setRf (R.INT_SHED_STAT p) F.INT_SHED_STAT_S r.1).setRf (R.INT_SHED_STAT p) F.INT_SHED_STAT_QUIET r.2
    let d := (d.updPort p (fun x => { x with gov := {} })).applyShed p
    let high : Bool := if 0 < v.shed ∧ s = smax then true
      else if d.shedLevel p < d.rf (R.INT_SHED_CFG p) F.INT_SHED_CFG_SMAX then false else d.overload p
    d.setOverload p high

end Sys2Proof.Machine
end

