-- ==== Sys2Proof/Machine/Erase.lean ====
section
/-!
DEFINITION. Erasure of dark storage: requests, the erase engine's effect, and the fence (04_dark_zone.md R129 to R133).
-/
namespace Sys2Proof.Machine

/-- Whether a neuron lies in a dark range tagged with a port. -/
def Dev.taggedWith (d : Dev) (g : Fin 8) (p n : Nat) : Bool :=
  (List.range 16).any (fun k => d.rf (R.GAL_DARK_LO g k) F.GAL_DARK_LO_VALID = 1 ∧ d.rf (R.GAL_DARK_LO g k) F.GAL_DARK_LO_PORT = p
    ∧ d.rf (R.GAL_DARK_LO g k) F.GAL_DARK_LO_LO ≤ n ∧ n ≤ d.rf (R.GAL_DARK_HI g k) F.GAL_DARK_HI_HI)

/-- An erased state word: W and MODEL as they were, every other field 0 (R85, R130). -/
def erasedWord (w : BitVec 64) : BitVec 64 := fput nsModel (fput nsW 0 (fget nsW w)) (fget nsModel w)

/-- Keeps the entries of a sparse map that do not hold what an unlisted key reads as. -/
def dropDefault {β : Type} [DecidableEq β] (dflt : β) (m : SMap β) : SMap β := m.filter (fun e => decide (e.2 ≠ dflt))

/-- Erases the neurons that a test names: state words, ring slots, occupancy bits (R130). -/
def Gal.eraseNeurons (x : Gal) (t : Nat → Bool) : Gal :=
  { x with
    state := dropDefault 0 (x.state.map (fun e => (e.1, if t e.1 then erasedWord e.2 else e.2)))
    ring := x.ring.filter (fun e => !t (e.1 % 131072))
    occ := x.occ.filter (fun e => !t (e.1 % 131072))
    bad := x.bad.filter (fun e => !((e.kind == .state && t e.idx) || (e.kind == .ring && t (e.idx / 4)))) }

/-- The `i`-th synapse of a dark list returns to its base byte, its shadow to 0 (R130); an uncorrectable word is handled as R84 and
R286 give. -/
def Dev.eraseSynapse (d : Dev) (g : Fin 8) (e : BitVec 64) (i : Nat) : Dev :=
  let k := fget axBase e + i
  match d.readSyn g k with
  | (none, d) => d
  | (some w, d) =>
    if fget syPlastic w = 0 then d
    else match d.readComp g e i with
      | (none, d) => d
      | (some c, d) =>
        d.updGal g (fun x => (x.putSyn k (fput syWeight w (fget (ageFld i) c))).putSyn (compIndex e i) (fput (shadowFld i) c 0))

/-- Erases a dark axon's PRE_TRACE and its list (R130). -/
def Dev.eraseAxon (d : Dev) (g : Fin 8) (a : Nat) (e : BitVec 64) : Dev :=
  let d := d.putAxon g a (fput axPre e 0)
  if (d.gal g).plasticList e then
    d.forEach (List.range (fget axCount e)) (fun i d => d.eraseSynapse g e i)
  else d

/-- The erase engine reads a state word that holds an error: an uncorrectable one is rewritten with the safe model (R84), and the erasure
continues. -/
def Dev.eraseBad (d : Dev) (g : Fin 8) (e : EccErr) : Dev :=
  if e.ue then (d.putState g e.idx (safeWord (d.safeModel g))).stateUe g e.idx
  else (d.updGal g (fun x => x.clean .state e.idx)).bump (R.GAL_ECC_CE_CNT g) F.GAL_ECC_CE_CNT_STATE

/-- The erase engine's effect for one port in one Gallery (R130). -/
def Dev.erasePort (d : Dev) (g : Fin 8) (p : Nat) : Dev :=
  let d := d.forEach ((d.gal g).bad.filter (fun e => e.kind == .state && d.taggedWith g p e.idx)) (fun e d => d.eraseBad g e)
  let d := d.touchMaps g (fun i => (List.range 64).any (fun j => d.taggedWith g p (i % 2048 * 64 + j)))
  let lost := ((d.gal g).pendingNeurons.filter (fun n => d.taggedWith g p n)).length
  let d := d.bump (R.GAL_STOP_DROP_CNT g) F.GAL_STOP_DROP_CNT_STOP lost
  let axs := (d.gal g).axons.filter (fun e => decide (d.axonPort g e.1 e.2 = some p))
  let d := d.updGal g (fun x => x.eraseNeurons (fun n => d.taggedWith g p n))
  d.forEach axs (fun e d => d.eraseAxon g e.1 e.2)

/-- The Galleries of a port's column. -/
def columnGals (p : Fin 16) : List (Fin 8) := [⟨p.val / 4 * 2, by omega⟩, ⟨p.val / 4 * 2 + 1, by omega⟩]

/-- A port's erasure is complete in both Galleries: it counts once, and the next Heartbeat says so (R129, R142). -/
def Dev.portErased (d : Dev) (p : Fin 16) : Dev :=
  if (columnGals p).any (fun g => (d.gal g).eraseQ.contains p.val) then d
  else
    let d := (d.bump R.EGR_ERASE_CNT F.EGR_ERASE_CNT_PORT).updPort p (fun x => { x with stoppedAt := none })
    match d.parcelOfPort p.val with
    | some q => d.updPcl q (fun x => { x with hbErased := true })
    | none => d

/-- ERASE_REQUEST: the request of a port whose stream has stopped reaches the Galleries of its column (R131, R238, Table 4.5). -/
def eraseRequest (p : Fin 16) (d : Dev) : Dev :=
  if (d.port p).stoppedAt.isNone then d
  else
    let d := d.forEach (columnGals p) (fun g d =>
      if d.domOn (4 + g.val) then (d.updGal g (fun x => x.askErase p.val)).cmpErase g p.val else d)
    d.portErased p

/-- ERASE_REQUEST. -/
def execEraseRequest (p : Fin 16) (s : State) : Host.Outcome State Fault Refusal := devStep s (eraseRequest p)

/-- An erasure that ends more than one tick period after its trigger (R133). Each of the two Galleries of the port's column has its own
erasure and counts its own (DESIGN CHOICE, log entry 56). -/
def Dev.eraseLate (d : Dev) (g : Fin 8) (p : Fin 16) : Dev :=
  match (d.port p).stoppedAt with
  | some t =>
    if t + d.dat.tperiod < d.clk then
      (d.bump R.EGR_ERASE_CNT F.EGR_ERASE_CNT_LATE).raiseFrom (stGal g) (Flt.eraseLate g (d.galParcel g) p.val)
    else d
  | none => d

/-- ERASE_COMPLETE: the erasure at the head of a Gallery's queue completes (R130, R132, R133). -/
def eraseComplete (g : Fin 8) (p : Fin 16) (d : Dev) : Dev :=
  match (d.gal g).eraseQ with
  | [] => d
  | h :: t =>
    if h ≠ p.val then d
    else
      let d := (d.erasePort g p.val).updGal g (fun x => { x with eraseQ := t })
      (d.eraseLate g p).portErased p

/-- ERASE_COMPLETE. -/
def execEraseComplete (g : Fin 8) (p : Fin 16) (s : State) : Host.Outcome State Fault Refusal := devStep s (eraseComplete g p)

/-- At a tick turn the fence of every port whose erasure has completed is lowered; a FAULTED Gallery holds every fence (R131, R510). -/
def Dev.lowerFences (d : Dev) (g : Fin 8) : Dev :=
  if (d.gal g).st = .faulted then d
  else d.updGal g (fun x => { x with fence := x.fence &&& BitVec.ofNat 16 (maskOf x.eraseQ) })

end Sys2Proof.Machine
end

