-- ==== Sys2Proof/Machine/Learning.lean ====
section
/-!
DEFINITION. The Leveler: epoch ends, pass A, creation, the neuron step and pass B (09_learning.md).
-/
namespace Sys2Proof.Machine

/-- RULE of a profile word 0 (Table 9.2). -/
def prRule (w0 : Word) : Nat := bits w0 1 0
/-- NORM_T of a model's profile. -/
def Dev.normT (d : Dev) (g : Fin 8) (m : Nat) : Nat := bits (d.prof g m 2) 15 0

/-! ### Epoch ends -/

/-- Adds pairs to a table of 64, each once. -/
def mergePairs (a b : List (Nat × Nat)) : List (Nat × Nat) := (b.foldl (fun l p => if l.contains p then l else l ++ [p]) a).take 64

/-- A marker's latch joins the sweep that waits (R284). -/
def Sweep.merge (a b : Sweep) : Sweep :=
  { reward := clamp (-32768) 32767 (a.reward + b.reward), cands := mergePairs a.cands b.cands, epochs := a.epochs + b.epochs, mark := b.mark }

/-- The Gallery's part of an epoch end (R271, R272, R284); while a site memory copy runs its sweep is deferred (R289). -/
def Dev.epochEnd (d : Dev) (g : Fin 8) : Dev :=
  let d := if d.learning g then
      let acc := d.rf (R.LRN_REWARD g) F.LRN_REWARD_ACC
      let d := d.setReg (R.LRN_REWARD g) (BitVec.ofNat 32 (acc * 2 ^ 16))
      let s : Sweep := { reward := sext 16 acc, cands := (d.gal g).lrn.cands, epochs := 1, mark := d.tick }
      let d := d.updLrn g (fun l => { l with cands := [] })
      let join (d : Dev) : Dev := d.updLrn g (fun l => { l with waiting := (match l.waiting with
          | w :: _ => [w.merge s]
          | [] => [s]) })
      if d.rf (R.LRN_STAT g) F.LRN_STAT_DEFER = 1 then join d
      else match (d.gal g).lrn.running with
      | none => d.updLrn g (fun l => { l with waiting := [], running := some (match l.waiting with
          | w :: _ => w.merge s
          | [] => s) })
      | some _ =>
        let d := (d.setRf (R.LRN_STAT g) F.LRN_STAT_OVERRUN 1).bump (R.LRN_EPOCH_CNT g) F.LRN_EPOCH_CNT_OVERRUN
        let d := match d.parcelAt g.val with
          | some q => d.updPcl q (fun p => { p with learn := { p.learn with overrun := true } })
          | none => d
        join d
    else d
  match (d.gal g).lrn.nextEpoch with
  | some n => (d.setRf (R.LRN_EPOCH g) F.LRN_EPOCH_EPOCH n).updLrn g (fun l => { l with nextEpoch := none })
  | none => d

/-- EPOCH_END: at a turn marker whose tick count is a multiple of EPOCH (R271). -/
def execEpochEnd (g : Fin 8) (s : State) : Host.Outcome State Fault Refusal :=
  devStep s (fun d => if d.domOn (4 + g.val) ∧ d.tick % d.rf (R.LRN_EPOCH g) F.LRN_EPOCH_EPOCH = 0 then d.epochEnd g else d)

/-! ### Pass A -/

/-- What the sketch of R274 does to a synapse: its word and its shadow and age bytes. -/
structure Learned where
  word : Word
  shadow : Nat
  age : Nat
  moved : Bool
  pruned : Bool
deriving DecidableEq, Repr

/-- The accumulation after an epoch, in quarters (R274). -/
def epochSum (w0 w1 : Word) (reward : Int) (pre trace : Nat) (sh : Int) : Int :=
  let e := sh + (bits w0 15 8 * pre * trace / 2 ^ bits w0 28 24 : Nat)
  if prRule w0 = 2 then reward * e / ((2 ^ bits w1 31 28 : Nat) : Int) else e

/-- The delay and the vote after the vote is taken (R274). -/
def voteDelay (thr : Int) (ddly : Nat) (vote : Int) : Nat × Int :=
  if thr ≤ vote then (min 15 (ddly + 1), 0) else if vote ≤ -thr then (ddly - 1, 0) else (ddly, vote)

/-- Pass A's arithmetic for one LIVE plastic synapse (R274, R275): profile words 0, 1 and 3. -/
def learnSynapse (w0 w1 w3 : Word) (dplastic dark : Bool) (reward : Int) (pre trace : Nat) (w : Word) (shadow age : Nat) : Learned :=
  let sh := if dplastic then sext 4 shadow else sext 8 shadow
  let e := epochSum w0 w1 reward pre trace sh
  let wmin := sext 8 (bits w1 7 0)
  let wmax := sext 8 (bits w1 15 8)
  let x := sext 8 (fget syWeight w) + e / 4
  let sh' : Nat := if x < wmin ∨ wmax < x then 0 else (e % 4).toNat
  let x' := clamp wmin wmax x
  let w' := fput syWeight w (toTwos 8 x')
  let v := if dplastic then voteDelay (bits w3 18 16) (fget syDdly w) (sext 4 (shadow / 16)) else (fget syDdly w, 0)
  let w' := fput syDdly w' v.1
  let prune : Bool := bit w0 4 && !dark
  let age' := if prune then (if x'.natAbs < bits w3 7 0 then min 255 (age + 1) else 0) else age
  let kill : Bool := prune && decide (bits w3 15 8 ≤ age')
  { word := if kill then fput syLive w' 0 else w', shadow := if dplastic then sh' + 16 * toTwos 4 v.2 else sh', age := age',
    moved := decide (v.1 ≠ fget syDdly w), pruned := kill }

/-- Fan-in norms, by neuron. -/
abbrev Norms := SMap Nat

/-- Adds to a neuron's fan-in norm. -/
def addNorm (a : Norms) (n x : Nat) : Norms := SMap.set 0 a n (SMap.get 0 a n + x)

/-- Counts what pass A did to the parcel's next LearningStatus. -/
def Dev.learnCount (d : Dev) (g : Fin 8) (created pruned : Nat) : Dev :=
  match d.parcelAt g.val with
  | some q => d.updPcl q (fun p => { p with learn := { p.learn with created := p.learn.created + created, pruned := p.learn.pruned + pruned } })
  | none => d

/-- Pass A on the `i`-th word of a list (R274, R275); the target's state word is written through the lazy update (R44). -/
def Dev.passAWord (d : Dev) (g : Fin 8) (reward : Int) (e : BitVec 64) (i : Nat) (a : Norms) : Norms × Dev :=
  if (d.gal g).st = .faulted then (a, d)
  else match d.readSyn g (fget axBase e + i) with
  | (none, d) => (a, d)
  | (some w, d) =>
    if fget syPlastic w = 0 ∨ fget syLive w = 0 then (a, d)
    else
      let n := fget syTarget w
      match d.openState g n with
      | (none, d) => (a, d)
      | (some (sw, _), d) => match (d.putState g n sw).readComp g e i with
        | (none, d) => (a, d)
        | (some c, d) =>
          let m := fget nsModel sw
          let dark : Bool := fget axDark e = 1
          let trace := fget nsTrace sw
          let d := d.bump (R.LRN_UPD_CNT g) F.LRN_UPD_CNT_UPD
          if prRule (d.prof g m 0) = 0 ∨ prRule (d.prof g m 0) = 3 then (a, d)
          else
            let r := learnSynapse (d.prof g m 0) (d.prof g m 1) (d.prof g m 3) (d.delayPlastic e w) dark reward (fget axPre e) trace w
              (fget (shadowFld i) c) (fget (ageFld i) c)
            let c := fput (ageFld i) (fput (shadowFld i) c r.shadow) r.age
            let d := d.updGal g (fun x => (x.putSyn (fget axBase e + i) r.word).putSyn (compIndex e i) c)
            let d := d.bump (R.LRN_DELAY_CNT g) F.LRN_DELAY_CNT_DELAY (b2n r.moved)
            let d := (d.bump (R.LRN_STRUCT_CNT g) F.LRN_STRUCT_CNT_PRUNED (b2n r.pruned)).learnCount g 0 (b2n r.pruned)
            let live : Bool := fget syLive r.word = 1
            (if live ∧ dark = false ∧ d.normT g m ≠ 0 then addNorm a n (sext 8 (fget syWeight r.word)).natAbs else a, d)

/-- Pass A on one axon's list; PRE_TRACE decays after its last word (R274). -/
def Dev.passAList (d : Dev) (g : Fin 8) (reward : Int) (ax : Nat) (a : Norms) : Norms × Dev :=
  match d.readAxon g ax with
  | (none, d) => (a, d)
  | (some e, d) =>
    if !(d.gal g).plasticList e then (a, d)
    else
      let r := (List.range (fget axCount e)).foldl (fun (s : Norms × Dev) i => s.2.passAWord g reward e i s.1) (a, d)
      (r.1, r.2.putAxon g ax (fput axPre e (fget axPre e * r.2.rf (R.LRN_PRE_CFG g) F.LRN_PRE_CFG_PRE_KEEP / 256)))

/-- Axons whose entry is written and whose list is plastic, in order. -/
def Gal.plasticAxons (x : Gal) : List Nat := (x.axons.filter (fun e => x.plasticList e.2)).map (·.1)

/-- Pass A (R274). -/
def Dev.passA (d : Dev) (g : Fin 8) (reward : Int) : Norms × Dev :=
  (d.gal g).plasticAxons.foldl (fun (s : Norms × Dev) ax => s.2.passAList g reward ax s.1) ([], d)

/-! ### Creation -/

/-- Whether a scan of a list's COUNT words finds a LIVE word with a target (R276); it reads each word until it does. -/
def Dev.connected (d : Dev) (g : Fin 8) (e : BitVec 64) (n : Nat) : Bool × Dev :=
  (List.range (fget axCount e)).foldl (fun (s : Bool × Dev) i =>
    if s.1 ∨ (s.2.gal g).st = .faulted then s
    else match s.2.readSyn g (fget axBase e + i) with
      | (none, d) => (false, d)
      | (some w, d) => (fget syLive w == 1 && fget syTarget w == n, d)) (false, d)

/-- A created synapse's word (R276). -/
def newSynapse (w0 w1 : Word) (n : Nat) : Word :=
  let w := fput syWeight 0 (bits w1 23 16)
  let w := fput syDdly w (bits w1 27 24)
  fput syTarget (fput syLive (fput syDplastic (fput syPlastic w 1) (b2n (bit w0 5))) 1) n

/-- Creation of one candidate pair (R276): the norms, the synapses created so far, the device. An uncorrectable state word of the target
ends the operation (R84); a write that the dark range checker drops creates nothing (R126). -/
def Dev.createPair (d : Dev) (g : Fin 8) (p : Nat × Nat) (a : Norms) (made : Nat) : Norms × Nat × Dev :=
  let skip (d : Dev) : Norms × Nat × Dev := (a, made, d.bump (R.LRN_SKIP_CNT g) F.LRN_SKIP_CNT_CREATE_SKIP)
  if (d.gal g).st = .faulted then (a, made, d)
  else match d.readAxon g p.1 with
  | (none, d) => (a, made, d)
  | (some e, d) =>
    if fget axDark e = 1 ∨ fget axHead e = 0 ∨ !(d.gal g).plasticList e then skip d
    else match d.readState g p.2 with
    | (none, d) => (a, made, d)
    | (some sw, d) =>
      let m := fget nsModel sw
      let (found, d) : Bool × Dev := if bit (d.prof g m 0) 3 then d.connected g e p.2 else (true, d)
      if (d.gal g).st = .faulted then (a, made, d)
      else if found then skip d
      else
        let i := fget axCount e
        let w := newSynapse (d.prof g m 0) (d.prof g m 1) p.2
        match (d.darkMap g).axonCheck p.1 e [w] [] with
        | some k => (a, made, d.darkDropped g k)
        | none =>
          match d.readComp g e i with
          | (none, d) => (a, made, d)
          | (some c, d) =>
            let c := fput (ageFld i) (fput (shadowFld i) c 0) 0
            let d := d.updGal g (fun x => (x.putSyn (fget axBase e + i) w).putSyn (compIndex e i) c)
            let d := d.putAxon g p.1 (fput axHead (fput axCount e (i + 1)) (fget axHead e - 1))
            let d := (d.bump (R.LRN_STRUCT_CNT g) F.LRN_STRUCT_CNT_CREATED).learnCount g 1 0
            (if d.normT g m ≠ 0 then addNorm a p.2 (sext 8 (fget syWeight w)).natAbs else a, made + 1, d)

/-- The creation step: at most CREATE_MAX synapses (R276). -/
def Dev.create (d : Dev) (g : Fin 8) (l : List (Nat × Nat)) (a : Norms) : Norms × Dev :=
  let mx := d.rf (R.LRN_CO_CFG g) F.LRN_CO_CFG_CREATE_MAX
  let r := l.foldl (fun (s : Norms × Nat × Dev) p => if mx ≤ s.2.1 then s else s.2.2.createPair g p s.1 s.2.1) (a, 0, d)
  (r.1, r.2.2)

/-! ### The neuron step -/

/-- F_c (Table 9.4). -/
def palette (c : Nat) : Nat := ([32, 35, 38, 41, 45, 49, 54, 59, 64, 70, 76, 83, 91, 99, 108, 117] : List Nat).getD c 64

/-- Distance between two numbers. -/
def dist (a b : Nat) : Nat := max a b - min a b

/-- The normalisation code of a fan-in (R278). -/
def normCode (a n nband nstep : Nat) : Nat :=
  if a = 0 ∨ dist a n ≤ n * nband / 256 then 8
  else
    let cs := (List.range 16).filter (fun c => decide (8 - nstep ≤ c ∧ c ≤ min 15 (8 + nstep)))
    cs.foldl (fun best c =>
      let e := dist (a * palette c) (64 * n)
      let b := dist (a * palette best) (64 * n)
      if e < b ∨ (e = b ∧ dist c 8 < dist best 8) then c else best) 8

/-- Homeostasis of a neuron (R277): profile words 5 and 6. -/
def homeostasis (w5 w6 : Word) (w : BitVec 64) : BitVec 64 :=
  let t := fget nsTrace w
  let w := if bits w5 25 16 ≤ t then fput nsAdapt w (min 4095 (fget nsAdapt w + bits w6 7 0)) else w
  if t < bits w5 9 0 then fput nsAdapt w (fget nsAdapt w - bits w6 15 8) else w

/-- The neuron step at one written neuron: homeostasis, and its code (R277). -/
def Dev.neuronStep (d : Dev) (g : Fin 8) (a : Norms) (n : Nat) (codes : SMap Nat) : SMap Nat × Dev :=
  if fget nsW (SMap.get 0 (d.gal g).state n) = 0 ∨ (d.gal g).st = .faulted then (codes, d)
  else match d.openState g n with
    | (none, d) => (codes, d)
    | (some (w, _), d) =>
      let m := fget nsModel w
      let w := if bit (d.prof g m 0) 2 then homeostasis (d.prof g m 5) (d.prof g m 6) w else w
      let d := d.putState g n w
      let t := d.normT g m
      if t = 0 ∨ (d.darkPort g n).isSome then (codes, d)
      else (SMap.set 8 codes n (normCode (SMap.get 0 a n) t (bits (d.prof g m 2) 23 16) (bits (d.prof g m 2) 27 24)), d)

/-- The neuron step (R277). -/
def Dev.neuronSteps (d : Dev) (g : Fin 8) (a : Norms) : SMap Nat × Dev :=
  ((d.gal g).state.map (·.1)).foldl (fun (s : SMap Nat × Dev) n => s.2.neuronStep g a n s.1) ([], d)

/-! ### Pass B -/

/-- What the Leveler's own path makes of a weight (R279). -/
def Scale.scaled (s : Scale) : Int := clamp s.lo s.hi (clamp (-128) 127 ((s.weight * palette s.code + 32) / 64))

/-- Pass B's visit of one word of a light list: a LIVE plastic synapse whose target's code is not 8 is one to scale (R279). -/
def Dev.passBWord (d : Dev) (g : Fin 8) (codes : SMap Nat) (e : BitVec 64) (i : Nat) (l : List Scale) : List Scale × Dev :=
  if (d.gal g).st = .faulted then (l, d)
  else match d.readSyn g (fget axBase e + i) with
  | (none, d) => (l, d)
  | (some w, d) =>
    let n := fget syTarget w
    let c := SMap.get 8 codes n
    if fget syPlastic w = 0 ∨ fget syLive w = 0 ∨ c = 8 then (l, d)
    else match d.readState g n with
    | (none, d) => (l, d)
    | (some sw, d) =>
      let w1 := d.prof g (fget nsModel sw) 1
      (l ++ [{ word := fget axBase e + i, weight := sext 8 (fget syWeight w), code := c, lo := sext 8 (bits w1 7 0), hi := sext 8 (bits w1 15 8) }], d)

/-- The synapses that pass B is to scale, in the order of its visits (R279). -/
def Dev.passBList (d : Dev) (g : Fin 8) (codes : SMap Nat) : List Scale × Dev :=
  (d.gal g).plasticAxons.foldl (fun (s : List Scale × Dev) ax =>
    let e := SMap.get 0 (s.2.gal g).axons ax
    if fget axDark e = 1 then s
    else (List.range (fget axCount e)).foldl (fun (s : List Scale × Dev) i => s.2.passBWord g codes e i s.1) s) ([], d)

/-- A batch scaled on the Leveler's own path (R279, R281, Table 9.9). -/
def Dev.scaleOwn (d : Dev) (g : Fin 8) (l : List Scale) : Dev :=
  (d.forEach l (fun s d => d.putScaled g s s.scaled)).bump (R.LRN_NORM_CNT g) F.LRN_NORM_CNT_OWN

/-- The operand rows of a batch, as the job port expands its packed pairs: pair `k` of a row, of code c, stands at position 16k + c (R280). -/
def batchRows (l : List Scale) : List (List Byte) :=
  (List.range ((l.length + 7) / 8)).map (fun r => ((l.drop (8 * r)).take 8).zipIdx.foldl
    (fun row e => row.set (16 * e.2 + e.1.code) (BitVec.ofInt 8 e.1.weight)) (List.replicate 128 0))

/-- Whether pass B may submit a batch to the plane (R280, R281). -/
def Dev.denseAllowed (d : Dev) (g : Fin 8) : Bool :=
  d.rf (R.LRN_CTL g) F.LRN_CTL_DENSE_EN == 1 && d.rf (R.LRN_NORM_CFG g) F.LRN_NORM_CFG_VALID == 1
    && (d.domOn (12 + g.val) || d.rf (R.LRN_CTL g) F.LRN_CTL_DENSE_WAKE == 1)

/-- The next batch of pass B, up to 64 synapses: a job of the plane's queue where that is allowed and answered ACCEPT, else scaled on the
Leveler's own path (R280, R281). -/
def Dev.nextBatch (d : Dev) (g : Fin 8) (b : PassB) : Dev :=
  let l := b.todo.take 64
  let ref := (d.gal g).lrn.nextRef
  let rows := batchRows l
  let job : Job := { desc := d.rf (R.LRN_NORM_CFG g) F.LRN_NORM_CFG_JOB, n := rows.length, rows := rows, reads := 0, src := .leveler ref, chain := 0 }
  let r := if d.denseAllowed g then d.submitJob g job (d.galSlice g) else (1, d)
  let sent := if r.1 = 0 then b.sent ++ [(ref, l)] else b.sent
  let d := r.2.updLrn g (fun x => { x with nextRef := x.nextRef + 1, passB := some { b with todo := b.todo.drop 64, sent := sent } })
  if r.1 = 0 then d else d.scaleOwn g l

/-- Pass B goes on with its batches while it holds fewer than 2 queue entries of the plane (R281). -/
def Dev.driveB (d : Dev) (g : Fin 8) : Nat → Dev
  | 0 => d
  | n + 1 => match (d.gal g).lrn.passB with
    | none => d
    | some b => if 2 ≤ b.sent.length ∨ b.todo.isEmpty then d else Dev.driveB (d.nextBatch g b) g n

/-- Whether the plane still holds a batch's job. -/
def Plane.holds (x : Plane) (ref : BitVec 64) : Bool := x.jobs.any (fun j => j.src == .leveler ref)

/-- Batches that the plane holds no more and never answered are scaled on the Leveler's own path (R281). -/
def Dev.lostBatches (d : Dev) (g : Fin 8) : Dev := match (d.gal g).lrn.passB with
  | none => d
  | some b =>
    let held (e : BitVec 64 × List Scale) : Bool := (d.plane g).holds e.1
    let d := d.updLrn g (fun x => { x with passB := some { b with sent := b.sent.filter held } })
    d.forEach (b.sent.filter (fun e => !held e)) (fun e d => d.scaleOwn g e.2)

/-! ### The sweep -/

/-- The Leveler reports the epoch (R273, R142), and a waiting sweep starts (R284). -/
def Dev.sweepReport (d : Dev) (g : Fin 8) (s : Sweep) : Dev :=
  let d := d.bump (R.LRN_EPOCH_CNT g) F.LRN_EPOCH_CNT_SWEEPS
  let d := match d.parcelAt g.val with
    | some q => d.updPcl q (fun p => { p with learn := { p.learn with
        gals := p.learn.gals ||| BitVec.ofNat 8 (2 ^ g.val),
        ends := if p.learn.ends.any (fun e => e.1 == s.mark) then p.learn.ends else p.learn.ends ++ [(s.mark, s.epochs)] } })
    | none => d
  if d.learning g then d.updLrn g (fun l => { l with running := l.waiting.head?, waiting := l.waiting.drop 1 })
  else d.updLrn g (fun l => { l with running := none })

/-- Steps 2 to 4 of a sweep, and the list of pass B (R273). -/
def Dev.beginSweep (d : Dev) (g : Fin 8) (s : Sweep) : Dev :=
  let (a, d) := d.passA g s.reward
  let (a, d) := d.create g s.cands a
  let (codes, d) := d.neuronSteps g a
  let (todo, d) := d.passBList g codes
  d.updLrn g (fun l => { l with passB := some { todo := todo, sent := [], served := false } })

/-- The sweep ends once no batch is left: which path served pass B is noted, and the epoch reported (R273, R281). -/
def Dev.endPassB (d : Dev) (g : Fin 8) (s : Sweep) : Dev := match (d.gal g).lrn.passB with
  | none => d
  | some b =>
    if !b.todo.isEmpty ∨ !b.sent.isEmpty then d
    else
      let d := (d.updLrn g (fun l => { l with passB := none })).setRf (R.LRN_STAT g) F.LRN_STAT_DENSE_LAST (b2n b.served)
      let d := match d.parcelAt g.val with
        | some q => d.updPcl q (fun p => { p with learn := { p.learn with dense := p.learn.dense || b.served } })
        | none => d
      d.sweepReport g s

/-- The epoch-end sweep (R273). It runs whole, up to the batches of pass B that wait in the plane's queue; once those are done it goes on from
there. -/
def Dev.sweep (d : Dev) (g : Fin 8) (s : Sweep) : Dev :=
  let d := if (d.gal g).lrn.passB.isNone then d.beginSweep g s else d.lostBatches g
  let n := match (d.gal g).lrn.passB with
    | some b => b.todo.length
    | none => 0
  (d.driveB g n).endPassB g s

/-- LRN_REWARD_ADD: a write of the register adds its signed 8 bits (R269). -/
def execLrnRewardAdd (g : Fin 8) (v : BitVec 8) (s : State) : Host.Outcome State Fault Refusal :=
  devStep s (fun d => d.addReward g v.toInt)

end Sys2Proof.Machine
end

