-- ==== Sys2Proof/Machine/Trunk.lean ====
section
/-!
DEFINITION. The trunk: S events between hubs and links, and between links (R189, R190, R313, R324, R325).
-/
namespace Sys2Proof.Machine

/-- This chip's coordinate on an axis. -/
def Dev.coordOn (d : Dev) (a : Nat) : Nat := coordOf d.selfChip a

/-- Whether a link is the dateline link of its axis as it leaves this chip (R324). -/
def Dev.dateline (d : Dev) (k : Fin 6) : Bool :=
  let s := d.axisSize (axisOf k)
  let c := d.coordOn (axisOf k)
  decide (2 ≤ s) && (if k.val % 2 = 1 then c + 1 == s else c == 0)

/-- The channel an event takes on a link (R324): S0, or the channel it came by on the same axis; a dateline link moves S0 to S1. -/
def Dev.chanOn (d : Dev) (out : Fin 6) (came : Option (Fin 6 × Bool)) : Fin 2 :=
  let s1 : Bool := match came with
    | some (k, c) => axisOf k == axisOf out && c
    | none => false
  if s1 || d.dateline out then 1 else 0

/-- OUT and whether SMASK admits an event's slice, from the routing entry of its chip (Table 10.11). -/
def Dev.routeOf (d : Dev) (ev : BitVec 64) : Nat × Bool :=
  let w := d.reg (R.TRV_RT (evChip ev))
  (bits w 2 0, bit w (16 + fget evSlice ev))

/-- A link's transmit side takes an event while fewer than two of its channel wait to be paired into a flit. -/
def Link.takes (l : Link) (c : Fin 2) : Bool := l.st == .active && decide (l.txEv[c].length < 2)

/-- An event routed to a link outside ACTIVE is dropped and counted (R313); so is one routed to a link in a reserved role (R149; the counter is
a DESIGN CHOICE, log entry 55). -/
def Dev.downDrop (d : Dev) (k : Fin 6) : Dev := d.bump (R.TRV_DOWN_DROP k) F.TRV_DOWN_DROP_DOWN

/-- Whether a link carries S events: an ACTIVE torus link does, whose S channels are sealed; one in a reserved role never (R149, R308). -/
def Dev.carries (d : Dev) (k : Fin 6) : Bool := (d.link k).st == .active && d.linkRole k == 0

/-- Puts an event on a channel of a link and sends what may go. -/
def Dev.toLink (d : Dev) (k : Fin 6) (c : Fin 2) (ev : BitVec 64) : Dev :=
  (d.updLink k (fun l => { l with txEv := l.txEv.set c (l.txEv[c] ++ [ev]) })).pump k window

/-- The valid parcel bound to a slice (R190, R196). -/
def Dev.sliceParcel (d : Dev) (s : Nat) : Option (Fin 8) :=
  (List.finRange 8).find? (fun q => d.rf (R.PCL_RECT q) F.PCL_RECT_VALID = 1 ∧ d.rf (R.PCL_BIND q) F.PCL_BIND_SLICE = s)

/-- An inbound event at its hub (R190): `none` where it must wait for room in its parcel's pool. -/
def Dev.intoHub (d : Dev) (ev : BitVec 64) : Option Dev :=
  let g : Fin 8 := ⟨fget evGallery ev % 8, Nat.mod_lt _ (by decide)⟩
  let c := columnOf g
  let q := d.sliceParcel (fget evSlice ev)
  match q with
  | some q =>
    if d.parcelAt g.val = some q ∧ (d.pcl q).st = .run then
      let used := (d.hubs[c].inb.filter (fun e => e.1 == q.val)).length
      if used < d.trunkPool q c.val then
        let d := d.updHub c (fun h => { h with inb := h.inb ++ [(q.val, ev)] })
        some (if d.trunkPool q c.val ≤ used + 1 then d.updPcl q (fun p => { p with poolFull := true }) else d)
      else none
    else some ((d.bump (R.MSH_TRUNK_CNT c) F.MSH_TRUNK_CNT_ISOL).isolDrop (some q))
  | none => some (d.bump (R.MSH_TRUNK_CNT c) F.MSH_TRUNK_CNT_ISOL)

/-- Takes an event out of a hub's outbound buffer, and counts it (Table 6.10). -/
def Dev.leaveHub (d : Dev) (c : Fin 4) (i : Nat) : Dev :=
  let n := d.hubs[c].passed + 1
  (d.updHub c (fun h => { h with out := h.out.eraseIdx i, passed := n % 1000 })).bump (R.MSH_TRUNK_CNT c) F.MSH_TRUNK_CNT_OUT (if n = 1000 then 1 else 0)

/-- The `i`-th event of a hub's outbound buffer goes to its link, or is dropped (R55, R56, R189, R324, R325); `none` where it must wait. -/
def Dev.sendOut (d : Dev) (c : Fin 4) (i g : Nat) (ev : BitVec 64) : Option Dev :=
  let r := d.routeOf ev
  if malformed ev then some ((d.leaveHub c i).bump (R.GAL_BADEVT_CNT g) F.GAL_BADEVT_CNT_EVT)
  else if fget evHops ev = 31 then some ((d.leaveHub c i).bump (R.GAL_DROP_CNT g) F.GAL_DROP_CNT_HOPS)
  else if r.1 = 0 ∨ r.2 = false then
    some (((d.leaveHub c i).bump R.TRV_GRP_RT_DROP F.TRV_GRP_RT_DROP_DROP).bump (R.GAL_DROP_CNT g) F.GAL_DROP_CNT_SLICE)
  else if h : 2 ≤ r.1 ∧ r.1 < 8 then
    let k : Fin 6 := ⟨r.1 - 2, by omega⟩
    let ch := d.chanOn k none
    if !d.carries k then some ((d.leaveHub c i).downDrop k)
    else if (d.link k).takes ch then some ((d.leaveHub c i).toLink k ch (addHops ev 2)) else none
  else (d.leaveHub c i).intoHub (addHops ev 1)

/-- Where each parcel's oldest event stands in an outbound buffer, in order: each parcel has a pool of its own (R190, R198). -/
def parcelHeads (l : List (Nat × Nat × BitVec 64)) : List Nat :=
  (List.range l.length).filter (fun i => match l[i]? with
    | some e => !((l.take i).any (fun x => x.1 == e.1))
    | none => false)

/-- A hub's outbound buffer: the oldest event that heads its parcel's pool and can go goes; one parcel's wait never holds another (R198). -/
def Dev.trunkFromHub (d : Dev) (c : Fin 4) : Dev :=
  let l := d.hubs[c].out
  ((parcelHeads l).findSome? (fun i => match l[i]? with
    | some (_, g, ev) => d.sendOut c i g ev
    | none => none)).getD d

/-- Drops the head event of a link's received S flits; the flit's buffer is freed after its last event (R300). -/
def Dev.popRx (d : Dev) (k : Fin 6) (c : Fin 2) : Dev :=
  match (d.link k).rxS[c] with
  | (_ :: e :: f) :: t => d.updLink k (fun l => { l with rxS := l.rxS.set c ((e :: f) :: t) })
  | _ :: t => d.updLink k (fun l => ({ l with rxS := l.rxS.set c t }).free ⟨c.val, by omega⟩ 1)
  | [] => d

/-- The head event received on a channel of a link: to a hub, to another link, or dropped (R55, R56, R189, R324, R325). A malformed event and
one at HOPS 31 count with the drops of R325, for no other counter is named (DESIGN CHOICE, log entry 55). -/
def Dev.trunkFromLink (d : Dev) (k : Fin 6) (s1 : Bool) : Dev :=
  let c : Fin 2 := if s1 then 1 else 0
  match (d.link k).rxS[c] with
  | [] :: _ => d.popRx k c
  | (ev :: _) :: _ =>
    let r := d.routeOf ev
    if malformed ev ∨ r.1 = 0 ∨ r.2 = false ∨ r.1 = k.val + 2 ∨ fget evHops ev = 31 then (d.popRx k c).bump (R.TRV_RT_DROP k) F.TRV_RT_DROP_DROP
    else if h : 2 ≤ r.1 ∧ r.1 < 8 then
      let o : Fin 6 := ⟨r.1 - 2, by omega⟩
      let ch := d.chanOn o (some (k, s1))
      if !d.carries o then (d.popRx k c).downDrop o
      else if (d.link o).takes ch then (d.popRx k c).toLink o ch (addHops ev 2) else d
    else match d.intoHub (addHops ev 2) with
      | some e => e.popRx k c
      | none => d
  | [] => d

/-- TRUNK_EVENT. -/
def execTrunkEvent (src : TrunkSrc) (s : State) : Host.Outcome State Fault Refusal :=
  devStep s (fun d => match src with
    | .hub c => d.trunkFromHub c
    | .link k s1 => d.trunkFromLink k s1)

end Sys2Proof.Machine
end

