-- ==== Sys2Proof/Machine/RegRead.lean ====
section
/-!
DEFINITION. Reading a register: the word the bank holds, with the fields that show live state put over it (R19, R20, and the register
tables of each chapter). A read of a LO word latches its HI word.
-/
namespace Sys2Proof.Machine

/-- The Datum block and powered time (Tables 1.9 and 1.10). -/
def Dev.nativeDat (d : Dev) (off : Nat) (w : Word) : Word :=
  match off with
  | 0x14 => BitVec.ofNat 32 d.datStat
  | 0x18 => BitVec.ofNat 32 (mean d.dat.seen)
  | 0x1C => BitVec.ofNat 32 d.dat.tperiod
  | 0x20 => BitVec.ofNat 32 d.dat.tick
  | 0x24 => d.lat.tickHi
  | _ => w

/-- What the mirror says of a function (LNT_MIR_FUNC, Table 12.6): the Surveyor reads it as the PF does. -/
def Dev.mirFunc (d : Dev) (f : Func) : Nat := f.val + (match d.parcelOf f with
  | some q => q.val * 256 + 4096
  | none => 0)

/-- The Lantern block (Tables 1.10 and 12.6). -/
def Dev.nativeLnt (d : Dev) (off j : Nat) (w : Word) : Word :=
  match off with
  | 0x0 => BitVec.ofNat 32 d.ptime
  | 0x4 => d.lat.ptimeHi
  | 0x400 => d.mirId
  | 0x40C => d.reg R.LNT_SESSION
  | 0x410 => BitVec.ofNat 32 d.ptime
  | 0x414 => d.lat.mirPtimeHi
  | 0x708 => fput F.LNT_SMB_CFG_ADDR w (0x64 + d.pins.straps.toNat)
  | 0x418 => d.fus.devid.extractLsb' (32 * j) 32
  | 0x430 => BitVec.ofNat 32 (d.mirFunc pf)
  | _ => w

/-- Whether a Gallery holds its column's STACK domain on: in RUN with a cold list (R165). -/
def Dev.stackHold (d : Dev) (g : Fin 8) : Bool :=
  (d.gal g).st == .run && (d.gal g).axons.any (fun e => fget axW e.2 == 1 && fget axCold e.2 == 1)

/-- A Gallery's registers (Tables 2.8, 4.11, 5.9, 5.10, 8.6, 9.8). -/
def Dev.nativeGal (d : Dev) (i off : Nat) (w : Word) : Word :=
  let g := fin8 i
  let x := d.gal g
  match off with
  | 0x4 => fput F.GAL_EVT_STAT_STATE (fput F.GAL_EVT_STAT_STACK_HOLD (fput F.GAL_EVT_STAT_CFG_BUSY w (b2n x.cfgBusy))
      (b2n (d.stackHold g))) x.st.code
  | 0x108 => d.lat.synHi[g]
  | 0x12C => BitVec.ofNat 32 x.pendingNeurons.length
  | 0x4104 => fput F.GAL_STATE_STAT_SWEEP_BUSY w (b2n x.sweepBusy)
  | 0x42C0 => BitVec.ofNat 32 (x.fence.toNat * 65536 + maskOf x.eraseQ)
  | 0x5004 => BitVec.ofNat 32 (x.cmp.queue.length * 65536 + x.cmp.batches.length * 256 + x.cmp.staging.length)
  | 0x7004 => fput F.LRN_STAT_PHASE w (if x.lrn.passB.isSome then 4 else b2n x.lrn.running.isSome)
  | _ => w

/-- An intake port's registers (Table 3.12). -/
def Dev.nativeInt (d : Dev) (i off : Nat) (w : Word) : Word :=
  let x := d.port (fin16 i)
  match off with
  | 0x4 => fput F.INT_STAT_STATE (fput F.INT_STAT_RETIRED (fput F.INT_STAT_BYPASS w (b2n (!d.hasPhase))) (b2n (x.st == .retired))) x.st.code
  | 0x24 => BitVec.ofNat 32 (x.flags.length * 65536 + (x.flags.foldl (fun (m : BitVec 16) e => m ||| e.2) 0).toNat)
  | 0x804 => BitVec.ofNat 32 (min 15 x.credits * 16 + x.seq.getD 0)
  | _ => w

/-- Ports whose erasure is in progress in some Gallery (EGR_STAT.ERASE, R131). -/
def Dev.erasing (d : Dev) : Nat :=
  maskOf ((List.range 16).filter (fun p => (List.finRange 8).any (fun g => (d.gal g).eraseQ.contains p)))

/-- The egress unit's registers (Table 4.10). -/
def Dev.nativeEgr (d : Dev) (off j : Nat) (w : Word) : Word :=
  match off with
  | 0x4 => BitVec.ofNat 32 (d.erasing * 65536 + b2n d.boot.lab)
  | 0x8 => BitVec.ofNat 32 (d.fus.ceilBurst * 65536 + d.fus.ceilU)
  | 0x200 => BitVec.ofNat 32 (d.pcl (fin8 j)).backlog.length
  | _ => w

/-- Nodes whose input buffers hold VN-S flits. -/
def Dev.busyNodes (d : Dev) : Nat :=
  maskOf ((List.range 8).filter (fun n => (List.finRange 20).any (fun i => decide (i.val % 5 < 2) && !((d.gal (fin8 n)).node[i]).isEmpty)))

/-- No flit on any network, rail or trunk (MSH_STAT.IDLE): node buffers and trunk buffers empty. -/
def Dev.meshIdle (d : Dev) : Bool :=
  d.gals.all (fun x => (List.finRange 20).all (fun i => (x.node[i]).isEmpty)) && d.hubs.all (fun h => h.out.isEmpty && h.inb.isEmpty)

/-- The mesh's registers (Table 6.10). -/
def Dev.nativeMsh (d : Dev) (off : Nat) (w : Word) : Word :=
  match off with
  | 0x4 => BitVec.ofNat 32 (d.busyNodes * 256 + b2n d.meshIdle)
  | _ => w

/-- The parcel's registers (Table 6.10). -/
def Dev.nativePcl (d : Dev) (i off : Nat) (w : Word) : Word :=
  match off with
  | 0x10 => BitVec.ofNat 32 (d.pcl (fin8 i)).st.code
  | _ => w

/-- The plane's state code (Table 7.10): 0 OFF, 1 WAKING, 2 IDLE, 3 BUSY, 4 ENTERING, 5 RETAINED. -/
def Dev.planeState (d : Dev) (p : Fin 8) : Nat :=
  match d.domSt (12 + p.val) with
  | .on => if (d.plane p).running.isSome then 3 else 2
  | .waking => 1
  | .entering => 4
  | .retained => 5
  | _ => 0

/-- The plane's registers (Table 7.10). -/
def Dev.nativeDns (d : Dev) (i off j : Nat) (w : Word) : Word :=
  let p := fin8 i
  let x := d.plane p
  match off with
  | 0x4 => BitVec.ofNat 32 (b2n (d.domOn (12 + p.val) && (d.nextLoad p).isSome) * 2 ^ 20 + b2n x.bufs[1].tag.isSome * 2 ^ 17
      + b2n x.bufs[0].tag.isSome * 2 ^ 16 + x.inUse * 256 + d.planeState p)
  | 0x18 => match (if j = 0 then x.bufs[0] else x.bufs[1]).tag with
    | some t => BitVec.ofNat 32 (2 ^ 31 + t.mode * 2 ^ 29 + t.wsrc * 2 ^ 27 + t.wbase)
    | none => 0
  | _ => w

/-- A link's registers (Table 10.14). -/
def Dev.nativeTrv (d : Dev) (i off : Nat) (w : Word) : Word :=
  match off with
  | 0x4 => fput F.TRV_STAT_STATE w (d.link (fin6 i)).st.code
  | _ => w

/-- A stack's registers (Table 11.6). -/
def Dev.nativeStk (d : Dev) (i off j : Nat) (w : Word) : Word :=
  match off with
  | 0x108 => fput F.STK_RGN_WM_WM w (d.rgnWm i j)
  | 0x2C => BitVec.ofNat 32 (d.stk (fin4 i)).pages.length
  | 0x1000 => match (d.stk (fin4 i)).pages[j]? with
    | some e => BitVec.ofNat 32 (2 ^ 31 + e.1)
    | none => 0
  | 0x4 => fput F.STK_STAT_STATE (fput F.STK_STAT_PRESENT w (b2n (bit d.fus.stks i))) (d.stk (fin4 i)).st.code
  | _ => w

/-- Whether an active command ring waits for the mirror state to let it fetch (MBX_RING_STAT.WAIT_ONLINE). -/
def Dev.waitOnline (d : Dev) (f : Func) : Bool :=
  (d.ring f).st == .active && (d.ring f).cmdPi != (d.ring f).cmdCi && d.mirState != 2

/-- A function's ring registers (Table 12.16). -/
def Dev.nativeMbx (d : Dev) (i off : Nat) (w : Word) : Word :=
  let f : Func := fin9 i
  let r := d.ring f
  match off with
  | 0x128 => BitVec.ofNat 32 (b2n (d.waitOnline f) * 256 + r.reason * 16 + b2n r.quiesced * 8 + r.st.code)
  | 0x12C => r.cmdCi
  | 0x130 => r.cplPi
  | 0x134 => r.resPi
  | 0x138 => BitVec.ofNat 32 (d.inProgress f)
  | 0x14C => BitVec.ofNat 32 r.ntcPend
  | _ => w

/-- The first region of a domain and how many it has, in the order of Table 15.8. -/
def domRegions (dom : Nat) : Nat × Nat :=
  if 4 ≤ dom ∧ dom ≤ 11 then (5 * (dom - 4), 5)
  else if 12 ≤ dom ∧ dom ≤ 19 then (40 + 5 * (dom - 12), 5)
  else if dom = 1 then (80, 2)
  else if dom = 2 then (82, 1)
  else if dom = 30 then (83, 1)
  else if dom = 3 then (84, 2)
  else if 20 ≤ dom ∧ dom ≤ 23 then (86 + (dom - 20), 1)
  else if 24 ≤ dom ∧ dom ≤ 29 then (90 + (dom - 24), 1)
  else (96, 0)

/-- The Dense clock in use, in MHz (CLK_PLL_CFG_1, Table 16.7). -/
def Dev.denseMhz (d : Dev) : Nat := d.rf (R.CLK_PLL_CFG 1) F.CLK_PLL_CFG_MHZ

/-- The DNS region voltage of a Dense clock in mV (Table 15.9). -/
def denseMv (mhz : Nat) : Nat :=
  if mhz ≤ 400 then 650 else if mhz ≤ 800 then 700 else if mhz ≤ 1000 then 750 else if mhz ≤ 1200 then 800
  else if mhz ≤ 1400 then 850 else 900

/-- The regulator setpoint of a region in mV (R441, R443). On Sealed parts the DNS regions follow the Dense clock: before a rising change and after
a falling one (Table 16.5 steps 1 and 7). -/
def Dev.regionMv (d : Dev) (r : Nat) : Nat :=
  if 40 ≤ r ∧ r < 80 ∧ !d.fus.railMode then denseMv (match d.clks.change with
    | some c => max d.denseMhz c.target
    | none => d.denseMhz)
  else 800

/-- The power block (Table 15.11). -/
def Dev.nativePwr (d : Dev) (off j : Nat) (w : Word) : Word :=
  match off with
  | 0x4 => if d.fus.railMode then 2 else 1
  | 0x10 => BitVec.ofNat 32 (d.fus.capW * 65536 + d.pwr.capSet)
  | 0x14 => BitVec.ofNat 32 (d.fus.iPeak * 65536 + d.fus.iSus)
  | 0x18 => BitVec.ofNat 32 (b2n d.pwr.hotSlot * 4 + b2n (decide (d.denseMhz < d.clks.setMhz)) * 2 + b2n (d.pwr.secondSlot || d.pwr.stopJobs))
  | 0x100 => if h : j < 36 then
      BitVec.ofNat 32 (b2n d.pwr.doms[j].policy * 65536 + d.pwr.doms[j].reason * 256 + d.pwr.doms[j].stage * 16 + d.pwr.doms[j].st.code)
    else w
  | 0x104 => if h : j < 36 then BitVec.ofNat 32 (b2n d.pwr.doms[j].policy) else w
  | 0x400 => BitVec.ofNat 32 (b2n d.fus.railMode * 2 ^ 15 + d.regionMv j)
  | _ => w

/-- The telemetry block: energy HI words are latched by a read of LO (R449). -/
def Dev.nativeTel (d : Dev) (off j : Nat) (w : Word) : Word :=
  if off = 0x204 then (if h : j < 36 then d.lat.energyHi[j] else w) else w

/-- The fuse and licence blocks (Table 17.10). -/
def Dev.nativeFus (d : Dev) (off j : Nat) (w : Word) : Word :=
  match off with
  | 0x0 => d.fus.devid.extractLsb' (32 * j) 32
  | 0x10 => BitVec.ofNat 32 ((if d.fus.railMode then 2 else 1) * 256 + b2n d.fus.lab * 32 + b2n d.fus.high * 16 + d.fus.part)
  | 0x14 => BitVec.ofNat 32 (d.fus.stks.toNat * 2 ^ 24 + d.fus.links.toNat * 2 ^ 16 + d.fus.ports.toNat)
  | 0x18 => BitVec.ofNat 32 (d.fus.denseMhz * 65536 + d.fus.capW)
  | 0x1C => BitVec.ofNat 32 (d.fus.iPeak * 65536 + d.fus.iSus)
  | 0x20 => BitVec.ofNat 32 (d.fus.ceilBurst * 65536 + d.fus.ceilU)
  | 0x24 => BitVec.ofNat 32 d.fus.secver
  | 0x28 => fput F.FUS_RMAP_CNT_FACTORY w d.fus.factory.length
  | _ => w

/-- Features whose record the Ledger stores. -/
def Dev.licencesHeld (d : Dev) : Nat := maskOf ((List.finRange 6).filter (fun i => (d.led.licences[i]).isSome) |>.map (·.val))

/-- The fault collector's registers (Table 18.12): the records stand from the oldest on, 16 words each. -/
def Dev.nativeFlt (d : Dev) (off j : Nat) (w : Word) : Word :=
  match off with
  | 0x8 => fput F.FLT_STAT_SINK (fput F.FLT_STAT_QDEPTH w d.flt.recs.length)
      (maskOf ((List.range 8).filter (fun g => (d.gal (fin8 g)).sink)))
  | 0x400 => match d.flt.recs[j / 16]? with
    | some x => BitVec.ofNat 32 (leAt x.bytes (j % 16 * 4) 4)
    | none => 0
  | _ => w

/-- The stations that are present and not bypassed (GDL_PRESENT). -/
def Dev.stations (d : Dev) : List Nat := (List.range 0x2E).filter (fun st => d.stationOn st)

/-- The Guideline block (Table 18.12). -/
def Dev.nativeGdl (d : Dev) (off : Nat) (w : Word) : Word :=
  match off with
  | 0x4 => fput F.GDL_STAT_STATIONS w d.stations.length
  | 0x50 => BitVec.ofNat 32 (maskOf d.stations)
  | 0x54 => BitVec.ofNat 32 (maskOf d.stations / 2 ^ 32)
  | _ => w

/-- The readable bits of a register: reserved bits and WO fields read as 0 (R19, R20). -/
def RegSpec.readMask (r : RegSpec) : Word :=
  r.fields.foldl (fun (m : Word) e => if e.2 = .wo then m else fput e.1 m (2 ^ e.1.width - 1)) 0

/-- What a found register shows over the word the bank holds. -/
def Dev.native (d : Dev) (r : RegAt) (w : Word) : Word :=
  let b := r.block.base
  let o := r.spec.off
  if b = Blk.dat.base then d.nativeDat o w
  else if b = Blk.lnt.base then d.nativeLnt o r.idx w
  else if b = Blk.gal.base then d.nativeGal r.inst o w
  else if b = Blk.int.base then d.nativeInt r.inst o w
  else if b = Blk.egr.base then d.nativeEgr o r.idx w
  else if b = Blk.msh.base then d.nativeMsh o w
  else if b = Blk.pcl.base then d.nativePcl r.inst o w
  else if b = Blk.dns.base then d.nativeDns r.inst o r.idx w
  else if b = Blk.trv.base then d.nativeTrv r.inst o w
  else if b = Blk.stk.base then d.nativeStk r.inst o r.idx w
  else if b = Blk.mbx.base then d.nativeMbx r.inst o w
  else if b = Blk.pwr.base then d.nativePwr o r.idx w
  else if b = Blk.tel.base then d.nativeTel o r.idx w
  else if b = Blk.fus.base then d.nativeFus o r.idx w
  else if b = Blk.lic.base then (if o = 0 then BitVec.ofNat 32 d.licencesHeld else w)
  else if b = Blk.flt.base then d.nativeFlt o r.idx w
  else if b = Blk.gdl.base then d.nativeGdl o w
  else w

/-- The word a read of an address returns, without the latch of a LO read; an address without a register reads as 0. -/
def Dev.peek (d : Dev) (a : Nat) : Word :=
  match regAt a with
  | none => 0
  | some r => d.native r (d.reg a) &&& r.spec.readMask

/-- What a read of an address latches (Tables 1.10, 5.10, 12.6, 15.11). -/
def Dev.latch (d : Dev) (a : Nat) : Dev :=
  if a = R.LNT_PTIME_LO then { d with lat := { d.lat with ptimeHi := BitVec.ofNat 32 (d.ptime / 2 ^ 32) } }
  else if a = R.LNT_MIR_PTIME_LO then { d with lat := { d.lat with mirPtimeHi := BitVec.ofNat 32 (d.ptime / 2 ^ 32) } }
  else if a = R.DAT_TICK_LO then { d with lat := { d.lat with tickHi := BitVec.ofNat 32 (d.dat.tick / 2 ^ 32) } }
  else match regAt a with
    | none => d
    | some r =>
      if r.block.base = Blk.gal.base ∧ r.spec.off = 0x104 then
        { d with lat := { d.lat with synHi := d.lat.synHi.set (fin8 r.inst) (d.reg (R.GAL_SYN_CNT_HI r.inst)) } }
      else if r.block.base = Blk.tel.base ∧ r.spec.off = 0x200 then
        (if h : r.idx < 36 then { d with lat := { d.lat with energyHi := d.lat.energyHi.set r.idx (d.reg (R.TEL_E_HI r.idx)) } } else d)
      else d

/-- A read of a register: its word, and the device with what the read latches. -/
def Dev.readReg (d : Dev) (a : Nat) : Word × Dev := (d.peek a, d.latch a)

/-- Reads of several registers, in order, as report entries. -/
def Dev.readRegs (d : Dev) : List Nat → List (Nat × Word) × Dev
  | [] => ([], d)
  | a :: t =>
    let (w, d) := d.readReg a
    let (l, d) := d.readRegs t
    ((a, w) :: l, d)

/-- Puts an address into its place. -/
def insertAddr (a : Nat) : List Nat → List Nat
  | [] => [a]
  | b :: t => if a ≤ b then a :: b :: t else b :: insertAddr a t

/-- Addresses of a register class of one block instance, in address order (R397). -/
def Block.addrs (b : Block) (i : Nat) (p : RegSpec → Bool) : List Nat :=
  List.foldr insertAddr [] <| (b.regs.filter p).flatMap (fun r => (List.range r.n).map (fun j => b.base + i * b.stride + r.off + j * r.stride))

end Sys2Proof.Machine
end

