-- ==== Sys2Proof/Machine/Routes.lean ====
section
/-!
DEFINITION. The routing table: dimension-ordered routes, SMASK, the marker tree; what follows from it for the experts and the Bearing leaders; group
management messages (R240, R255, R323, R325 to R327, Table 10.11).
-/
namespace Sys2Proof.Machine

/-- This chip's parcels, each with its slice and its Galleries. -/
def Dev.ownHomes (d : Dev) : List (Nat × Nat) :=
  ((List.finRange 8).filter (fun (q : Fin 8) => d.rf (R.PCL_RECT q) F.PCL_RECT_VALID = 1)).map
    (fun (q : Fin 8) => (d.rf (R.PCL_BIND q) F.PCL_BIND_SLICE, maskOf ((d.parcelGals q).map (·.val))))

/-- The slices of a chip's parcels, as a mask (Table 10.11). -/
def Dev.slicesOf (d : Dev) (c : Nat) : Nat :=
  maskOf (if c = d.selfChip then d.ownHomes.map (·.1) else (d.grp.homes.filter (fun h => h.1 == c)).map (fun h => h.2.1))

/-- The chips of the group's sizes, this one apart. -/
def Dev.others (d : Dev) : List Nat := (List.range 64).filter (fun c => c != d.selfChip && d.inGroup c)

/-- The routing entry of chip `x` for chip `c` (R323, R325, R326, Table 10.11). -/
def Dev.routeWordAt (d : Dev) (x c : Nat) : Nat :=
  if c = x then 1 + d.slicesOf x * 65536
  else match d.outFrom x c with
    | some k => k.val + 2 + d.slicesOf c * 65536
    | none => 0

/-- This chip's routing entry for chip `c`: in SINGLE the local entry alone. -/
def Dev.routeWord (d : Dev) (c : Nat) : Nat := if c ≠ d.selfChip ∧ d.grpSt = 0 then 0 else d.routeWordAt d.selfChip c

/-- The links on which chip `x` forwards markers: the first hops there of the routes from the leader, chip 0, that pass it (R327). -/
def Dev.treeAt (d : Dev) (x : Nat) : Nat :=
  maskOf (((List.range 64).filter (fun c => c != x && c != 0 && d.inGroup c && d.passes x c 9 0)).filterMap (fun c => (d.outFrom x c).map (·.val)))

/-- The links on which this chip forwards markers. -/
def Dev.markerTree (d : Dev) : Nat := d.treeAt d.selfChip

/-- UNREACH of every expert entry: set where the home is another chip and the routing table has no route to it (R240, R243, R326). -/
def Dev.markExperts (d : Dev) : Dev :=
  d.forEach (List.finRange 8) (fun g d => d.forEach (List.range 256) (fun e d =>
    let w := d.expert g e
    let un : Bool := exChip w != d.selfChip && d.rf (R.TRV_RT (exChip w)) F.TRV_RT_WORD % 8 == 0
    if exValid w ∧ exUnreach w ≠ un then d.setRf (R.CMP_EXP g (2 * e + 1)) ⟨30, 1⟩ (b2n un) else d))

/-- Writes the routing table; the experts' UNREACH follows. -/
def Dev.writeRoutes (d : Dev) : Dev :=
  let ws := (List.range 64).map (fun c => (c, d.routeWord c))
  (d.forEach ws (fun e d => d.setReg (R.TRV_RT e.1) (BitVec.ofNat 32 e.2))).markExperts

/-- Writes a coordinate, sizes and mode into the group block; the chip is SINGLE and its own leader (R318, R320). -/
def Dev.setCoord (d : Dev) (c : Coord) : Dev :=
  let i := c.x + 4 * c.y + 16 * c.z
  let w := i * 2 ^ 24 + i * 2 ^ 16 + (c.sz - 1) * 2 ^ 12 + (c.sy - 1) * 2 ^ 10 + (c.sx - 1) * 2 ^ 8
  let d := (d.setReg R.TRV_GRP_STAT (BitVec.ofNat 32 w)).setRf R.TRV_GRP_CTL F.TRV_GRP_CTL_MODE (b2n c.edge)
  ({ d with grp := { d.grp with coordSet := true } }).writeRoutes

/-- Sends a group management message to a chip along the routes of R323; the firmware defines its coding (Table 10.7), so its ARG is a free value. The
outbox keeps what it says. -/
def Dev.sendGrp (d : Dev) (c : Nat) (b : GrpBody) : Dev :=
  let d := d.emit (.groupMsg c b)
  match d.outFor c with
  | none => d
  | some k =>
    let (arg, d) := d.fresh 64
    d.sendMsg k { typ := 0x44, src := BitVec.ofNat 6 d.selfChip, dst := BitVec.ofNat 6 c, tag := 0, arg := arg, data := [] }

/-- The chips of a formed group, this one apart, by index. -/
def Dev.groupChips (d : Dev) : List Nat := if d.grpSt ≠ 2 ∧ d.grpSt ≠ 3 then [] else d.others

/-! ### The Bearing leaders (R255) -/

/-- The Galleries of a slice by chip: this chip's own, and the group's others. -/
def Dev.sliceHomes (d : Dev) (slice : Nat) : List (Nat × Nat) :=
  (d.ownHomes.filter (fun h => h.1 == slice)).map (fun h => (d.selfChip, h.2))
    ++ (d.grp.homes.filter (fun h => h.2.1 == slice && d.groupChips.contains h.1)).map (fun h => (h.1, h.2.2))

/-- The Bearing leader: the lowest Gallery of the slice on the lowest chip (R255). -/
def leaderOf (homes : List (Nat × Nat)) : Nat × Nat :=
  match homes.foldl (fun (b : Option (Nat × Nat)) h => match b with
    | none => some h
    | some x => if h.1 < x.1 ∧ h.2 ≠ 0 then some h else some x) none with
  | some h => (h.1, ((List.range 8).find? (fun g => h.2.testBit g)).getD 0)
  | none => (0, 0)

/-- Names the leader and the destinations of biases in one Compass unit (R255, Table 8.6). -/
def Dev.writeLeader (d : Dev) (homes : List (Nat × Nat)) (g : Nat) : Dev :=
  let ld := leaderOf homes
  let self : Bool := ld.1 == d.selfChip && ld.2 == g
  let d := d.setReg (R.CMP_BEAR_LEADER g) (BitVec.ofNat 32 (b2n self * 32768 + ld.2 * 64 + ld.1))
  d.forEach (List.range 16) (fun k d => d.setReg (R.CMP_BEAR_DEST g k) (BitVec.ofNat 32
    ((homes.filter (fun h => h.1 / 4 == k)).map (fun h => h.2 * 2 ^ (8 * (h.1 % 4)))).sum))

/-- Names the leader anew in the Compass units of every parcel that has an expert table, after the slice's Galleries have changed (R255). -/
def Dev.renameLeaders (d : Dev) : Dev :=
  d.forEach (List.finRange 8) (fun q d => d.forEach (d.parcelGals q) (fun g d =>
    if d.rf (R.CMP_POOL g) F.CMP_POOL_SIZE = 0 then d else d.writeLeader (d.sliceHomes (d.rf (R.PCL_BIND q) F.PCL_BIND_SLICE)) g))

/-- The Galleries that another chip reports for its slices (R255, R325). -/
def Dev.setHomes (d : Dev) (c : Nat) (l : List (Nat × Nat)) : Dev :=
  let homes : List (Nat × Nat × Nat) := d.grp.homes.filter (fun h => h.1 != c) ++ l.map (fun h => (c, h.1, h.2))
  let d := { d with grp := { d.grp with homes := homes } }
  d.writeRoutes.renameLeaders

/-- The slices of this chip's parcels have changed: the routing table and the leaders follow, and the group's other chips are told (R255, R325). -/
def Dev.slicesChanged (d : Dev) : Dev :=
  let d := d.writeRoutes.renameLeaders
  d.forEach d.groupChips (fun c d => d.sendGrp c (.slices d.ownHomes))

end Sys2Proof.Machine
end

