-- ==== Sys2Proof/Machine/Start.lean ====
section
/-!
DEFINITION. Resets, cold and warm starts, the boot watchdog, trial confirmation and Surveyor recovery (17_bringup.md; 18_faults.md R504 to
R506; 19_electrical.md R529). A start runs as one step, up to a failure or a hang.
-/
namespace Sys2Proof.Machine

/-- Changes the start sequence's state. -/
def Dev.updBoot (d : Dev) (f : Boot → Boot) : Dev := { d with boot := f d.boot }

/-- A level's length counts as a reset (R529): 10 µs or more does, under 1 µs does not, and between them the spec does not say. -/
def Dev.pulseCounts (d : Dev) (ns : Nat) : Bool × Dev :=
  if 10000 ≤ ns then (true, d)
  else if ns < 1000 then (false, d)
  else
    let (b, d) := d.fresh 1
    (b == 1#1, d)

/-- The device after COLD_N: every piece of it at its cold reset value, the fuses and the Ledger kept (R21, Table 17.1). -/
def coldReset (pin internal : Bool) (m : Mach) : Mach :=
  let d := Dev.cold m.dev.fus m.dev.led
  { dev := { d with freeCtr := m.dev.freeCtr, outbox := m.dev.outbox, boot := { coldPin := pin, coldInternal := internal } }, mem := [] }

/-- COLD_N: the pin's level falls for `ns` nanoseconds (R529). -/
def coldN (ns : Nat) (m : Mach) : Mach :=
  let (b, d) := m.dev.pulseCounts ns
  if b then coldReset true d.boot.coldInternal { m with dev := d } else { m with dev := d }

/-- COLD_N. -/
def execColdN (ns : Nat) (s : State) : Host.Outcome State Fault Refusal := memStep s (coldN ns)

/-- Registers that WARM_N leaves: those of the Lantern domain, the licences in effect, and the life counts (R21, R387, R490). -/
def warmKeeps (a : Nat) : Bool := match regAt a with
  | some r => r.block.lantern || r.block.base == Blk.lic.base || (decide (R.LCK_LIFE 0 ≤ a) && decide (a ≤ R.LCK_LIFE 74))
  | none => false

/-- A domain after WARM_N, before its start: as after COLD_N, its policy kept (Table 15.11). -/
def Dom.warm (f : Fuses) (d : Nat) (old : Dom) : Dom := { Dom.cold f d with policy := old.policy }

/-- The Lantern's part of the clock state: where powered time and the Lantern clock run. -/
def lanternClk (w : Word) : Word := fput F.CLK_STAT_RC_ON_REF (fput F.CLK_STAT_PT_RC 0 (fget F.CLK_STAT_PT_RC w)) (fget F.CLK_STAT_RC_ON_REF w)

/-- The latched HI words that WARM_N leaves: those of the Lantern domain's registers (R21). -/
def Latches.warm (l : Latches) : Latches := { l with tickHi := 0, synHi := Vector.replicate 8 0 }

/-- What WARM_N does to the device (Table 17.1, R21, R45, R52; Table 12.3): the Lantern domain, the Ledger, the scratchpad's contents, the
session mode and the licences in effect are kept; rings are cleared and the life counts of every owner but remote chips rise; all else
returns to its reset value. -/
def warmReset (m : Mach) : Mach :=
  let d := m.dev.forEach (List.range 11) (fun o d => d.raiseLife o)
  let c := Dev.cold d.fus d.led
  let e : Dev := { c with
    regs := d.regs.filter (fun e => warmKeeps e.1)
    clk := d.clk, freeCtr := d.freeCtr, outbox := d.outbox, boot := d.boot, lat := d.lat.warm, locks := d.locks, flt := d.flt, gdl := { d.gdl with halted := [] }, pins := d.pins
    dat := { c.dat with lastTurn := d.clk }
    scp := { written := d.scp.written, poison := d.scp.poison }
    pwr := { d.pwr with doms := Vector.ofFn fun i : Fin 36 => Dom.warm d.fus i.val d.pwr.doms[i], req := none, queue := [],
                        secondSlot := false, stopJobs := false, hotSlot := false, slotSkip := 0, writes := [] }
    clks := { rcSince := d.clks.rcSince } }
  let e := e.setReg R.CLK_STAT (lanternClk (d.reg R.CLK_STAT))
  { dev := e.setMirror 1 0, mem := m.mem.filter (fun c => decide (scpWindow ≤ c.1) && decide (c.1 < scpWindow + scpBytes)) }

/-- WARM_N is asserted, from the pin or inside: the reset takes hold until WARM_START (R529, Table 17.1). -/
def warmHold (m : Mach) : Mach :=
  let m := warmReset m
  { m with dev := m.dev.updBoot (fun b => { b with warmHeld := true, resume := none, refOk := false, warmAt := none, onlineAt := none }) }

/-- The REASON of the mirror. -/
def Dev.mirReason (d : Dev) : Nat := d.rf R.LNT_MIR_STATE F.LNT_MIR_STATE_REASON

/-- WARM_N: the pin's level falls for `ns` nanoseconds. It is ignored under cold reset; during a cold start's wait for the reference it
is held until stage 2; FAILED for any other reason than a PLL leaves it without effect (R475, R529). -/
def warmN (ns : Nat) (m : Mach) : Mach :=
  let (b, d) := m.dev.pulseCounts ns
  let m := { m with dev := d }
  if !b ∨ d.boot.inCold = true ∨ d.boot.testMode = true then m
  else if d.boot.resume = some 1 then { m with dev := d.updBoot (fun x => { x with warmLatched := true }) }
  else if d.mirState = 4 ∧ d.boot.resume ≠ some 4 then m
  else warmHold m

/-- WARM_N. -/
def execWarmN (ns : Nat) (s : State) : Host.Outcome State Fault Refusal := memStep s (warmN ns)

/-- A stage of a start ends: the machine, and whether the next stage begins. -/
abbrev StageRes := Mach × Bool

/-- Sets the stage code in the mirror and in the boot status (Table 17.2). -/
def Dev.setStage (d : Dev) (n : Nat) : Dev :=
  (d.setRf R.LNT_MIR_STATE F.LNT_MIR_STATE_STAGE n).setRf R.LNT_BOOT_STAT F.LNT_BOOT_STAT_STAGE n

/-- The start reaches FAILED with a REASON of Table 17.4; where Table 18.7 has no code for the failure, the record's code is a free value
(R474). -/
def Dev.startFails (d : Dev) (reason : Nat) : Dev :=
  let d := if reason = 1 ∨ reason = 3 then
      (let (code, d) := d.fresh 8
       d.collect { cls := 0, code := code.toNat, sev := 0 })
    else d
  d.setMirror 4 reason

/-- Puts a domain into a state with no reason. -/
def Dev.domTo (d : Dev) (i : Nat) (st : DomSt) (reason : Nat := 0) : Dev := d.updDom i (fun x => { x with st := st, stage := 0, reason := reason, wakeEvent := false })

/-- Puts a fitted domain into a state; an absent one stays held. -/
def Dev.bringUp (d : Dev) (i : Nat) (st : DomSt) : Dev := if d.fus.domFitted i then d.domTo i st else d

/-- Stage 0 SUPPLY: powered time starts at 0, the HOST domain wakes, the mirror reads BOOTING (R47, R469). -/
def stage0 (m : Mach) : StageRes :=
  let d := { m.dev with clk := 0 }
  let d := (d.domTo 30 .on).domTo 1 .on
  let d := { d with host := { d.host with linkUp := true } }
  ({ m with dev := (d.setStage 0).setRf R.LNT_BOOT_STAT F.LNT_BOOT_STAT_COLD 1 }, true)

/-- Stage 1 REF: the start waits in FAILED CLOCK while the reference is not stable (Table 17.3, R459). -/
def stage1 (x : StartInputs) (m : Mach) : StageRes :=
  let d := m.dev.setStage 1
  if x.refStable then ({ m with dev := d.setRf R.CLK_STAT F.CLK_STAT_STABLE (Nat.lor (d.rf R.CLK_STAT F.CLK_STAT_STABLE) 1) }, true)
  else
    let d := (d.setRf R.CLK_STAT F.CLK_STAT_PT_RC 1).startFails 4
    let d := { d with clks := { d.clks with rcSince := some d.clk } }
    ({ m with dev := d.updBoot (fun b => { b with resume := some 1, refOk := false }) }, false)

/-- Records the slot that runs (LNT_BOOT_STAT, LNT_MIR_STATE, LNT_MIR_FWVER). -/
def Dev.runSlot (d : Dev) (s : Fin 2) (trial fallback : Bool) (i : FwImage) : Dev :=
  let d := d.setRf R.LNT_BOOT_STAT F.LNT_BOOT_STAT_SLOT s.val
  let d := d.setRf R.LNT_BOOT_STAT F.LNT_BOOT_STAT_TRIAL (b2n trial)
  let d := d.setRf R.LNT_BOOT_STAT F.LNT_BOOT_STAT_FALLBACK (b2n fallback)
  let d := (d.setRf R.LNT_MIR_STATE F.LNT_MIR_STATE_SLOT s.val).setReg R.LNT_MIR_FWVER i.version
  d.updBoot (fun b => { b with slot := s, trial := trial, imageLen := i.len, secver := i.secver })

/-- The other slot. -/
def otherSlot (s : Fin 2) : Fin 2 := if s = 0 then 1 else 0

/-- Stage 2 SATHEN: the TRIAL slot, else the CONFIRMED one; on rejection the other, once (R479, Table 17.3). -/
def stage2 (x : StartInputs) (m : Mach) : StageRes :=
  let d := m.dev.setStage 2
  if !x.ledgerResponds then ({ m with dev := d.startFails 2 }, false)
  else
    let r := d.led.bootRec
    let s := r.trial.getD r.confirmed
    match bootImage d.fus d.led.slots[s] (bit x.badSlots s.val) with
    | some i => ({ m with dev := d.runSlot s r.trial.isSome false i }, true)
    | none =>
      let d := d.clearTrial
      let o := otherSlot s
      match bootImage d.fus d.led.slots[o] (bit x.badSlots o.val) with
      | some i => ({ m with dev := d.runSlot o false true i }, true)
      | none => ({ m with dev := d.startFails 1 }, false)

/-- Stage 3 FUSE: fuse rows are sensed, the factory repairs applied (R483, R485). -/
def stage3 (x : StartInputs) (m : Mach) : StageRes :=
  let d := m.dev.setStage 3
  if 3 ≤ x.fuseParityFails then ({ m with dev := d.startFails 3 }, false)
  else
    let d := (d.setRf R.FUS_STAT F.FUS_STAT_RETRY x.fuseParityFails).setRf R.FUS_STAT F.FUS_STAT_SENSED 1
    ({ m with dev := d.forEach d.fus.factory (fun e d => d.applyRetire e) }, true)

/-- A clock is judged stable (R456, CLK_STAT). -/
def Dev.clockStable (d : Dev) (mon : Nat) (b : Bool) : Dev :=
  let w := d.rf R.CLK_STAT F.CLK_STAT_STABLE
  let w := if b then Nat.lor w (2 ^ mon) else w - (if w.testBit mon then 2 ^ mon else 0)
  let d := d.setRf R.CLK_STAT F.CLK_STAT_STABLE w
  if h : mon < 30 then
    { d with clks := { d.clks with mons := d.clks.mons.set mon { d.clks.mons[mon] with stable := b, good := 0, bad := 0, relock := false } } }
  else d

/-- The PLL that a monitor measures (Table 16.3, Table 16.7): PLL-S, D, M, L, H, T for monitors 1 to 6. -/
def pllOfMon (mon : Nat) : Option Nat := if 1 ≤ mon ∧ mon ≤ 6 then some (mon - 1) else none

/-- A PLL locks, and its clock is judged stable. -/
def Dev.pllUp (d : Dev) (mon : Nat) : Dev := match pllOfMon mon with
  | some p => (d.setReg (R.CLK_PLL_STAT p) 1).clockStable mon true
  | none => d.clockStable mon true

/-- A failure of a clock: counted and raised (R457). -/
def Dev.clockFault (d : Dev) (mon : Nat) : Dev :=
  let d := d.bump (R.CLK_MON_STAT mon) F.CLK_MON_STAT_FAILS
  d.raiseFrom 0x06 (Flt.clkFail mon (d.rf (R.CLK_MON_STAT mon) F.CLK_MON_STAT_FAILS))

/-- Stage 4 CLOCKS: the PLLs start at their fixed frequencies, PLL-D at 400 MHz; core 0 is released (R452, Table 17.3). -/
def stage4 (x : StartInputs) (m : Mach) : StageRes :=
  let d := m.dev.setStage 4
  match x.badPll with
  | some p =>
    if 1 ≤ p.val then
      let d := (d.clockFault p.val).startFails 4
      ({ m with dev := d.updBoot (fun b => { b with resume := some 4 }) }, false)
    else ({ m with dev := d.forEach (List.range 8) (fun i d => d.pllUp i) }, true)
  | none => ({ m with dev := d.forEach (List.range 8) (fun i d => d.pllUp i) }, true)

/-- A Gallery and its plane are withheld (R486). -/
def Dev.withhold (d : Dev) (g : Fin 8) : Dev :=
  let d := d.setRf R.LNT_BOOT_STAT F.LNT_BOOT_STAT_WITHHELD (Nat.lor (d.rf R.LNT_BOOT_STAT F.LNT_BOOT_STAT_WITHHELD) (2 ^ g.val))
  (d.domTo (4 + g.val) .held 1).domTo (12 + g.val) .held 1

/-- Whether a Gallery is withheld (LNT_BOOT_STAT.WITHHELD). -/
def Dev.withheld (d : Dev) (g : Nat) : Bool := (d.rf R.LNT_BOOT_STAT F.LNT_BOOT_STAT_WITHHELD).testBit g

/-- A synapse bank that fails the march takes the spare, with a FIELD entry, or withholds its Gallery (R486). -/
def Dev.marchBank (d : Dev) (g b : Fin 8) : Dev :=
  if d.spareUsed g then (if d.rf (R.GAL_BANK_MAP g) F.GAL_BANK_MAP_RETIRED = b.val then d else d.withhold g)
  else (d.spareGalBank g b).retireMap 1 g b

/-- A failure that a spare row or column takes: its FIELD entry is added and applied (R486). -/
def Dev.marchSpare (d : Dev) (e : BitVec 32) : Dev :=
  let k := rmKind e
  if 2 ≤ k ∧ k ≤ 5 then (d.retireMap k (rmUnit e) (rmLoc e)).applyRetire e else d

/-- Stage 5 MARCH: every Gallery SRAM, and at a cold start the scratchpad, is marched and zeroed; failures take spares (R476, R486). -/
def stage5 (cold : Bool) (x : StartInputs) (m : Mach) : StageRes :=
  let d := (m.dev.setStage 5).setRf R.LNT_BOOT_STAT F.LNT_BOOT_STAT_WITHHELD 0
  let d := d.forEach x.marchBanks (fun e d => d.marchBank e.1 e.2)
  let d := d.forEach x.marchSpared (fun e d => d.marchSpare e)
  let d := d.forEach x.marchRows (fun g d => d.withhold g)
  if cold then
    let d := d.forEach x.marchScp (fun b d => d.retireBank b.val (b.val * 64))
    ({ dev := { d with scp := { d.scp with written := [], poison := [] } }, mem := Memory.zero m.mem scpWindow (scpWindow + scpBytes) }, true)
  else ({ m with dev := d }, true)

/-- The session number is written, or the session is unnumbered (R49). -/
def Dev.writeSession (d : Dev) (ok : Bool) : Dev :=
  let d := d.updBoot (fun b => { b with sessionDue := false })
  let n := d.led.session
  if ok ∧ n < 0xFFFFFFFE then
    (d.updLed (fun l => { l with session := n + 1 })).setRf R.LNT_SESSION F.LNT_SESSION_SESSION (n + 1)
  else
    let d := (d.setReg R.LNT_SESSION 0).setRf R.LNT_SESS_STAT F.LNT_SESS_STAT_UNNUM 1
    (d.setRf R.LNT_MIR_STATE F.LNT_MIR_STATE_UNNUM 1).collect (Flt.ledger 1)

/-- Numbers the records that came before the counter was loaded (R500). -/
def numberFrom (n session : Nat) : List FltRec → List FltRec
  | [] => []
  | x :: t => { x with seq := n, session := session } :: numberFrom (n + 1) session t

/-- The sequence counter is loaded from the Ledger; earlier records of the start are numbered in order (R500). -/
def Dev.loadSeq (d : Dev) : Dev :=
  if d.flt.numbered then d
  else
    let n := d.led.nextSeq
    let k := d.flt.recs.length
    let recs := numberFrom n (d.rf R.LNT_SESSION F.LNT_SESSION_SESSION) d.flt.recs
    let d := { d with flt := { d.flt with recs := recs, numbered := true } }
    let d := d.setRf R.FLT_SEQ F.FLT_SEQ_SEQ (n + k)
    if k = 0 then d else d.setReg R.LNT_MIR_FLTSEQ (BitVec.ofNat 32 (n + k - 1))

/-- The host label (R51). -/
def Dev.hostLabel (d : Dev) : Nat := (d.reg R.LNT_HLABEL_LO).toNat + 2 ^ 32 * (d.reg R.LNT_HLABEL_HI).toNat

/-- The retire map copy: FIELD entries are applied, or lost with a copy that fails its authentication (R485). -/
def Dev.applyMap (d : Dev) (ok : Bool) : Dev :=
  if ok then
    let d := d.forEach d.led.rmap (fun e d => d.applyRetire e)
    d.setRf R.FUS_RMAP_CNT F.FUS_RMAP_CNT_FIELD d.led.rmap.length
  else
    let n := d.led.rmap.length
    (d.updLed (fun l => { l with rmap := [] })).collect (Flt.rmap n)

/-- The stored licences are checked; those that pass are in effect (R15, R490). -/
def Dev.checkLicences (d : Dev) (bad : BitVec 6) : Dev :=
  let d := (d.setReg R.LIC_EFFECT 0).setReg R.LIC_BAD 0
  d.forEach (List.finRange 6) (fun i d => match d.led.licences[i] with
    | none => d
    | some b =>
      if !bit bad i.val && licencePasses d.fus b then d.setReg R.LIC_EFFECT (d.reg R.LIC_EFFECT ||| BitVec.ofNat 32 (2 ^ i.val))
      else (d.setReg R.LIC_BAD (d.reg R.LIC_BAD ||| BitVec.ofNat 32 (2 ^ i.val))).collect (Flt.licence i.val))

/-- The session's mode (R16): lab with the lab fuse or a valid LAB-MODE record. -/
def Dev.decideMode (d : Dev) : Dev :=
  let lab := d.fus.lab || d.licensed 5
  (d.setRf R.LNT_MIR_STATE F.LNT_MIR_STATE_LAB (b2n lab)).updBoot (fun b => { b with lab := lab })

/-- Stage 6 LEDGER (R476, R485, R490, R500, R502). The session number, the licences and the mode belong to the session: they are settled
once, by the start that first comes here. -/
def stage6 (x : StartInputs) (m : Mach) : StageRes :=
  let d := m.dev.setStage 6
  let due := d.boot.sessionDue
  let d := if due then d.writeSession x.sessionWriteOk else d
  let d := d.loadSeq
  let d := d.collect (Flt.session (d.rf R.LNT_SESSION F.LNT_SESSION_SESSION) d.hostLabel)
  let d := d.applyMap x.rmapAuthentic
  let d := if due then (d.checkLicences x.badLicences).decideMode else d
  ({ m with dev := d }, true)

/-- The stack state with a code (Table 11.3). -/
def stkStOf (n : Nat) : StkSt := if n = 2 then .phyinit else .ident

/-- A stack's training comes to an end at a start (R338 to R340, R487). -/
def Dev.trainStack (d : Dev) (s : Fin 4) (o : StackOutcome) : Dev :=
  if !bit d.fus.stks s.val then d
  else
    let d := d.domTo (31 + s.val) .on
    match o.failed with
    | some st => d.failStack s (stkStOf st)
    | none =>
      let known := d.led.stackRecs[s].filter (fun r => !o.full && r.devId == o.devId)
      let r : StkRec := known.getD { devId := o.devId, repairs := o.repairs, settings := o.settings, pcs := 0 }
      let d := d.updStk s (fun k => { k with st := .ready, devId := o.devId, repairs := r.repairs, settings := r.settings })
      let d := (d.retirePcs s o.badPcs).setRf (R.STK_CTL s) F.STK_CTL_EN 1
      if known.isSome then d
      else
        let r := { r with pcs := BitVec.ofNat 32 (d.rf (R.STK_PC_RET s) F.STK_PC_RET_RET) }
        d.updLed (fun l => { l with stackRecs := l.stackRecs.set s (some r) })

/-- Stage 7 STACKS: every fitted stack trains (R487). -/
def stage7 (x : StartInputs) (m : Mach) : StageRes :=
  let d := m.dev.setStage 7
  ({ m with dev := d.forEach (List.finRange 4) (fun s d => d.trainStack s (x.stackOut.getD s.val {})) }, true)

/-- Whether link `k` stays OFF for want of EDGE-STORAGE: Z+ in edge mode or in the storage-attach role (R12, R317). -/
def Dev.zIdle (d : Dev) (k : Fin 6) (edge : Bool) (role : Nat) : Bool := k.val == 5 && (edge || role == 2) && !d.licensed 4

/-- A link recorded as enabled is enabled with its recorded role, and begins to train (R487); Z+ without its licence stays OFF (R317). -/
def Dev.startLink (d : Dev) (k : Fin 6) : Dev := match d.led.linkRoles[k] with
  | some role =>
    if d.zIdle k ((d.led.coord.map (·.edge)).getD false) role then d
    else if bit d.fus.links k.val then ((d.domTo (24 + k.val) .on).setRf (R.TRV_CTL k) F.TRV_CTL_ROLE role).enableLink k else d
  | none => d

/-- Stage 8 LINKS: training goes on by the links' own steps; a link not yet ACTIVE holds nothing back (R471). -/
def stage8 (m : Mach) : StageRes :=
  let d := m.dev.setStage 8
  ({ m with dev := d.forEach (List.finRange 6) (fun k d => d.startLink k) }, true)

/-- The clock last set (R446, R452). -/
def Dev.setClock (d : Dev) (mhz : Nat) : Dev := { d with clks := { d.clks with setMhz := mhz } }

/-- Stage 9 DENSE: the Dense clock rises to the fused maximum, or stays at 400 MHz with a fault (R452, Table 17.3). -/
def stage9 (x : StartInputs) (m : Mach) : StageRes :=
  let d := m.dev.setStage 9
  if x.denseOk then
    let d := (d.setRf (R.CLK_PLL_CFG 1) F.CLK_PLL_CFG_MHZ d.fus.denseMhz).setClock d.fus.denseMhz
    ({ m with dev := d.bump R.CLK_DCHG_CNT F.CLK_DCHG_CNT_DONE }, true)
  else ({ m with dev := (d.bump R.CLK_DCHG_CNT F.CLK_DCHG_CNT_FAULT).clockFault 2 }, true)

/-- The system region of a READY stack: region 15, OWNER 15, the first 1 GiB (R542). -/
def Dev.systemRegion (d : Dev) (s : Fin 4) : Dev :=
  if (d.stk s).st = .ready then
    let base := s.val * 16384
    let d := d.setReg (R.STK_RGN_LIM s 15) (BitVec.ofNat 32 (base + 1023))
    let d := d.setReg (R.STK_RGN_BASE s 15) (BitVec.ofNat 32 (2 ^ 31 + 15 * 2 ^ 24 + base))
    d.setWm s 15 (base * 16384)
  else d

/-- The grant word of lock `n` (Table 12.15): Surveyor cores always; PF; VF v; remote on the group leader. -/
def grantWord (leader : Bool) (n : Nat) : BitVec 32 :=
  BitVec.ofNat 32 (1 + (if 16 ≤ n ∧ n < 48 then 2 else 0) + (if 24 ≤ n ∧ n < 48 then 4 * 2 ^ ((n - 24) / 3) else 0)
    + (if 48 ≤ n ∧ leader then 1024 else 0))

/-- Sets the lock grants and LCK_CTL.COMMIT (R391). -/
def Dev.setGrants (d : Dev) (leader : Bool) : Dev :=
  (d.forEach (List.range 64) (fun n d => d.setReg (R.LCK_GRANT n) (grantWord leader n))).setRf R.LCK_CTL F.LCK_CTL_COMMIT 1

/-- Whether the chip leads its group, or is single and so its own leader (R37): the chip with index 0 leads. -/
def Dev.leads (d : Dev) : Bool := match d.led.coord with
  | none => true
  | some c => c.x + 4 * c.y + 16 * c.z == 0

/-- The domain states at ONLINE (R473). -/
def Dev.onlineDomains (d : Dev) : Dev :=
  let d := d.bringUp 3 .on
  let d := d.forEach (List.range 8) (fun g d =>
    if d.withheld g then (d.domTo (4 + g) .held 1).domTo (12 + g) .held 1 else (d.domTo (4 + g) .retained).domTo (12 + g) .retained)
  d.forEach (List.range 4) (fun c d => d.bringUp (20 + c) .off)

/-- RESET_NOTE for the group leader, chip 0, from a chip that keeps a coordinate (R499). -/
def Dev.sendResetNote (d : Dev) : Dev := match d.led.coord with
  | none => d
  | some c =>
    let self := c.x + 4 * c.y + 16 * c.z
    if self = 0 then d
    else (d.bump R.GDL_TUNNEL_CNT F.GDL_TUNNEL_CNT_TX).emit (.tunnel 0 { dst := 0, src := 0, op := 0x07, payload := [BitVec.ofNat 8 self] })

/-- The coordinate kept in the Ledger is set again; without one the routing table takes its local entry (R323, R477). -/
def Dev.restoreCoord (d : Dev) : Dev := match d.led.coord with
  | some c => d.setCoord c
  | none => d.writeRoutes

/-- Stage 10 ONLINE (Table 17.2, R473). -/
def stage10 (x : StartInputs) (m : Mach) : StageRes :=
  let d := m.dev.setStage 10
  let d := d.forEach (List.finRange 4) (fun s d => d.systemRegion s)
  let d := (d.setGrants d.leads).onlineDomains
  let d := (d.advance (x.elapsedUs * 100)).setReg R.LNT_BOOT_TIME (BitVec.ofNat 32 x.elapsedUs)
  let d := d.updBoot (fun b => { b with onlineAt := some d.clk, retried := false })
  ({ m with dev := (d.restoreCoord.sendResetNote).setMirror 2 0 }, true)

/-- The stages from number `n` on, each once the one before has ended; the firmware hangs at the stage named (R468, R480). -/
def runStages (cold : Bool) (x : StartInputs) : List Nat → Mach → Mach
  | [], m => m
  | n :: t, m =>
    if x.hangAt = some n ∧ 5 ≤ n then { m with dev := m.dev.setStage n }
    else
      let r : StageRes := match n with
        | 0 => stage0 m
        | 1 => stage1 x m
        | 2 => stage2 x m
        | 3 => stage3 x m
        | 4 => stage4 x m
        | 5 => stage5 cold x m
        | 6 => stage6 x m
        | 7 => stage7 x m
        | 8 => stage8 m
        | 9 => stage9 x m
        | _ => stage10 x m
      if r.2 then runStages cold x t r.1 else r.1

/-- The stages from `n` to 10. -/
def stagesFrom (n : Nat) : List Nat := (List.range 11).drop n

/-- A start that waited in FAILED CLOCK goes on from a stage; the mirror reads BOOTING again (Table 17.3). -/
def resumeStart (cold : Bool) (x : StartInputs) (n : Nat) (m : Mach) : Mach :=
  let d := (m.dev.updBoot (fun b => { b with resume := none, refOk := false })).setMirror 1 0
  runStages cold x (stagesFrom n) { m with dev := d }

/-- Whether the last start was cold (LNT_BOOT_STAT.COLD). -/
def Dev.lastCold (d : Dev) : Bool := d.rf R.LNT_BOOT_STAT F.LNT_BOOT_STAT_COLD == 1

/-- COLD_START: the pin is released. The start runs its stages once both sources of COLD_N are released (R467, R468, R529); one that waits
for the reference goes on once it is stable, one that waits for a PLL tries stage 4 again. -/
def coldStart (x : StartInputs) (m : Mach) : Mach :=
  let d := m.dev.updBoot (fun b => { b with coldPin := false })
  let m := { m with dev := d }
  if d.boot.inCold then
    (if d.boot.coldInternal then m
     else runStages true x (stagesFrom 0) { m with dev := d.updBoot (fun b => { b with inCold := false }) })
  else if d.boot.warmHeld = true ∨ d.lastCold = false then m
  else if d.boot.resume = some 1 ∧ d.boot.refOk = true then
    (if d.boot.warmLatched then warmHold { m with dev := d.updBoot (fun b => { b with warmLatched := false }) }
     else resumeStart true x 2 m)
  else if d.boot.resume = some 4 then resumeStart true x 4 m
  else m

/-- COLD_START. -/
def execColdStart (x : StartInputs) (s : State) : Host.Outcome State Fault Refusal := memStep s (coldStart x)

/-- A warm start's stages 2 to 10 (R476): LNT_BOOT_CNT.WARM counts it. -/
def runWarm (x : StartInputs) (m : Mach) : Mach :=
  let d := m.dev.updBoot (fun b => { b with warmHeld := false })
  let d := (d.setRf R.LNT_BOOT_STAT F.LNT_BOOT_STAT_COLD 0).bump R.LNT_BOOT_CNT F.LNT_BOOT_CNT_WARM
  let d := ((d.domTo 30 .on).domTo 1 .on)
  let d := { d with host := { d.host with linkUp := true } }
  runStages false x (stagesFrom 2) { m with dev := d }

/-- WARM_START: WARM_N is released, after DEVICE_WARM_RESET has asserted it if that is due (R467, R476). While the reference is lost the
start does not begin (Table 16.4). -/
def warmStart (x : StartInputs) (m : Mach) : Mach :=
  let m := if m.dev.boot.warmAt.isSome ∧ m.dev.boot.inCold = false then warmHold m else m
  if m.dev.boot.inCold then m
  else if m.dev.boot.warmHeld then (if m.dev.clks.rcSince.isSome then m else runWarm x m)
  else if m.dev.boot.resume = some 4 ∧ m.dev.lastCold = false then resumeStart false x 4 m
  else m

/-- WARM_START. -/
def execWarmStart (x : StartInputs) (s : State) : Host.Outcome State Fault Refusal := memStep s (warmStart x)

/-- BOOT_WATCHDOG: ONLINE is not reached within 5 s of the release of core 0 (R480). -/
def bootWatchdog (m : Mach) : Mach :=
  let d := m.dev
  if d.mirState = 1 ∧ 5 ≤ d.rf R.LNT_MIR_STATE F.LNT_MIR_STATE_STAGE ∧ d.boot.warmHeld = false ∧ d.boot.inCold = false then
    (if d.boot.trial then warmHold { m with dev := d.clearTrial }
     else if d.boot.retried then { m with dev := d.startFails 1 }
     else warmHold { m with dev := d.updBoot (fun b => { b with retried := true }) })
  else m

/-- BOOT_WATCHDOG. -/
def execBootWatchdog (s : State) : Host.Outcome State Fault Refusal := memStep s bootWatchdog

/-- Whether the device has been ONLINE for 60 s of powered time since its start (R481). -/
def Dev.onlineLong (d : Dev) : Bool := match d.boot.onlineAt with
  | some t => decide (t + 6000000000 ≤ d.clk)
  | none => false

/-- TRIAL_CONFIRM: 60 s ONLINE with no Warden reset of the Surveyor (R481): the TRIAL is confirmed, then SECVER fuses are blown. A
confirmation check also makes good fuses that a power loss left unblown (17_bringup.md: Corners). -/
def trialConfirm (d : Dev) : Dev :=
  if d.mirState ≠ 2 ∨ d.onlineLong = false then d
  else
    let d := if d.boot.trial then
        ((d.updLed (fun l => l.writeBoot d.boot.slot none)).setRf R.LNT_BOOT_STAT F.LNT_BOOT_STAT_TRIAL 0).updBoot (fun b => { b with trial := false })
      else d
    if d.fus.secver < d.boot.secver ∧ d.boot.slot = d.led.bootRec.confirmed then
      { d with fus := { d.fus with secver := min d.boot.secver 64 } }
    else d

/-- TRIAL_CONFIRM. -/
def execTrialConfirm (s : State) : Host.Outcome State Fault Refusal := devStep s trialConfirm

/-- THERMAL_RECOVERY: the hottest reading has fallen below 90 °C after a trip (R447). -/
def execThermalRecovery (t : Nat) (s : State) : Host.Outcome State Fault Refusal :=
  memStep s (fun m => if m.dev.mirState = 4 ∧ m.dev.mirReason = 5 ∧ t < 90 then warmHold m else m)

/-- Raises the recovery count (LNT_MIR_STATE.RECOV, FLT_RECOV.COUNT). -/
def Dev.countRecovery (d : Dev) : Dev :=
  (d.bump R.LNT_MIR_STATE F.LNT_MIR_STATE_RECOV).bump R.FLT_RECOV F.FLT_RECOV_COUNT

/-- Steps 1 to 4 of Table 18.9: the Warden resets the Surveyor, its locks break, and it waits to be reloaded. -/
def Dev.recoverSurveyor (d : Dev) (reason : Nat) : Dev :=
  let d := (d.setMirror 3 reason).countRecovery
  let d := (d.setRf R.FLT_STAT F.FLT_STAT_RECOVERING 1).setRf R.FLT_STAT F.FLT_STAT_REASON reason
  let d := d.collect (Flt.recover reason (d.reg R.LNT_MIR_BEAT).toNat)
  let d := (((d.domTo 1 .waking).raiseLife 0).raiseLife 1).sendResetNote
  d.updBoot (fun b => { b with recoverAt := d.clk })

/-- A trigger of Table 18.8 resets the Surveyor: before a TRIAL is confirmed the Warden clears it and starts warm on the CONFIRMED slot
(R481, R506); else the Surveyor recovers, and a trigger during a recovery starts it over. The watchdog watches in ONLINE and UPDATING. -/
def surveyorReset (reason : Nat) (m : Mach) : Mach :=
  let d := m.dev
  let st := d.mirState
  if ¬ (st = 2 ∨ st = 5 ∨ (st = 3 ∧ reason ≠ 1)) ∨ (reason = 1 ∧ d.rf R.FLT_WDT F.FLT_WDT_EN = 0) then m
  else if d.boot.trial then warmHold { m with dev := d.clearTrial }
  else { m with dev := d.recoverSurveyor reason }

/-- SURVEYOR_RECOVERY: 1 WATCHDOG, 2 CLOCK, 3 TCM, 4 PANIC (Table 18.8). -/
def execSurveyorRecovery (reason : Fin 5) (s : State) : Host.Outcome State Fault Refusal :=
  memStep s (fun m => if reason.val = 0 then m else surveyorReset reason.val m)

/-- PANIC: the firmware writes FLT_CTL.PANIC (Table 18.12). -/
def execPanic (s : State) : Host.Outcome State Fault Refusal := memStep s (surveyorReset 4)

/-- The completion of an interrupted command (R384): RESULT0 0, not applied, for one not started; 2, in part, for one in progress. -/
def interrupted (idx : Nat) (desc : BitVec 512) (orphan : Bool) (r0 : BitVec 64) : Cpl :=
  { opcode := bits desc 15 0, tag := bits desc 31 16, idx := idx, notify := bit desc 40, status := .interrupted, result0 := r0, result1 := 0,
    detail := 0, orphan := orphan }

/-- Completes every fetched and started command as INTERRUPTED (R384). -/
def Dev.interruptAll (d : Dev) : Dev :=
  let d := d.forEach d.host.started (fun x d => d.finish x.issuer (interrupted x.idx x.desc x.orphan 2))
  let d := { d with taps := [], host := { d.host with started := [] } }
  let d := d.forEach allFuncs (fun f d =>
    let l := (d.ring f).fetched
    let d := d.updRing f (fun r => { r with fetched := [] })
    d.forEach l (fun x d => d.finish (.fn f) (interrupted x.idx x.desc x.orphan 0)))
  let l := d.host.attach.fetched
  let d := { d with host := { d.host with attach := { d.host.attach with fetched := [] } } }
  d.forEach l (fun x d => d.finish .attach (interrupted x.idx x.desc x.orphan 0))

/-- RECOVERY_RETURN: steps 5 to 7 of Table 18.9. 0: the firmware is back; 1 or 2: Sathen's reload fails, FIRMWARE or LEDGER (R506). -/
def recoveryReturn (out : Nat) (d : Dev) : Dev :=
  if d.mirState ≠ 3 then d
  else if out ≠ 0 then d.startFails out
  else
    let us := (d.clk - d.boot.recoverAt) / 100
    let d := ((d.domTo 1 .on).drain true).interruptAll
    let d := (d.setRf R.FLT_STAT F.FLT_STAT_RECOVERING 0).setRf R.FLT_RECOV F.FLT_RECOV_LAST_MS (min 0xFFFF (us / 1000))
    (d.setMirror 2 0).collect (Flt.ret us)

/-- RECOVERY_RETURN. -/
def execRecoveryReturn (out : Fin 3) (s : State) : Host.Outcome State Fault Refusal := devStep s (recoveryReturn out.val)

/-- BEAT: the Lantern's 1 ms timer wakes the Surveyor, which advances LNT_MIR_BEAT while it runs (R440, Table 12.6). -/
def beat (d : Dev) : Dev :=
  if d.mirState ≠ 2 ∧ d.mirState ≠ 5 then d
  else if d.domOn 1 then (d.wakeEvent 1).setReg R.LNT_MIR_BEAT (d.reg R.LNT_MIR_BEAT + 1)
  else d.wakeEvent 1

/-- BEAT. -/
def execBeat (s : State) : Host.Outcome State Fault Refusal := devStep s beat

end Sys2Proof.Machine
end

