-- ==== Sys2Proof/Machine/Clocks.lean ====
section
/-!
DEFINITION. Clock monitors, loss of the reference, Dense clock changes, spread and CLKOUT (16_clocks.md).
-/
namespace Sys2Proof.Machine

/-- Changes the clock state. -/
def Dev.updClk (d : Dev) (f : Clocks → Clocks) : Dev := { d with clks := f d.clks }

/-- A clock monitor. -/
def Dev.mon (d : Dev) (m : Fin 30) : Monitor := d.clks.mons[m]

/-- Changes a clock monitor. -/
def Dev.updMon (d : Dev) (m : Fin 30) (f : Monitor → Monitor) : Dev := d.updClk (fun c => { c with mons := c.mons.set m (f c.mons[m]) })

/-- The power domain of a monitor's clock (Table 16.1). -/
def monDomain (m : Nat) : Nat :=
  if m = 0 then 0 else if m = 5 ∨ m = 7 then 30 else if 8 ≤ m ∧ m ≤ 13 then 24 + (m - 8) else if 14 ≤ m then 20 + (m - 14) / 4 else 35

/-- The count a monitor expects in a window (Table 16.3); an intake port's monitor judges presence. -/
def Dev.monExpected (d : Dev) (m : Nat) : Nat :=
  if m = 0 then 12800 else if m = 2 then d.denseMhz * 2048 / 100 else if m = 3 then 16384 else if m = 6 ∨ m = 7 then 2048 else 20480

/-- The spread depth of the PLL a monitor measures, in 0.01 % (R456, CLK_SSC). -/
def Dev.monDepth (d : Dev) (m : Nat) : Nat :=
  if 1 ≤ m ∧ m ≤ 4 ∧ d.rf (R.CLK_SSC (m - 1)) F.CLK_SSC_EN = 1 then d.rf (R.CLK_SSC (m - 1)) F.CLK_SSC_DEPTH else 0

/-- Whether a window is in band (R456). -/
def Dev.inBand (d : Dev) (m count : Nat) : Bool :=
  if 14 ≤ m then decide (64 ≤ count)
  else
    let e := d.monExpected m
    let tol := d.rf (R.CLK_MON_CFG m) F.CLK_MON_CFG_TOL
    if e ≤ count then decide ((count - e) * 10000 ≤ e * tol) else decide ((e - count) * 10000 ≤ e * (tol + d.monDepth m))

/-- A clock that fails twice within a second (Table 16.3). DEDUCED (log entry 47): a second failure of any PLL is one within 1 s of its first. -/
def Monitor.again (x : Monitor) (now : Nat) : Bool := match x.lastFail with
  | some t => decide (now ≤ t + 100000000)
  | none => false

/-- A PLL relocks: GATED and RELOCK stand and LOCKED does not, and its monitor is suspended (R457, Table 16.7). -/
def Dev.startRelock (d : Dev) (m : Fin 30) : Dev :=
  let d := match pllOfMon m.val with
    | some p => d.setReg (R.CLK_PLL_STAT p) 6
    | none => d
  d.updMon m (fun x => { x with relock := true })

/-- The PCIe link goes down, as PCIe gives (Table 16.3, Table 12.3). -/
def Dev.pcieDown (d : Dev) : Dev := { hotReset d with host := { (hotReset d).host with linkAt := none } }

/-- The second failure of a PLL (Table 16.3). -/
def secondFailure (m : Nat) (x : Mach) : Mach :=
  match m with
  | 1 => surveyorReset 2 x
  | 2 => { x with dev := x.dev.updClk (fun c => { c with fullOnly := true }) }
  | 3 => { x with dev := x.dev.forEach ((List.finRange 4).filter (fun s => bit x.dev.fus.stks s.val)) (fun s d => d.failStack s (d.stk s).st) }
  | 4 => { x with dev := x.dev.forEach (List.finRange 6) (fun k d => d.enterRetrain k) }
  | _ => x

/-- The reference fails (R458, Table 16.4): powered time moves to RC, every domain but LANTERN and HOST is held in reset, and the mirror
reads FAILED with REASON CLOCK. -/
def Dev.referenceLoss (d : Dev) : Dev :=
  if d.rf R.CLK_STAT F.CLK_STAT_PT_RC = 1 ∨ d.boot.inCold = true then d
  else
    let d := (d.setRf R.CLK_STAT F.CLK_STAT_PT_RC 1).updClk (fun c => { c with rcSince := some d.clk })
    let d := d.forEach (List.range 36) (fun i d => if i = 0 ∨ i = 30 ∨ d.domSt i = .held then d else d.domTo i .off)
    d.setMirror 4 4

/-- The Lantern clock switches to REF ÷ 12 (R458, RC loss). -/
def Dev.rcLoss (d : Dev) : Dev := (d.setRf R.CLK_STAT F.CLK_STAT_RC_ON_REF 1).setRf R.GDL_STAT F.GDL_STAT_ON_REF 1

/-- The action that follows a failed clock (Table 16.3); `amp` is the resonator's amplitude detector. -/
def clockAction (m : Fin 30) (amp again : Bool) (x : Mach) : Mach :=
  let d := x.dev
  if m.val = 0 then { x with dev := if amp then d.rcLoss else d.referenceLoss }
  else if m.val ≤ 4 then
    let x : Mach := { x with dev := d.startRelock m }
    if again then secondFailure m.val x else x
  else if m.val = 5 ∨ m.val = 7 then { x with dev := (d.startRelock 5).pcieDown }
  else if m.val = 6 then { x with dev := d.updClk (fun c => { c with datOnPllS := true }) }
  else if h : m.val ≤ 13 then { x with dev := d.enterRetrain ⟨m.val - 8, by omega⟩ }
  else x

/-- MONITOR_WINDOW: a gate of monitor `m` ends with a count (R456, R457). A monitor is suspended while its clock relocks and while its
domain is not on. -/
def monitorWindow (m : Fin 30) (count : Nat) (amp : Bool) (x : Mach) : Mach :=
  let d := x.dev
  let mo := d.mon m
  if mo.relock = true ∨ d.domOn (monDomain m.val) = false then x
  else
    let d := d.setRf (R.CLK_MON_STAT m) F.CLK_MON_STAT_COUNT (count % 2 ^ 24)
    if d.inBand m.val count then
      let good := min 4 (mo.good + 1)
      if good = 4 ∧ mo.stable = false then { x with dev := d.clockStable m.val true }
      else { x with dev := d.updMon m (fun y => { y with good := good, bad := 0 }) }
    else
      let bad := mo.bad + 1
      if mo.stable = true ∧ d.rf (R.CLK_MON_CFG m) F.CLK_MON_CFG_FAIL_N ≤ bad then
        let again := mo.again d.clk
        let d := (d.clockStable m.val false).clockFault m.val
        clockAction m amp again { x with dev := d.updMon m (fun y => { y with lastFail := some d.clk }) }
      else { x with dev := d.updMon m (fun y => { y with good := 0, bad := bad }) }

/-- MONITOR_WINDOW. -/
def execMonitorWindow (m : Fin 30) (count : Nat) (amp : Bool) (s : State) : Host.Outcome State Fault Refusal :=
  memStep s (monitorWindow m count amp)

/-- REFERENCE_LOSS: monitor m0's clock has failed with the resonator's amplitude low; the failure is counted and raised (R457, Table 16.4). -/
def execReferenceLoss (s : State) : Host.Outcome State Fault Refusal :=
  devStep s (fun d => if d.rf R.CLK_STAT F.CLK_STAT_PT_RC = 1 ∨ d.boot.inCold = true then d else ((d.clockStable 0 false).clockFault 0).referenceLoss)

/-- RESONATOR_RESTART: the Warden restarts the resonator; once REF is judged stable powered time moves back to it, the interval is logged,
and a warm start follows, or the start that waited goes on (Table 16.4, Table 17.3). -/
def resonatorRestart (ok : Bool) (m : Mach) : Mach :=
  match m.dev.clks.rcSince, ok with
  | some t, true =>
    let d := (m.dev.setRf R.CLK_STAT F.CLK_STAT_PT_RC 0).updClk (fun c => { c with rcSince := none })
    let d := (d.clockStable 0 true).collect (Flt.refLoss ((d.clk - t) / 100))
    if d.boot.resume = some 1 then { m with dev := d.updBoot (fun b => { b with refOk := true }) }
    else warmHold { m with dev := d }
  | _, _ => m

/-- RESONATOR_RESTART. -/
def execResonatorRestart (ok : Bool) (s : State) : Host.Outcome State Fault Refusal := memStep s (resonatorRestart ok)

/-- A Dense clock change begins: the hold is raised (Table 16.5 steps 1 to 3). -/
def Dev.startDense (d : Dev) (mhz : Nat) (byHost : Bool) : Dev :=
  let d := d.updClk (fun c => { c with change := some { target := mhz, old := d.denseMhz, byHost := byHost }, holdJobs := true })
  (d.setRf R.CLK_DCHG_STAT F.CLK_DCHG_STAT_TARGET mhz).setRf R.CLK_DCHG_STAT F.CLK_DCHG_STAT_STEP 3

/-- The step of the change that runs (CLK_DCHG_STAT.STEP). -/
def Dev.denseStep (d : Dev) : Nat := d.rf R.CLK_DCHG_STAT F.CLK_DCHG_STAT_STEP

/-- The change ends: the hold is lowered, and a spread that waited for it applies (R461, R462). -/
def Dev.endDense (d : Dev) : Dev :=
  let d := match d.clks.spreadWait with
    | some w => d.setReg (R.CLK_SSC 1) w
    | none => d
  (d.setReg R.CLK_DCHG_STAT 0).updClk (fun c => { c with change := none, holdJobs := false, spreadWait := none })

/-- Whether a command waits for the Dense clock change. -/
def Wait.isDense : Wait → Bool
  | .dense => true
  | _ => false

/-- Whether a plane has finished its job through its output actions (Table 16.5 step 3, R461). -/
def Plane.still (x : Plane) : Bool := x.running.isNone && x.outEvents.isEmpty

/-- DENSE_CHANGE_DRAIN: running jobs have finished and PLL-D relocks; or 50 µs have passed with a plane still BUSY, and nothing changes
(Table 16.5 steps 3 and 4, R461). -/
def denseDrain (expired : Bool) (d : Dev) : Dev :=
  match d.clks.change with
  | none => d
  | some _ =>
    if d.denseStep ≠ 3 then d
    else if d.planes.all Plane.still then
      ((d.startRelock 2).clockStable 2 false).updMon 2 (fun x => { x with relock := true }) |>.setRf R.CLK_DCHG_STAT F.CLK_DCHG_STAT_STEP 5
    else if expired then
      (d.endDense.bump R.CLK_DCHG_CNT F.CLK_DCHG_CNT_BUSY).release Wait.isDense .busy 0 0 (detail .state 3)
    else d

/-- DENSE_CHANGE_DRAIN. -/
def execDenseChangeDrain (expired : Bool) (s : State) : Host.Outcome State Fault Refusal := devStep s (denseDrain expired)

/-- A Dense clock change ends with PLL-D judged stable, or relocked at its old frequency (Table 16.5 steps 5 to 7, R461). -/
def Dev.denseRelocked (d : Dev) (c : DenseChg) (ok : Bool) : Dev :=
  let d := d.pllUp 2
  if ok then
    let d := (d.setRf (R.CLK_PLL_CFG 1) F.CLK_PLL_CFG_MHZ c.target).endDense
    let d := (if c.byHost then d.setClock c.target else d).updClk (fun x => { x with fullOnly := false })
    (d.bump R.CLK_DCHG_CNT F.CLK_DCHG_CNT_DONE).release Wait.isDense .ok 0 0 0
  else
    let d := (d.endDense.bump R.CLK_DCHG_CNT F.CLK_DCHG_CNT_FAULT).clockFault 2
    d.release Wait.isDense .faulted ((d.reg R.LNT_MIR_FLTSEQ).setWidth 64) 0 0

/-- The monitor of a PLL. -/
def monOfPll (p : Fin 6) : Fin 30 := ⟨p.val + 1, by omega⟩

/-- Whether the PCIe reference clock is out of band: PLL-H does not relock before m7 is in band again (Table 16.3). -/
def Dev.hostRefBad (d : Dev) : Bool := !(d.mon 7).stable && (d.mon 7).good == 0

/-- RELOCK_DONE: a PLL's relock ends. Judged stable, its consumers are ungated; if not, the clock has failed again (R457, Table 16.3). -/
def relockDone (p : Fin 6) (ok : Bool) (x : Mach) : Mach :=
  let d := x.dev
  let m := monOfPll p
  if (d.mon m).relock = false ∨ (p = 4 ∧ d.hostRefBad = true) then x
  else
    match (if p = 1 ∧ d.denseStep = 5 then d.clks.change else none) with
    | some c => { x with dev := d.denseRelocked c ok }
    | none =>
      if ok then
        let d := d.pllUp m.val
        { x with dev := if p = 1 then d.updClk (fun c => { c with fullOnly := false })
                        else if p = 4 then { d with host := { d.host with linkUp := true } } else d }
      else secondFailure m.val { x with dev := (d.clockFault m.val).updMon m (fun y => { y with lastFail := some d.clk }) }

/-- RELOCK_DONE. -/
def execRelockDone (p : Fin 6) (ok : Bool) (s : State) : Host.Outcome State Fault Refusal := memStep s (relockDone p ok)

/-- CLOCK_SET's row (Table 13.15). -/
def specClockSet : CmdSpec := { op := 0x0B03, rights := .pf, used := params 0 0 ++ params 4 15 }

/-- CLOCK_SET with P0 = 0: the Dense clock (R207, R443, R460, R462). -/
def clockSetDense (c : Cmd) (d : Dev) : Reply Dev :=
  let f := c.pn 4 4
  if d.fus.denseMhz < f then refused .fuse
  else if f < 400 ∨ f % 25 ≠ 0 then refused .range 4
  else if d.fus.railMode = true ∧ 1400 < f ∧ d.rf R.TEL_VCORE F.TEL_VCORE_MV < 880 then refused .range 4
  else if d.clks.change.isSome then busy d.denseStep
  else .hold (d.startDense f true) .dense

/-- The frequency of a CLKOUT source in kHz, the highest one for an intake port's clock (Tables 16.1, 16.6). -/
def Dev.clkoutKhz (d : Dev) (src : Nat) : Nat :=
  if src = 0 then 0 else if src = 1 then 4000 else if src = 2 then 50000 else if src = 3 then 1000000 else if src = 4 then d.denseMhz * 1000
  else if src = 5 then 800000 else if src ≤ 7 then 1000000 else if src = 8 then 100000 else if src ≤ 24 then 562500 else 50

/-- CLOCK_SET with P0 = 1: CLKOUT (R466, Table 16.6). -/
def clockSetClkout (c : Cmd) (d : Dev) : Reply Dev :=
  let src := c.pn 4 4
  let dv := c.pn 8 4
  if 9 ≤ src ∧ src ≤ 24 ∧ !bit d.fus.ports (src - 9) then refused .absent (src - 9)
  else if 25 < src then refused .range 4
  else if dv = 0 ∨ 65536 < dv ∨ 100000 * dv < d.clkoutKhz src then refused .range 8
  else
    let d := d.setRf R.CLKOUT_CFG F.CLKOUT_CFG_EN (b2n (src != 0))
    done ((d.setRf R.CLKOUT_CFG F.CLKOUT_CFG_SRC src).setRf R.CLKOUT_CFG F.CLKOUT_CFG_DIV_M1 (dv - 1))

/-- The greatest spread depth of a PLL, and its rates (Table 16.2); 0 S, 1 D, 2 M, 3 L, 4 H, 5 T. -/
def spreadLimit (p : Nat) : Nat × Nat × Nat := if p = 2 then (25, 30, 33) else if p < 4 then (200, 10, 100) else (0, 0, 65535)

/-- The CLK_SSC word of a depth and a rate; depth 0 is off. -/
def sscWord (depth rate : Nat) : Word := if depth = 0 then 0 else BitVec.ofNat 32 (2 ^ 31 + rate * 65536 + depth)

/-- Sets a PLL's spread; that of PLL-D waits for a running change to end (R454, R462). -/
def Dev.setSpread (d : Dev) (p : Nat) (w : Word) : Dev :=
  if p = 1 ∧ d.clks.change.isSome then d.updClk (fun c => { c with spreadWait := some w }) else d.setReg (R.CLK_SSC p) w

/-- The PLLs that P0 names for spread. -/
def spreadPlls (p0 : Nat) : List Nat := if p0 = 8 then [0, 1, 2, 3] else [p0 - 2]

/-- CLOCK_SET with P0 = 2 to 8: spread (R453, R454, Table 16.2). -/
def clockSetSpread (c : Cmd) (d : Dev) : Reply Dev :=
  let depth := c.pn 12 2
  let rate := c.pn 14 2
  let l := spreadPlls (c.p 0)
  if l.any (fun p => decide ((spreadLimit p).1 < depth)) then refused .range 12
  else if l.any (fun p => decide (rate < (spreadLimit p).2.1) || decide ((spreadLimit p).2.2 < rate)) then refused .range 14
  else done (d.forEach l (fun p d => d.setSpread p (sscWord depth rate)))

/-- CLOCK_SET (Table 13.15). -/
def clockSet (c : Cmd) (d : Dev) : Reply Dev :=
  if c.p 0 = 0 then clockSetDense c d
  else if c.p 0 = 1 then clockSetClkout c d
  else if c.p 0 ≤ 8 then clockSetSpread c d
  else refused .range 0

/-- CLOCK_SET_DENSE. -/
def execClockSetDense (c : Cmd) (s : State) : Host.Outcome State Fault Refusal := cmdStep specClockSet clockSet c s
/-- CLOCK_SET_CLKOUT. -/
def execClockSetClkout (c : Cmd) (s : State) : Host.Outcome State Fault Refusal := cmdStep specClockSet clockSet c s
/-- CLOCK_SET_SPREAD. -/
def execClockSetSpread (c : Cmd) (s : State) : Host.Outcome State Fault Refusal := cmdStep specClockSet clockSet c s

end Sys2Proof.Machine
end

