-- ==== Sys2Proof/Machine/Power.lean ====
section
/-!
DEFINITION. Power domains: request sets, entry stages, refusals, wakes, and what a domain loses in off (15_power.md R425 to R440).
Domain indices are those of Table 15.1; reasons those of Table 15.6.
-/
namespace Sys2Proof.Machine

/-- The domains that depend on a domain, in descending index (R427). -/
def domDependants (i : Nat) : List Nat := ((List.range 36).filter (fun j => (domDeps j).contains i)).reverse

/-- How deep a domain's state is: 0 on, 1 retention, 2 off (R427). -/
def DomSt.depth : DomSt → Nat
  | .retained => 1 | .off => 2 | .held => 2 | _ => 0

/-- How deep a domain is. -/
def Dev.domDepth (d : Dev) (i : Nat) : Nat := (d.domSt i).depth

/-- A domain's held reason (Table 15.6). -/
def Dev.domReason (d : Dev) (i : Nat) : Nat := if h : i < 36 then (d.pwr.doms[i]).reason else 1

/-- Whether a wake event has reached a domain. -/
def Dev.domFlagged (d : Dev) (i : Nat) : Bool := if h : i < 36 then (d.pwr.doms[i]).wakeEvent else false

/-- Whether a domain's hardware is one of an on-only domain (Table 15.1). -/
def onOnly (i : Nat) : Bool := i == 0 || i == 2 || i == 35

/-! ### Hold conditions -/

/-- Whether a port's parcel is LOADED, RUN or STOPPING (CONFIG_LOADED). -/
def Dev.portLoaded (d : Dev) (p : Fin 16) : Bool := match d.parcelOfPort p.val with
  | some q => decide (2 ≤ (d.pcl q).st.code)
  | none => false

/-- The four ports of a hub. -/
def hubPorts (c : Nat) : List (Fin 16) := (List.finRange 16).filter (fun p => p.val / 4 == c)

/-- The Galleries of a column. -/
def colGals (c : Nat) : List (Fin 8) := (List.finRange 8).filter (fun g => g.val / 2 == c)

/-- Whether a Gallery holds a dark range tagged with a port outside OFF (R134). -/
def Dev.streamActive (d : Dev) (g : Fin 8) : Bool := (d.taggedPorts g).any (fun p => (d.port (fin16 p)).st != .off)

/-- The reason that holds a domain on against a target, 0 for none (Table 15.6). -/
def Dev.holdReason (d : Dev) (i target : Nat) : Nat :=
  if onOnly i then 14
  else if d.domSt i = .held then d.domReason i
  else if i = 3 then (if d.pcls.any (fun q => decide (2 ≤ q.st.code)) then 6 else 0)
  else if 4 ≤ i ∧ i ≤ 11 then
    (if d.streamActive (fin8 (i - 4)) then 3 else if target = 2 ∧ (d.gal (fin8 (i - 4))).st ≠ .empty then 12 else 0)
  else if 12 ≤ i ∧ i ≤ 19 then (if (d.plane (fin8 (i - 12))).queue.isEmpty then 0 else 7)
  else if 20 ≤ i ∧ i ≤ 23 then
    (if (hubPorts (i - 20)).any (fun p => (d.port p).st != .off) then 2
     else if target = 2 ∧ (hubPorts (i - 20)).any (fun p => d.portLoaded p) then 12 else 0)
  else if 24 ≤ i ∧ i ≤ 29 then
    (if (d.link (fin6 (i - 24))).st = .active ∧ 2 ≤ d.rf R.TRV_GRP_STAT F.TRV_GRP_STAT_STATE then 8 else 0)
  else if i = 30 then (if d.host.linkUp then 11 else 0)
  else if 31 ≤ i ∧ i ≤ 34 then
    (if (colGals (i - 31)).any (fun g => d.stackHold g) then 4
     else if target = 2 ∧ (List.range 16).any (fun r => d.rgnValid (i - 31) r && decide (d.rgnOwner (i - 31) r < 8)) then 9 else 0)
  else 0

/-- The first domain of a list that a condition holds on, with its reason. -/
def Dev.firstHold (d : Dev) (target : Nat) : List Nat → Option (Nat × Nat)
  | [] => none
  | i :: t => if d.holdReason i target = 0 then d.firstHold target t else some (i, d.holdReason i target)

/-- The request set of a request (R427): dependants not deep enough in descending index, then the named domain. -/
def Dev.requestSet (d : Dev) (named target : Nat) : List Nat :=
  (domDependants named).filter (fun i => decide (d.domDepth i < target)) ++ [named]

/-! ### What off loses -/

/-- Returns a block instance's registers to their reset values, those apart whose offset and class a test names. -/
def Dev.loseRegs (d : Dev) (base inst : Nat) (kept : RegSpec → Bool) : Dev :=
  d.clearRegs (fun r => r.block.base == base && r.inst == inst && !kept r.spec)

/-- The GAL block's save set: engine, CMP and LRN control registers, and the counters (Table 15.3); the Gallery fault registers, which
only COLD_N and WARM_N clear (18_faults.md), stay with them, and so does the bank map, since no applied entry is removed (R485). -/
def galSaved (r : RegSpec) : Bool :=
  decide (r.off < 0x1000) || (decide (0x4100 ≤ r.off) && decide (r.off < 0x4200)) || (decide (0x42C4 ≤ r.off) && decide (r.off < 0x4400))
    || (decide (0x5000 ≤ r.off) && decide (r.off < 0x5800)) || (decide (0x7000 ≤ r.off) && decide (r.off < 0x7100)) || decide (0x7400 ≤ r.off)

/-- A Gallery without power: its FAULTED state and sink, its mesh node and its wake slots stand outside the domain. -/
def Gal.lost (x : Gal) : Gal :=
  let e : Gal := { node := x.node, robin := x.robin, passed := x.passed, wakeSlots := x.wakeSlots, sink := x.sink }
  if x.st = .faulted then { e with st := .faulted, fence := x.fence } else e

/-- A plane without power loses its buffers, their tags and the job it ran (R229); the queue with its operand slots and the count window stand in
GALp (R206, R231). -/
def Plane.lost (x : Plane) : Plane := { queue := x.queue, counts := x.counts }

/-- A port without power: a retired one stays so; the stream's record count stands in MESH. -/
def Port.lost (x : Port) : Port := { st := if x.st = .retired then .retired else .off, recSeq := x.recSeq, stoppedAt := x.stoppedAt }

/-- The bytes of a stack are lost with its power (R350). -/
def Mach.loseStack (m : Mach) (s : Nat) : Mach :=
  let lo := stackWindow + s * slot16
  let hi := stackWindow + 4 * slot16 + s * slot8
  { m with mem := Memory.zero (Memory.zero m.mem lo (lo + slot16)) hi (hi + slot8) }

/-- The MESH domain off: everything but PCL registers and MSH counters (Table 15.3). -/
def Dev.loseMesh (d : Dev) : Dev :=
  let d := (d.loseRegs Blk.msh.base 0 (fun r => match r.cls with
    | .cnt _ => true
    | _ => false)).loseRegs Blk.egr.base 0 (fun _ => false)
  { d with hubs := Vector.replicate 4 {},
           gals := d.gals.map (fun x => { x with node := Vector.replicate 20 [], posts := [], robin := Vector.replicate 16 0,
                                                 passed := Vector.replicate 16 0, wakeSlots := [] }),
           pcls := d.pcls.map (fun q => { q with seq := 0, backlog := [] }),
           ports := d.ports.map (fun p => { p with recSeq := 0 }) }

/-- A hub's save set: the INT and SEAM registers of its ports but INT_MAP, and their counters (Table 15.3). -/
def hubSaved (r : RegSpec) : Bool := decide (r.off < 0x10000)

/-- A link's save set: TRV_CTL, TRV_RETRY_CFG, TRV_PARTNER_ID and the counters (Table 15.3). -/
def linkSaved (r : RegSpec) : Bool := r.off == 0 || r.off == 0xC || (decide (0x10 ≤ r.off) && decide (r.off < 0x20)) || decide (0x100 ≤ r.off)

/-- A hub off: all but its save set is lost (Table 15.3). -/
def Dev.loseHub (d : Dev) (c : Nat) : Dev :=
  d.forEach (hubPorts c) (fun p d => (d.loseRegs Blk.int.base p.val hubSaved).updPort p Port.lost)

/-- A link off: all but its save set is lost (Table 15.3); a RETIRED link stays so, which only LINK_ENABLE ends (Table 10.8). -/
def Dev.loseLink (d : Dev) (k : Nat) : Dev :=
  let d := d.loseRegs Blk.trv.base k linkSaved
  d.updLink (fin6 k) (fun l => { partner := l.partner, st := if l.st = .retired then .retired else .off })

/-- HOST off: the HST registers, HST_VF_VEC among them, and the AER counters are saved; the rings with their registers, the vector tables and VF
Enable are lost (Table 15.3). -/
def Dev.loseHost (d : Dev) : Dev :=
  let d := d.forEach allFuncs (fun f d => d.loseRegs Blk.mbx.base f.val (fun _ => false))
  { d with host := { d.host with rings := Vector.replicate 9 {}, msix := [], pba := [], vfEnable := false } }

/-- What the device loses with a domain's supplies (R426, R433, Table 15.3). DNS_REPAIR follows the retire map, of which no applied entry is
removed (R232, R485). -/
def Dev.loseDomain (d : Dev) (i : Nat) : Dev :=
  if i = 3 then d.loseMesh
  else if 4 ≤ i ∧ i ≤ 11 then
    let g := fin8 (i - 4)
    let d := (d.loseRegs Blk.gal.base g.val galSaved).updGal g Gal.lost
    (d.loseRegs Blk.dns.base g.val (fun r => r.off == 0x14)).updPlane g (fun _ => {})
  else if 12 ≤ i ∧ i ≤ 19 then d.updPlane (fin8 (i - 12)) Plane.lost
  else if 20 ≤ i ∧ i ≤ 23 then d.loseHub (i - 20)
  else if 24 ≤ i ∧ i ≤ 29 then d.loseLink (i - 24)
  else if i = 30 then d.loseHost
  else if 31 ≤ i ∧ i ≤ 34 then
    (d.updStk (fin4 (i - 31)) (fun k => { k with st := .off, temp := 0, double := false })).denyQueued (fin4 (i - 31))
  else d

/-- What a domain loses when its supplies are switched off, the bytes of a stack with it. -/
def loseDomain (i : Nat) (m : Mach) : Mach :=
  let m := { m with dev := m.dev.loseDomain i }
  if 31 ≤ i ∧ i ≤ 34 then m.loseStack (i - 31) else m

/-- A domain is taken off without entry stages and held with a reason (R447, R510). -/
def holdOff (reason i : Nat) (m : Mach) : Mach :=
  let m := loseDomain i m
  { m with dev := m.dev.domTo i .held reason }

/-! ### Entry -/

/-- A domain begins its entry with QUIESCE (Table 15.4); one that still wakes is waited for. -/
def Dev.enterDom (d : Dev) (i target : Nat) : Dev :=
  match d.domSt i with
  | .on => d.updDom i (fun x => { x with st := .entering, prior := 0, stage := 1, target := target, wakeEvent := false, drained := false })
  | .retained => d.updDom i (fun x => { x with st := .entering, prior := 1, stage := 1, target := target, wakeEvent := false, drained := false })
  | _ => d

/-- Records a refusal (R438, Table 15.11). -/
def Dev.refusePower (d : Dev) (named refuser reason stage : Nat) : Dev :=
  let d := d.setReg R.PWR_LAST (BitVec.ofNat 32 (named * 2 ^ 24 + refuser * 2 ^ 16 + reason * 2 ^ 8 + stage))
  if reason = 13 then d.bump R.PWR_REFUSE_CNT F.PWR_REFUSE_CNT_ABANDON else d.bump R.PWR_REFUSE_CNT F.PWR_REFUSE_CNT_REFUSE

/-- Whether a command waits for a power request on a domain. -/
def Wait.isPower (i : Nat) : Wait → Bool
  | .power j => i == j
  | _ => false

/-- CHECK, and the start of the request set (R427, R437): the device, and the refusal if a condition holds. -/
def Dev.startRequest (d : Dev) (named target : Nat) (by_ : PwrAsker) : Dev × Option (Nat × Nat) :=
  let set := d.requestSet named target
  match d.firstHold target set with
  | some (i, r) => (d.refusePower named i r 0, some (i, r))
  | none =>
    let d := { d with pwr := { d.pwr with req := some { named := named, target := target, by_ := by_, todo := set, lowered := [] } } }
    (d.enterDom (set.headD named) target, none)

/-- Whether a plane is idle: an empty queue, no job, no weight load (R230). -/
def Dev.planeIdle (d : Dev) (p : Fin 8) : Bool :=
  let x := d.plane p
  x.queue.isEmpty && x.running.isNone && x.outEvents.isEmpty && (d.nextLoad p).isNone

/-- The queued requests, in order of arrival, until one starts (R439): an idle timer's is dropped if its plane is no longer idle or already
as deep. -/
def Dev.nextRequest (d : Dev) : List (Nat × Nat × PwrAsker) → Dev
  | [] => { d with pwr := { d.pwr with queue := [] } }
  | (i, t, by_) :: rest =>
    if by_ = .idleTimer ∧ (d.planeIdle (fin8 (i - 12)) = false ∨ t ≤ d.domDepth i ∨ d.domSt i = .waking) then d.nextRequest rest
    else if t ≤ d.domDepth i ∧ d.domSt i ≠ .held then (d.release (Wait.isPower i) .ok 0 0 0).nextRequest rest
    else
      match d.startRequest i t by_ with
      | (d, none) => { d with pwr := { d.pwr with queue := rest } }
      | (d, some (r, why)) => (d.release (Wait.isPower i) .refused 0 0 (detail .power r why)).nextRequest rest

/-- The running set is over; the next request starts. -/
def Dev.endRequest (d : Dev) : Dev :=
  let d := { d with pwr := { d.pwr with req := none } }
  d.nextRequest d.pwr.queue

/-- A refusal unwinds (R438): the refusing domain, where it has begun, returns to on, the lowered ones wake in the reverse order of their
entry. -/
def Dev.unwind (d : Dev) (q : ReqSet) (refuser reason stage : Nat) : Dev :=
  let head := q.todo.headD q.named
  let d := d.refusePower q.named refuser reason stage
  let back := d.domSt head = .entering ∧ d.domPrior head = 1
  let d := if d.domSt head = .entering then
      (if d.domPrior head = 1 then d.updDom head (fun x => { x with st := .retained, stage := 0, wakeEvent := false })
       else d.updDom head (fun x => { x with st := .on, stage := 0, wakeEvent := false }))
    else d
  let woken := (if back then [head] else []) ++ q.lowered
  let d := d.forEach woken (fun i d => d.startWake i)
  let d := { d with pwr := { d.pwr with req := some { q with lowered := woken, refusal := some (refuser, reason) } } }
  if woken.isEmpty then
    (d.release (Wait.isPower q.named) .refused 0 0 (detail .power refuser reason)).endRequest
  else d

/-- The unwinding ends once every domain of the set is on again (R438). -/
def Dev.endUnwind (d : Dev) : Dev := match d.pwr.req with
  | none => d
  | some q => match q.refusal with
    | none => d
    | some (r, why) =>
      if q.lowered.any (fun i => d.domSt i = .waking) then d
      else (d.release (Wait.isPower q.named) .refused 0 0 (detail .power r why)).endRequest

/-- An abort point of the set's head (R436, R437): a wake event in the set, or a hold condition. -/
def Dev.abortPoint (d : Dev) (q : ReqSet) : Option (Nat × Nat) :=
  match (q.todo ++ q.lowered).find? (fun i => d.domFlagged i) with
  | some i => some (i, 13)
  | none => d.firstHold q.target q.todo

/-- Whether QUIESCE is over: a Gallery's running sweeps have ended (Table 15.4). -/
def Dev.quiet (d : Dev) (i : Nat) : Bool :=
  if 4 ≤ i ∧ i ≤ 11 then !(d.gal (fin8 (i - 4))).sweepBusy && (d.gal (fin8 (i - 4))).lrn.running.isNone else true

/-- Whether a Gallery has drained (R176, Table 15.5). -/
def Gal.empty (x : Gal) : Bool :=
  x.ingress == 0 && x.emitQ.isEmpty && x.delayQ.isEmpty && x.cold.isEmpty && x.pendingNeurons.isEmpty && x.occupiedSlots.isEmpty

/-- Whether no command is in progress (R440). -/
def Dev.noCommand (d : Dev) : Bool :=
  d.host.started.isEmpty && d.host.attach.fetched.isEmpty && allFuncs.all (fun f => (d.ring f).fetched.isEmpty)

/-- What a domain's DRAIN waits for (Table 15.5). -/
def Dev.drainOver (d : Dev) (i : Nat) : Bool :=
  if i = 1 then d.noCommand
  else if i = 3 then d.meshIdle
  else if 4 ≤ i ∧ i ≤ 11 then (d.gal (fin8 (i - 4))).empty
  else if 12 ≤ i ∧ i ≤ 19 then (d.plane (fin8 (i - 12))).still
  else if 20 ≤ i ∧ i ≤ 23 then
    (hubPorts (i - 20)).all (fun p => (d.port p).fifo.isEmpty) && (d.hubs[fin4 (i - 20)]).out.isEmpty && (d.hubs[fin4 (i - 20)]).inb.isEmpty
  else if 24 ≤ i ∧ i ≤ 29 then (d.link (fin6 (i - 24))).replay.isEmpty
  else if 31 ≤ i ∧ i ≤ 34 then (d.stk (fin4 (i - 31))).col.isEmpty && (d.stk (fin4 (i - 31))).sys.isEmpty
  else true

/-- The next Heartbeat of a parcel says that an erasure occurred (R139). -/
def Dev.noteErased (d : Dev) (q : Option (Fin 8)) : Dev := match q with
  | some q => d.updPcl q (fun x => { x with hbErased := true })
  | none => d

/-- A Compass unit with its transit storage zeroed (R129, Table 4.1). -/
def Compass.zeroed (c : Compass) : Compass :=
  { c with queue := [], rows := [], batches := [], staging := [], trains := [], dead := [], fwd := [], refs := [] }

/-- SAVE of a Gallery erases its dark storage again (R129, R134): that of every tagged port, with its tallies and Compass rows, and what its
transit storage still holds. EGR_ERASE_CNT.DOMAIN counts the entry of a Gallery that has dark ranges (DESIGN CHOICE, log entry 56). -/
def Dev.eraseGallery (d : Dev) (g : Fin 8) : Dev :=
  let ports := d.taggedPorts g
  let d := d.forEach (List.range 16) (fun p d => d.cmpErase g p)
  let d := (d.updGal g (fun x => { x with tallies := [] })).updCmp g Compass.zeroed
  let d := d.forEach ports (fun p d => d.erasePort g p)
  if ports.isEmpty then d else (d.bump R.EGR_ERASE_CNT F.EGR_ERASE_CNT_DOMAIN).noteErased (d.parcelAt g.val)

/-- SAVE of a hub clears its ports' dark storage in bulk, and its trunk buffers (R129, Table 15.5). EGR_ERASE_CNT.DOMAIN counts every entry of a
hub (DESIGN CHOICE, log entry 56). -/
def Dev.eraseHub (d : Dev) (c : Nat) : Dev :=
  let d := d.forEach (hubPorts c) (fun p d => (d.updPort p (fun x =>
    { x with plane := [], hyst := 0, hist := [], flags := [], fifo := [], gov := {}, segs := 0, frame := none })).noteErased (d.parcelOfPort p.val))
  { d.bump R.EGR_ERASE_CNT F.EGR_ERASE_CNT_DOMAIN with hubs := d.hubs.set (fin4 c) { (d.hubs[fin4 c]) with out := [], inb := [] } }

/-- A link with its flit and replay buffers zeroed (R129, Table 4.1); the flits that stood received are freed. -/
def Link.zeroed (l : Link) : Link :=
  let msgs := l.inbox.foldl (fun l m => match msgChan m.typ.toNat with
    | some c => l.free ⟨c.val + 2, by have := c.isLt; omega⟩ (msgLen m)
    | none => l) l
  let l := (msgs.free 0 l.rxS[0].length).free 1 l.rxS[1].length
  { l with replay := [], txEv := Vector.replicate 2 [], txMsg := Vector.replicate 3 [], txTags := [], txFlits := [],
           rxS := Vector.replicate 2 [], rxAsm := Vector.replicate 3 [], inbox := [], rxFlits := [], rxEvents := [], rxClosed := [],
           superblock := [] }

/-- The entry record (R433): why is 0 command, 1 idle timer, 2 firmware. -/
def Dev.entryRec (d : Dev) (q : ReqSet) : EntryRec :=
  { tick := d.dat.tick, ptime := d.ptime, target := q.target, why := match q.by_ with
    | .command => 0
    | .idleTimer => 1
    | .firmware => 2 }

/-- SAVE (Table 15.4): the entry record, erasure of dark storage, zeroing of transit storage. -/
def Dev.saveDom (d : Dev) (q : ReqSet) (i : Nat) : Dev :=
  let d := d.updDom i (fun x => { x with entry := some (d.entryRec q) })
  if 4 ≤ i ∧ i ≤ 11 then d.eraseGallery (fin8 (i - 4))
  else if 12 ≤ i ∧ i ≤ 19 then d.updPlane (fin8 (i - 12)) (fun x => { x with outEvents := [] })
  else if 20 ≤ i ∧ i ≤ 23 then d.eraseHub (i - 20)
  else if 24 ≤ i ∧ i ≤ 29 then (d.dropWaiting (fin6 (i - 24))).updLink (fin6 (i - 24)) Link.zeroed
  else d

/-- A link goes down with its domain, with its LINK notice (R471); a RETIRED one stays so. -/
def Dev.linkDown (d : Dev) (k : Fin 6) : Dev :=
  if (d.link k).st = .retired ∨ (d.link k).st = .off then d
  else (((d.dropWaiting k).setRf (R.TRV_STAT k) F.TRV_STAT_SEALED 0).updLink k (fun l => { l with retraining := false, replay := [] })).setLink k .off

/-- LOWER ends (Table 15.4), for the device: the domain is in its state, and counted; a link goes down with its domain, and a stack that keeps its
contents refreshes all its banks as it enters self refresh (R333). -/
def Dev.lower (d : Dev) (i target : Nat) : Dev :=
  let d := if 24 ≤ i ∧ i ≤ 29 then d.linkDown (fin6 (i - 24)) else d
  let d := if 31 ≤ i ∧ i ≤ 34 ∧ target = 1 then d.emit (.refreshAll (i - 31)) else d
  let d := if target = 2 then d.loseDomain i else d
  let flag := d.domFlagged i
  let tick := if h : i < 36 then ((d.pwr.doms[i]).entry.map (·.tick)).getD 0 else 0
  let d := d.updDom i (fun x => { x with st := if target = 2 then .off else .retained, stage := 0, reason := 0, wakeEvent := flag })
  let d := d.bump (R.PWR_DOM_CNT i) F.PWR_DOM_CNT_ENTRIES
  d.setReg (R.PWR_DOM_LAST i) (BitVec.ofNat 32 tick)

/-- LOWER ends, a stack that goes off without its bytes (R350). -/
def lowerDom (i target : Nat) (m : Mach) : Mach :=
  let m := { m with dev := m.dev.lower i target }
  if 31 ≤ i ∧ i ≤ 34 ∧ target = 2 then m.loseStack (i - 31) else m

/-- The head of the set is done: the next domain enters, or the request completes, and wake events that came too late to abandon it wake
their domains (R436). -/
def Dev.nextDom (d : Dev) (q : ReqSet) (l : List Nat) (lowered : List Nat) : Dev :=
  match l with
  | i :: t => ({ d with pwr := { d.pwr with req := some { q with todo := i :: t, lowered := lowered } } }).enterDom i q.target
  | [] =>
    let d := (d.release (Wait.isPower q.named) .ok 1 0 0).endRequest
    d.forEach (lowered.filter (fun i => d.domFlagged i && d.domDepth i != 0)) (fun i d => (d.updDom i (fun x => { x with wakeEvent := false })).demandWake i)

/-- Moves the head of the set to a stage, unless the abort point that precedes it refuses. -/
def Dev.toStage (d : Dev) (q : ReqSet) (i n : Nat) : Dev :=
  match d.abortPoint q with
  | some (r, why) => d.unwind q r why (n - 1)
  | none => d.updDom i (fun x => { x with stage := n })

/-- A stage of the set's head ends (Table 15.4); `expired` says that its limit has passed. -/
def Dev.stageEnd (d : Dev) (q : ReqSet) (i : Nat) (expired : Bool) : Dev :=
  let limit := if 4 ≤ i ∧ i ≤ 11 then 5 else 16
  match d.domStage i with
  | 1 =>
    if d.quiet i ∨ d.domPrior i ≠ 0 then d.toStage q i 2
    else if expired then d.unwind q i limit 1
    else d
  | 2 =>
    if d.drainOver i ∨ d.domPrior i ≠ 0 then d.toStage q i 3
    else if expired then d.unwind q i limit 2
    else d
  | 3 => (d.saveDom q i).toStage q i 4
  | _ => d.updDom i (fun x => { x with stage := 5 })

/-- DOMAIN_ENTRY_STAGE: a stage of a domain's entry ends (R435 to R438). Only the set's head is under way; a domain that a trip or a fault
holds off in the meantime is passed over. -/
def domainEntryStage (i : Nat) (expired : Bool) (m : Mach) : Mach :=
  match m.dev.pwr.req with
  | none => m
  | some q =>
    match q.refusal, q.todo with
    | none, h :: t =>
      if h ≠ i then m
      else if m.dev.domSt i = .held then { m with dev := m.dev.nextDom q t q.lowered }
      else if m.dev.domSt i ≠ .entering then { m with dev := m.dev.enterDom i q.target }
      else if m.dev.domStage i = 5 then
        let m := lowerDom i q.target m
        { m with dev := m.dev.nextDom q t (i :: q.lowered) }
      else { m with dev := m.dev.stageEnd q i expired }
    | _, _ => m

/-- A stack that serves again serves what waited at its node (R348). -/
def Mach.drainStacks (m : Mach) (i : Nat) : Mach := if 31 ≤ i ∧ i ≤ 34 then m.drainStack (fin4 (i - 31)) else m

/-- DOMAIN_ENTRY_STAGE. -/
def execDomainEntryStage (i : Fin 36) (expired : Bool) (s : State) : Host.Outcome State Fault Refusal :=
  memStep s (fun m => (domainEntryStage i.val expired m).drainStacks i)

/-- WAKE_EVENT: a wake event reaches a domain of the running set (R436). -/
def wakeEventIn (i : Nat) (d : Dev) : Dev := if d.inEntry i then d.updDom i (fun x => { x with wakeEvent := true }) else d

/-- WAKE_EVENT. -/
def execWakeEvent (i : Fin 36) (s : State) : Host.Outcome State Fault Refusal := devStep s (wakeEventIn i.val)

/-- DOMAIN_WAKE: an access on demand starts a domain's wake (R430, R432); at a domain of the running set it is a wake event. -/
def domainWake (i : Nat) (d : Dev) : Dev := d.wakeEvent i

/-- DOMAIN_WAKE. -/
def execDomainWake (i : Fin 36) (s : State) : Host.Outcome State Fault Refusal := devStep s (domainWake i.val)

/-! ### Ready -/

/-- Whether a register is of a domain's save set (Table 15.3). -/
def inSaveSet (i : Nat) (r : RegAt) : Bool :=
  let b := r.block.base
  if i = 3 then b == Blk.pcl.base || (b == Blk.msh.base && (match r.spec.cls with
    | .cnt _ => true
    | _ => false))
  else if 4 ≤ i ∧ i ≤ 11 then b == Blk.gal.base && r.inst == i - 4 && galSaved r.spec
  else if 20 ≤ i ∧ i ≤ 23 then b == Blk.int.base && r.inst / 4 == i - 20 && hubSaved r.spec
  else if 24 ≤ i ∧ i ≤ 29 then b == Blk.trv.base && r.inst == i - 24 && linkSaved r.spec
  else if i = 30 then b == Blk.hst.base
  else if 31 ≤ i ∧ i ≤ 34 then b == Blk.stk.base && r.inst == i - 31
  else false

/-- The errors of a restore that lie in a domain's save set: the word and the register that it held. -/
def saveErrsOf (i : Nat) (errs : List (Nat × Nat)) : List (Nat × Nat) :=
  errs.filter (fun e => match regAt e.2 with
    | some r => inSaveSet i r
    | none => false)

/-- The restore of a save set meets errors: the registers of the words take their reset values, and a fault is raised (R434). -/
def Dev.saveErrors (d : Dev) (i : Nat) (errs : List (Nat × Nat)) : Dev :=
  d.forEach errs (fun e d => (d.setReg e.2 (resetAt e.2)).raiseFrom 0x06 (Flt.saveset i e.1))

/-- A stack that leaves off trains, its regions at WM = BASE (R338, R350). -/
def Dev.stackUp (d : Dev) (s : Nat) : Dev :=
  let d := d.updStk (fin4 s) (fun k => { k with st := .phyinit, again := false, fast := false })
  d.forEach (List.range 16) (fun r d => if d.rgnValid s r then d.setWm s r (d.rgnLo s r) else d)

/-- What a domain does when it is ready: a Gallery back from retention owes a resume sweep (R177), and one back from off takes its
waiting events; a link trains (Table 10.8); PCIe trains; a plane counts its wake. -/
def Dev.domainUp (d : Dev) (i prior : Nat) : Dev :=
  if 4 ≤ i ∧ i ≤ 11 then
    let g := fin8 (i - 4)
    (if prior = 1 then
      let t := if h : i < 36 then ((d.pwr.doms[i]).entry.map (·.tick)).getD d.dat.tick else d.dat.tick
      d.updGal g (fun x => { x with resume := some t })
     else
      let slots := (d.gal g).wakeSlots
      (d.updGal g (fun x => { x with wakeSlots := [] })).forEach slots (fun e d => d.accept g e.1 e.2))
  else if 12 ≤ i ∧ i ≤ 19 then
    d.bump (R.DNS_WAKE_CNT (i - 12)) (if prior = 1 then F.DNS_WAKE_CNT_RET else F.DNS_WAKE_CNT_OFF)
  else if 24 ≤ i ∧ i ≤ 29 then
    (if d.rf (R.TRV_CTL (i - 24)) F.TRV_CTL_EN = 1 ∧ (d.link (fin6 (i - 24))).st = .off then d.setLink (fin6 (i - 24)) .detect else d)
  else if i = 30 then { d with host := { d.host with linkUp := true } }
  else if 31 ≤ i ∧ i ≤ 34 ∧ prior = 2 then d.stackUp (i - 31)
  else d

/-- A domain is on: its wake is counted, a regulator step that waited begins, and a command that waited for the wake completes, unless the domain is
the named one of a running set; an unwinding may end with it (R430, R431, R438). -/
def Dev.domReady (d : Dev) (i prior : Nat) : Dev :=
  let d := (((d.bump (R.PWR_DOM_CNT i) F.PWR_DOM_CNT_WAKES).domTo i .on).grantRamps).domainUp i prior
  let named : Bool := match d.pwr.req with
    | some q => q.named == i
    | none => false
  (if named then d else d.release (Wait.isPower i) .ok 1 0 0).endUnwind

/-- A domain of the running set is needed by a command (R436, R437): before A3 of the named domain the entry is abandoned at once, a dependant past
its own A3 completing LOWER first; past A3 of the named domain, LOWER completes and the request with it. -/
def Dev.leaveEntry (d : Dev) (i : Nat) : Dev := match d.pwr.req with
  | none => d
  | some q =>
    if !d.inEntry i then d
    else
      let h := q.todo.headD q.named
      if d.domSt h = .entering ∧ 4 ≤ d.domStage h then
        let d := d.lower h q.target
        if h = q.named then d.nextDom q [] (h :: q.lowered)
        else d.unwind { q with todo := q.todo.drop 1, lowered := h :: q.lowered } i 13 1
      else d.unwind q i 13 (d.domStage h)

/-- WAKE_READY: a domain raises its ready signal, once the domains it depends on are on and, from off, its regulator step has begun (R428,
R430, R431). An error in the save set that a STACK restores ends its wake in HELD with TRAIN_FAIL (R434). -/
def wakeReady (i : Nat) (errs : List (Nat × Nat)) (d : Dev) : Dev :=
  let d := d.grantRamps
  if d.domSt i ≠ .waking ∨ (domDeps i).any (fun j => d.domSt j ≠ .on) ∨ (d.domPrior i = 2 ∧ !d.pwr.ramps.contains i) then d
  else
    let prior := d.domPrior i
    let errs := if prior = 2 then saveErrsOf i errs else []
    let d := d.saveErrors i errs
    if !errs.isEmpty ∧ 31 ≤ i ∧ i ≤ 34 then
      (((d.domTo i .held 10).grantRamps).release (Wait.isPower i) .faulted ((d.reg R.LNT_MIR_FLTSEQ).setWidth 64) 0 0).endUnwind
    else d.domReady i prior

/-! ### Requests -/

/-- DNS_IDLE_TIMER: a plane has been idle for a timer, from on for the one that expires first (R230, R439): the request starts, or waits
among 16. -/
def dnsIdleTimer (p : Fin 8) (d : Dev) : Dev :=
  let i := 12 + p.val
  let ret := d.rf (R.DNS_PWR_CFG p) F.DNS_PWR_CFG_IDLE_RET
  let off := d.rf (R.DNS_PWR_CFG p) F.DNS_PWR_CFG_IDLE_OFF
  let target := if d.domSt i = .on ∧ ret ≠ 0 ∧ (off = 0 ∨ ret ≤ off * 1000) then 1
    else if (d.domSt i = .on ∨ d.domSt i = .retained) ∧ off ≠ 0 then 2 else 0
  if target = 0 ∨ d.planeIdle p = false then d
  else if d.pwr.req.isSome then
    (if (d.pwr.queue.filter (fun e => e.2.2 == .idleTimer)).length < 16 then
      { d with pwr := { d.pwr with queue := d.pwr.queue ++ [(i, target, .idleTimer)] } }
     else d)
  else (d.startRequest i target .idleTimer).1

/-- DNS_IDLE_TIMER. -/
def execDnsIdleTimer (p : Fin 8) (s : State) : Host.Outcome State Fault Refusal := devStep s (dnsIdleTimer p)

/-- SURVEYOR_IDLE_ENTRY: with no command in progress the firmware takes SURVEYOR to retention (R440). -/
def surveyorIdle (d : Dev) : Dev :=
  if d.mirState ≠ 2 ∨ d.domSt 1 ≠ .on ∨ d.noCommand = false ∨ d.pwr.req.isSome = true then d else (d.startRequest 1 1 .firmware).1

/-- SURVEYOR_IDLE_ENTRY. -/
def execSurveyorIdleEntry (s : State) : Host.Outcome State Fault Refusal := devStep s surveyorIdle

/-- A power request of the firmware or of a command (R427, R439): wakes are started at once, entries run one set at a time; a domain already as
deep has nothing to do. -/
def Dev.askPower (d : Dev) (i target : Nat) (by_ : PwrAsker) : Dev :=
  if target = 0 then d.startWake i
  else if target ≤ d.domDepth i ∧ d.domSt i ≠ .held then d
  else if d.pwr.req.isSome then { d with pwr := { d.pwr with queue := d.pwr.queue ++ [(i, target, by_)] } }
  else (d.startRequest i target by_).1

/-- PWR_REQ_GO: the firmware writes PWR_REQ.GO (Table 15.11); TARGET 3 and domains past 35 name nothing. -/
def pwrReqGo (i target : Nat) (d : Dev) : Dev := if 36 ≤ i ∨ 2 < target then d else d.askPower i target .firmware

/-- PWR_REQ_GO. -/
def execPwrReqGo (i : Fin 64) (target : Fin 4) (s : State) : Host.Outcome State Fault Refusal := devStep s (pwrReqGo i.val target.val)

/-- POWER_SET_DOMAIN's row (Table 13.15). -/
def specPowerSetDomain : CmdSpec := { op := 0x0B01, rights := .pf, used := params 0 1 }

/-- Whether a domain is of the running set, or wakes (R439). -/
def Dev.domBusy (d : Dev) (i : Nat) : Bool :=
  d.domSt i == .waking || d.domSt i == .entering || (match d.pwr.req with
    | some q => q.named == i || q.todo.contains i || q.lowered.contains i
    | none => false)

/-- POWER_SET_DOMAIN (R427, R428, R435 to R440). -/
def powerSetDomain (c : Cmd) (d : Dev) : Reply Dev :=
  let i := c.p 0
  let target := c.p 1
  if 36 ≤ i then refused .range 0
  else if 2 < target then refused .range 1
  else if i = 1 then refused .power 1 15
  else if d.domBusy i then busy (d.domSt i).code
  else if d.domSt i = .held then
    .finish (if target = 0 then d else d.refusePower i i (d.domReason i) 0) .refused 0 0 (detail .power i (d.domReason i))
  else if target = 0 then (if d.domSt i = .on then done d else .hold (d.startWake i) (.power i))
  else if onOnly i then .finish (d.refusePower i i 14 0) .refused 0 0 (detail .power i 14)
  else if target ≤ d.domDepth i then done d
  else if d.pwr.req.isSome then .hold (d.askPower i target .command) (.power i)
  else match d.startRequest i target .command with
    | (d, none) => .hold d (.power i)
    | (d, some (r, why)) => .finish d .refused 0 0 (detail .power r why)

/-- POWER_SET_DOMAIN. -/
def execPowerSetDomain (c : Cmd) (s : State) : Host.Outcome State Fault Refusal := cmdStep specPowerSetDomain powerSetDomain c s

/-- POWER_SET_POLICY's row. -/
def specPowerSetPolicy : CmdSpec := { op := 0x0B02, rights := .pf, used := params 0 5 }

/-- POWER_SET_POLICY (R230, R432): only a STACK's policy can change; the IDLE fields are a plane's. -/
def powerSetPolicy (c : Cmd) (d : Dev) : Reply Dev :=
  let i := c.p 0
  let pol := c.p 1
  if 36 ≤ i then refused .range 0
  else if !d.fus.domFitted i then refused .absent (if 31 ≤ i then i - 31 else if 24 ≤ i then i - 24 else i - 20)
  else if onOnly i then refused .range 0
  else if 1 < pol ∨ ((i < 31 ∨ 34 < i) ∧ (pol = 1) ≠ (d.domPolicy i = true)) then refused .range 1
  else if 12 ≤ i ∧ i ≤ 19 then
    match (d.parcelAt (i - 12)).map (fun q => (d.pcl q).st) with
    | some .run => busy 3
    | _ =>
      if d.rf (R.DNS_CTL (i - 12)) F.DNS_CTL_COMMIT = 1 then done d
      else done (d.setReg (R.DNS_PWR_CFG (i - 12)) (BitVec.ofNat 32 (c.pn 4 2 * 65536 + c.pn 2 2)))
  else done (d.updDom i (fun x => { x with policy := pol == 1 }))

/-- POWER_SET_POLICY. -/
def execPowerSetPolicy (c : Cmd) (s : State) : Host.Outcome State Fault Refusal := cmdStep specPowerSetPolicy powerSetPolicy c s

/-! ### FAULTED Galleries -/

/-- FAULTED_ERASE_TIMEOUT: a FAULTED Gallery's erasure has not completed within a tick: the Warden takes its GAL and DNS domains off, held
with ABSENT (R510). -/
def faultedEraseTimeout (g : Fin 8) (m : Mach) : Mach :=
  if (m.dev.gal g).st ≠ .faulted ∨ (m.dev.gal g).eraseQ.isEmpty = true then m
  else
    let ports := (m.dev.gal g).eraseQ
    let m := holdOff 1 (4 + g.val) (holdOff 1 (12 + g.val) m)
    { m with dev := m.dev.forEach ports (fun p d => d.portErased (fin16 p)) }

/-- FAULTED_ERASE_TIMEOUT. -/
def execFaultedEraseTimeout (g : Fin 8) (s : State) : Host.Outcome State Fault Refusal := memStep s (faultedEraseTimeout g)

/-- DISCARD_SINK_TIMEOUT: the collector sends DRAIN to the Gallery's node, which sets its sink and discards what waits (R509, Table 18.5). -/
def discardSinkTimeout (g : Fin 8) (d : Dev) : Dev :=
  if (d.gal g).st ≠ .faulted then d
  else
    let d := d.emit (.gdlFrame { dst := stNode g.val, src := 0, op := 5, payload := [1] })
    d.updGal g (fun x => { x with sink := true })

/-- DISCARD_SINK_TIMEOUT. -/
def execDiscardSinkTimeout (g : Fin 8) (s : State) : Host.Outcome State Fault Refusal := devStep s (discardSinkTimeout g)

end Sys2Proof.Machine
end

