-- ==== Sys2Proof/Machine/Limits.lean ====
section
/-!
DEFINITION. Limits and telemetry: the current limiter, the power cap, temperature, telemetry frames, supplies, and the commands that read
and set them (15_power.md R444 to R449).
-/
namespace Sys2Proof.Machine

/-- Changes the limiter's state. -/
def Dev.updPwr (d : Dev) (f : Power → Power) : Dev := { d with pwr := f d.pwr }

/-- CURRENT_LIMIT: the core current in A, its mean over 10 µs and its instantaneous value (R445). -/
def currentLimit (mean inst : Nat) (d : Dev) : Dev :=
  let second : Bool := decide (d.fus.iSus < mean) || (d.pwr.secondSlot && decide (d.fus.iSus * 95 < mean * 100))
  let stop : Bool := decide (d.fus.iPeak < inst) || (d.pwr.stopJobs && decide (d.fus.iSus ≤ inst))
  d.updPwr (fun p => { p with secondSlot := second, stopJobs := stop, throttledMs := p.throttledMs || second || stop })

/-- CURRENT_LIMIT. -/
def execCurrentLimit (mean inst : Nat) (s : State) : Host.Outcome State Fault Refusal := devStep s (currentLimit mean inst)

/-- Whether the firmware runs its policies: ONLINE or UPDATING. -/
def Dev.serving (d : Dev) : Bool := d.mirState == 2 || d.mirState == 5

/-- The firmware lowers the Dense clock by 100 MHz, to 400 MHz at the lowest (R446). -/
def Dev.lowerClock (d : Dev) : Dev :=
  if 400 < d.denseMhz ∧ d.clks.change.isNone then d.startDense (max 400 (d.denseMhz - 100)) false else d

/-- CAP_LOOP: every 1 ms the firmware holds the mean of the last 10 ms of package power, in 0.1 W, to the cap (R446). -/
def capLoop (d : Dev) : Dev :=
  if !d.serving then d
  else
    let m := mean d.pwr.history
    let cap := d.pwr.capSet * 10
    if cap < m then
      let d := d.updPwr (fun p => { p with below := 0 })
      if d.denseMhz ≤ 400 then d.raiseFrom 0x01 (Flt.cap m d.pwr.capSet) else d.lowerClock
    else if m * 10 < cap * 9 then
      if 100 ≤ d.pwr.below + 1 then
        let d := d.updPwr (fun p => { p with below := 0 })
        if d.denseMhz < d.clks.setMhz ∧ d.clks.change.isNone then d.startDense (min d.clks.setMhz (d.denseMhz + 100)) false else d
      else d.updPwr (fun p => { p with below := p.below + 1 })
    else d.updPwr (fun p => { p with below := 0 })

/-- CAP_LOOP. -/
def execCapLoop (s : State) : Host.Outcome State Fault Refusal := devStep s capLoop

/-- The domains a thermal trip takes off: all but LANTERN, SCRATCH, HOST and DATUM, deepest dependants first (R447). -/
def tripped : List Nat := ((List.range 36).filter (fun i => !(onOnly i || i == 30))).reverse

/-- The thermal trip (R447): no entry stages, no erasure; contents are lost with their power. -/
def thermalTrip (m : Mach) : Mach :=
  let m := tripped.foldl (fun m i => if m.dev.domSt i = .held then m else holdOff 17 i m) m
  let d := m.dev.updPwr (fun p => { p with req := none, queue := [] })
  { m with dev := d.setMirror 4 5 }

/-- TJ_SAMPLE: the hottest region and its reading in °C (R447). The 105 °C fault is raised as the threshold is crossed. -/
def tjSample (region t : Nat) (m : Mach) : Mach :=
  let hi := m.dev.rf R.PWR_CTL F.PWR_CTL_TJ_HI
  let rose : Bool := decide (m.dev.rf R.PWR_TJ F.PWR_TJ_TJ < hi) && decide (hi ≤ t)
  let d := if rose then m.dev.smbAlert 0 else m.dev
  let d := d.setReg R.PWR_TJ (BitVec.ofNat 32 (region * 256 + t))
  let was := d.pwr.hotSlot
  let hot : Bool := decide (105 ≤ t)
  let d := d.updPwr (fun p => { p with hotSlot := hot, throttledMs := p.throttledMs || hot })
  let d := if hot ∧ was = false then d.raiseFrom 0x06 (Flt.thermal region t) else d
  if 115 ≤ t then thermalTrip { m with dev := d }
  else
    let stackHot : Bool := (List.range 4).any (fun s => d.rf (R.STK_STAT s) F.STK_STAT_HOT == 1)
    let warm : Bool := decide (hi ≤ t) || stackHot
    { m with dev := if warm && d.serving then d.lowerClock else d }

/-- TJ_SAMPLE. -/
def execTjSample (region : Fin 96) (t : BitVec 8) (s : State) : Host.Outcome State Fault Refusal := memStep s (tjSample region.val t.toNat)

/-- A domain's region voltage in mV (R449, Table 15.7): the setpoint on Sealed parts, TEL_VCORE on Rail parts; VAON for LANTERN and DATUM;
the stack rails' voltage is not stated. -/
def Dev.domMv (d : Dev) (i : Nat) : Nat × Dev :=
  if i = 0 ∨ i = 35 then (750, d)
  else if 31 ≤ i ∧ i ≤ 34 then
    let (v, d) := d.fresh 16
    (v.toNat, d)
  else if d.fus.railMode then (d.rf R.TEL_VCORE F.TEL_VCORE_MV, d)
  else (d.regionMv (domRegions i).1, d)

/-- A domain's reading of the ended millisecond: current, and energy in µJ (R448, R449). -/
def Dev.telDomain (d : Dev) (i amps : Nat) : Dev :=
  let cur := min 0xFFFF amps
  let d := d.setReg (R.TEL_I i) (BitVec.ofNat 32 cur)
  let (mv, d) := d.domMv i
  let e := (d.reg (R.TEL_E_HI i)).toNat * 2 ^ 32 + (d.reg (R.TEL_E_LO i)).toNat + cur * mv / 100
  (d.setReg (R.TEL_E_LO i) (BitVec.ofNat 32 e)).setReg (R.TEL_E_HI i) (BitVec.ofNat 32 (e / 2 ^ 32))

/-- TELEMETRY_FRAME: a millisecond boundary latches every reading, and TEL_SEQ rises (R448). -/
def telemetryFrame (r : TelFrame) (d : Dev) : Dev :=
  let d := d.setReg R.TEL_PKG (BitVec.ofNat 32 (r.vin % 65536 * 65536 + r.pkg % 65536))
  let d := d.setReg R.TEL_VCORE (BitVec.ofNat 32 (if d.fus.railMode then r.vcore % 65536 else 0))
  let d := d.forEach (List.range 36) (fun i d => d.telDomain i (r.amps.getD i 0))
  let d := d.setReg R.TEL_SEQ (d.reg R.TEL_SEQ + 1)
  let acted : Bool := d.pwr.throttledMs || d.pwr.hotSlot || d.pwr.secondSlot || d.pwr.stopJobs || decide (d.denseMhz < d.clks.setMhz)
  let d := if acted then d.bump R.PWR_THROT_CNT F.PWR_THROT_CNT_MS else d
  d.updPwr (fun p => { p with history := (r.pkg % 65536 :: p.history).take 10, throttledMs := false })

/-- TELEMETRY_FRAME. -/
def execTelemetryFrame (r : TelFrame) (s : State) : Host.Outcome State Fault Refusal := devStep s (telemetryFrame r)

/-- SUPPLY_UNDERVOLTAGE: VIN12, or on Rail parts VCORE_IN, has been low for 10 µs; COLD_N is asserted inside (R444). -/
def execSupplyUndervoltage (vin : Bool) (s : State) : Host.Outcome State Fault Refusal :=
  memStep s (fun m => if vin ∨ m.dev.fus.railMode = true then coldReset m.dev.boot.coldPin true m else m)

/-- SUPPLY_RETURN: the internal COLD_N is released (R444). -/
def execSupplyReturn (s : State) : Host.Outcome State Fault Refusal := devStep s (fun d => d.updBoot (fun b => { b with coldInternal := false }))

/-! ### Commands -/

/-- POWER_SET_CAP's row (Table 13.15). -/
def specPowerSetCap : CmdSpec := { op := 0x0B05, rights := .pf, used := params 0 1 }

/-- POWER_SET_CAP (R446). -/
def powerSetCap (c : Cmd) (d : Dev) : Reply Dev :=
  if d.fus.capW < c.pn 0 2 then refused .fuse else done (d.updPwr (fun p => { p with capSet := c.pn 0 2 }))

/-- POWER_SET_CAP. -/
def execPowerSetCap (c : Cmd) (s : State) : Host.Outcome State Fault Refusal := cmdStep specPowerSetCap powerSetCap c s

/-- POWER_STATUS's row. -/
def specPowerStatus : CmdSpec := { op := 0x0B00, rights := .any, buffer := true }

/-- The domains a function may see: all for the PF, its parcel's for a VF (Table 13.15). -/
def Dev.seenDomains (d : Dev) (c : Cmd) : List Nat :=
  if d.actsFor c.issuer = pf then List.range 36
  else match d.parcelOf (d.actsFor c.issuer) with
    | some q => (List.range 36).filter (fun i => (d.parcelDomains q).contains i)
    | none => []

/-- POWER_STATUS (R425): its row gives RESULT1 the retention mask, in place of R397's byte counts. -/
def powerStatus (c : Cmd) (d : Dev) : Reply Dev :=
  let l := d.seenDomains c
  let on := maskOf (l.filter (fun i => d.domSt i == .on))
  let ret := maskOf (l.filter (fun i => d.domSt i == .retained))
  let own := l.flatMap (fun i => [R.PWR_DOM_STAT i, R.PWR_DOM_CFG i, R.PWR_DOM_CNT i, R.PWR_DOM_LAST i])
  let addrs := if d.actsFor c.issuer = pf then Blk.pwr.addrs 0 (fun r => decide (r.off ≠ 8) && decide (r.off < 0x100)) ++ own
      ++ (List.range 96).map (fun r => R.PWR_VREG r) else own
  let (es, d) := d.readRegs addrs
  match report c d (BitVec.ofNat 64 on) es with
  | .finish d st r0 _ dt => .finish d st r0 (BitVec.ofNat 64 ret) dt
  | r => r

/-- POWER_STATUS. -/
def execPowerStatus (c : Cmd) (s : State) : Host.Outcome State Fault Refusal := cmdStep specPowerStatus powerStatus c s

/-- TELEMETRY_READ's row. -/
def specTelemetryRead : CmdSpec := { op := 0x0B04, rights := .own, names := .domains, used := params 0 7, buffer := true }

/-- TELEMETRY_READ (R448, R449). -/
def telemetryRead (c : Cmd) (d : Dev) : Reply Dev :=
  let mask := c.pn 0 8
  if 2 ^ 36 ≤ mask then refused .range 0
  else
    let l := (List.range 36).filter (fun i => mask.testBit i)
    let head := if d.actsFor c.issuer = pf then [R.TEL_SEQ, R.TEL_PKG, R.TEL_VCORE] else [R.TEL_SEQ]
    let (es, d) := d.readRegs (head ++ l.map (fun i => R.TEL_I i) ++ l.flatMap (fun i => [R.TEL_E_LO i, R.TEL_E_HI i]))
    report c d 0 es

/-- TELEMETRY_READ. -/
def execTelemetryRead (c : Cmd) (s : State) : Host.Outcome State Fault Refusal := cmdStep specTelemetryRead telemetryRead c s

end Sys2Proof.Machine
end

