-- ==== Sys2Proof/Machine/RegWrite.lean ====
section
/-!
DEFINITION. Writing a register: each field by its access code (R19), then what the fields that act do, as their Effect columns state; and
the counter-clearing writes.
-/
namespace Sys2Proof.Machine

/-- Whether the commit that locks a register's RWL fields is set (Table 0.8; the commit's place from the block's chapter). TRV_CTL's are
locked by the group's commit (10_traverse_links.md: Registers). -/
def Dev.locked (d : Dev) (r : RegAt) : Bool :=
  if r.block.base = Blk.trv.base then d.rf R.TRV_GRP_CTL F.TRV_GRP_CTL_COMMIT == 1
  else match r.spec.lock with
    | none => false
    | some (off, b) => bit (d.reg (r.block.base + r.inst * r.block.stride + off)) b

/-- One field of a written register (Table 0.8). -/
def writeField (locked : Bool) (v : Word) (w : Word) (e : Fld × Acc) : Word :=
  match e.2 with
  | .rw => fput e.1 w (fget e.1 v)
  | .rwl => if locked then w else fput e.1 w (fget e.1 v)
  | .w1c => fput e.1 w (Nat.land (fget e.1 w) (2 ^ e.1.width - 1 - fget e.1 v))
  | .ro => w
  | .wo => w

/-- The word a register holds after a write, before any effect. -/
def RegSpec.written (r : RegSpec) (locked : Bool) (old v : Word) : Word := r.fields.foldl (writeField locked v) old

/-- The power domain a register's block lies in; 36 for a block that is always reachable (Table 15.1). -/
def regDomain (r : RegAt) : Nat :=
  let b := r.block.base
  if b = Blk.gal.base ∨ b = Blk.dns.base then 4 + r.inst
  else if b = Blk.int.base then 20 + r.inst / 4
  else if b = Blk.trv.base then 24 + r.inst
  else if b = Blk.stk.base then 31 + r.inst
  else if b = Blk.hst.base ∨ b = Blk.mbx.base then 30
  else if b = Blk.msh.base ∨ b = Blk.pcl.base ∨ b = Blk.egr.base ∨ b = Blk.grp.base then 3
  else if b = Blk.scp.base then 2
  else if b = Blk.dat.base ∨ b = Blk.clk.base then 35
  else 0

/-- A Gallery enters RUN: the sampler's register is loaded from its seed (Table 5.2, R270). -/
def Dev.startGallery (d : Dev) (g : Fin 8) : Dev :=
  if (d.gal g).st ≠ .loaded then d
  else
    let x := d.reg (R.LRN_SEED g)
    (d.updGal g (fun y => { y with st := .run })).updLrn g (fun l => { l with x := if x = 0 then 1 else x })

/-- GAL_EVT_CTL.RUN_EN is written: 1 enters RUN, 0 enters STOPPING (R154). -/
def Dev.writeRunEn (d : Dev) (g : Fin 8) (b : Bool) : Dev :=
  let d := d.setRf (R.GAL_EVT_CTL g) F.GAL_EVT_CTL_RUN_EN (b2n b)
  if b then d.startGallery g else d.stopGallery g

/-- A write that reaches a block through VN-M: a block that is not on is woken where its policy is on demand, and keeps its registers
(R432). -/
def Dev.reach (d : Dev) (dom : Nat) (f : Dev → Dev) : Dev := if d.domOn dom then f d else d.demandWake dom

/-- RUN_EN. -/
def execRunEn (g : Fin 8) (b : Bool) (s : State) : Host.Outcome State Fault Refusal :=
  devStep s (fun d => d.reach (4 + g.val) (fun d => d.writeRunEn g b))

/-- CFG_RESET: the configuration reset starts, or is ignored with CFG_ERR (R156). -/
def execCfgReset (g : Fin 8) (s : State) : Host.Outcome State Fault Refusal := 
  devStep s (fun d => d.reach (4 + g.val) (fun d => d.startCfgReset g))

/-- A frame in GDL_TX goes onto the ring: READ, WRITE, DRAIN, HALT and PING are the Surveyor's to originate (R497). A ring that takes
the frame waits for its RESP. -/
def Dev.sendGuideline (d : Dev) : Dev :=
  let bytes := (List.range 7).flatMap (fun i => leBytes 4 (d.reg (R.GDL_TX i)).toNat)
  let op := leAt bytes 2 1
  let n := leAt bytes 3 1
  if 24 < n ∨ !([0x01, 0x02, 0x05, 0x06, 0x08].contains op) then d
  else
    let fr : GdlFrame := { dst := leAt bytes 0 1, src := leAt bytes 1 1, op := op, payload := slice 4 n bytes }
    { (d.emit (.gdlFrame fr)) with gdl := { d.gdl with reqs := d.gdl.reqs ++ [{ by_ := 1, dst := fr.dst }] } }

/-- What a write to a Gallery's block does beside its fields (Tables 2.8, 5.9, 8.6, 9.8). -/
def Dev.galWritten (d : Dev) (g : Fin 8) (off : Nat) (v : Word) : Dev :=
  match off with
  | 0x0 =>
    let d := if bit v 2 then d.clearCounters Blk.gal.base g.val 1 else d
    let d := if bit v 1 then d.startCfgReset g else d
    d.writeRunEn g (bit v 0)
  | 0x4100 => if bit v 2 then d.clearCounters Blk.gal.base g.val 2 else d
  | 0x5000 => if bit v 1 then d.clearCounters Blk.gal.base g.val 4 else d
  | 0x7000 => if bit v 1 then d.clearCounters Blk.gal.base g.val 5 else d
  | 0x7020 => d.addReward g (sext 8 (bits v 7 0))
  | _ => d

/-- What a write to a link's TRV_CTL does: EN starts or ends training, RETRAIN sends an ACTIVE link to RETRAIN (Table 10.14); Z+
without its licence stays OFF (R317). -/
def Dev.trvWritten (d : Dev) (k : Fin 6) (v : Word) : Dev :=
  let d := if bit v 2 then d.clearCounters Blk.trv.base k.val 1 else d
  let idle := d.zIdle k (d.rf R.TRV_GRP_CTL F.TRV_GRP_CTL_MODE == 1) (d.linkRole k)
  let d := if bit v 0 then (if (d.link k).st = .off ∧ !idle then d.enableLink k else d)
    else if (d.link k).st = .off then d
    else (((d.dropWaiting k).setRf (R.TRV_STAT k) F.TRV_STAT_SEALED 0).updLink k (fun l => { partner := l.partner })).setLink k .off
  if bit v 1 then d.enterRetrain k else d

/-- What a write to the power block does: PWR_CAP.CAP_W, PWR_REQ.GO, and a STACK's policy (Table 15.11). A cap above the fused one takes
the fused one: firmware raises no fused limit (R5; DESIGN CHOICE, log entry 54). -/
def Dev.pwrWritten (d : Dev) (off j : Nat) (v : Word) : Dev :=
  match off with
  | 0x0 => if bit v 0 then d.clearCounters Blk.pwr.base 0 1 else d
  | 0x8 => if bit v 31 then pwrReqGo (bits v 5 0) (bits v 9 8) d else d
  | 0x10 => d.updPwr (fun p => { p with capSet := min (bits v 15 0) d.fus.capW })
  | 0x104 => if 31 ≤ j ∧ j ≤ 34 then d.updDom j (fun x => { x with policy := bit v 0 }) else d
  | _ => d

/-- CLK_PLL_CFG_1.MHZ written above the fused maximum takes that maximum (R5, R207; DESIGN CHOICE, log entry 54). -/
def Dev.boundDense (d : Dev) : Dev :=
  if d.fus.denseMhz < d.denseMhz then d.setRf (R.CLK_PLL_CFG 1) F.CLK_PLL_CFG_MHZ d.fus.denseMhz else d

/-- What a write does beside its fields, by block (each block's register table). -/
def Dev.writeEffects (d : Dev) (r : RegAt) (old v : Word) : Dev :=
  let b := r.block.base
  let o := r.spec.off
  let clr (bitNo : Nat) : Dev := if bit v bitNo then d.clearCounters b r.inst 1 else d
  if b = Blk.gal.base then d.galWritten (fin8 r.inst) o v
  else if b = Blk.dns.base then
    (if o = 0 then
      let d := clr 1
      if bit v 2 then d.flushPlane (fin8 r.inst) else d
     else d)
  else if b = Blk.msh.base then (if o = 0 then clr 1 else d)
  else if b = Blk.trv.base then (if o = 0 then d.trvWritten (fin6 r.inst) v else d)
  else if b = Blk.stk.base then
    (if o = 0 then clr 1
     else if o = 0x100 ∧ bit v 31 ∧ !bit old 31 then d.setWm r.inst r.idx (d.rgnLo r.inst r.idx)
     else if o = 0x110 ∧ bit v 0 then d.startFill (fin4 r.inst) (fin16 r.idx) else d)
  else if b = Blk.scp.base then
    (if o = 0 then clr 0
     else if o = 0x20 ∧ bit v 31 then
      (match marchTarget (bits v 4 0) with
        | some t => if d.march.isNone && formAllowed t (bit v 16) && (d.marchBlocked t (bit v 16)).isNone then d.startMarch (bits v 4 0) (bit v 16) else d
        | none => d)
     else d)
  else if b = Blk.pwr.base then d.pwrWritten o r.idx v
  else if b = Blk.clk.base then
    (if o = 4 then clr 0 else if o = 0x20 then d.boundDense else d)
  else if b = Blk.flt.base then (if o = 0 then clr 1 else d)
  else if b = Blk.gdl.base then
    (if o = 0 then
      let d := clr 1
      if bit v 0 then d.sendGuideline else d
     else d)
  else if b = Blk.mbx.base then
    (if o = 0x124 ∧ bit v 0 ∧ !bit old 0 then ringEnable (fin9 r.inst) d
     else if o = 0x124 ∧ !bit v 0 ∧ bit old 0 then d.quiesce (fin9 r.inst) else d)
  else d

/-- Whether a register is a ring register other than EN of a function whose rings are not OFF (R383). -/
def Dev.ringHeld (d : Dev) (r : RegAt) : Bool := r.block.base == Blk.mbx.base && r.spec.off != 0x124 && (d.ring (fin9 r.inst)).st != .off

/-- A write to a register of a block that is on: its fields by their codes, then its effects. A ring register other than EN takes a write only in
OFF; another is discarded and counted (R383). -/
def Dev.writeFound (d : Dev) (a : Nat) (r : RegAt) (v : Word) : Dev :=
  let old := d.reg a
  if d.ringHeld r then d.dbErr (fin9 r.inst)
  else (d.setReg a (r.spec.written (d.locked r) old v)).writeEffects r old v

/-- The records that FLT_DRAIN.N frees, the oldest first (Table 18.12). -/
def Dev.freeRecords (d : Dev) (n : Nat) : Dev := { d with flt := { d.flt with recs := d.flt.recs.drop n } }

/-- The check of Table 4.2 that a write to a register that is not yet locked would break (R126). -/
def Mach.writeBreaks (m : Mach) (a : Nat) (r : RegAt) (v : Word) : Option Nat :=
  if (m.regBreaks r).isSome then none
  else Mach.regBreaks { m with dev := m.dev.setReg a (r.spec.written (m.dev.locked r) (m.dev.reg a) v) } r

/-- The Gallery that counts a write that the checker drops: the one written, or the row 0 Gallery of the port's column. -/
def RegAt.darkGal (r : RegAt) : Fin 8 := if r.block.base = Blk.gal.base then fin8 r.inst else fin8 (r.inst / 4 * 2)

/-- The registers whose writable fields only the SMBus target writes (R538). -/
def smbusOwned (a : Nat) : Bool := a == R.LNT_IO_SLEW || a == R.LNT_SMB_ALERT || a == R.LNT_SMB_CFG

/-- A register write that reaches its block: FLT_CTL.PANIC resets the Surveyor, FLT_DRAIN frees records (Table 18.12). A write that would break Table
4.2 is dropped (R126), and so is one to a register that only the SMBus target writes (R538). -/
def writeNow (a : Nat) (r : RegAt) (v : Word) (m : Mach) : Mach :=
  if smbusOwned a then m
  else match m.writeBreaks a r v with
  | some k => { m with dev := m.dev.darkDropped r.darkGal k }
  | none =>
    let d := m.dev.writeFound a r v
    let d := if a = R.FLT_DRAIN then d.freeRecords (bits v 8 0) else d
    if a = R.FLT_CTL ∧ bit v 0 then surveyorReset 4 { m with dev := d } else { m with dev := d }

/-- Whether a write to a domain without power waits for its wake: its policy is on demand, and neither a hold nor a STACK in off stands against it
(R350, R432). -/
def Dev.wakesFor (d : Dev) (i : Nat) : Bool := d.domPolicy i && d.domSt i != .held && !(31 ≤ i && i ≤ 34 && d.domSt i == .off)

/-- A register write by the Surveyor. At a domain without power it waits at the management node and triggers the wake; under sequenced policy it meets
an off domain, and is lost (R432). -/
def writeOne (a : Nat) (r : RegAt) (v : Word) (m : Mach) : Mach :=
  let i := regDomain r
  if m.dev.domUp i then writeNow a r v m
  else if m.dev.wakesFor i then
    { m with dev := (m.dev.updPwr (fun p => { p with writes := p.writes ++ [(a, v)] })).wakeEvent i }
  else m

/-- The writes that wait at the management node, in order of arrival: those whose domain is on take effect (R432). -/
def Mach.serveWrites (m : Mach) : Mach :=
  let waiting := m.dev.pwr.writes
  if waiting.isEmpty then m
  else
    waiting.foldl (fun m e => match regAt e.1 with
      | some r => writeOne e.1 r e.2 m
      | none => m) { m with dev := m.dev.updPwr (fun p => { p with writes := [] }) }

/-- A register write by the Surveyor, after those that wait. -/
def writeReg (a : Nat) (r : RegAt) (v : Word) (m : Mach) : Mach := writeOne a r v m.serveWrites

/-- WAKE_READY: a domain raises its ready signal, and what waited for it is served. -/
def execWakeReady (i : Fin 36) (errs : List (Nat × Nat)) (s : State) : Host.Outcome State Fault Refusal :=
  memStep s (fun m => (Mach.drainStacks { m with dev := wakeReady i.val errs m.dev } i).serveWrites)

/-- REGISTER_WRITE: a write by the Surveyor (R19). An address without a register is no write the spec describes. -/
def execRegisterWrite (a : BitVec 40) (v : BitVec 32) (s : State) : Host.Outcome State Fault Refusal :=
  match regAt a.toNat with
  | none => .fault (.unmappedRegister a.toNat)
  | some r => memStep s (writeReg a.toNat r v)

/-- GDL_GO: the frame in GDL_TX leaves (R497). -/
def execGdlGo (s : State) : Host.Outcome State Fault Refusal := devStep s (fun d => d.sendGuideline)

/-! ### Counters -/

/-- GAL_EVT_CLR_CNT. -/
def execGalEvtClrCnt (g : Fin 8) (s : State) : Host.Outcome State Fault Refusal :=
  devStep s (fun d => d.reach (4 + g.val) (fun d => d.clearCounters Blk.gal.base g.val 1))
/-- GAL_STATE_CLR_CNT. -/
def execGalStateClrCnt (g : Fin 8) (s : State) : Host.Outcome State Fault Refusal :=
  devStep s (fun d => d.reach (4 + g.val) (fun d => d.clearCounters Blk.gal.base g.val 2))
/-- MSH_CLR_CNT. -/
def execMshClrCnt (s : State) : Host.Outcome State Fault Refusal :=
  devStep s (fun d => d.reach 3 (fun d => d.clearCounters Blk.msh.base 0 1))
/-- DNS_CLR_CNT. -/
def execDnsClrCnt (g : Fin 8) (s : State) : Host.Outcome State Fault Refusal :=
  devStep s (fun d => d.reach (4 + g.val) (fun d => d.clearCounters Blk.dns.base g.val 1))
/-- CMP_CLR_CNT. -/
def execCmpClrCnt (g : Fin 8) (s : State) : Host.Outcome State Fault Refusal :=
  devStep s (fun d => d.reach (4 + g.val) (fun d => d.clearCounters Blk.gal.base g.val 4))
/-- LRN_CLR_CNT. -/
def execLrnClrCnt (g : Fin 8) (s : State) : Host.Outcome State Fault Refusal :=
  devStep s (fun d => d.reach (4 + g.val) (fun d => d.clearCounters Blk.gal.base g.val 5))
/-- TRV_CLR_CNT. -/
def execTrvClrCnt (k : Fin 6) (s : State) : Host.Outcome State Fault Refusal :=
  devStep s (fun d => d.reach (24 + k.val) (fun d => d.clearCounters Blk.trv.base k.val 1))
/-- STK_CLR_CNT. -/
def execStkClrCnt (k : Fin 4) (s : State) : Host.Outcome State Fault Refusal :=
  devStep s (fun d => d.reach (31 + k.val) (fun d => d.clearCounters Blk.stk.base k.val 1))
/-- SCP_CLR_CNT. -/
def execScpClrCnt (s : State) : Host.Outcome State Fault Refusal :=
  devStep s (fun d => d.reach 2 (fun d => d.clearCounters Blk.scp.base 0 1))
/-- PWR_CLR_CNT. -/
def execPwrClrCnt (s : State) : Host.Outcome State Fault Refusal := devStep s (fun d => d.clearCounters Blk.pwr.base 0 1)
/-- CLK_CLR_CNT. -/
def execClkClrCnt (s : State) : Host.Outcome State Fault Refusal :=
  devStep s (fun d => d.reach 35 (fun d => d.clearCounters Blk.clk.base 0 1))
/-- FLT_CLR_CNT. -/
def execFltClrCnt (s : State) : Host.Outcome State Fault Refusal := devStep s (fun d => d.clearCounters Blk.flt.base 0 1)
/-- GDL_CLR_CNT. -/
def execGdlClrCnt (s : State) : Host.Outcome State Fault Refusal := devStep s (fun d => d.clearCounters Blk.gdl.base 0 1)

end Sys2Proof.Machine
end

