-- ==== Sys2Proof/Machine/Parcels.lean ====
section
/-!
DEFINITION. What the parcel commands share with the other groups (R406, R422, R436), and the parcel commands (R194 to R200, R400, R542,
Table 13.6).
-/
namespace Sys2Proof.Machine

/-- A domain that a command needs is woken, the domains it depends on first, within the command (R428, R432); the entry of a running set that holds
it is left first (R436, R437). A held domain stays held; one that a queued request takes at once meets a wake event. -/
def Dev.wakeOne (d : Dev) (i : Nat) : Dev :=
  let d := d.leaveEntry i
  match d.domSt i with
  | .retained => d.domReady i 1
  | .off => d.domReady i 2
  | .waking => d.domReady i (d.domPrior i)
  | .entering => d.wakeEvent i
  | _ => d

/-- Wakes a domain and what it depends on. -/
def Dev.needDom (d : Dev) (i : Nat) : Dev := d.forEach (domDeps i ++ [i]) (fun j d => d.wakeOne j)

/-- An operation on a Gallery's domain, woken for it; nothing is done on a domain that stays without its supplies. -/
def Dev.onGal (d : Dev) (g : Fin 8) (f : Dev → Dev) : Dev :=
  let d := d.needDom (4 + g.val)
  if d.domUp (4 + g.val) then f d else d

/-- BUSY STATE with the parcel's state code where a command is not allowed in the parcel's state (R406, Table 13.19). -/
def Dev.inStates (d : Dev) (q : Fin 8) (l : List PclSt) (r : Reply Dev) : Reply Dev :=
  if l.contains (d.pcl q).st then r else busy (d.pcl q).st.code

/-- The states in which Intake, Egress, Learning and Expert set commands are allowed (Table 13.19). -/
def setStates : List PclSt := [.created, .loaded, .run, .stopping]

/-- The columns of a valid parcel. -/
def Dev.parcelCols (d : Dev) (q : Fin 8) : List Nat :=
  (List.range 4).filter (fun c => d.rf (R.PCL_RECT q) F.PCL_RECT_VALID = 1 ∧
    d.rf (R.PCL_RECT q) F.PCL_RECT_X0 ≤ c ∧ c ≤ d.rf (R.PCL_RECT q) F.PCL_RECT_X1)

/-- Whether a parcel is created. -/
def Dev.pclValid (d : Dev) (q : Fin 8) : Bool := d.rf (R.PCL_RECT q) F.PCL_RECT_VALID == 1

/-- The created parcels other than `q`. -/
def Dev.otherParcels (d : Dev) (q : Fin 8) : List (Fin 8) := (List.finRange 8).filter (fun r => r != q && d.pclValid r)

/-- The rectangle, binding, mask and pools that PARCEL_CREATE names (Table 13.6). -/
structure Rect where
  x0 : Nat
  x1 : Nat
  y0 : Nat
  y1 : Nat
deriving DecidableEq, Repr

/-- The rectangle in P0, laid out as PCL_RECT bits [5:0] (Table 6.10). -/
def rectOf (b : Nat) : Rect := { x0 := b % 4, x1 := b / 4 % 4, y0 := b / 16 % 2, y1 := b / 32 % 2 }

/-- The columns of a rectangle. -/
def Rect.cols (r : Rect) : List Nat := (List.range 4).filter (fun c => r.x0 ≤ c && c ≤ r.x1)

/-- The Galleries of a rectangle. -/
def Rect.gals (r : Rect) : List Nat := (List.range 8).filter (fun g => r.x0 ≤ g / 2 && g / 2 ≤ r.x1 && r.y0 ≤ g % 2 && g % 2 ≤ r.y1)

/-- Whether it gives one row of its columns. -/
def Rect.oneRow (r : Rect) : Bool := r.y0 == r.y1

/-- Whether two rectangles overlap. -/
def Rect.meets (a b : Rect) : Bool := decide (a.x0 ≤ b.x1 ∧ b.x0 ≤ a.x1 ∧ a.y0 ≤ b.y1 ∧ b.y0 ≤ a.y1)

/-- The rectangle of a created parcel. -/
def Dev.rect (d : Dev) (q : Fin 8) : Rect := rectOf (d.reg (R.PCL_RECT q)).toNat

/-! ### Stack regions -/

/-- Whether a column's stack holds a valid parcel region. -/
def Dev.parcelRegion (d : Dev) (s : Nat) : Bool := regions.any (fun r => d.rgnValid s r && d.rgnOwner s r < 8)

/-- The MAP that PARCEL_CREATE leaves in a column's stack (R400). -/
def Dev.newMap (d : Dev) (r : Rect) (s : Nat) : Nat :=
  if d.parcelRegion s then d.rf (R.STK_CTL s) F.STK_CTL_MAP else b2n r.oneRow

/-- The first MiB of SA, at or above `lo`, from which `n` MiB below `hi` are free of a stack's valid regions (R542). -/
def Dev.freeRange (d : Dev) (s lo hi n : Nat) : Option Nat :=
  let used := (regions.filter (fun r => d.rgnValid s r)).map (fun r => (d.rgnLo s r / 16384, d.rgnHi s r / 16384))
  let starts := lo :: (used.map (·.2)).filter (fun e => decide (lo < e))
  let ok := starts.filter (fun a => decide (a + n ≤ hi) && used.all (fun u => decide (a + n ≤ u.1 ∨ u.2 ≤ a)))
  ok.foldl (fun m a => match m with | none => some a | some b => some (min a b)) none

/-- The regions PARCEL_CREATE places in one stack: (first MiB, MiB), or none where they do not fit (R542). -/
def Dev.placeRegions (d : Dev) (r : Rect) (s n : Nat) : Option (List (Nat × Nat)) :=
  let base := s * 16384
  let half := d.stackCap / 2 / 1048576
  let lo := if !r.oneRow then base + 1024 else if r.y0 = 0 then base + 1024 else base + half
  let hi := if !r.oneRow then base + 16384 else if r.y0 = 0 then min (base + half) (base + 16384) else base + 16384
  match d.freeRange s lo hi n with
  | some a => some [(a, n)]
  | none =>
    if d.fus.high ∧ (!r.oneRow ∨ r.y0 = 1) then
      let n1 := hi - lo
      match d.freeRange s lo hi n1, d.freeRange s (65536 + s * 8192) (65536 + (s + 1) * 8192) (n - n1) with
      | some a, some b => some [(a, n1), (b, n - n1)]
      | _, _ => none
    else none

/-- Writes a region for a parcel into the lowest free region register; its WM is BASE (R342, R346). -/
def Dev.addRegion (d : Dev) (s owner base mib : Nat) : Dev :=
  match regions.find? (fun r => !d.rgnValid s r) with
  | none => d
  | some r =>
    let d := d.setReg (R.STK_RGN_LIM s r) (BitVec.ofNat 32 (base + mib - 1))
    let d := d.setReg (R.STK_RGN_BASE s r) (BitVec.ofNat 32 (2 ^ 31 + owner * 2 ^ 24 + base))
    d.setWm s r (base * 16384)

/-- Writes MAP, the system regions cleared and restored around it, each then unwritten (R336, R400). -/
def Dev.setMap (d : Dev) (s v : Nat) : Dev :=
  if d.parcelRegion s ∨ d.rf (R.STK_CTL s) F.STK_CTL_MAP = v then d
  else
    let d := d.setRf (R.STK_CTL s) F.STK_CTL_MAP v
    d.forEach regions (fun r d => if d.rgnValid s r then d.setWm s r (d.rgnLo s r) else d)

/-- Clears a parcel's regions (R342). -/
def Dev.clearRegions (d : Dev) (q : Nat) : Dev :=
  d.forEach (List.range 4) (fun s d => d.forEach regions (fun r d =>
    if d.rgnValid s r ∧ d.rgnOwner s r = q then
      ((((d.setReg (R.STK_RGN_BASE s r) 0).setReg (R.STK_RGN_LIM s r) 0).setReg (R.STK_RGN_WM s r) 0).setReg (R.STK_RGN_FILL s r) 0).setReg
        (R.STK_RGN_CTL s r) 0
    else d))

/-! ### PARCEL_CREATE -/

/-- PARCEL_CREATE's row (Table 13.6). -/
def specParcelCreate : CmdSpec :=
  { op := 0x0201, rights := .pf, names := .parcel, used := [(0, 0x3F)] ++ params 1 2 ++ params 4 8 ++ params 12 15 }

/-- Steps 4 and 5 of Table 13.1 for PARCEL_CREATE: withheld Galleries (R486), ports and stacks that are not there, PARCELS-8. -/
def Dev.createAbsent (d : Dev) (c : Cmd) (r : Rect) : Option (Status × BitVec 32) :=
  match r.gals.find? (fun g => d.withheld g) with
  | some g => some (.refused, detail .absent g)
  | none =>
    match (List.range 16).find? (fun p => (c.pn 4 2).testBit p && !bit d.fus.ports p) with
    | some p => some (.refused, detail .absent p)
    | none =>
      match r.cols.find? (fun s => decide (0 < c.pn 12 4) && !bit d.fus.stks s) with
      | some s => some (.refused, detail .absent s)
      | none => if 2 ≤ (d.otherParcels c.parcel).length ∧ !d.licensed 2 then some (.notLicensed, 0) else none

/-- The sum of a pool over the other parcels that hold a column (R198). -/
def Dev.poolSum (d : Dev) (q : Fin 8) (f : Fld) (s : Nat) : Nat :=
  (((d.otherParcels q).filter (fun p => (d.parcelCols p).contains s)).map (fun p => d.rf (R.PCL_POOL p) f)).sum

/-- A column whose pool sum R198 would not allow. -/
def Dev.poolsBad (d : Dev) (q : Fin 8) (cols : List Nat) (trunk stack : Nat) : Option Nat :=
  if 256 < trunk ∨ cols.any (fun s => decide (256 < d.poolSum q F.PCL_POOL_TRUNK s + trunk)) then some 6
  else if 128 < stack ∨ cols.any (fun s => decide (128 < d.poolSum q F.PCL_POOL_STACK s + stack)) then some 8
  else none

/-- Step 7 of Table 13.1 for PARCEL_CREATE: values, and checks 1 to 4 (R194, R196 to R198). -/
def Dev.createRange (d : Dev) (c : Cmd) (r : Rect) : Option (Status × BitVec 32) :=
  let os := d.otherParcels c.parcel
  if r.x1 < r.x0 ∨ r.y1 < r.y0 then some (.refused, detail .range 0)
  else if 15 < c.p 1 then some (.refused, detail .range 1)
  else if 8 < c.p 2 then some (.refused, detail .range 2)
  else if os.any (fun o => r.meets (d.rect o)) then some (.refused, detail .check 1)
  else if os.any (fun o => d.rf (R.PCL_BIND o) F.PCL_BIND_SLICE == c.p 1 || d.rf (R.PCL_BIND o) F.PCL_BIND_FUNC == c.p 2) then
    some (.refused, detail .check 2)
  else if os.any (fun o => Nat.land (d.rf (R.PCL_PORTMASK o) F.PCL_PORTMASK_MASK) (c.pn 4 2) != 0) then some (.refused, detail .check 3)
  else if (List.range 16).any (fun p => (c.pn 4 2).testBit p && !r.cols.contains (p / 4)) then some (.refused, detail .check 4)
  else match d.poolsBad c.parcel r.cols (c.pn 6 2) (c.p 8) with
    | some i => some (.refused, detail .range i)
    | none =>
      if c.pn 12 4 = 0 then none
      else match r.cols.find? (fun s => d.domSt (31 + s) == .held) with
        | some s => some (.refused, detail .power (31 + s) (d.domReason (31 + s)))
        | none => if r.cols.any (fun s => (d.placeRegions r s (c.pn 12 4)).isNone) then some (.refused, detail .capacity) else none

/-- Whether a column's stack is in the other MAP with a valid parcel region (R400). -/
def Dev.mapBlocks (d : Dev) (r : Rect) : Bool :=
  r.cols.any (fun s => d.parcelRegion s && d.rf (R.STK_CTL s) F.STK_CTL_MAP != b2n r.oneRow)

/-- Writes and locks a parcel's registers (Table 6.10). STACK reads 0 where no column has a stack (R198). -/
def Dev.bindParcel (d : Dev) (c : Cmd) (r : Rect) : Dev :=
  let q := c.parcel
  let stack := if r.cols.any (fun s => bit d.fus.stks s) then c.p 8 else 0
  let d := d.setReg (R.PCL_PORTMASK q) (BitVec.ofNat 32 (c.pn 4 2))
  let d := d.setReg (R.PCL_POOL q) (BitVec.ofNat 32 (c.pn 6 2 * 65536 + stack))
  let d := d.setReg (R.PCL_BIND q) (BitVec.ofNat 32 (2 ^ 31 + c.p 2 * 256 + c.p 1))
  let d := d.setReg (R.PCL_RECT q) (BitVec.ofNat 32 (2 ^ 31 + c.p 0))
  d.updPcl q (fun _ => { st := .created })

/-- PARCEL_CREATE (R194 to R198, R400, R542). -/
def parcelCreate (c : Cmd) (d : Dev) : Reply Dev :=
  let r := rectOf (c.p 0)
  match d.createAbsent c r with
  | some e => .refuse e.1 e.2
  | none => match d.createRange c r with
    | some e => .refuse e.1 e.2
    | none =>
      if (d.pcl c.parcel).st ≠ .free then busy (d.pcl c.parcel).st.code
      else if 0 < c.pn 12 4 ∧ d.mapBlocks r then busy (d.pcl c.parcel).st.code
      else
        let plan := r.cols.map (fun s => (s, if c.pn 12 4 = 0 then [] else (d.placeRegions r s (c.pn 12 4)).getD []))
        let d := d.needDom 3
        let d := d.forEach plan (fun e d =>
          if bit d.fus.stks e.1 then
            let d := if 0 < c.pn 12 4 ∨ d.newMap r e.1 ≠ d.rf (R.STK_CTL e.1) F.STK_CTL_MAP then d.needDom (31 + e.1) else d
            let d := d.setMap e.1 (d.newMap r e.1)
            d.forEach e.2 (fun x d => d.addRegion e.1 c.parcel.val x.1 x.2)
          else d)
        done ((d.bindParcel c r).vfRegions (fin9 (c.p 2))).slicesChanged

/-- PARCEL_CREATE. -/
def execParcelCreate (c : Cmd) (s : State) : Host.Outcome State Fault Refusal := cmdStep specParcelCreate parcelCreate c s

/-! ### The other parcel commands -/

/-- PARCEL_STATUS's row. -/
def specParcelStatus : CmdSpec := { op := 0x0200, rights := .own, names := .parcel, buffer := true }

/-- PARCEL_STATUS (Table 13.6). -/
def parcelStatus (c : Cmd) (d : Dev) : Reply Dev :=
  let q := c.parcel
  let r0 := (d.reg (R.PCL_BIND q)) ++ (d.reg (R.PCL_RECT q))
  let (es, d) := d.readRegs ((d.parcelGals q).map (fun g => R.GAL_EVT_STAT g)
    ++ (d.parcelCols q).flatMap (fun s => [R.MSH_TRUNK_CNT s, R.MSH_TRUNK_WAIT s]) ++ Blk.pcl.addrs q (fun _ => true))
  report c d r0 es

/-- PARCEL_STATUS. -/
def execParcelStatus (c : Cmd) (s : State) : Host.Outcome State Fault Refusal := cmdStep specParcelStatus parcelStatus c s

/-- PARCEL_DESTROY's row. -/
def specParcelDestroy : CmdSpec := { op := 0x0202, rights := .pf, names := .parcel }

/-- PARCEL_DESTROY (R200, R342): the Galleries' configuration resets, then the registers cleared and unlocked. -/
def parcelDestroy (c : Cmd) (d : Dev) : Reply Dev :=
  let q := c.parcel
  d.inStates q [.created] (
    let d := (d.needDom 3).forEach (d.parcelGals q) (fun g d => d.onGal g (fun d => d.cfgReset g))
    let f := fin9 (d.rf (R.PCL_BIND q) F.PCL_BIND_FUNC)
    let d := d.clearRegions q.val
    let d := d.clearRegs (fun r => r.block.base == Blk.pcl.base && r.inst == q.val)
    done ((d.updPcl q (fun _ => {})).vfRegions f).slicesChanged)

/-- PARCEL_DESTROY. -/
def execParcelDestroy (c : Cmd) (s : State) : Host.Outcome State Fault Refusal := cmdStep specParcelDestroy parcelDestroy c s

/-- PARCEL_SET_POOLS's row. -/
def specParcelSetPools : CmdSpec := { op := 0x0203, rights := .pf, names := .parcel, used := params 6 8 }

/-- PARCEL_SET_POOLS (R198, R200). -/
def parcelSetPools (c : Cmd) (d : Dev) : Reply Dev :=
  let q := c.parcel
  match d.poolsBad q (d.parcelCols q) (c.pn 6 2) (c.p 8) with
  | some i => refused .range i
  | none => d.inStates q [.created] (
      let stack := if (d.parcelCols q).any (fun s => bit d.fus.stks s) then c.p 8 else 0
      done ((d.needDom 3).setReg (R.PCL_POOL q) (BitVec.ofNat 32 (c.pn 6 2 * 65536 + stack))))

/-- PARCEL_SET_POOLS. -/
def execParcelSetPools (c : Cmd) (s : State) : Host.Outcome State Fault Refusal := cmdStep specParcelSetPools parcelSetPools c s

/-- PARCEL_CLEAR_COUNTERS's row. -/
def specParcelClear : CmdSpec := { op := 0x0204, rights := .own, names := .parcel }

/-- PARCEL_CLEAR_COUNTERS (Table 6.6). -/
def parcelClear (c : Cmd) (d : Dev) : Reply Dev :=
  let q := c.parcel
  let whole := (d.parcelCols q).filter (fun s => d.parcelAt (2 * s) == some q && d.parcelAt (2 * s + 1) == some q)
  let d := d.setReg (R.PCL_CNT q) 0
  done (d.forEach whole (fun s d => (d.setReg (R.MSH_TRUNK_CNT s) 0).setReg (R.MSH_TRUNK_WAIT s) 0))

/-- PARCEL_CLEAR_COUNTERS. -/
def execParcelClearCounters (c : Cmd) (s : State) : Host.Outcome State Fault Refusal := cmdStep specParcelClear parcelClear c s

end Sys2Proof.Machine
end

