-- ==== Sys2Proof/Machine/AtlasImage.lean ====
section
/-!
DEFINITION. The container of an Atlas image: header, section table, sections, and the sheet of each Gallery (14_atlas_images.md, R407 to
R410, Tables 14.1 to 14.3).
-/
namespace Sys2Proof.Machine

/-! ### Header (Table 14.1) -/

/-- IMAGE_LEN. -/
def ihLen (b : List Byte) : Nat := leAt b 8 4
/-- SECT_COUNT. -/
def ihSects (b : List Byte) : Nat := leAt b 6 2
/-- TICK_NS. -/
def ihTickNs (b : List Byte) : Nat := leAt b 12 4
/-- TICK_TOL. -/
def ihTol (b : List Byte) : Nat := leAt b 16 1
/-- GRACE. -/
def ihGrace (b : List Byte) : Nat := leAt b 17 1
/-- PARCEL. -/
def ihParcel (b : List Byte) : Nat := leAt b 18 1
/-- RECT. -/
def ihRect (b : List Byte) : Nat := leAt b 19 1
/-- SLICE. -/
def ihSlice (b : List Byte) : Nat := leAt b 20 1
/-- CHIP. -/
def ihChip (b : List Byte) : Nat := leAt b 21 1
/-- PARTS. -/
def ihParts (b : List Byte) : Nat := leAt b 22 1
/-- NEED. -/
def ihNeed (b : List Byte) : Nat := leAt b 23 1
/-- PORTMASK. -/
def ihPorts (b : List Byte) : Nat := leAt b 24 2
/-- DENSE_MHZ. -/
def ihMhz (b : List Byte) : Nat := leAt b 26 2
/-- STACK_MIB. -/
def ihStack (b : List Byte) : Nat := leAt b 28 4

/-- Whether every byte is 0. -/
def allZero (b : List Byte) : Bool := b.all (· == 0)

/-- Check a: the header can be read (Table 14.6). `len` is the length the command gives. -/
def headerReadable (b : List Byte) (len : Nat) : Bool :=
  decide (128 ≤ b.length) && leAt b 0 4 == 0x54414E47 && leAt b 4 2 == 1 && ihLen b == len && b.length == len

/-- The values and reserved places of Table 14.1 (R407). -/
def headerOk (b : List Byte) : Bool :=
  allZero (slice 48 80 b) && decide (2 ≤ ihSects b ∧ ihSects b ≤ 512) && decide (20000 ≤ ihTickNs b ∧ ihTickNs b ≤ 20000000)
    && decide (ihTol b ≤ 50) && decide (ihGrace b < 4) && decide (ihParcel b < 8) && decide (ihRect b < 64) && decide (ihSlice b < 16)
    && decide (ihChip b < 64) && decide (ihParts b % 2 = 0 ∧ ihParts b < 32) && decide (ihNeed b < 64)

/-! ### Section table (Table 14.2) -/

/-- A section table entry. -/
structure Section where
  typ : Nat
  index : Nat
  off : Nat
  len : Nat
deriving DecidableEq, Repr

/-- The section table. -/
def sections (b : List Byte) : List Section :=
  (List.range (ihSects b)).map (fun i =>
    { typ := leAt b (128 + 16 * i) 1, index := leAt b (129 + 16 * i) 1, off := leAt b (132 + 16 * i) 4, len := leAt b (136 + 16 * i) 4 })

/-- Whether the reserved bytes of the section table are 0 (R408). -/
def tableReserved (b : List Byte) : Bool :=
  (List.range (ihSects b)).all (fun i => leAt b (130 + 16 * i) 2 == 0 && leAt b (140 + 16 * i) 4 == 0)

/-- Whether a section's INDEX is one its TYPE takes, given the Galleries and ports of the image (R409, Table 14.3). -/
def indexOk (gals : List Nat) (ports : Nat) (e : Section) : Bool :=
  if 1 ≤ e.typ ∧ e.typ ≤ 9 then gals.contains e.index
  else if e.typ = 0x0B then decide (e.index < 16) && ports.testBit e.index
  else (e.typ == 0x0A || e.typ == 0x0C || e.typ == 0x0E || e.typ == 0xFF) && e.index == 0xFF

/-- Whether the bytes from `e` up to a section that follows an end `e` are padding of 0, and the sections lie in order (R409). -/
def sectionsPlaced (b : List Byte) : Nat → List Section → Bool
  | _, [] => true
  | e, x :: t => decide (e ≤ x.off) && x.off % 64 == 0 && allZero (slice e (x.off - e) b) && sectionsPlaced b (x.off + x.len) t

/-- Whether entries ascend in (TYPE, INDEX), only NOTE repeated (R409). -/
def sectionsRise : List Section → Bool
  | x :: y :: t => (decide (x.typ * 256 + x.index < y.typ * 256 + y.index) || (x.typ == 0x0E && y.typ == 0x0E)) && sectionsRise (y :: t)
  | _ => true

/-! ### Blocks and runs (Table 14.3) -/

/-- A block of a section: its header, and its data. -/
structure ImgBlock where
  hdr : List Byte
  data : List Byte
deriving DecidableEq, Repr

/-- Splits a section into blocks: a header of `h` bytes with the count of `unit`-byte elements at `cnt`, then the elements, padded to
`pad`. `none` where the section ends inside a block. -/
def splitBlocks (h cnt unit pad : Nat) : Nat → List Byte → Option (List ImgBlock)
  | _, [] => some []
  | 0, _ :: _ => none
  | n + 1, l =>
    let size := leAt l cnt 4 * unit
    let step := (h + size + pad - 1) / pad * pad
    if l.length < h ∨ l.length < step then none
    else (splitBlocks h cnt unit pad n (l.drop step)).map (fun r => { hdr := l.take h, data := (l.drop h).take size } :: r)

/-- Blocks of a section by its TYPE: SYNAPSES, COLD, AXONS, the weight blocks of DENSE. -/
def blocksOf (typ : Nat) (l : List Byte) : Option (List ImgBlock) :=
  if typ = 3 then splitBlocks 8 4 4 8 l.length l
  else if typ = 4 then splitBlocks 8 4 4 64 l.length l
  else if typ = 5 then splitBlocks 8 4 8 8 l.length l
  else splitBlocks 16 8 1 16 l.length l

/-- The start a block's header gives: BASE, OFF or FIRST, or WBASE of a weight block. -/
def ImgBlock.start (k : ImgBlock) : Nat := leAt k.hdr 0 4
/-- WSRC of a weight block. -/
def ImgBlock.wsrc (k : ImgBlock) : Nat := leAt k.hdr 0 1
/-- WBASE of a weight block. -/
def ImgBlock.wbase (k : ImgBlock) : Nat := leAt k.hdr 4 4
/-- Words of a block. -/
def ImgBlock.words (k : ImgBlock) : Nat := k.data.length / 4
/-- A block's word. -/
def ImgBlock.word (k : ImgBlock) (i : Nat) : Word := BitVec.ofNat 32 (leAt k.data (4 * i) 4)

/-- A run of the declared populations: first neuron, count, template (R410). -/
structure NeuronRun where
  first : Nat
  count : Nat
  word : BitVec 64
deriving DecidableEq, Repr

/-- The runs of a NEURONS section. -/
def runsOf (l : List Byte) : List NeuronRun :=
  (List.range (l.length / 16)).map (fun i =>
    { first := leAt l (16 * i) 4, count := leAt l (16 * i + 4) 4, word := BitVec.ofNat 64 (leAt l (16 * i + 8) 8) })

/-- Whether a section's LENGTH and its bytes of 0 agree with the layout of its TYPE (R409, R410). -/
def layoutOk (typ : Nat) (l : List Byte) : Bool :=
  match typ with
  | 0x01 => l.length == 312
  | 0x02 => l.length % 16 == 0
  | 0x03 => (blocksOf 3 l).isSome
  | 0x04 => (blocksOf 4 l).isSome
  | 0x05 => (blocksOf 5 l).isSome
  | 0x06 => l.length == 4096
  | 0x07 => decide (1040 ≤ l.length) && leAt l 1036 4 == 0 && (match blocksOf 7 (l.drop 1040) with
      | some ks => ks.all (fun k => leAt k.hdr 1 3 == 0 && leAt k.hdr 12 4 == 0)
      | none => false)
  | 0x08 => l.length == 192
  | 0x09 => l.length == 472
  | 0x0A => decide (16 ≤ l.length) && l.length == 16 + 8 * (leAt l 0 4 % 512) && leAt l 14 2 == 0
  | 0x0B => decide (184 ≤ l.length) && l.length == 184 + 4 * leAt l 176 4 && leAt l 44 4 == 0 && leAt l 180 4 == 0
      && leAt l 32 4 < 2 ^ 20
  | 0x0C => l.length == 576
  | 0x0E => decide (l.length ≤ 65536)
  | _ => l.length == 256

/-! ### The image, taken apart -/

/-- What an image holds for one Gallery; an absent section is empty, and its bytes read as 0. -/
structure Sheet where
  g : Nat
  gal : List Byte := []
  runs : List NeuronRun := []
  syn : List ImgBlock := []
  cold : List ImgBlock := []
  axons : List ImgBlock := []
  emission : List Byte := []
  dense : List Byte := []
  weights : List ImgBlock := []
  dark : List Byte := []
  learn : List Byte := []
deriving DecidableEq, Repr

/-- An image: its bytes, its sheets in Gallery order, EXPERTS and SCHEMA, INTAKE by port, where the signature starts. -/
structure Image where
  bytes : List Byte
  sheets : List Sheet
  experts : List Byte
  schema : List Byte
  intakes : List (Nat × List Byte)
  sigOff : Nat
deriving DecidableEq, Repr

/-- The payload of the section of a TYPE and INDEX; empty where there is none. -/
def payload (b : List Byte) (typ index : Nat) : List Byte :=
  match (sections b).find? (fun e => e.typ == typ && e.index == index) with
  | some e => slice e.off e.len b
  | none => []

/-- The sheet of a Gallery. -/
def sheetOf (b : List Byte) (g : Nat) : Sheet :=
  { g := g, gal := payload b 1 g, runs := runsOf (payload b 2 g), syn := (blocksOf 3 (payload b 3 g)).getD [],
    cold := (blocksOf 4 (payload b 4 g)).getD [], axons := (blocksOf 5 (payload b 5 g)).getD [], emission := payload b 6 g,
    dense := (payload b 7 g).take 1040, weights := (blocksOf 7 ((payload b 7 g).drop 1040)).getD [], dark := payload b 8 g,
    learn := payload b 9 g }

/-- The numbers of the set bits of a mask. -/
def bitsOf (n m : Nat) : List Nat := (List.range n).filter (fun i => m.testBit i)

/-- The image that bytes spell. -/
def imageOf (b : List Byte) (gals : List Nat) : Image :=
  { bytes := b, sheets := gals.map (sheetOf b), experts := payload b 0x0A 0xFF, schema := payload b 0x0C 0xFF,
    intakes := (bitsOf 16 (ihPorts b)).map (fun p => (p, payload b 0x0B p)),
    sigOff := match (sections b).getLast? with | some e => e.off | none => b.length }

/-- The sheet of a Gallery of the image. -/
def Image.sheet (m : Image) (g : Nat) : Option Sheet := m.sheets.find? (fun s => s.g == g)

/-- The rules of R407 to R409 (check d), content apart. -/
def containerOk (b : List Byte) : Bool :=
  let es := sections b
  let gals := (rectOf (ihRect b)).gals
  headerOk b && decide (128 + 16 * ihSects b ≤ b.length) && tableReserved b
    && es.all (fun e => indexOk gals (ihPorts b) e && decide (e.off + e.len ≤ b.length) && layoutOk e.typ (slice e.off e.len b))
    && sectionsRise es && sectionsPlaced b (128 + 16 * ihSects b) es
    && (match es.getLast? with | some e => e.typ == 0xFF && e.off + e.len == ihLen b | none => false)
    && gals.all (fun g => es.any (fun e => e.typ == 1 && e.index == g))
    && (bitsOf 16 (ihPorts b)).all (fun p => es.any (fun e => e.typ == 0x0B && e.index == p))

/-! ### What a sheet says -/

/-- Word `w` of model entry `m`. -/
def Sheet.model (s : Sheet) (m w : Nat) : Word := BitVec.ofNat 32 (leAt s.gal (16 * m + 4 * w) 4)
/-- GAL_EMIT_SHARE of a model. -/
def Sheet.share (s : Sheet) (m : Nat) : Nat := leAt s.gal (256 + 2 * m) 2
/-- SAFE_MODEL. -/
def Sheet.safe (s : Sheet) : Nat := leAt s.gal 288 1
/-- UNW_FAULT. -/
def Sheet.unwFault (s : Sheet) : Nat := leAt s.gal 289 1 % 2
/-- SPILL_OFF. -/
def Sheet.spillOff (s : Sheet) : Nat := leAt s.gal 296 8
/-- CMP_TALLY_CFG. -/
def Sheet.tallyCfg (s : Sheet) : Word := BitVec.ofNat 32 (leAt s.gal 304 4)

/-- The models that templates name. -/
def Sheet.usedModels (s : Sheet) : List Nat := s.runs.map (fun r => fget nsModel r.word)

/-- The run that holds a neuron. -/
def Sheet.runAt (s : Sheet) (n : Nat) : Option NeuronRun := s.runs.find? (fun r => decide (r.first ≤ n ∧ n < r.first + r.count))

/-- The synapse word that SYNAPSES carries for an index; a later block overwrites an earlier one. -/
def Sheet.synAt (s : Sheet) (i : Nat) : Option Word :=
  firstSome (fun (k : ImgBlock) => if k.start ≤ i ∧ i < k.start + k.words then some (k.word (i - k.start)) else none) s.syn.reverse

/-- The word that COLD carries for a word index from the spill base. -/
def Sheet.coldAt (s : Sheet) (i : Nat) : Option Word :=
  firstSome (fun (k : ImgBlock) => if k.start * 16 ≤ i ∧ i < k.start * 16 + k.words then some (k.word (i - k.start * 16)) else none) s.cold.reverse

/-- The axon entries that AXONS carries, with W set. -/
def Sheet.axonList (s : Sheet) : List (Nat × BitVec 64) :=
  s.axons.flatMap (fun k => (List.range (k.data.length / 8)).map (fun i => (k.start + i, fput axW (BitVec.ofNat 64 (leAt k.data (8 * i) 8)) 1)))

/-- The entry that the image leaves in an axon. -/
def Sheet.axonAt (s : Sheet) (a : Nat) : Option (BitVec 64) := (s.axonList.reverse.find? (fun e => e.1 == a)).map (·.2)

/-- Whether an axon from `a` to `b` is dark in the image. -/
def Sheet.darkWithin (s : Sheet) (a b : Nat) : Bool := s.axonList.any (fun e => decide (a ≤ e.1 ∧ e.1 ≤ b) && fget axDark e.2 == 1)

/-- The words of an axon's list that the image carries: COUNT words, then headroom words. -/
def Sheet.listOf (s : Sheet) (e : BitVec 64) : List Word × List Word :=
  let at_ (i : Nat) : Option Word := if fget axCold e = 1 then s.coldAt (fget axBase e * 16 + i) else s.synAt (fget axBase e + i)
  ((List.range (fget axCount e)).filterMap at_, (List.range (fget axHead e)).filterMap (fun i => at_ (fget axCount e + i)))

/-- Whether an on-die list of the image is plastic (R262). -/
def Sheet.plastic (s : Sheet) (e : BitVec 64) : Bool :=
  fget axCold e == 0 && decide (0 < fget axCount e + fget axHead e) && (match s.synAt (fget axBase e) with
    | some w => fget syPlastic w == 1
    | none => false)

/-- Words an on-die list takes: its words and headroom, and its companions if it is plastic (R262, R264). -/
def Sheet.listWords (s : Sheet) (e : BitVec 64) : Nat :=
  let n := fget axCount e + fget axHead e
  if s.plastic e then n + (n + 1) / 2 else n

/-- Emission descriptor `i` (Table 5.4). -/
def Sheet.edesc (s : Sheet) (i : Nat) : BitVec 128 := BitVec.ofNat 128 (leAt s.emission (16 * i) 16)

/-- Job descriptor `j` (Table 7.4). -/
def Sheet.job (s : Sheet) (j : Nat) : BitVec 128 := BitVec.ofNat 128 (leAt s.dense (16 * j) 16)

/-- Byte `i` of the weights of a source: a byte address in the banks or from the spill base. -/
def Sheet.weightByte (s : Sheet) (wsrc i : Nat) : Option Byte :=
  let unit := if wsrc = 0 then 4 else 64
  firstSome (fun (k : ImgBlock) => if k.wsrc = wsrc ∧ k.wbase * unit ≤ i ∧ i < k.wbase * unit + k.data.length then
    some (k.data.getD (i - k.wbase * unit) 0) else none) s.weights.reverse

/-- The weight image of a job. -/
def Sheet.weightImage (s : Sheet) (w : BitVec 128) : List Byte :=
  let t := jdTag w
  (List.range (imageBytes w)).map (fun i => (s.weightByte t.wsrc (t.wbase * (if t.wsrc = 0 then 4 else 64) + i)).getD 0)

/-- The dark ranges and intake windows of a sheet (R124). -/
def Sheet.darkMap (s : Sheet) : DarkMap :=
  let at_ (i : Nat) : Word := BitVec.ofNat 32 (leAt s.dark (4 * i) 4)
  { ranges := ((List.range 16).filter (fun k => fget F.GAL_DARK_LO_VALID (at_ (2 * k)) == 1)).map (fun k =>
      { lo := fget F.GAL_DARK_LO_LO (at_ (2 * k)), hi := fget F.GAL_DARK_HI_HI (at_ (2 * k + 1)), port := fget F.GAL_DARK_LO_PORT (at_ (2 * k)) })
    windows := ((List.range 8).filter (fun k => fget F.GAL_IWIN_LO_VALID (at_ (32 + 2 * k)) == 1)).map (fun k =>
      { lo := fget F.GAL_IWIN_LO_AXLO (at_ (32 + 2 * k)), hi := fget F.GAL_IWIN_HI_AXHI (at_ (33 + 2 * k)),
        port := fget F.GAL_IWIN_LO_PORT (at_ (32 + 2 * k)) }) }

/-- Whether no two spans of a list overlap. -/
def spansApart : List Span → Bool
  | [] => true
  | x :: t => t.all (fun y => decide (x.hi < y.lo ∨ y.hi < x.lo)) && spansApart t

/-- The rules of R124 for a sheet: ports of the column, no overlap, first not above last. -/
def Sheet.darkOk (s : Sheet) : Bool :=
  let m := s.darkMap
  (m.ranges ++ m.windows).all (fun x => decide (x.lo ≤ x.hi) && x.port / 4 == s.g / 2) && spansApart m.ranges && spansApart m.windows

/-- Word `w` of learning profile `m` (Table 9.2). -/
def Sheet.prof (s : Sheet) (m w : Nat) : Word := BitVec.ofNat 32 (leAt s.learn (28 * m + 4 * w) 4)

/-- The word after the profiles: 0 LRN_EPOCH, 1 LRN_PRE_CFG, 2 LRN_CO_CFG, 3 LRN_SEED, 4 LRN_NORM_CFG, 5 the flags. -/
def Sheet.lrn (s : Sheet) (i : Nat) : Word := BitVec.ofNat 32 (leAt s.learn (448 + 4 * i) 4)

/-- Whether a sheet's content uses LRN-STRUCT: a profile sets CREATE, PRUNE or DELAY (R266, Table 9.2). -/
def Sheet.needsStruct (s : Sheet) : Bool := (List.range 16).any (fun m => bits (s.prof m 0) 5 3 != 0)

/-- The sheet's source of SCHEMA index `i` (Table 14.3). -/
def Image.source (m : Image) (i : Nat) : Nat := leAt m.schema (2 * i) 2

/-- Whether SCHEMA declares a source index. -/
def Image.sourceValid (m : Image) (i : Nat) : Bool := (m.source i).testBit 15

end Sys2Proof.Machine
end

