-- ==== Sys2Proof/Machine/Peers.lean ====
section
/-!
DEFINITION. What the chips of a Survey group tell one another, and the admission checks of Table 10.9 over it (08_expert_routing.md R241;
10_traverse_links.md R310, R316, R319).
-/
namespace Sys2Proof.Machine

/-- A job in MODE 0 with K = 32 (R239, R241). -/
def expertJob (w : BitVec 128) : Bool := jdValid w && jdMode w == 0 && jdKt w == 2 && jdK w == 32

/-- An expert entry without BIAS and UNREACH, which differ between chips of a slice (R241). -/
def exBare (w : BitVec 64) : BitVec 64 := BitVec.ofNat 64 (bits w 31 0 + bits w 61 40 * 2 ^ 40 + b2n (exValid w) * 2 ^ 63)

/-- What this chip tells of a parcel: its slice and Galleries, the expert table of its lowest Gallery, its expert jobs. -/
def Dev.ownSlice (d : Dev) (q : Fin 8) : PeerSlice :=
  let gals := d.parcelGals q
  let base : PeerSlice := { slice := d.rf (R.PCL_BIND q) F.PCL_BIND_SLICE, gals := BitVec.ofNat 8 (maskOf (gals.map (·.val))),
                            loaded := decide ((d.pcl q).st ≠ .free ∧ (d.pcl q).st ≠ .created) }
  match gals.head? with
  | none => base
  | some g =>
    let n := d.rf (R.CMP_POOL g) F.CMP_POOL_SIZE
    { base with
      pool := n, salt := d.reg (R.CMP_SALT g), experts := (List.range n).map (fun e => exBare (d.expert g e))
      jobs := gals.map (fun p => (p.val, BitVec.ofNat 64 (maskOf ((List.range 64).filter (fun j => expertJob (d.jdesc p j)))))) }

/-- This chip's IDENT data and licences (R310, Table 10.10). `c` is the chip it is asked as. -/
def Dev.ownReply (d : Dev) (c : Nat) : PeerReply :=
  let self := d.selfChip
  { chip := c
    coord := if d.grp.coordSet then some (coordOf self 0, coordOf self 1, coordOf self 2) else none
    sizes := (d.axisSize 0, d.axisSize 1, d.axisSize 2)
    edge := d.rf R.TRV_GRP_CTL F.TRV_GRP_CTL_MODE == 1
    devId := d.fus.devid, part := d.fus.part, lab := d.boot.lab, group64 := d.licensed 1
    ownerLock := d.led.ownerLock, ownerKey := d.led.ownerKey
    links := (List.finRange 6).filterMap (fun k =>
      if (d.link k).st = .active ∧ d.linkRole k = 0 then (d.link k).partner.map (fun p => (k.val, p.devId, p.port.val)) else none)
    running := d.anyRun
    slices := ((List.finRange 8).filter (fun (q : Fin 8) => d.rf (R.PCL_RECT q) F.PCL_RECT_VALID = 1)).map d.ownSlice }

/-! ### The checks of Table 10.9 -/

/-- The index of a coordinate. -/
def indexOf (c : Nat × Nat × Nat) : Nat := c.1 + 4 * c.2.1 + 16 * c.2.2

/-- The chip and the port that a link of chip `c` must reach (R316). -/
def Dev.expected (d : Dev) (c : Nat) (k : Nat) : Nat × Nat :=
  (d.stepOn c (k / 2) (k % 2 == 1), if d.small then k else if k % 2 = 1 then k - 1 else k + 1)

/-- The links that the group's sizes require of a chip (R316): both of an axis of size 2 or more; the minus link alone on a GN8-0S. -/
def Dev.neededLinks (d : Dev) : List (Fin 6) :=
  (List.finRange 6).filter (fun k => decide (2 ≤ d.axisSize (axisOf k)) && (k.val % 2 == 0 || !d.small))

/-- Coordinates: set, unique and within the sizes, which are the same on every chip. -/
def Dev.coordsOk (d : Dev) (all : List PeerReply) (r : PeerReply) : Bool := match r.coord with
  | none => false
  | some x => indexOf x == r.chip && d.inGroup r.chip && r.sizes == (d.axisSize 0, d.axisSize 1, d.axisSize 2)
      && !all.any (fun y => y.coord == some x && y.devId != r.devId)

/-- Wiring: every required link is ACTIVE, and its partner is the chip expected there, at the expected port. -/
def Dev.wiredOk (d : Dev) (all : List PeerReply) (r : PeerReply) : Bool :=
  d.neededLinks.all (fun k =>
    let e := d.expected r.chip k.val
    r.links.any (fun l => l.1 == k.val && l.2.2 == e.2 && all.any (fun y => y.chip == e.1 && y.devId == l.2.1)))

/-- Parts: sizes within R316 and R317, no GN8-0S among other parts (R10). -/
def Dev.partsOk (d : Dev) (r : PeerReply) : Bool :=
  (!d.small || (List.range 3).all (fun a => decide (d.axisSize a ≤ 2)))
    && (d.rf R.TRV_GRP_CTL F.TRV_GRP_CTL_MODE == 0 || d.axisSize 2 == 1) && (r.part == 4) == d.small

/-- Owner: with owner lock on any chip, every chip has the key of the first that has it. -/
def ownerOk (all : List PeerReply) (r : PeerReply) : Bool := match all.find? (·.ownerLock) with
  | none => true
  | some y => y.ownerKey.isSome && r.ownerKey == y.ownerKey

/-- Whether two chips' expert tables of a slice agree (R241); a chip without an image of the slice has none to compare. -/
def slicesAgree (a b : PeerSlice) : Bool :=
  a.slice != b.slice || !a.loaded || !b.loaded || (a.pool == b.pool && a.salt == b.salt && a.experts == b.experts)

/-- Experts: the tables of each slice agree with those of every lower chip (R241). -/
def expertsOkAt (all : List PeerReply) (r : PeerReply) : Bool :=
  all.all (fun y => r.chip ≤ y.chip || r.slices.all (fun a => y.slices.all (fun b => slicesAgree a b)))

/-- The first row of Table 10.9 that a chip fails. -/
def Dev.checkOf (d : Dev) (all : List PeerReply) (r : PeerReply) : Option Nat :=
  if !d.coordsOk all r then some 1
  else if !d.wiredOk all r then some 2
  else if !d.partsOk r then some 3
  else if 8 < d.axisSize 0 * d.axisSize 1 * d.axisSize 2 ∧ r.group64 = false then some 4
  else if r.lab ≠ d.boot.lab ∨ r.edge ≠ (d.rf R.TRV_GRP_CTL F.TRV_GRP_CTL_MODE == 1) then some 5
  else if !ownerOk all r then some 6
  else if !expertsOkAt all r then some 7
  else if r.running then some 8
  else none

/-- The failed check that is named: the lowest row, then the lowest chip. -/
def lowestCheck (l : List (Nat × Nat)) : Option (Nat × Nat) :=
  l.foldl (fun m e => match m with
    | none => some e
    | some b => if e.1 < b.1 ∨ (e.1 = b.1 ∧ e.2 < b.2) then some e else some b) none

/-- The checks that fail on this chip and on those that answered, as (row, chip) (R319). -/
def Dev.failedChecks (d : Dev) (peers : List PeerReply) : List (Nat × Nat) :=
  let all := d.ownReply d.selfChip :: peers
  all.filterMap (fun r => (d.checkOf all r).map (fun n => (n, r.chip)))

end Sys2Proof.Machine
end

