-- ==== Sys2Proof/Machine/Run.lean ====
section
/-!
DEFINITION. Running and stopping a parcel (R403, R422, Table 13.10), the drain of a stopping Gallery (R154, R155), and fault recovery (R511).
-/
namespace Sys2Proof.Machine

/-- RUN_STATUS's row. -/
def specRunStatus : CmdSpec := { op := 0x0600, rights := .own, names := .parcel }

/-- RUN_STATUS (Table 13.10): the parcel's state, the Galleries' states with 0xF outside the parcel, the ports' states. -/
def runStatus (c : Cmd) (d : Dev) : Reply Dev :=
  let gs := ((List.finRange 8).map (fun g => (if d.parcelAt g.val = some c.parcel then (d.gal g).st.code else 15) * 2 ^ (4 + 4 * g.val))).sum
  let ps := ((List.finRange 16).map (fun p => (d.port p).st.code * 2 ^ (3 * p.val))).sum
  done d (BitVec.ofNat 64 ((d.pcl c.parcel).st.code + gs)) (BitVec.ofNat 64 ps)

/-- RUN_STATUS. -/
def execRunStatus (c : Cmd) (s : State) : Host.Outcome State Fault Refusal := cmdStep specRunStatus runStatus c s

/-! ### RUN_START -/

/-- The HUB domains in retention that RUN_START wakes (R422). -/
def Dev.sleepingHubs (d : Dev) (q : Fin 8) : List Nat :=
  (List.range 4).filter (fun h => d.domSt (20 + h) == .retained && (d.maskPorts q).any (fun p => p.val / 4 == h)) |>.map (20 + ·)

/-- Step 1 of R403 on a Gallery: the commits of Gallery, plane, Compass unit and Leveler. -/
def Dev.commitGal (d : Dev) (g : Fin 8) : Dev :=
  (((d.setRf (R.GAL_STATE_CTL g) F.GAL_STATE_CTL_COMMIT 1).setRf (R.DNS_CTL g) F.DNS_CTL_COMMIT 1).setRf (R.CMP_CTL g) F.CMP_CTL_COMMIT 1).setRf
    (R.LRN_CTL g) F.LRN_CTL_COMMIT 1

/-- Step 3 of R403 on a Gallery: RUN_EN and the DNS EN. The Compass unit's EN, which no other command sets, is set with them (DEDUCED, log entry 29). -/
def Dev.runGal (d : Dev) (g : Fin 8) : Dev :=
  ((d.writeRunEn g true).setRf (R.DNS_CTL g) F.DNS_CTL_EN 1).setRf (R.CMP_CTL g) F.CMP_CTL_EN 1

/-- R403 in its order. -/
def Dev.startParcel (d : Dev) (q : Fin 8) : Dev :=
  let gs := d.parcelGals q
  let ps := d.maskPorts q
  let d := d.forEach gs (fun g d => d.onGal g (fun d => d.commitGal g))
  let d := d.forEach ps (fun p d => d.setRf (R.INT_CTL p) F.INT_CTL_COMMIT 1)
  let d := (d.forEach ps (fun p d => d.fillBuckets p)).setRf R.EGR_CTL F.EGR_CTL_EN 1
  let d := d.forEach gs (fun g d => d.onGal g (fun d => d.runGal g))
  (d.updPcl q (fun p => { p with st := .run })).forEach ps (fun p d => d.portParcelRun p)

/-- RUN_START's row. -/
def specRunStart : CmdSpec := { op := 0x0601, rights := .own, names := .parcel }

/-- The fault log sequence number of the latest record (Table 13.2, FAULTED). -/
def Dev.lastSeq (d : Dev) : BitVec 64 := (d.reg R.LNT_MIR_FLTSEQ).setWidth 64

/-- RUN_START (R403, R422). A HUB domain that does not become ready leaves the parcel LOADED. -/
def runStart (c : Cmd) (d : Dev) : Reply Dev :=
  let q := c.parcel
  match (d.pcl q).st with
  | .run => done d
  | .loaded =>
    let hubs := d.sleepingHubs q
    if hubs.any (fun h => c.env.notReady.contains h) then .finish d .faulted d.lastSeq 0 0
    else done ((d.forEach hubs (fun h d => d.needDom h)).startParcel q) 1
  | st => busy st.code

/-- RUN_START. -/
def execRunStart (c : Cmd) (s : State) : Host.Outcome State Fault Refusal := cmdStep specRunStart runStart c s

/-! ### RUN_STOP -/

/-- The parcel leaves Run: every port of its mask that is not RETIRED goes to OFF, and the storage of every port is to be erased
(R88, Table 4.4). -/
def Dev.stopPorts (d : Dev) (q : Fin 8) : Dev :=
  d.forEach (d.maskPorts q) (fun p d =>
    (d.portParcelStop p).updPort p (fun x => { x with stoppedAt := some (x.stoppedAt.getD d.clk) }))

/-- RUN_STOP's effect (R403): RUN_EN cleared, the planes flushed, the ports OFF. -/
def Dev.stopParcel (d : Dev) (q : Fin 8) : Dev :=
  let d := d.updPcl q (fun p => { p with st := .stopping })
  let d := d.forEach (d.parcelGals q) (fun g d => d.onGal g (fun d => (d.writeRunEn g false).flushPlane g))
  d.stopPorts q

/-- A STOPPING parcel whose Galleries are all LOADED, FAULTED ones apart, is LOADED (Table 6.5). -/
def Dev.settleParcel (d : Dev) (q : Fin 8) : Dev :=
  if d.parcelSettles q then d.updPcl q (fun p => { p with st := .loaded }) else d

/-- RUN_STOP's row. -/
def specRunStop : CmdSpec := { op := 0x0602, rights := .own, names := .parcel }

/-- RUN_STOP (R403): it completes at LOADED. -/
def runStop (c : Cmd) (d : Dev) : Reply Dev :=
  let q := c.parcel
  let wait (d : Dev) : Reply Dev := if (d.pcl q).st = .loaded then done d 1 else .hold d (.runStop q)
  match (d.pcl q).st with
  | .run => wait ((d.stopParcel q).settleParcel q)
  | .stopping => wait (d.settleParcel q)
  | .free => busy 0
  | _ => done d

/-- RUN_STOP. -/
def execRunStop (c : Cmd) (s : State) : Host.Outcome State Fault Refusal := cmdStep specRunStop runStop c s

/-! ### FAULT_RECOVER -/

/-- A faulted Gallery's GAL and DNS domains off and woken by sequence; after BANK or DEAD_FULL they stay held with ABSENT (R511). -/
def Dev.cycleGallery (d : Dev) (g : Fin 8) : Dev :=
  let d := (d.loseDomain (12 + g.val)).loseDomain (4 + g.val)
  let d := d.updGal g (fun x => { x with st := .empty, sink := false })
  if d.rf (R.GAL_FLT_STAT g) F.GAL_FLT_STAT_PEND_START = 1 then (d.domTo (12 + g.val) .held 1).domTo (4 + g.val) .held 1
  else ((d.domTo (12 + g.val) .off).domTo (4 + g.val) .off).needDom (12 + g.val)

/-- The parcel is CREATED: its image is gone. -/
def Dev.toCreated (d : Dev) (q : Fin 8) : Dev :=
  d.updPcl q (fun p => { p with st := .created, digest := [], tickNs := 0, tolPpm := 0, mhz := 0, imgPorts := 0 })

/-- Steps 2 and 3 of R511. -/
def Dev.recoverParcel (d : Dev) (q : Fin 8) : Dev :=
  let d := d.forEach (d.parcelGals q) (fun g d =>
    if (d.gal g).st = .faulted then d.cycleGallery g else d.onGal g (fun d => d.cfgReset g))
  d.toCreated q

/-- FAULT_RECOVER's row (Table 13.17). -/
def specFaultRecover : CmdSpec := { op := 0x0D05, rights := .own, names := .parcel }

/-- FAULT_RECOVER (R511): it needs a FAULTED Gallery in the parcel. -/
def faultRecover (c : Cmd) (d : Dev) : Reply Dev :=
  let q := c.parcel
  let bad := (d.parcelGals q).filter (fun g => (d.gal g).st == .faulted)
  if bad.isEmpty then busy (d.pcl q).st.code
  else
    let d := if (d.pcl q).st = .run then d.stopParcel q else d
    let d := d.settleParcel q
    if (d.pcl q).st = .stopping then .hold d (.recover q bad) else done (d.recoverParcel q)

/-- FAULT_RECOVER. -/
def execFaultRecover (c : Cmd) (s : State) : Host.Outcome State Fault Refusal := cmdStep specFaultRecover faultRecover c s

/-! ### The end of a stop -/

/-- A command that waits for parcel `q` to stop. -/
def Wait.isStop (q : Fin 8) : Wait → Bool
  | .runStop p => p == q
  | _ => false

/-- A recovery that waits for parcel `q` to stop. -/
def Wait.isRecover (q : Fin 8) : Wait → Bool
  | .recover p _ => p == q
  | _ => false

/-- GALLERY_DRAINED: a STOPPING Gallery with empty emission and no P bit is LOADED (R154, R155, R541). Once every Gallery of the parcel is
LOADED, or FAULTED, the parcel is LOADED and the commands that wait for it end. -/
def galleryDrained (g : Fin 8) (d : Dev) : Dev :=
  let d := if d.drained g then d.galLoaded g else d
  match d.parcelAt g.val with
  | none => d
  | some q =>
    if d.parcelSettles q then
      let d := (d.settleParcel q).release (Wait.isStop q) .ok 1 0 0
      if d.host.started.any (fun x => Wait.isRecover q x.wait) then (d.recoverParcel q).release (Wait.isRecover q) .ok 0 0 0 else d
    else d

/-- GALLERY_DRAINED. -/
def execGalleryDrained (g : Fin 8) (s : State) : Host.Outcome State Fault Refusal := devStep s (galleryDrained g)

end Sys2Proof.Machine
end

