-- ==== Sys2Proof/Machine/Settings.lean ====
section
/-!
DEFINITION. The Time status, Intake, Egress, Learning and Expert commands that set or report (Tables 13.8, 13.9, 13.11, 13.12, 13.13).
-/
namespace Sys2Proof.Machine

/-! ### Time -/

/-- TIME_STATUS's row. -/
def specTimeStatus : CmdSpec := { op := 0x0500, rights := .any, buffer := true }

/-- TIME_STATUS (Table 13.9): the LNT time registers and the DAT registers. -/
def timeStatus (c : Cmd) (d : Dev) : Reply Dev :=
  let t := d.dat
  let r0 := t.st.code + t.qual * 8 + t.reason * 32 + b2n t.stepPend * 256 + b2n d.follower * 512 + t.tick * 65536
  let (es, d) := d.readRegs (Blk.lnt.addrs 0 (fun r => decide (r.off < 0x18)) ++ Blk.dat.addrs 0 (fun _ => true))
  report c d (BitVec.ofNat 64 r0) es

/-- TIME_STATUS. -/
def execTimeStatus (c : Cmd) (s : State) : Host.Outcome State Fault Refusal := cmdStep specTimeStatus timeStatus c s

/-! ### Intake -/

/-- Steps 4 and 7 of Table 13.1 on the port in P0: RANGE above 15, ABSENT where it is not fitted. -/
def Dev.onPort (d : Dev) (c : Cmd) (f : Fin 16 → Reply Dev) : Reply Dev :=
  if 16 ≤ c.p 0 then refused .range 0
  else if !bit d.fus.ports (c.p 0) then refused .absent (c.p 0)
  else f (fin16 (c.p 0))

/-- An intake set command is allowed while the port's parcel is not FREE (Table 13.19). -/
def Dev.portSet (d : Dev) (p : Fin 16) (r : Reply Dev) : Reply Dev :=
  if (d.parcelOfPort p.val).isNone then busy 0 else r

/-- The row of an intake command that has no other parameters (Table 13.8). -/
def specIntake (op : Nat) : CmdSpec := { op := op, rights := .own, names := .port, used := params 0 0 }

/-- INTAKE_STATUS's row. -/
def specIntakeStatus : CmdSpec := { specIntake 0x0400 with buffer := true }

/-- INTAKE_STATUS: the INT and SEAM registers except INT_MAP. -/
def intakeStatus (c : Cmd) (d : Dev) : Reply Dev := d.onPort c (fun p =>
  let r0 := d.peek (R.SEAM_HELLO_ID p) ++ d.peek (R.INT_STAT p)
  let (es, d) := d.readRegs (Blk.int.addrs p (fun r => decide (r.off < 0x10000)))
  report c d r0 es)

/-- INTAKE_STATUS. -/
def execIntakeStatus (c : Cmd) (s : State) : Host.Outcome State Fault Refusal := cmdStep specIntakeStatus intakeStatus c s

/-- INTAKE_ENABLE (R92): a RETIRED port loses its restart history; EN is set; the port starts if its parcel is in Run. -/
def intakeEnable (c : Cmd) (d : Dev) : Reply Dev := d.onPort c (fun p => d.portSet p (
  let d := (d.needDom (20 + p.val / 4)).setRf (R.INT_CTL p) F.INT_CTL_EN 1
  let d := if (d.port p).st = .retired then (d.updPort p (fun x => { x with restarts := [] })).setPort p .off else d
  done (if d.portRuns p then d.portParcelRun p else d)))

/-- INTAKE_ENABLE. -/
def execIntakeEnable (c : Cmd) (s : State) : Host.Outcome State Fault Refusal := cmdStep (specIntake 0x0401) intakeEnable c s

/-- INTAKE_DISABLE (R88, R93): EN is cleared; a port outside RETIRED goes to OFF. -/
def intakeDisable (c : Cmd) (d : Dev) : Reply Dev := d.onPort c (fun p => d.portSet p (
  done (((d.needDom (20 + p.val / 4)).setRf (R.INT_CTL p) F.INT_CTL_EN 0).portParcelStop p)))

/-- INTAKE_DISABLE. -/
def execIntakeDisable (c : Cmd) (s : State) : Host.Outcome State Fault Refusal := cmdStep (specIntake 0x0402) intakeDisable c s

/-- Whether a loaded image configures a port (R120). -/
def Dev.configured (d : Dev) (p : Fin 16) : Bool := match d.parcelOfPort p.val with
  | some q => (d.pcl q).imgPorts.getLsbD p.val
  | none => false

/-- The budget a port has, or will have from the next tick turn. -/
def Dev.budgetOf (d : Dev) (p : Fin 16) : Nat := match (d.port p).nextShed with
  | some s => s.1
  | none => d.rf (R.INT_SHED_BUDGET p) F.INT_SHED_BUDGET_BUDGET

/-- Whether the budgets of a hub's configured ports exceed the column rail's admitted rate, with `b` in port `p`; a port that no loaded
image configures does not count (R120, R187). -/
def Dev.overRail (d : Dev) (p : Fin 16) (b : Nat) : Bool :=
  let others := (hubPorts (p.val / 4)).filter (fun o => o != p && d.configured o)
  d.configured p && decide (d.dat.tperiod * 10 / 4 < (others.map d.budgetOf).sum + b)

/-- INTAKE_SET_SHED's row. -/
def specIntakeSetShed : CmdSpec := { specIntake 0x0403 with used := params 0 0 ++ params 4 14 }

/-- The first offending parameter of governor settings (R116, R117): BUDGET, RES, LOW, SMAX. -/
def shedBad (budget res low smax : Nat) : Option Nat :=
  if budget = 0 ∨ 1048575 < budget then some 4
  else if budget ≤ res then some 8
  else if 15 < low then some 12
  else if 15 < smax then some 14
  else none

/-- INTAKE_SET_SHED (R116, R117, R120): from the next tick turn; LOW and DECAY of 0 become 8 and 16. -/
def intakeSetShed (c : Cmd) (d : Dev) : Reply Dev := d.onPort c (fun p =>
  let budget := c.pn 4 4
  let low := if c.p 12 = 0 then 8 else c.p 12
  let decay := if c.p 13 = 0 then 16 else c.p 13
  match shedBad budget (c.pn 8 4) low (c.p 14) with
  | some i => refused .range i
  | none =>
    if d.overRail p budget then refused .range 4
    else d.portSet p (done ((d.needDom (20 + p.val / 4)).updPort p (fun x => { x with nextShed := some (budget, c.pn 8 4, low, decay, c.p 14) }))))

/-- INTAKE_SET_SHED. -/
def execIntakeSetShed (c : Cmd) (s : State) : Host.Outcome State Fault Refusal := cmdStep specIntakeSetShed intakeSetShed c s

/-- INTAKE_INJECT's row. -/
def specIntakeInject : CmdSpec := { specIntake 0x0404 with buffer := true }

/-- INTAKE_INJECT (R90, R402): in lab mode, IEF words into the convert stage of a port. A port that RESTART holds takes none. -/
def intakeInject (c : Cmd) (d : Dev) : Reply Dev := d.onPort c (fun p =>
  if !d.boot.lab then refused .mode
  else if c.bufLen < 4 ∨ 4096 < c.bufLen ∨ c.bufLen % 4 ≠ 0 then refused .range
  else if (d.port p).st = .off ∨ (d.port p).st = .retired then busy (d.port p).st.code
  else match inputOf c with
    | none => dmaError
    | some b =>
      if (d.port p).st = .restart then done d
      else
        let ws := wordsOf b
        done ((d.firstValid p).inject p ws) (BitVec.ofNat 64 ws.length))

/-- INTAKE_INJECT. -/
def execIntakeInject (c : Cmd) (s : State) : Host.Outcome State Fault Refusal := cmdStep specIntakeInject intakeInject c s

/-- INTAKE_CLEAR_COUNTERS (Table 3.14). -/
def intakeClear (c : Cmd) (d : Dev) : Reply Dev := d.onPort c (fun p => done (d.clearCounters Blk.int.base p.val 1))

/-- INTAKE_CLEAR_COUNTERS. -/
def execIntakeClearCounters (c : Cmd) (s : State) : Host.Outcome State Fault Refusal := cmdStep (specIntake 0x0405) intakeClear c s

/-! ### Egress -/

/-- The row of an Own command that names the parcel in TARGET and has no parameters. -/
def specOnParcel (op : Nat) (buffer : Bool := false) : CmdSpec := { op := op, rights := .own, names := .parcel, buffer := buffer }

/-- EGRESS_STATUS (Table 13.11): the meters of the parcel's ports and its backlog. -/
def egressStatus (c : Cmd) (d : Dev) : Reply Dev :=
  let q := c.parcel
  let r0 := (d.peek (R.EGR_BL_STAT q)).setWidth 64
  let (es, d) := d.readRegs ((d.maskPorts q).flatMap (fun p => [R.EGR_MTR_CFG p, R.EGR_MTR_LVL p, R.EGR_MTR_DROP p, R.EGR_MTR_PASS p])
    ++ [R.EGR_BL_STAT q, R.EGR_BL_DROP q])
  report c d r0 es

/-- EGRESS_STATUS. -/
def execEgressStatus (c : Cmd) (s : State) : Host.Outcome State Fault Refusal := cmdStep (specOnParcel 0x0700 true) egressStatus c s

/-- EGRESS_SET_METER's row. -/
def specEgressSetMeter : CmdSpec := { specOnParcel 0x0701 with used := params 0 0 ++ params 2 4 }

/-- EGRESS_SET_METER (R144, R146, R151): a VF names a stream of its own port mask. It acts at the next refill (R147). -/
def egressSetMeter (c : Cmd) (d : Dev) : Reply Dev :=
  let own : Bool := d.actsFor c.issuer == pf || (c.p 0 < 16 && d.parcelOfPort (c.p 0) == some c.parcel)
  if !own then refused .privilege
  else d.onPort c (fun p =>
    if d.fus.ceilU < c.pn 2 2 then refused .fuse
    else if c.pn 2 2 = 0 then refused .range 2
    else if c.p 4 = 0 ∨ 64 < c.p 4 then refused .range 4
    else d.inStates c.parcel setStates (done (d.setReg (R.EGR_MTR_CFG p) (BitVec.ofNat 32 (c.p 4 * 65536 + c.pn 2 2)))))

/-- EGRESS_SET_METER. -/
def execEgressSetMeter (c : Cmd) (s : State) : Host.Outcome State Fault Refusal := cmdStep specEgressSetMeter egressSetMeter c s

/-- EGRESS_SET_HEARTBEAT's row. -/
def specSetHeartbeat : CmdSpec := { op := 0x0702, rights := .pf, used := params 0 0 }

/-- EGRESS_SET_HEARTBEAT: HB_PERIOD 1 to 60, for every parcel. -/
def egressSetHeartbeat (c : Cmd) (d : Dev) : Reply Dev :=
  if c.p 0 = 0 ∨ 60 < c.p 0 then refused .range 0 else done (d.setRf R.EGR_HB_CFG F.EGR_HB_CFG_HB_PERIOD (c.p 0))

/-- EGRESS_SET_HEARTBEAT. -/
def execEgressSetHeartbeat (c : Cmd) (s : State) : Host.Outcome State Fault Refusal := cmdStep specSetHeartbeat egressSetHeartbeat c s

/-- EGRESS_SET_BACKLOG's row. -/
def specSetBacklog : CmdSpec := { op := 0x0703, rights := .pf, used := params 0 1 }

/-- EGRESS_SET_BACKLOG: AGE 1 to 10,000, for every parcel. -/
def egressSetBacklog (c : Cmd) (d : Dev) : Reply Dev :=
  if c.pn 0 2 = 0 ∨ 10000 < c.pn 0 2 then refused .range 0 else done (d.setRf R.EGR_BL_CFG F.EGR_BL_CFG_AGE (c.pn 0 2))

/-- EGRESS_SET_BACKLOG. -/
def execEgressSetBacklog (c : Cmd) (s : State) : Host.Outcome State Fault Refusal := cmdStep specSetBacklog egressSetBacklog c s

/-- EGRESS_CLEAR_COUNTERS: the drop and pass counters of the parcel's streams and of its backlog, and the dark counters of its
Galleries (Tables 4.9, 4.11). -/
def egressClear (c : Cmd) (d : Dev) : Reply Dev :=
  let d := d.forEach (d.maskPorts c.parcel) (fun p d => (d.setReg (R.EGR_MTR_DROP p) 0).setReg (R.EGR_MTR_PASS p) 0)
  let d := d.forEach (d.parcelGals c.parcel) (fun g d => d.setReg (R.GAL_DARK_CNT g) 0)
  done (d.setReg (R.EGR_BL_DROP c.parcel) 0)

/-- EGRESS_CLEAR_COUNTERS. -/
def execEgressClearCounters (c : Cmd) (s : State) : Host.Outcome State Fault Refusal := cmdStep (specOnParcel 0x0704) egressClear c s

/-- DARK_STATUS (Table 4.11): the dark registers of the parcel's Galleries, and EGR_ERASE_CNT. -/
def darkStatus (c : Cmd) (d : Dev) : Reply Dev :=
  let (es, d) := d.readRegs ((d.parcelGals c.parcel).flatMap (fun g => Blk.gal.addrs g (fun r => decide (0x4200 ≤ r.off) && decide (r.off < 0x42E0)))
    ++ [R.EGR_ERASE_CNT])
  report c d 0 es

/-- DARK_STATUS. -/
def execDarkStatus (c : Cmd) (s : State) : Host.Outcome State Fault Refusal := cmdStep (specOnParcel 0x0705 true) darkStatus c s

/-! ### Learning -/

/-- The lowest Gallery of a parcel. -/
def Dev.firstGal (d : Dev) (q : Fin 8) : Option (Fin 8) := (d.parcelGals q).head?

/-- LEARN_STATUS (Table 13.12): from the parcel's lowest Gallery, which holds the settings of all. -/
def learnStatus (c : Cmd) (d : Dev) : Reply Dev :=
  let q := c.parcel
  let r0 := match d.firstGal q with
    | some g => d.rf (R.LRN_CTL g) F.LRN_CTL_EN + d.rf (R.LRN_EPOCH g) F.LRN_EPOCH_EPOCH * 65536
        + d.rf (R.LRN_STAT g) F.LRN_STAT_DEFER * 2 ^ 33
    | none => 0
  let r0 := r0 + b2n (d.led.sites[q]).isSome * 2 ^ 32
  let (es, d) := d.readRegs ((d.parcelGals q).flatMap (fun g => Blk.gal.addrs g (fun r =>
    (decide (0x7000 ≤ r.off) && decide (r.off < 0x7100)) || (decide (0x7400 ≤ r.off) && decide (r.off < 0x7500)))))
  report c d (BitVec.ofNat 64 r0) es

/-- LEARN_STATUS. -/
def execLearnStatus (c : Cmd) (s : State) : Host.Outcome State Fault Refusal := cmdStep (specOnParcel 0x0800 true) learnStatus c s

/-- Sets a register field of every Gallery of a parcel. -/
def Dev.setGals (d : Dev) (q : Fin 8) (f : Fin 8 → Dev → Dev) : Dev :=
  d.forEach (d.parcelGals q) (fun g d => d.onGal g (f g))

/-- LEARN_ENABLE (R272). -/
def learnEnable (c : Cmd) (d : Dev) : Reply Dev :=
  d.inStates c.parcel setStates (done (d.setGals c.parcel (fun g d => d.setRf (R.LRN_CTL g) F.LRN_CTL_EN 1)))

/-- LEARN_ENABLE. -/
def execLearnEnable (c : Cmd) (s : State) : Host.Outcome State Fault Refusal := cmdStep (specOnParcel 0x0801) learnEnable c s

/-- LEARN_DISABLE (R272). -/
def learnDisable (c : Cmd) (d : Dev) : Reply Dev :=
  d.inStates c.parcel setStates (done (d.setGals c.parcel (fun g d => d.setRf (R.LRN_CTL g) F.LRN_CTL_EN 0)))

/-- LEARN_DISABLE. -/
def execLearnDisable (c : Cmd) (s : State) : Host.Outcome State Fault Refusal := cmdStep (specOnParcel 0x0802) learnDisable c s

/-- LEARN_SET_EPOCH's row. -/
def specLearnSetEpoch : CmdSpec := { specOnParcel 0x0803 with used := params 0 1 }

/-- LEARN_SET_EPOCH (R271, Table 9.6): from the next epoch end. -/
def learnSetEpoch (c : Cmd) (d : Dev) : Reply Dev :=
  if c.pn 0 2 = 0 then refused .range 0
  else d.inStates c.parcel setStates (done (d.setGals c.parcel (fun g d => d.updLrn g (fun l => { l with nextEpoch := some (c.pn 0 2) }))))

/-- LEARN_SET_EPOCH. -/
def execLearnSetEpoch (c : Cmd) (s : State) : Host.Outcome State Fault Refusal := cmdStep specLearnSetEpoch learnSetEpoch c s

/-- LEARN_REWARD's row. -/
def specLearnReward : CmdSpec := { specOnParcel 0x0804 with used := params 0 0 }

/-- LEARN_REWARD (R269). -/
def learnReward (c : Cmd) (d : Dev) : Reply Dev :=
  d.inStates c.parcel setStates (done (d.setGals c.parcel (fun g d => d.addReward g (sext 8 (c.p 0)))))

/-- LEARN_REWARD. -/
def execLearnReward (c : Cmd) (s : State) : Host.Outcome State Fault Refusal := cmdStep specLearnReward learnReward c s

/-- LEARN_CLEAR_COUNTERS. -/
def learnClear (c : Cmd) (d : Dev) : Reply Dev := done (d.setGals c.parcel (fun g d => d.clearCounters Blk.gal.base g.val 5))

/-- LEARN_CLEAR_COUNTERS. -/
def execLearnClearCounters (c : Cmd) (s : State) : Host.Outcome State Fault Refusal := cmdStep (specOnParcel 0x0808) learnClear c s

/-! ### Experts -/

/-- EXPERT_STATUS (Table 13.13): from the Compass unit of the parcel's lowest Gallery. -/
def expertStatus (c : Cmd) (d : Dev) : Reply Dev :=
  let q := c.parcel
  let r0 := match d.firstGal q with
    | some g => d.rf (R.CMP_POOL g) F.CMP_POOL_SIZE + d.rf (R.CMP_BEAR_LEADER g) F.CMP_BEAR_LEADER_LCHIP * 512
        + d.rf (R.CMP_BEAR_LEADER g) F.CMP_BEAR_LEADER_LGAL * 32768 + d.rf (R.CMP_CTL g) F.CMP_CTL_BEAR_EN * 262144
        + (d.pcl q).bMs % 4096 * 1048576
    | none => 0
  let (es, d) := d.readRegs ((d.parcelGals q).flatMap (fun g => Blk.gal.addrs g (fun r => decide (0x5200 ≤ r.off) && decide (r.off < 0x7000))))
  report c d (BitVec.ofNat 64 r0) es

/-- EXPERT_STATUS. -/
def execExpertStatus (c : Cmd) (s : State) : Host.Outcome State Fault Refusal := cmdStep (specOnParcel 0x0900 true) expertStatus c s

/-- Bearing settings for the Compass units of a parcel, from the next period end (Table 8.4, R255). -/
def Dev.setBearing (d : Dev) (q : Fin 8) (b step tol lshift : Nat) (en : Bool) : Dev :=
  let d := d.updPcl q (fun p => { p with bMs := b })
  let cfg : BearCfg := { ms := b, step := step, tol := tol, lshift := lshift, en := en }
  d.setGals q (fun g d => d.updCmp g (fun x => { x with nextCfg := some cfg }))

/-- EXPERT_SET_BEARING's row. -/
def specSetBearing : CmdSpec := { specOnParcel 0x0901 with used := params 0 5 }

/-- EXPERT_SET_BEARING (R260): the settings go to every chip of the slice over GRP; RESULT1 names the chips that did not acknowledge. -/
def expertSetBearing (c : Cmd) (d : Dev) : Reply Dev :=
  if c.pn 0 2 = 0 ∨ 1000 < c.pn 0 2 then refused .range 0
  else if c.p 2 = 0 ∨ 15 < c.p 2 then refused .range 2
  else if 15 < c.p 3 then refused .range 3
  else if 15 < c.p 4 then refused .range 4
  else if 1 < c.p 5 then refused .range 5
  else d.inStates c.parcel setStates (
    let slice := d.rf (R.PCL_BIND c.parcel) F.PCL_BIND_SLICE
    let chips := d.groupChips.filter (fun x => d.slicesOf x |>.testBit slice)
    let left := chips.filter (fun x => !(c.env.peers.any (fun r => r.chip == x && r.answered)))
    let d := d.forEach chips (fun x d => d.sendGrp x (.bearing (fin16 slice) (c.pn 0 2) (c.p 2) (c.p 3) (c.p 4) (c.p 5 == 1)))
    done (d.setBearing c.parcel (c.pn 0 2) (c.p 2) (c.p 3) (c.p 4) (c.p 5 == 1)) 0 (BitVec.ofNat 64 (maskOf left)))

/-- EXPERT_SET_BEARING. -/
def execExpertSetBearing (c : Cmd) (s : State) : Host.Outcome State Fault Refusal := cmdStep specSetBearing expertSetBearing c s

/-- EXPERT_SET_BIAS's row. -/
def specSetBias : CmdSpec := { specOnParcel 0x0902 with used := params 0 1 }

/-- The Compass unit that leads the slice of Gallery `g`, if it stands on this chip. -/
def Dev.leaderHere (d : Dev) (g : Fin 8) : Option (Fin 8) :=
  if d.rf (R.CMP_BEAR_LEADER g) F.CMP_BEAR_LEADER_LCHIP = d.selfChip then some (fin8 (d.rf (R.CMP_BEAR_LEADER g) F.CMP_BEAR_LEADER_LGAL)) else none

/-- EXPERT_SET_BIAS (R259): written into the leader, which sends it out. A leader on another chip is written over GRP. -/
def expertSetBias (c : Cmd) (d : Dev) : Reply Dev :=
  match d.firstGal c.parcel with
  | none => refused .range 0
  | some g =>
    let b := sext 8 (c.p 1)
    if d.rf (R.CMP_POOL g) F.CMP_POOL_SIZE ≤ c.p 0 then refused .range 0
    else if b < -64 ∨ 64 < b then refused .range 1
    else d.inStates c.parcel setStates (match d.leaderHere g with
      | some l => done (d.onGal l (fun d => (d.setBias l (c.p 0) (toTwos 8 b)).sendBias l (c.p 0) b))
      | none => done (d.sendGrp (d.rf (R.CMP_BEAR_LEADER g) F.CMP_BEAR_LEADER_LCHIP)
          (.bias (fin16 (d.rf (R.PCL_BIND c.parcel) F.PCL_BIND_SLICE)) (c.p 0) b)))

/-- EXPERT_SET_BIAS. -/
def execExpertSetBias (c : Cmd) (s : State) : Host.Outcome State Fault Refusal := cmdStep specSetBias expertSetBias c s

/-- EXPERT_CLEAR_COUNTERS. -/
def expertClear (c : Cmd) (d : Dev) : Reply Dev := done (d.setGals c.parcel (fun g d => d.clearCounters Blk.gal.base g.val 4))

/-- EXPERT_CLEAR_COUNTERS. -/
def execExpertClearCounters (c : Cmd) (s : State) : Host.Outcome State Fault Refusal := cmdStep (specOnParcel 0x0903) expertClear c s

end Sys2Proof.Machine
end

