-- ==== Sys2Proof/Machine/AtlasChecks.lean ====
section
/-!
DEFINITION. Pass 1 of an Atlas load: the checks of Tables 14.6 and 14.7 in their order (14_atlas_images.md, R418 to R420).
-/
namespace Sys2Proof.Machine

/-- What a failed check completes with: status and DETAIL. -/
abbrev Verdict := Option (Status × BitVec 32)

/-- REFUSED CHECK with its number and the Gallery, port or chip concerned (R418). -/
def chk (n : Nat) (sub : Nat := 0xFFFF) : Verdict := some (.refused, detail .check n sub)

/-- The first failure of a list of checks made in order. -/
def firstOf : List Verdict → Verdict
  | [] => none
  | some v :: _ => some v
  | none :: t => firstOf t

/-- A check of every sheet, in Gallery order: `n` and the first Gallery that fails. -/
def chkSheets (m : Image) (n : Nat) (ok : Sheet → Bool) : Verdict := match m.sheets.find? (fun s => !ok s) with
  | some s => chk n s.g
  | none => none

/-- Whether a port of a mask is not in another. -/
def notWithin (m n : Nat) : Bool := Nat.lor m n != n

/-! ### Orders b to i -/

/-- Check b: ports and stacks that the part has, Galleries that are not withheld (R7, R9, R486, R511). -/
def Dev.checkAbsent (d : Dev) (b : List Byte) : Verdict :=
  let r := rectOf (ihRect b)
  match (bitsOf 16 (ihPorts b)).find? (fun p => !bit d.fus.ports p) with
  | some p => some (.refused, detail .absent p)
  | none => match r.cols.find? (fun s => decide (0 < ihStack b) && !bit d.fus.stks s) with
    | some s => some (.refused, detail .absent s)
    | none => match r.gals.find? (fun g => d.withheld g || d.rf (R.GAL_FLT_STAT g) F.GAL_FLT_STAT_PEND_START == 1) with
      | some g => some (.refused, detail .absent g)
      | none => none

/-- Check c: the licences the image needs are in effect (R13). -/
def Dev.checkNeed (d : Dev) (b : List Byte) : Verdict :=
  if (bitsOf 6 (ihNeed b)).any (fun i => !d.licensed i) then some (.notLicensed, 0) else none

/-- Check d: the container; fields coded RO and WO, of which the register images hold one, CLR_CNT beside the flags of LEARN (R410); and
content that uses a licence absent from NEED. -/
def checkContainer (b : List Byte) (m : Image) : Verdict :=
  if !containerOk b then chk 1
  else if m.sheets.any (fun s => fget F.LRN_CTL_CLR_CNT (s.lrn 5) != 0) then chk 1
  else if !(ihNeed b).testBit 0 ∧ m.sheets.any Sheet.needsStruct then chk 1
  else chkSheets m 1 Sheet.darkOk

/-- Checks e and f: the signature over bytes 0 to the SIGNATURE section, and the signer (R412, R414). -/
def Dev.checkSignature (d : Dev) (m : Image) : Verdict :=
  let s := m.bytes.drop m.sigOff
  let key := (leAt s 8 48, leAt s 56 48)
  if leAt s 0 2 ≠ 1 ∨ leAt s 2 6 ≠ 0 ∨ !allZero (slice 200 56 s) ∨
      !ecdsaVerify key (m.bytes.take m.sigOff) (leAt s 104 48) (leAt s 152 48) then some (.refused, detail .signature)
  else match d.led.ownerKey with
    | some k => if k = key then none else some (.refused, detail .owner)
    | none => none

/-- The parcel's region in the lower slot of a column's stack (R411, R542). -/
def Dev.lowerRegion (d : Dev) (q s : Nat) : Option (Fin 16) :=
  regions.find? (fun r => d.rgnValid s r && d.rgnOwner s r == q && decide (d.rgnLo s r < 1073741824))

/-- MiB of a parcel's regions in a column's stack. -/
def Dev.regionMib (d : Dev) (q s : Nat) : Nat :=
  ((regions.filter (fun r => d.rgnValid s r && d.rgnOwner s r == q)).map (fun r => (d.rgnHi s r - d.rgnLo s r) / 16384)).sum

/-- The chip's coordinate as CHIP codes it; a SINGLE chip is at (0, 0, 0). -/
def Dev.ownChip (d : Dev) : Nat := if d.grpSt = 0 then 0 else chipField d.selfChip

/-- Check h: the binding to parcel, chip and part. -/
def Dev.checkBinding (d : Dev) (q : Fin 8) (b : List Byte) : Verdict :=
  if ihParcel b ≠ q ∨ !d.pclValid q ∨ ihRect b ≠ (d.reg (R.PCL_RECT q)).toNat % 64 ∨ ihSlice b ≠ d.rf (R.PCL_BIND q) F.PCL_BIND_SLICE
      ∨ notWithin (ihPorts b) (d.rf (R.PCL_PORTMASK q) F.PCL_PORTMASK_MASK) ∨ ihChip b ≠ d.ownChip ∨ !(ihParts b).testBit d.fus.part
      ∨ (d.parcelCols q).any (fun s => decide (d.regionMib q s < ihStack b)) then chk 2
  else none

/-- Whether a tick period in 10 ns lies outside the tolerance of a compiled one (R418, R424). -/
def tickOff (ns tol tp : Nat) : Bool := decide (ns * tol < (ns - 10 * tp + (10 * tp - ns)) * 1000)

/-! ### Order j: GALLERY -/

/-- The rules of R539 for model entry `n`. -/
def Sheet.modelOk (s : Sheet) (n : Nat) : Bool :=
  bits (s.model n 1) 31 26 == 0 && bits (s.model n 3) 31 24 == 0 &&
    (!(s.usedModels.contains n || s.safe == n) || (decide (1 ≤ bits (s.model n 0) 17 0) && decide (bits (s.model n 0) 17 0 < 131072)))

/-- The end of a sheet's spill area, in 64-byte units from its spill base: cold blocks, cold lists, stack weights (R163, R210, R411). -/
def Sheet.spillEnd (s : Sheet) : Nat :=
  let ends := s.cold.map (fun k => k.start + (k.data.length + 63) / 64)
    ++ (s.weights.filter (fun k => k.wsrc == 1)).map (fun k => k.wbase + (k.data.length + 63) / 64)
    ++ (s.axonList.filter (fun e => fget axCold e.2 == 1)).map (fun e => fget axBase e.2 + (fget axCount e.2 + 15) / 16)
    ++ ((List.range 64).filter (fun j => jdValid (s.job j) && (jdTag (s.job j)).wsrc == 1)).map (fun j =>
        (jdTag (s.job j)).wbase + (imageBytes (s.job j) + 63) / 64)
  ends.foldl max 0

/-- Whether a sheet's spill area lies within the parcel's region (R411). -/
def Dev.spillOk (d : Dev) (q : Nat) (s : Sheet) : Bool :=
  if s.spillEnd = 0 then true
  else match d.lowerRegion q (s.g / 2) with
    | none => false
    | some r => decide (d.rgnLo (s.g / 2) r + s.spillOff + s.spillEnd ≤ d.rgnHi (s.g / 2) r)

/-- Check j for a sheet. -/
def Dev.galleryOk (d : Dev) (q : Nat) (s : Sheet) : Bool :=
  decide (s.safe < 16) && (List.range 16).all s.modelOk && decide (((List.range 16).map s.share).sum ≤ 2048)
    && s.usedModels.all (fun n => decide (1 ≤ s.share n)) && d.spillOk q s

/-! ### Orders k to m: NEURONS, lists and axons, EMISSION -/

/-- Whether no two runs overlap. -/
def runsApart : List NeuronRun → Bool
  | [] => true
  | x :: t => t.all (fun y => decide (x.first + x.count ≤ y.first ∨ y.first + y.count ≤ x.first)) && runsApart t

/-- Check k (R410). -/
def Sheet.neuronsOk (s : Sheet) : Bool :=
  s.runs.all (fun r => decide (1 ≤ r.count ∧ r.count ≤ 131072 ∧ r.first + r.count ≤ 131072) && fget nsW r.word == 1 && fget nsP r.word == 0
    && fget nsRefr r.word == 0 && bits r.word 3 0 == 0) && runsApart s.runs

/-- Words of the synapse banks of a Gallery. -/
def bankWords : Nat := 12582912

/-- A synapse word of a list: R64 and R65, and R163 for a cold one. -/
def Sheet.wordOk (s : Sheet) (cold : Bool) (w : Word) : Bool :=
  (fget syDplastic w == 0 || fget syPlastic w == 1) && (s.runAt (fget syTarget w)).isSome && (!cold || fget syPlastic w == 0)

/-- An axon entry and its list: R60, R61, R64, R65, R163, R262, R264. -/
def Sheet.axonOk (s : Sheet) (e : BitVec 64) : Bool :=
  let cold := fget axCold e == 1
  let l := s.listOf e
  (fget axIsrc e == 0 || fget axDark e == 1) && l.1.all (s.wordOk cold)
    && (if cold then fget axHead e == 0
        else decide (fget axBase e + s.listWords e ≤ bankWords)
          && (!s.plastic e || (l.2.length == fget axHead e && l.2.all (fun w => w == 0x80000#32))))

/-- Check l. -/
def Sheet.listsOk (s : Sheet) : Bool :=
  s.syn.all (fun k => decide (k.start + k.words ≤ bankWords)) && s.axons.all (fun k => decide (k.start + k.data.length / 8 ≤ 262144))
    && s.axonList.all (fun e => s.axonOk e.2)

/-- An emission descriptor (Table 5.4, R168). -/
def edOk (own slice : Nat) (gals : List Nat) (w : BitVec 128) : Bool :=
  !edValid w || (bits w 63 62 == 0 && bits w 127 79 == 0 && decide (bits w 16 0 ≤ bits w 33 17) && (edAdly w == 0 || decide (16 ≤ edAdly w))
    && bits w 76 73 == slice && decide ((edAxons w).2 ≤ 262143) && ((edTarget w).1 != own || gals.contains (edTarget w).2))

/-- Check m: every descriptor, and at most 4 over any neuron. -/
def Sheet.emissionOk (s : Sheet) (own slice : Nat) (gals : List Nat) : Bool :=
  let es := ((List.range 256).map s.edesc)
  let vs := es.filter edValid
  es.all (edOk own slice gals)
    && vs.all (fun w => decide ((vs.filter (fun v => decide (bits v 16 0 ≤ bits w 16 0 ∧ bits w 16 0 ≤ bits v 33 17))).length ≤ 4))

/-! ### Order n: DENSE -/

/-- Whether a bank weight region overlaps a synapse list of the sheet (R210, R264). -/
def Sheet.overList (s : Sheet) (base n : Nat) : Bool :=
  s.axonList.any (fun e => fget axCold e.2 == 0 && decide (0 < s.listWords e.2 ∧ fget axBase e.2 < base + n ∧ base < fget axBase e.2 + s.listWords e.2))

/-- Whether the chain of FEED jobs from `j` is at most `n` jobs long and never returns to a job in it (R216). -/
def Sheet.chainOk (s : Sheet) : Nat → List Nat → Nat → Bool
  | 0, _, _ => false
  | n + 1, seen, j => !seen.contains j && (!(jdValid (s.job j) && jdOut (s.job j) == 0) || s.chainOk n (j :: seen) (bits (s.job j) 37 32))

/-- The target rules of a descriptor by OUT (R216, Table 7.5). -/
def Image.targetOk (m : Image) (own : Nat) (s : Sheet) (j : Nat) : Bool :=
  let w := s.job j
  let gals := m.sheets.map (·.g)
  match jdOut w with
  | 0 =>
    let x := s.job (bits w 37 32)
    bits w 95 64 == 0 && jdValid x && jdK x == jdN w && jdMode x != 2 && s.chainOk 8 [] j
  | 1 =>
    let lo := bits w 81 64
    let here := bits w 90 85 == own
    bits w 95 91 == 0 && decide (1 ≤ bits w 103 96) && decide (lo + jdN w - 1 ≤ 262143) && (!here || gals.contains (bits w 84 82))
      && (!here || (match m.sheet (bits w 84 82) with | some t => !t.darkWithin lo (lo + jdN w - 1) | none => true))
  | 2 => bits w 95 75 == 0 && m.sourceValid (bits w 71 64) && decide (bits w 74 72 * 8 + 7 < jdN w)
  | 3 => bits w 95 65 == 0
  | _ => false

/-- A job descriptor (R210, R216). -/
def Image.jobOk (m : Image) (f : Fuses) (own : Nat) (s : Sheet) (j : Nat) : Bool :=
  let w := s.job j
  let t := jdTag w
  !bit w 31 && bits w 127 104 == 0 && (!jdValid w ||
    (jdMode w != 3 && decide (1 ≤ jdKt w ∧ jdKt w ≤ (if jdMode w = 1 then 16 else 8)) && bit w 30 == (jdOut w == 0)
      && (if t.wsrc = 0 then decide (t.wbase + (imageBytes w + 3) / 4 ≤ bankWords) && !s.overList t.wbase ((imageBytes w + 3) / 4)
          else t.wsrc == 1 && bit f.stks (s.g / 2))
      && m.targetOk own s j))

/-- Weight blocks lie where a set may (R210). -/
def Sheet.weightsOk (f : Fuses) (s : Sheet) : Bool :=
  s.weights.all (fun k =>
    if k.wsrc = 0 then decide (k.wbase + (k.data.length + 3) / 4 ≤ bankWords) && !s.overList k.wbase ((k.data.length + 3) / 4)
    else k.wsrc == 1 && bit f.stks (s.g / 2))

/-- The count window (R222). -/
def Sheet.windowOk (s : Sheet) : Bool :=
  let win := BitVec.ofNat 32 (leAt s.dense 1024 4)
  let cfg := BitVec.ofNat 32 (leAt s.dense 1028 4)
  let rows := fget F.DNS_CNT_CFG_ROWS cfg
  let kt := fget F.DNS_CNT_CFG_KT cfg
  let lo := fget F.DNS_CNT_WIN_CNT_LO win
  let n := rows * kt * 16
  let w := s.job (fget F.DNS_CNT_CFG_JOB cfg)
  fget F.DNS_CNT_WIN_EN win == 0 || (decide (1 ≤ rows ∧ rows ≤ 8 ∧ 1 ≤ kt ∧ n ≤ 1024 ∧ lo + n - 1 ≤ 262143) && !s.darkWithin lo (lo + n - 1)
    && jdValid w && jdMode w == 2 && jdKt w == kt)

/-- The normalisation job and its weight image, which holds F_c on the diagonal and 0 elsewhere (R280). -/
def Sheet.normOk (s : Sheet) : Bool :=
  let w := s.job (fget F.LRN_NORM_CFG_JOB (s.lrn 4))
  fget F.LRN_NORM_CFG_VALID (s.lrn 4) == 0 || (jdValid w && jdMode w == 0 && jdKt w == 8 && jdK w == 128 && jdN w == 128 && jdOut w == 3
    && !bit w 64 && !bit w 24 && bits w 29 25 == 6 && (jdTag w).wsrc == 0
    && (let img := s.weightImage w
        (List.range 128).all (fun k => (List.range 128).all (fun n =>
          decide (weightAt w img k n = if k = n then (palette (k % 16) : Int) else 0)))))

/-- Check n for a sheet. -/
def Image.denseOk (m : Image) (f : Fuses) (own : Nat) (s : Sheet) : Bool :=
  (List.range 64).all (m.jobOk f own s) && s.weightsOk f && s.windowOk && s.normOk

/-! ### Order o: tallies and experts -/

/-- The tally settings (R239, Table 8.6). -/
def Sheet.tallyOk (s : Sheet) : Bool :=
  let w := s.job (fget F.CMP_TALLY_CFG_EJOB s.tallyCfg)
  decide (1 ≤ fget F.CMP_TALLY_CFG_SIG_ACT s.tallyCfg)
    && (fget F.CMP_TALLY_CFG_EMBED_EN s.tallyCfg == 0 || (expertJob w && (jdOut w == 1 || jdOut w == 2)))

/-- Expert entry `e` of the EXPERTS section (Table 8.2). -/
def Image.expert (m : Image) (e : Nat) : BitVec 64 := BitVec.ofNat 64 (leAt m.experts (16 + 8 * e) 8)

/-- The pool size. -/
def Image.pool (m : Image) : Nat := leAt m.experts 0 4 % 512

/-- Whether a home on another chip lies in the slice and names an expert job there (R241), as that chip's firmware answers; its jobs are known once it has
an image loaded. Of a chip that does not answer nothing is known: the entry stands, UNREACH where no route leads there (DESIGN CHOICE, log entry 61). -/
def homeOk (peers : List PeerReply) (slice : Nat) (w : BitVec 64) : Bool :=
  match peers.find? (fun r => r.chip == exChip w && r.answered) with
  | none => true
  | some r => r.slices.any (fun x => x.slice == slice && bit x.gals (exGallery w)
      && (!x.loaded || x.jobs.any (fun j => j.1 == exGallery w && bit j.2 (exJob w))))

/-- An expert entry (R241): a home on this chip lies in the rectangle and names an expert job; one on another chip is that chip's to answer for. -/
def Image.expertOk (m : Image) (self slice : Nat) (peers : List PeerReply) (e : Nat) : Bool :=
  let w := m.expert e
  exValid w && !exUnreach w && decide (-64 ≤ exBias w ∧ exBias w ≤ 64)
    && (if exChip w = self then (match m.sheet (exGallery w) with | some s => expertJob (s.job (exJob w)) | none => false) else homeOk peers slice w)
    && (List.range e).all (fun i => bits (m.expert i) 54 40 != bits w 54 40)

/-- The EXPERTS section (R241, Tables 8.6 and 14.3). -/
def Image.expertsOk (m : Image) (self slice : Nat) (peers : List PeerReply) : Bool :=
  m.experts.isEmpty || (decide (1 ≤ m.pool ∧ m.pool ≤ 256) && leAt m.experts 0 4 / 65536 % 16 == slice
    && decide (1 ≤ leAt m.experts 8 2 ∧ leAt m.experts 8 2 ≤ 1000) && decide (1 ≤ leAt m.experts 10 1 ∧ leAt m.experts 10 1 ≤ 15)
    && decide (leAt m.experts 11 1 ≤ 15 ∧ leAt m.experts 12 1 ≤ 15 ∧ leAt m.experts 13 1 ≤ 1)
    && (List.range m.pool).all (m.expertOk self slice peers))

/-- The group's other chips that hold the slice. -/
def Dev.sliceChips (d : Dev) (slice : Nat) : List Nat := d.groupChips.filter (fun x => (d.slicesOf x).testBit slice)

/-- Whether a chip's loaded table of the slice is the image's (R241, R419). -/
def Image.tableAgrees (m : Image) (slice : Nat) (r : PeerReply) : Bool :=
  r.slices.all (fun x => x.slice != slice || !x.loaded
    || (x.pool == m.pool && x.salt.toNat == leAt m.experts 4 4 && x.experts == (List.range m.pool).map (fun e => exBare (m.expert e))))

/-- R419: the comparison with the chips that hold an image of the slice. -/
def Dev.expertsAgree (d : Dev) (m : Image) (peers : List PeerReply) (slice : Nat) : Verdict :=
  if m.experts.isEmpty then none
  else
    let chips := d.sliceChips slice
    if chips.any (fun x => !peers.any (fun r => r.chip == x && r.answered)) then some (.timeout, 0)
    else match chips.find? (fun x => peers.any (fun r => r.chip == x && !m.tableAgrees slice r)) with
      | some x => chk 9 x
      | none => none

/-! ### Order p: LEARN -/

/-- The models of neurons in dark ranges. -/
def Sheet.darkModels (s : Sheet) : List Nat :=
  (s.runs.filter (fun r => s.darkMap.ranges.any (fun x => decide (x.lo < r.first + r.count ∧ r.first ≤ x.hi)))).map (fun r => fget nsModel r.word)

/-- A learning profile (R266, Table 9.2). DEDUCED (log entry 42): the ranges bind where the profile uses the field; RULE 3 and WMIN above WMAX are
refused too. -/
def Sheet.profileOk (s : Sheet) (m : Nat) : Bool :=
  let w0 := s.prof m 0
  let w1 := s.prof m 1
  prRule w0 != 3 && !((bit w0 3 || bit w0 4) && s.darkModels.contains m)
    && (prRule w0 == 0 || decide (8 ≤ bits w0 28 24 ∧ bits w0 28 24 ≤ 23)) && (!bit w0 5 || bits (s.prof m 3) 18 16 != 0)
    && (!bit w0 4 || bits (s.prof m 3) 15 8 != 0) && decide (bits (s.prof m 2) 27 24 ≤ 8)
    && decide (sext 8 (bits w1 7 0) ≤ sext 8 (bits w1 15 8))

/-- Every plastic word of the lists learns under a profile with a rule, and a delay-plastic one under one with DELAY (R266). -/
def Sheet.plasticOk (s : Sheet) (licensed : Bool) : Bool :=
  s.axonList.all (fun e => fget axCold e.2 == 1 || (s.listOf e.2).1.all (fun w =>
    fget syPlastic w == 0 || (match s.runAt (fget syTarget w) with
      | none => true
      | some r =>
        let w0 := s.prof (fget nsModel r.word) 0
        prRule w0 != 0 && (fget syDplastic w == 0 || !licensed || bit w0 5))))

/-- The EPOCH values of the LEARN sections. -/
def Image.epochs (m : Image) : List Nat := (m.sheets.filter (fun s => !s.learn.isEmpty)).map (fun s => bits (s.lrn 0) 15 0)

/-- Check p for a sheet: its profiles, its plastic words, and one EPOCH of at least 1 for the parcel (R266, R271). -/
def Dev.learnOk (d : Dev) (m : Image) (s : Sheet) : Bool :=
  (List.range 16).all s.profileOk && s.plasticOk (d.licensed 0)
    && (s.learn.isEmpty || (decide (1 ≤ bits (s.lrn 0) 15 0) && m.epochs.all (fun e => e == bits (s.lrn 0) 15 0)))

/-- Check p. -/
def Dev.checkLearn (d : Dev) (m : Image) : Verdict :=
  if m.sheets.any Sheet.needsStruct ∧ !d.licensed 0 then some (.notLicensed, 0) else chkSheets m 10 (d.learnOk m)

/-! ### Order q: INTAKE -/

/-- A word of an INTAKE section: 0 INT_CTL, 1 INT_CSI_CFG, 2 INT_GEOM, 3 INT_CONV, 4 INT_THERM, 5 INT_FLK_CFG, 6 INT_SHED_CFG,
7 INT_SHED_BUDGET, 8 RES, 9 INT_RETRY_CFG, 10 SEAM_CTL. -/
def inWord (b : List Byte) (i : Nat) : Word := BitVec.ofNat 32 (leAt b (4 * i) 4)

/-- MAP_COUNT. -/
def inMaps (b : List Byte) : Nat := leAt b 176 4

/-- Map entry `e` (Table 3.8). -/
def inMap (b : List Byte) (e : Nat) : Word := BitVec.ofNat 32 (leAt b (184 + 4 * e) 4)

/-- BUDGET of an INTAKE section. -/
def inBudget (b : List Byte) : Nat := bits (inWord b 7) 19 0

/-- A map entry of a port (R114, R197): its row is the parcel's, and every axon it reaches is an intake-source axon of that Gallery. -/
def Image.mapOk (m : Image) (p : Nat) (geom w : Word) : Bool :=
  let (lo, hi) := mapAxons geom w
  !bit w 31 || (decide (hi ≤ 262143) && (match m.sheet (p / 4 * 2 + bits w 30 30) with
    | none => false
    | some s => (List.range (hi + 1 - lo)).all (fun i => match s.axonAt (lo + i) with
      | some e => fget axIsrc e == 1
      | none => false)))

/-- The geometry rules (R108, R113, R543). -/
def geometryOk (b : List Byte) : Bool :=
  let geom := inWord b 2
  let w := fget F.INT_GEOM_WIDTH_M1 geom + 1
  let h := fget F.INT_GEOM_HEIGHT_M1 geom + 1
  let side := 8 * 2 ^ fget F.INT_GEOM_TSHIFT geom
  let mode := fget F.INT_CONV_MODE (inWord b 3)
  decide (w * h ≤ 1048576) && (mode != 2 || decide (w * h ≤ 4096)) && (mode != 3 || (w == 16 && h == 1))
    && decide (((w + side - 1) / side) * ((h + side - 1) / side) ≤ 4096)

/-- The field ranges of Tables 3.12 and 3.13, where R543 makes them bind (R116, R117). -/
def intakeRanges (b : List Byte) : Bool :=
  let mode := fget F.INT_CONV_MODE (inWord b 3)
  fget F.INT_CSI_CFG_LANES (inWord b 1) != 3 && (mode != 0 || fget F.INT_CONV_THR_BASE (inWord b 3) != 0)
    && (mode != 2 || fget F.INT_THERM_T_STEP (inWord b 4) != 0)
    && (fget F.INT_FLK_CFG_EN (inWord b 5) == 0 || decide (2 ≤ fget F.INT_FLK_CFG_FLK_RATIO (inWord b 5)))
    && (mode != 3 || (List.range 16).all (fun c => decide (sext 32 (leAt b (52 + 8 * c) 4) < sext 32 (leAt b (48 + 8 * c) 4))))
    && decide (10 ≤ fget F.INT_RETRY_CFG_SYNC_TO (inWord b 9)) && decide (1 ≤ inBudget b) && decide ((inWord b 8).toNat < inBudget b)

/-- Check q for a port, the rail's rate apart. -/
def Image.intakeOk (m : Image) (p : Nat) (b : List Byte) : Bool :=
  intakeRanges b && geometryOk b && decide (1 ≤ inMaps b ∧ inMaps b ≤ 4096)
    && (List.range (inMaps b)).all (fun e => m.mapOk p (inWord b 2) (inMap b e))

/-- Whether the budgets of a hub, the image's and those of the other loaded images, exceed the rail's admitted rate (R120, R187). -/
def Dev.hubOver (d : Dev) (q : Fin 8) (m : Image) (hub : Nat) : Bool :=
  let mine := ((m.intakes.filter (fun e => e.1 / 4 == hub)).map (fun e => inBudget e.2)).sum
  let others := ((hubPorts hub).filter (fun p => d.configured p && d.parcelOfPort p.val != some q)).map d.budgetOf
  decide (d.dat.tperiod * 10 / 4 < mine + others.sum)

/-- Check q. -/
def Dev.checkIntake (d : Dev) (q : Fin 8) (m : Image) : Verdict :=
  match m.intakes.find? (fun e => !m.intakeOk e.1 e.2 || d.hubOver q m (e.1 / 4)) with
  | some e => chk 11 e.1
  | none => none

/-! ### Order r: SCHEMA -/

/-- The ports whose meter settings the image carries. -/
def Dev.meterPorts (d : Dev) (q : Fin 8) : List Nat := bitsOf 16 (d.rf (R.PCL_PORTMASK q) F.PCL_PORTMASK_MASK)

/-- A source entry (R137, R410). -/
def Image.sourceOk (m : Image) (mask i : Nat) : Bool :=
  let w := m.source i
  w / 256 % 128 == 0 && (!w.testBit 15 || (decide (1 ≤ w % 16 ∧ w % 16 ≤ 4) && mask.testBit (w / 16 % 16)))

/-- Check r. -/
def Dev.checkSchema (d : Dev) (q : Fin 8) (m : Image) : Verdict :=
  if m.schema.isEmpty then none
  else
    let rate (p : Nat) : Nat := leAt m.schema (512 + 4 * p) 2
    let burst (p : Nat) : Nat := leAt m.schema (514 + 4 * p) 1
    if !(List.range 256).all (m.sourceOk (d.rf (R.PCL_PORTMASK q) F.PCL_PORTMASK_MASK)) then chk 12
    else if (d.meterPorts q).any (fun p => decide (d.fus.ceilU < rate p)) then some (.refused, detail .fuse)
    else if (d.meterPorts q).any (fun p => rate p == 0 || burst p == 0 || decide (64 < burst p) || leAt m.schema (515 + 4 * p) 1 != 0) then chk 12
    else none

/-! ### Order s: the dark rules -/

/-- The port a dark axon of the sheet is tied to (R131, R132). -/
def Sheet.tiedPort (s : Sheet) (a : Nat) (e : BitVec 64) : Option Nat :=
  if fget axDark e = 0 then none
  else if fget axIsrc e = 1 then spanPort s.darkMap.windows a
  else match (s.listOf e).1 with
    | [] => none
    | w :: _ => spanPort s.darkMap.ranges (fget syTarget w)

/-- T_erase of a port in a sheet's Gallery, in ns (R132). -/
def Sheet.eraseNs (s : Sheet) (p : Nat) : Nat :=
  let nn := ((s.darkMap.ranges.filter (fun x => x.port == p)).map (fun x => x.hi + 1 - x.lo)).sum
  let tied := s.axonList.filter (fun e => s.tiedPort e.1 e.2 == some p)
  2000 + (nn + tied.length + 15) / 16 + ((tied.map (fun e => fget axCount e.2)).sum + 7) / 8

/-- Checks 1 to 5: the first axon of a sheet that breaks one. -/
def Sheet.darkAxon (s : Sheet) : Option Nat :=
  firstSome (fun (e : Nat × BitVec 64) => s.darkMap.axonCheck e.1 e.2 (s.listOf e.2).1 (s.listOf e.2).2) s.axonList

/-- Check 6: an emission descriptor with ADLY ≥ 16 that reaches a dark axon on this chip. -/
def Image.darkDelay (m : Image) (own : Nat) (s : Sheet) : Bool :=
  (List.range 256).any (fun i =>
    let w := s.edesc i
    edValid w && decide (16 ≤ edAdly w) && (edTarget w).1 == own && (match m.sheet (edTarget w).2 with
      | some t => t.darkWithin (edAxons w).1 (edAxons w).2
      | none => false))

/-- Check 7: a map entry of a port of the column that reaches an axon of this Gallery outside the port's windows. -/
def Image.darkMapBad (m : Image) (s : Sheet) : Bool :=
  m.intakes.any (fun x => x.1 / 4 == s.g / 2 && (List.range (inMaps x.2)).any (fun e =>
    let w := inMap x.2 e
    let (lo, hi) := mapAxons (inWord x.2 2) w
    bit w 31 && bits w 30 30 == s.g % 2 && (List.range (hi + 1 - lo)).any (fun i => !inPort s.darkMap.windows x.1 (lo + i))))

/-- The dark check of Table 14.7 that a sheet breaks. `ns` is the shorter tick period. -/
def Image.darkCheck (m : Image) (own ns : Nat) (s : Sheet) : Option Nat :=
  match s.darkAxon with
  | some n => some n
  | none =>
    if m.darkDelay own s then some 6
    else if m.darkMapBad s then some 7
    else if ns < ((List.range 4).map (fun i => s.eraseNs (s.g / 2 * 4 + i))).sum then some 8
    else none

/-- Check s: DARK_VIOLATION with the Gallery and the check number (R420). -/
def Dev.checkDark (d : Dev) (m : Image) : Verdict :=
  firstSome (fun (s : Sheet) => (m.darkCheck d.ownChip (min (ihTickNs m.bytes) (10 * d.dat.tperiod)) s).map (fun n =>
    (.darkViolation, detail .check s.g n))) m.sheets

/-! ### Pass 1 -/

/-- Orders g to s on a well-formed, signed image. -/
def Dev.checkContent (d : Dev) (q : Fin 8) (m : Image) (peers : List PeerReply) : Verdict :=
  let b := m.bytes
  let own := d.ownChip
  let slice := d.rf (R.PCL_BIND q) F.PCL_BIND_SLICE
  let gals := m.sheets.map (·.g)
  firstOf [
    if d.fus.denseMhz < ihMhz b then some (.refused, detail .fuse) else none,
    d.checkBinding q b,
    if tickOff (ihTickNs b) (ihTol b) d.dat.tperiod then chk 3 else none,
    chkSheets m 4 (d.galleryOk q),
    chkSheets m 5 Sheet.neuronsOk,
    chkSheets m 6 Sheet.listsOk,
    chkSheets m 7 (fun s => s.emissionOk own slice gals),
    chkSheets m 8 (m.denseOk d.fus own),
    chkSheets m 9 Sheet.tallyOk,
    if m.expertsOk d.selfChip slice peers then none else chk 9,
    d.expertsAgree m peers slice,
    d.checkLearn m,
    d.checkIntake q m,
    d.checkSchema q m,
    d.checkDark m]

/-- Pass 1 (R418): the first failure, or the image. `len` is the length the command gives. -/
def Dev.pass1 (d : Dev) (q : Fin 8) (b : List Byte) (len : Nat) (peers : List PeerReply) : Except (Status × BitVec 32) Image :=
  let m := imageOf b (rectOf (ihRect b)).gals
  match (if !headerReadable b len then chk 1
    else firstOf [d.checkAbsent b, d.checkNeed b, checkContainer b m, d.checkSignature m, d.checkContent q m peers]) with
  | some v => .error v
  | none => .ok m

end Sys2Proof.Machine
end

