-- ==== Sys2Proof/Machine/Atlas.lean ====
section
/-!
DEFINITION. Pass 2 of an Atlas load, and the Atlas commands (R401, R421 to R424, R544, Tables 13.7 and 14.8).
-/
namespace Sys2Proof.Machine

/-- The port configuration reset (R544): INT and SEAM registers at their reset values, the lock released, the governor at rest; the
counters, the state RETIRED and the restart history stay. R87 says that KIND cannot change while a port is out of OFF, and R544 that the
reset returns it: on a RETIRED port the reset wins, and pass 2 then writes KIND anew (DEDUCED, log entry 22). -/
def Dev.portReset (d : Dev) (p : Fin 16) : Dev :=
  let d := d.clearRegs (fun r => r.block.base == Blk.int.base && r.inst == p.val && (r.spec.cls == .ctl || r.spec.cls == .stat))
  d.updPort p (fun x => { x with gov := {}, nextShed := none, flags := [], credits := 0, bufs := 0, seq := none, frame := none })

/-- The configuration resets of a parcel's Galleries and ports. -/
def Dev.resetParcel (d : Dev) (q : Fin 8) : Dev :=
  let d := d.forEach (d.parcelGals q) (fun g d => d.onGal g (fun d => d.cfgReset g))
  d.forEach (d.maskPorts q) (fun p d => (d.needDom (20 + p.val / 4)).portReset p)

/-- Writes a register image: its RW and RWL fields take the values, RO and WO fields stay. -/
def Dev.loadReg (d : Dev) (a : Nat) (v : Word) : Dev := match regAt a with
  | some r => d.setReg a (r.spec.written false (d.reg a) v)
  | none => d

/-- Writes register images at consecutive addresses. -/
def Dev.loadRegs (d : Dev) (a : Nat) (vs : List Word) : Dev :=
  d.forEach ((List.range vs.length).zip vs) (fun e d => d.loadReg (a + 4 * e.1) e.2)

/-- The words of bytes, four each. -/
def words32 (b : List Byte) : List Word := (List.range (b.length / 4)).map (fun i => BitVec.ofNat 32 (leAt b (4 * i) 4))

/-! ### Steps 2 to 6: one Gallery's sheet -/

/-- GAL_SPILL_BASE of a sheet, in 64-byte units (R411). -/
def Dev.sheetBase (d : Dev) (q : Nat) (s : Sheet) : Nat := match d.lowerRegion q (s.g / 2) with
  | some r => d.rgnLo (s.g / 2) r + s.spillOff
  | none => s.spillOff

/-- Step 2: GALLERY and DARK, and GRACE of the header. -/
def Dev.loadGallery (d : Dev) (q : Nat) (grace : Nat) (s : Sheet) : Dev :=
  let g := s.g
  let base := d.sheetBase q s * 64
  let d := d.setRf (R.GAL_EVT_CTL g) F.GAL_EVT_CTL_GRACE grace
  let d := d.loadRegs (R.GAL_MODEL g 0) (words32 (s.gal.take 256))
  let d := d.loadRegs (R.GAL_EMIT_SHARE g 0) ((List.range 16).map (fun m => BitVec.ofNat 32 (s.share m)))
  let d := (d.setRf (R.GAL_STATE_CTL g) F.GAL_STATE_CTL_SAFE_MODEL s.safe).setRf (R.GAL_STATE_CTL g) F.GAL_STATE_CTL_UNW_FAULT s.unwFault
  let d := (d.loadReg (R.GAL_SPILL_BASE_LO g) (BitVec.ofNat 32 base)).loadReg (R.GAL_SPILL_BASE_HI g) (BitVec.ofNat 32 (base / 2 ^ 32))
  let d := d.loadReg (R.CMP_TALLY_CFG g) s.tallyCfg
  let d := d.loadRegs (R.GAL_DARK_LO g 0) (words32 (s.dark.take 128))
  d.loadRegs (R.GAL_IWIN_LO g 0) (words32 ((s.dark.drop 128).take 64))

/-- Step 3: the rings and their bitmaps written as zero, then NEURONS with LAST at the tick of the write (R85, R410). -/
def Dev.loadNeurons (d : Dev) (s : Sheet) : Dev :=
  let g := fin8 s.g
  let last := d.tick % 256
  let d := d.updGal g (fun x => { x with ringInit := true, ring := [], occ := [], bad := x.bad.filter (fun e => e.kind != .ring && e.kind != .bmap) })
  d.forEach s.runs (fun r d => d.forEach (List.range r.count) (fun i d => d.putState g (r.first + i) (fput nsLast r.word last)))

/-- Step 4 on the banks: SYNAPSES. -/
def Dev.loadSynapses (d : Dev) (s : Sheet) : Dev :=
  d.forEach s.syn (fun k d => d.updGal (fin8 s.g) (fun x => (List.range k.words).foldl (fun x i => x.putSyn (k.start + i) (k.word i)) x))

/-- Inserts a block in ascending order of its start. -/
def insertBlock (k : ImgBlock) : List ImgBlock → List ImgBlock
  | [] => [k]
  | x :: t => if k.start < x.start then k :: x :: t else x :: insertBlock k t

/-- Writes bytes into the parcel's region of a stack, filled first where they begin more than 256 KiB above the watermark (R345). -/
def Mach.spillWrite (m : Mach) (k : Fin 4) (r : Fin 16) (unit : Nat) (b : List Byte) : Mach :=
  let m := if m.dev.rgnWm k r + 4096 < unit then m.fillTo k r unit else m
  (m.writeRegion k r (unit * 64) b).2

/-- Step 4 on the stack, COLD in ascending OFF, and the stack weights of step 6. -/
def Mach.loadSpill (m : Mach) (q : Nat) (s : Sheet) : Mach :=
  let k := fin4 (s.g / 2)
  match m.dev.lowerRegion q (s.g / 2) with
  | none => m
  | some r =>
    let base := m.dev.sheetBase q s
    let m := (s.cold.foldl (fun l x => insertBlock x l) []).foldl (fun m x => m.spillWrite k r (base + x.start) x.data) m
    (s.weights.filter (fun x => x.wsrc == 1)).foldl (fun m x => m.spillWrite k r (base + x.wbase) x.data) m

/-- Step 5: AXONS. -/
def Dev.loadAxons (d : Dev) (s : Sheet) : Dev := d.forEach s.axonList (fun e d => d.putAxon (fin8 s.g) e.1 e.2)

/-- Step 6: EMISSION, the descriptors and settings of DENSE, and bank weights. -/
def Dev.loadDense (d : Dev) (s : Sheet) : Dev :=
  let d := d.loadRegs (R.GAL_EDESC s.g 0) (words32 s.emission)
  if s.dense.isEmpty then d
  else
    let d := d.loadRegs (R.DNS_JDESC s.g 0) (words32 (s.dense.take 1024))
    let d := d.loadRegs (R.DNS_CNT_WIN s.g) (words32 ((s.dense.drop 1024).take 8))
    let d := d.loadReg (R.DNS_PWR_CFG s.g) (BitVec.ofNat 32 (leAt s.dense 1032 4))
    d.forEach (s.weights.filter (fun x => x.wsrc == 0)) (fun k d => d.updGal (fin8 s.g) (fun x =>
      (List.range ((k.data.length + 3) / 4)).foldl (fun x i => x.putSyn (k.wbase + i) (k.word i)) x))

/-- Step 7, LEARN: profiles and settings; learning stays disabled (R423). -/
def Dev.loadLearn (d : Dev) (s : Sheet) : Dev :=
  if s.learn.isEmpty then d
  else
    let d := d.forEach (List.range 16) (fun m d => d.loadRegs (R.LRN_PROF_W0 s.g m) ((List.range 7).map (s.prof m)))
    let d := d.loadRegs (R.LRN_EPOCH s.g) ((List.range 5).map s.lrn)
    ((d.setRf (R.LRN_CTL s.g) F.LRN_CTL_EN 0).setRf (R.LRN_CTL s.g) F.LRN_CTL_DENSE_EN (b2n (bit (s.lrn 5) 3))).setRf
      (R.LRN_CTL s.g) F.LRN_CTL_DENSE_WAKE (b2n (bit (s.lrn 5) 4))

/-! ### Steps 7 and 8: the parcel -/

/-- Step 7, EXPERTS into one Compass unit: pool, salt, entries with UNREACH where no route to the home exists, Bearing settings, leader and
destinations. -/
def Dev.loadExperts (d : Dev) (m : Image) (homes : List (Nat × Nat)) (g : Nat) : Dev :=
  let x := m.experts
  let d := (d.loadReg (R.CMP_POOL g) (BitVec.ofNat 32 (leAt x 0 4))).loadReg (R.CMP_SALT g) (BitVec.ofNat 32 (leAt x 4 4))
  let d := d.forEach (List.range 256) (fun e d =>
    let w := if e < m.pool then m.expert e else 0
    let un : Bool := e < m.pool && exChip w != d.selfChip && (d.outFor (exChip w)).isNone
    let v := bits w 54 0 + b2n un * 2 ^ 62 + b2n (bit w 63) * 2 ^ 63
    (d.setReg (R.CMP_EXP g (2 * e)) (BitVec.ofNat 32 v)).setReg (R.CMP_EXP g (2 * e + 1)) (BitVec.ofNat 32 (v / 2 ^ 32)))
  let bt := bearTicks (leAt x 8 2) d.dat.tperiod
  let d := d.setReg (R.CMP_BEAR_CFG g) (BitVec.ofNat 32 (bt % 65536 * 65536 + leAt x 12 1 * 256 + leAt x 11 1 * 16 + leAt x 10 1))
  let d := (d.setRf (R.CMP_CTL g) F.CMP_CTL_BEAR_EN (leAt x 13 1)).updCmp (fin8 g) (fun c => { c with ms := leAt x 8 2, nextCfg := none })
  d.writeLeader homes g

/-- Step 8, INTAKE of a port; of INT_CTL only KIND here, EN at step 9. LOW and DECAY of 0 become 8 and 16 (R117, R410). -/
def Dev.loadIntake (d : Dev) (p : Fin 16) (b : List Byte) : Dev :=
  let d := d.setRf (R.INT_CTL p) F.INT_CTL_KIND (b2n (bit (inWord b 0) 1))
  let d := d.loadReg (R.INT_CSI_CFG p) (inWord b 1)
  let d := (d.loadReg (R.INT_GEOM p) (inWord b 2)).loadReg (R.INT_CONV p) (inWord b 3)
  let d := (d.loadReg (R.INT_THERM p) (inWord b 4)).loadReg (R.INT_FLK_CFG p) (inWord b 5)
  let d := (d.loadReg (R.INT_SHED_CFG p) (inWord b 6)).loadReg (R.INT_SHED_BUDGET p) (inWord b 7)
  let d := if d.rf (R.INT_SHED_CFG p) F.INT_SHED_CFG_LOW = 0 then d.setRf (R.INT_SHED_CFG p) F.INT_SHED_CFG_LOW 8 else d
  let d := if d.rf (R.INT_SHED_CFG p) F.INT_SHED_CFG_DECAY = 0 then d.setRf (R.INT_SHED_CFG p) F.INT_SHED_CFG_DECAY 16 else d
  let d := (d.setRf (R.INT_SHED_STAT p) F.INT_SHED_STAT_RES (inWord b 8).toNat).loadReg (R.INT_RETRY_CFG p) (inWord b 9)
  let crc := if d.boot.lab then inWord b 10 else 1
  let d := d.loadReg (R.SEAM_CTL p) crc
  let d := d.loadRegs (R.INT_SCAL_HI p 0) (words32 (slice 48 128 b))
  d.loadRegs (R.INT_MAP p 0) ((List.range (inMaps b)).map (inMap b))

/-- Step 8, SCHEMA and the meter settings of the parcel's ports. -/
def Dev.loadSchema (d : Dev) (q : Fin 8) (m : Image) : Dev :=
  let map := (List.range 256).foldl (fun x i => SMap.set 0 x i (if m.sourceValid i then m.source i % 256 else 0)) []
  let d := d.updPcl q (fun p => { p with schema := map })
  if m.schema.isEmpty then d
  else d.forEach (d.meterPorts q) (fun p d =>
    d.setReg (R.EGR_MTR_CFG p) (BitVec.ofNat 32 (leAt m.schema (514 + 4 * p) 1 * 65536 + leAt m.schema (512 + 4 * p) 2)))

/-! ### Pass 2 -/

/-- The domains that pass 2 needs: the Galleries', the hubs' of PORTMASK (R422), the stacks' that take cold lists or weights. -/
def Image.domains (m : Image) : List Nat :=
  m.sheets.map (fun s => 4 + s.g) ++ m.intakes.map (fun e => 20 + e.1 / 4) ++ (m.sheets.filter (fun s => s.spillEnd != 0)).map (fun s => 31 + s.g / 2)

/-- Whether a needed domain has not become ready. -/
def Dev.notReady (d : Dev) (env : CmdEnv) (i : Nat) : Bool :=
  env.notReady.contains i || !d.domUp i || (decide (31 ≤ i) && !d.stackReady (fin4 (i - 31)))

/-- Steps 2 to 9 of Table 14.8. -/
def Mach.loadImage (x : Mach) (q : Fin 8) (m : Image) : Mach :=
  let b := m.bytes
  let d := x.dev.forEach m.sheets (fun s d => (((d.loadGallery q (ihGrace b) s).loadNeurons s).loadSynapses s))
  let x := m.sheets.foldl (fun (x : Mach) s => x.loadSpill q s) { x with dev := d }
  let homes := x.dev.sliceHomes (ihSlice b)
  let d := x.dev.forEach m.sheets (fun s d => (d.loadAxons s).loadDense s)
  let d := if m.experts.isEmpty then d else d.forEach m.sheets (fun s d => d.loadExperts m homes s.g)
  let d := d.forEach m.sheets (fun s d => d.loadLearn s)
  let d := (d.forEach m.intakes (fun e d => d.loadIntake (fin16 e.1) e.2)).loadSchema q m
  let d := d.forEach m.intakes (fun e d => d.setRf (R.INT_CTL e.1) F.INT_CTL_EN (b2n (bit (inWord e.2 0) 0)))
  let d := d.forEach m.sheets (fun s d => d.updGal (fin8 s.g) (fun g => { g with st := .loaded }))
  { x with dev := d.updPcl q (fun p => { p with
      st := .loaded, digest := sha384 (b.take m.sigOff), tickNs := ihTickNs b, tolPpm := ihTol b, mhz := ihMhz b,
      imgPorts := BitVec.ofNat 16 (ihPorts b), bMs := if m.experts.isEmpty then p.bMs else leAt m.experts 8 2 }) }

/-- The end of a load that pass 2 cannot finish: the parcel CREATED, its Galleries EMPTY. -/
def Dev.failLoad (d : Dev) (q : Fin 8) : Dev :=
  (d.forEach (d.parcelGals q) (fun g d => d.updGal g (fun x => { x with st := .empty }))).toCreated q

/-- RESULT0 of ATLAS_STATUS and ATLAS_LOAD: the first 8 bytes of the digest (R413). -/
def Dev.digestResult (d : Dev) (q : Fin 8) : BitVec 64 := BitVec.ofNat 64 (leAt (d.pcl q).digest 0 8)

/-- Pass 2 on an image that passed pass 1: the configuration resets, the second reading, the domains, the writes (R401, R421, R422). -/
def pass2 (c : Cmd) (q : Fin 8) (m : Image) (x : Mach) : Reply Mach :=
  let d := (x.dev.resetParcel q).toCreated q
  let fail (st : Status) (r0 : BitVec 64) (dt : BitVec 32) : Reply Mach := .finish { x with dev := d.failLoad q } st r0 0 dt
  match c.env.second with
  | some y => match y.read with
    | none => fail .dmaError 0 0
    | some b =>
    if sha384 (b.take m.sigOff) = sha384 (m.bytes.take m.sigOff) then go d else fail .refused 0 (detail .buffer)
  | none => go d
where
  go (d : Dev) : Reply Mach :=
    let d := d.forEach m.domains (fun i d => d.needDom i)
    if m.domains.any (d.notReady c.env) then .finish { x with dev := d.failLoad q } .faulted d.lastSeq 0 0
    else
      let y := Mach.loadImage { x with dev := d } q m
      .finish y .ok (y.dev.digestResult q) 0 0

/-! ### The commands -/

/-- ATLAS_STATUS (Table 13.7, R413, R424): RESULT0, and firmware values 1 to 3. -/
def atlasStatus (c : Cmd) (d : Dev) : Reply Dev :=
  let p := d.pcl c.parcel
  let vals := if p.digest.isEmpty then [] else
    [(fwValue 1, BitVec.ofNat 32 p.tickNs), (fwValue 2, BitVec.ofNat 32 (b2n (tickOff p.tickNs p.tolPpm d.dat.tperiod))), (fwValue 3, BitVec.ofNat 32 p.mhz)]
  report c d (d.digestResult c.parcel) vals

/-- ATLAS_STATUS. -/
def execAtlasStatus (c : Cmd) (s : State) : Host.Outcome State Fault Refusal := cmdStep (specOnParcel 0x0300 true) atlasStatus c s

/-- The length that IMAGE_LEN must equal: DATA_LEN, or the bytes that the scatter list describes (Table 12.9, SGL). -/
def loadLen (c : Cmd) (b : List Byte) : Nat := if c.sgl then b.length else c.dataLen

/-- ATLAS_LOAD (R401, R418): pass 1 changes nothing; the parcel's state is checked after it (Table 13.1); then pass 2. -/
def atlasLoad (c : Cmd) (x : Mach) : Reply Mach :=
  let q := c.parcel
  match inputOf c with
  | none => dmaError
  | some b => match x.dev.pass1 q b (loadLen c b) c.env.peers with
    | .error e => .refuse e.1 e.2
    | .ok m =>
      if (x.dev.pcl q).st ≠ .created ∧ (x.dev.pcl q).st ≠ .loaded then busy (x.dev.pcl q).st.code
      else pass2 c q m x

/-- ATLAS_LOAD. -/
def execAtlasLoad (c : Cmd) (s : State) : Host.Outcome State Fault Refusal := machStep (specOnParcel 0x0301 true) atlasLoad c s

/-- ATLAS_UNLOAD (Table 13.7): from LOADED, the configuration resets, with the storage of every port to be erased (Table 4.4); from CREATED
nothing. -/
def atlasUnload (c : Cmd) (d : Dev) : Reply Dev :=
  let q := c.parcel
  match (d.pcl q).st with
  | .loaded => done (((d.stopPorts q).resetParcel q).toCreated q) 1
  | .created => done d
  | st => busy st.code

/-- ATLAS_UNLOAD. -/
def execAtlasUnload (c : Cmd) (s : State) : Host.Outcome State Fault Refusal := cmdStep (specOnParcel 0x0302) atlasUnload c s

end Sys2Proof.Machine
end

