-- ==== Sys2Proof/Machine/Bar0.lean ====
section
/-!
DEFINITION. BAR0: the status mirror, the ring registers and doorbells, the MSI-X table, the lock windows and the VF summary as each function
reaches them, and what identifies a function (12_host_and_mailboxes.md R363, R370, R371, R385, R388).
-/
namespace Sys2Proof.Machine

/-! ### Identity (R363) -/

/-- What a function's configuration header says of it. -/
structure FuncId where
  vendor : Nat
  device : Nat
  classCode : Nat
  subVendor : Nat
  subDevice : Nat
  revision : Nat
  routing : Nat
deriving DecidableEq, Repr

/-- The PF Device ID of a part (Table 12.2). -/
def pfDevice (part : Nat) : Nat := if part = 1 then 0x0164 else if part = 2 then 0x0162 else if part = 3 then 0x0160 else 0x0080

/-- A function's identity; `routing` is its routing ID less the PF's, from First VF Offset 1 and VF Stride 1 (R363, Table 12.2). -/
def Dev.funcId (d : Dev) (f : Func) : FuncId :=
  { vendor := 0x1F6A, device := if f = pf then pfDevice d.fus.part else 0x01F0, classCode := 0x120000, subVendor := 0x1F6A,
    subDevice := pfDevice d.fus.part, revision := 1, routing := if f = pf then 0 else 1 + f.val }

/-! ### Reads (Table 12.5) -/

/-- Word `i` of a function's MSI-X table entry `vec`. -/
def Dev.msixWord (d : Dev) (f : Func) (vec i : Nat) : Word := (SMap.get msixReset d.host.msix (f.val * 64 + vec)).extractLsb' (32 * i) 32

/-- Word `i` of a function's pending bit array. -/
def Dev.pbaWord (d : Dev) (f : Func) (i : Nat) : Word :=
  BitVec.ofNat 32 (maskOf ((List.range 32).filter (fun j => decide (32 * i + j < vectors f) && SMap.get false d.host.pba (f.val * 64 + 32 * i + j))))

/-- HST_VF_STAT_v (Table 12.17). -/
def Dev.vfStat (d : Dev) (v : Fin 8) : Word :=
  let f : Func := ⟨v.val, Nat.lt_trans v.isLt (by decide)⟩
  BitVec.ofNat 32 ((match d.parcelOf f with
    | some q => 2 ^ 20 + q.val * 2 ^ 16
    | none => 0) + d.inProgress f % 16 * 2 ^ 8 + b2n (d.ring f).flr * 2 ^ 3 + (d.ring f).st.code)

/-- A read of the lock windows: LCK_ACQ_n acquires, LCK_PEEK_n tells, LCK_REL_n reads 0 (R388). -/
def Dev.lockRead (d : Dev) (f : Func) (n : Fin 64) (i : Nat) : Word × Dev :=
  if i = 0 then
    let r := d.lockAcquire n (ownerId (.fn f))
    (r.2.1, r.2.2)
  else if i = 1 then (lockWord (d.locks[n].owner == 0 && d.locks[n].broken) 0 d.locks[n].life d.locks[n].owner, d)
  else (0, d)

/-- A 32-bit read of BAR0 by a function (Table 12.5); a reserved offset reads 0. A doorbell is write only and reads 0. -/
def Dev.bar0Read (d : Dev) (f : Func) (off : Nat) : Word × Dev :=
  if off = 0x30 then (BitVec.ofNat 32 (d.mirFunc f), d)
  else if off < 0x100 then d.readReg (R.LNT_MIR_ID + off)
  else if off < 0x200 then d.readReg (Blk.mbx.base + f.val * Blk.mbx.stride + off)
  else if 0x2000 ≤ off ∧ off < 0x2000 + 16 * vectors f then (d.msixWord f ((off - 0x2000) / 16) (off % 16 / 4), d)
  else if 0x2800 ≤ off ∧ off < 0x2808 then (d.pbaWord f (off % 8 / 4), d)
  else if 0x3000 ≤ off ∧ off < 0x3400 then d.lockRead f ⟨(off - 0x3000) / 16 % 64, Nat.mod_lt _ (by decide)⟩ (off % 16 / 4)
  else if off = 0x3400 then (d.reg (R.LCK_LIFE (lifeOfFunc f)), d)
  else if f = pf ∧ 0x4000 ≤ off ∧ off < 0x4020 then (d.vfStat (fin8 (off % 32 / 4)), d)
  else if f = pf ∧ 0x4100 ≤ off ∧ off < 0x4120 then (BitVec.ofNat 32 d.host.vfVec[fin8 (off % 32 / 4)], d)
  else (0, d)

/-! ### Writes -/

/-- A vector that is unmasked while its bit is pending is signalled, and the bit cleared, as PCIe provides (R385). -/
def Dev.unmask (d : Dev) (f : Func) (vec : Nat) : Dev :=
  let k := f.val * 64 + vec
  if SMap.get false d.host.pba k && !bit (SMap.get msixReset d.host.msix k) 96 then
    ({ d with host := { d.host with pba := SMap.set false d.host.pba k false } }).emit (.msix f vec)
  else d

/-- A write of word `i` of an MSI-X table entry; of the vector control word only the mask bit is held (PRESUMED, PCIe; log entry 58). -/
def Dev.msixWrite (d : Dev) (f : Func) (vec i : Nat) (v : Word) : Dev :=
  let k := f.val * 64 + vec
  let old := SMap.get msixReset d.host.msix k
  let ws := ((List.range 4).map (fun j => old.extractLsb' (32 * j) 32)).set i (if i = 3 then v &&& 1 else v)
  let e := BitVec.ofNat 128 (ofLe (ws.flatMap (fun w => leBytes 4 w.toNat)))
  ({ d with host := { d.host with msix := SMap.set msixReset d.host.msix k e } }).unmask f vec

/-- A 32-bit write of BAR0 by a function (Table 12.5); one to a reserved or read-only offset is discarded. -/
def Dev.bar0Write (d : Dev) (f : Func) (off : Nat) (v : Word) : Dev :=
  if 0x100 ≤ off ∧ off < 0x200 then
    (let a := Blk.mbx.base + f.val * Blk.mbx.stride + off
     match regAt a with
     | some r => d.writeFound a r v
     | none => d)
  else if off = 0x1000 then cmdDoorbell f v d
  else if off = 0x1004 then cplDoorbell f v d
  else if off = 0x1008 then resDoorbell f v d
  else if 0x2000 ≤ off ∧ off < 0x2000 + 16 * vectors f then d.msixWrite f ((off - 0x2000) / 16) (off % 16 / 4) v
  else if 0x3000 ≤ off ∧ off < 0x3400 ∧ off % 16 = 8 then
    d.lockRelease ⟨(off - 0x3000) / 16 % 64, Nat.mod_lt _ (by decide)⟩ (ownerId (.fn f)) (bit v 0)
  else if f = pf ∧ 0x4100 ≤ off ∧ off < 0x4120 then
    { d with host := { d.host with vfVec := d.host.vfVec.set (fin8 (off % 32 / 4)) (bits v 5 0) } }
  else d

/-! ### The access -/

/-- Whether BAR0 accepts an access: aligned, of 32 or 64 bits (R370). -/
def barFits (a : Bar0Access) : Bool := (a.size == 4 || a.size == 8) && a.off % a.size == 0

/-- The words of an access, the lower address first (R370). -/
def barWords (a : Bar0Access) : List Nat := (List.range (a.size / 4)).map (fun i => a.off + 4 * i)

/-- Reads of several words of BAR0, in order. -/
def Dev.bar0Reads (d : Dev) (f : Func) : List Nat → List Byte × Dev
  | [] => ([], d)
  | off :: t =>
    let (w, d) := d.bar0Read f off
    let (l, d) := d.bar0Reads f t
    (leBytes 4 w.toNat ++ l, d)

/-- An access that BAR0 accepts (R370, Table 12.5). -/
def Dev.bar0Do (d : Dev) (a : Bar0Access) : Dev := match a.write with
  | some v => d.forEach (barWords a) (fun off d => d.bar0Write a.func off (BitVec.ofNat 32 (v / 2 ^ (8 * (off - a.off)))))
  | none =>
    let (b, d) := d.bar0Reads a.func (barWords a)
    d.emit (.barData a.func b)

/-- BAR0_BAD_ACCESS (R370): an access that BAR0 does not accept completes as Unsupported Request, or is discarded if it is a write, and counts in
HST_BAR_ERR. One that it accepts is served. With the link down, the HOST domain not on, or an offset outside the function's BAR0, no access reaches
the function. -/
def bar0Access (a : Bar0Access) (d : Dev) : Dev :=
  if !d.host.linkUp ∨ !d.domOn 30 ∨ barSize a.func 0 < a.off + a.size then d
  else if barFits a then d.bar0Do a
  else
    let d := d.bump R.HST_BAR_ERR F.HST_BAR_ERR_ERR
    match a.write with
    | some _ => d
    | none => d.emit (.barError a.func)

/-- BAR0_BAD_ACCESS. -/
def execBar0BadAccess (a : Bar0Access) (s : State) : Host.Outcome State Fault Refusal := devStep s (bar0Access a)

end Sys2Proof.Machine
end

