-- ==== Sys2Proof/Machine/Inspect.lean ====
section
/-!
DEFINITION. The Faults and test commands and the Diagnostics commands (Tables 13.17, 13.18; R359 to R361, R405, R494, R502, R503).
-/
namespace Sys2Proof.Machine

/-! ### Faults -/

/-- FAULT_STATUS (Table 13.17). -/
def faultStatus (_ : Cmd) (d : Dev) : Reply Dev := done d d.lastSeq (BitVec.ofNat 64 d.led.log.length)

/-- FAULT_STATUS. -/
def execFaultStatus (c : Cmd) (s : State) : Host.Outcome State Fault Refusal := cmdStep { op := 0x0D00, rights := .any } faultStatus c s

/-- FAULT_LOG_READ's row. -/
def specLogRead : CmdSpec := { op := 0x0D01, rights := .own, used := params 0 5, buffer := true }

/-- FAULT_LOG_READ (R503): records from a sequence number on; a VF receives those that name its parcel. -/
def faultLogRead (c : Cmd) (d : Dev) : Reply Dev :=
  match inputOf c with
  | none => dmaError
  | some _ =>
    let f := d.actsFor c.issuer
    let mine (r : FltRec) : Bool := f == pf || (match d.parcelOf f with
      | some q => r.parcel == q.val
      | none => false)
    let l := (d.led.log.filter (fun r => decide (c.pn 0 4 ≤ r.seq) && mine r)).take (min (c.pn 4 2) (c.bufLen / 64))
    done (d.toBuffer c (l.flatMap FltRec.bytes)) (BitVec.ofNat 64 l.length)

/-- FAULT_LOG_READ. -/
def execFaultLogRead (c : Cmd) (s : State) : Host.Outcome State Fault Refusal := cmdStep specLogRead faultLogRead c s

/-- The registers of a block code and instance of COUNTERS_READ: blocks, instance and the offsets that belong to it. -/
def counterBlocks (code inst : Nat) : List (Block × Nat × (Nat → Bool)) :=
  let every : Nat → Bool := fun _ => true
  match code with
  | 1 => [(Blk.gal, inst, fun o => decide (o < 0x5800))]
  | 2 => [(Blk.dns, inst, every)]
  | 3 => [(Blk.gal, inst, fun o => decide (0x5800 ≤ o) && decide (o < 0x7000))]
  | 4 => [(Blk.gal, inst, fun o => decide (0x7000 ≤ o))]
  | 5 => [(Blk.msh, 0, every)]
  | 6 => [(Blk.pcl, inst, every)]
  | 7 => [(Blk.int, inst, every)]
  | 8 => [(Blk.egr, 0, every)]
  | 9 => [(Blk.trv, inst, every)]
  | 10 => [(Blk.stk, inst, every)]
  | 11 => [(Blk.scp, 0, every)]
  | 12 => [(Blk.hst, 0, every), (Blk.mbx, 0, every), (Blk.mbx, 1, every), (Blk.mbx, 2, every), (Blk.mbx, 3, every), (Blk.mbx, 4, every),
           (Blk.mbx, 5, every), (Blk.mbx, 6, every), (Blk.mbx, 7, every), (Blk.mbx, 8, every), (Blk.lck, 0, every)]
  | 13 => [(Blk.clk, 0, every), (Blk.dat, 0, every)]
  | _ => []

/-- How many instances a block code has. -/
def counterInstances (code : Nat) : Nat :=
  if code = 1 ∨ code = 2 ∨ code = 3 ∨ code = 4 ∨ code = 6 then 8
  else if code = 7 then 16
  else if code = 9 then 6
  else if code = 10 then 4
  else if code = 0 ∨ 13 < code then 0
  else 1

/-- Steps 4 and 7 of Table 13.1 on a block code and an instance. -/
def Dev.onBlock (d : Dev) (c : Cmd) (r : Reply Dev) : Reply Dev :=
  let b := c.p 0
  let i := c.p 1
  if counterInstances b = 0 then refused .range 0
  else if counterInstances b ≤ i then refused .range 1
  else if (b = 7 ∧ !bit d.fus.ports i) ∨ (b = 9 ∧ !bit d.fus.links i) ∨ (b = 10 ∧ !bit d.fus.stks i)
      ∨ ((b = 1 ∨ b = 2 ∨ b = 3 ∨ b = 4) ∧ d.withheld i) then refused .absent i
  else r

/-- COUNTERS_READ's row. -/
def specCounters (op : Nat) (buffer : Bool) : CmdSpec := { op := op, rights := .own, names := .block, used := params 0 1, buffer := buffer }

/-- COUNTERS_READ (R397): counters and status registers; never a table, and so never dark storage (R128). -/
def countersRead (c : Cmd) (d : Dev) : Reply Dev := d.onBlock c (
  let as := (counterBlocks (c.p 0) (c.p 1)).flatMap (fun x => x.1.addrs x.2.1 (fun r => r.cls != .ctl && x.2.2 r.off))
  let (es, d) := d.readRegs as
  report c d 0 es)

/-- COUNTERS_READ. -/
def execCountersRead (c : Cmd) (s : State) : Host.Outcome State Fault Refusal := cmdStep (specCounters 0x0D02 true) countersRead c s

/-- Clears the counters of a block instance within its offsets. -/
def Dev.clearBlock (d : Dev) (x : Block × Nat × (Nat → Bool)) : Dev :=
  d.clearRegs (fun r => r.block.base == x.1.base && r.inst == x.2.1 && x.2.2 r.spec.off && (match r.spec.cls with
    | .cnt _ => true
    | _ => false))

/-- COUNTERS_CLEAR. The Gallery fault registers are cleared by resets alone (Table 18.12), and stand. -/
def countersClear (c : Cmd) (d : Dev) : Reply Dev := d.onBlock c (
  let hits := d.reg (R.GAL_DEAD_HIT (fin8 (c.p 1)))
  let d' := d.forEach (counterBlocks (c.p 0) (c.p 1)) (fun x d => d.clearBlock x)
  done (if c.p 0 = 1 then d'.setReg (R.GAL_DEAD_HIT (fin8 (c.p 1))) hits else d'))

/-- COUNTERS_CLEAR. -/
def execCountersClear (c : Cmd) (s : State) : Host.Outcome State Fault Refusal := cmdStep (specCounters 0x0D03 false) countersClear c s

/-! ### Budgets -/

/-- The first field of FAULT_SET_BUDGET outside its range (Table 18.2). -/
def budgetBad (c : Cmd) : Option Nat :=
  match c.p 0 with
  | 1 => if c.p 4 < 10 then some 4 else none
  | 2 => if 4095 < c.pn 5 2 then some 5 else if c.p 7 = 0 ∨ 15 < c.p 7 then some 7 else if 63 < c.pn 8 2 then some 8 else none
  | 3 => if 15 < c.p 4 then some 4 else if 15 < c.p 5 then some 5 else if 15 < c.pn 8 2 then some 8 else none
  | 4 => if 15 < c.p 4 then some 4 else if c.pn 8 2 ≠ 0 then some 8 else none
  | 5 => if c.p 4 = 0 ∨ 15 < c.p 4 then some 4 else if 255 < c.pn 8 2 then some 8 else none
  | _ => some 0

/-- The channels of a class that a budget mask names. -/
def maskList (m n : Nat) : List Nat := (List.range n).filter (fun i => m.testBit i)

/-- A named channel that is not there. -/
def Dev.budgetAbsent (d : Dev) (cls mask : Nat) : Option Nat :=
  match cls with
  | 1 => (maskList mask 16).find? (fun i => !bit d.fus.ports i)
  | 2 => (maskList mask 6).find? (fun i => !bit d.fus.links i)
  | 3 => (maskList mask 4).find? (fun i => !bit d.fus.stks i)
  | 5 => (maskList mask 8).find? (fun i => d.withheld i)
  | _ => none

/-- Writes the budget of one class into its channels (R494). -/
def Dev.writeBudget (d : Dev) (c : Cmd) : Dev :=
  let m := c.pn 8 2
  match c.p 0 with
  | 1 => d.forEach (maskList m 16) (fun p d => (d.needDom (20 + p / 4)).setReg (R.INT_RETRY_CFG p)
      (BitVec.ofNat 32 (c.p 4 + c.p 6 * 2 ^ 8 + c.p 5 * 2 ^ 16)))
  | 2 => d.forEach (maskList m 6) (fun k d => (d.needDom (24 + k)).setReg (R.TRV_RETRY_CFG k)
      (BitVec.ofNat 32 (c.p 4 + c.pn 5 2 * 2 ^ 8 + c.p 7 * 2 ^ 20)))
  | 3 => d.forEach (maskList m 4) (fun s d => (d.needDom (31 + s)).setReg (R.STK_RET_CFG s)
      (BitVec.ofNat 32 (c.p 4 + c.p 5 * 2 ^ 4 + c.p 7 * 2 ^ 8 + c.p 6 * 2 ^ 16)))
  | 4 => d.setReg R.SCP_RET_CFG (BitVec.ofNat 32 (c.p 4))
  | 5 => d.forEach (maskList m 8) (fun g d => d.onGal (fin8 g) (fun d => d.setReg (R.GAL_FLT_CFG g)
      (BitVec.ofNat 32 (c.p 4 + c.p 5 * 2 ^ 8 + c.p 6 * 2 ^ 16 + c.p 7 * 2 ^ 24))))
  | _ => d

/-- FAULT_SET_BUDGET's row. -/
def specSetBudget : CmdSpec := { op := 0x0D04, rights := .pf, used := params 0 0 ++ params 4 15 }

/-- FAULT_SET_BUDGET (R494, Table 18.2). -/
def faultSetBudget (c : Cmd) (d : Dev) : Reply Dev :=
  match d.budgetAbsent (c.p 0) (c.pn 8 2) with
  | some i => refused .absent i
  | none => match budgetBad c with
    | some i => refused .range i
    | none => done (d.writeBudget c)

/-- FAULT_SET_BUDGET. -/
def execFaultSetBudget (c : Cmd) (s : State) : Host.Outcome State Fault Refusal := cmdStep specSetBudget faultSetBudget c s

/-! ### Memories -/

/-- The region registers of a stack region. -/
def regionRegs (s r : Nat) : List Nat :=
  [R.STK_RGN_BASE s r, R.STK_RGN_LIM s r, R.STK_RGN_WM s r, R.STK_RGN_FILL s r, R.STK_RGN_CTL s r, R.STK_RGN_UNW s r]

/-- What MEM_STATUS reports to a function: its parcel's regions to a VF, everything but the master regions to the PF (R361). -/
def Dev.memRegs (d : Dev) (f : Func) : List Nat :=
  let fitted := (List.range 4).filter (fun s => bit d.fus.stks s)
  if f = pf then fitted.flatMap (fun s => Blk.stk.addrs s (fun _ => true)) ++ Blk.scp.addrs 0 (fun r => decide (r.off < 0x800))
  else match d.parcelOf f with
    | none => []
    | some q => fitted.flatMap (fun s => (regions.filter (fun r => d.rgnValid s r && d.rgnOwner s r == q.val)).flatMap (fun r => regionRegs s r))

/-- MEM_STATUS's row. -/
def specMemStatus : CmdSpec := { op := 0x0D20, rights := .own, buffer := true }

/-- MEM_STATUS (R361). -/
def memStatus (c : Cmd) (d : Dev) : Reply Dev :=
  let (es, d) := d.readRegs (d.memRegs (d.actsFor c.issuer))
  report c d 0 es

/-- MEM_STATUS. -/
def execMemStatus (c : Cmd) (s : State) : Host.Outcome State Fault Refusal := cmdStep specMemStatus memStatus c s

/-- Whether a march target is not there: a stack that is not fitted, a withheld Gallery. -/
def Dev.targetAbsent (d : Dev) : MarchTarget → Option Nat
  | .stack s => if bit d.fus.stks s.val then none else some s.val
  | .gallery g => if d.withheld g.val then some g.val else none
  | .scratchpad => none

/-- The domain of a march target. -/
def MarchTarget.dom : MarchTarget → Option Nat
  | .stack s => some (31 + s.val)
  | .gallery g => some (4 + g.val)
  | .scratchpad => none

/-- MEM_TEST's row. -/
def specMemTest : CmdSpec := { op := 0x0D21, rights := .pf, used := params 0 1 }

/-- MEM_TEST (R359). It completes when the march engine is done. -/
def memTest (c : Cmd) (d : Dev) : Reply Dev :=
  match marchTarget (c.p 0) with
  | none => refused .range 0
  | some t => match d.targetAbsent t with
    | some i => refused .absent i
    | none =>
      let pre := c.p 1 == 1
      if 1 < c.p 1 then refused .range 1
      else if !formAllowed t pre then refused .range 1
      else if d.march.isSome then busy 0
      else
        let d := match t.dom with
          | some i => d.needDom i
          | none => d
        match d.marchBlocked t pre with
        | some code => busy code
        | none => .hold (d.startMarch (c.p 0) pre) (.memTest (c.p 0))

/-- MEM_TEST. -/
def execMemTest (c : Cmd) (s : State) : Host.Outcome State Fault Refusal := cmdStep specMemTest memTest c s

/-- A command that waits for a march of a target. -/
def Wait.isMarch (t : Nat) : Wait → Bool
  | .memTest u => u == t
  | _ => false

/-- MARCH_DONE: the march engine finishes; a MEM_TEST that waits completes with SCP_MT_STAT and SCP_MT_FAIL (R359, R360). -/
def marchEnds (r : MarchResult) (m : Mach) : Mach :=
  match m.dev.march with
  | none => m
  | some run =>
    let m := marchDone r m
    let d := m.dev
    { m with dev := d.release (Wait.isMarch run.target) .ok ((d.reg R.SCP_MT_STAT).setWidth 64) ((d.reg R.SCP_MT_FAIL).setWidth 64) 0 }

/-- MARCH_DONE. -/
def execMarchDone (r : MarchResult) (s : State) : Host.Outcome State Fault Refusal := memStep s (marchEnds r)

/-- MEM_FILL's row. -/
def specMemFill : CmdSpec := { op := 0x0D22, rights := .own, names := .region, used := params 0 1 ++ params 4 7 }

/-- MEM_FILL (R345, R361). It completes when the fill engine is done. -/
def memFill (c : Cmd) (d : Dev) : Reply Dev :=
  let s := c.p 0
  let r := c.p 1
  if 4 ≤ s then refused .range 0
  else if !bit d.fus.stks s then refused .absent s
  else if 16 ≤ r ∨ !d.rgnValid s r then refused .range 1
  else if d.rgnHi s r < c.pn 4 4 then refused .range 4
  else
    let d := d.needDom (31 + s)
    if !d.stackReady (fin4 s) then busy (d.stk (fin4 s)).st.code
    else .hold ((d.setRf (R.STK_RGN_FILL s r) F.STK_RGN_FILL_FILL_TO (c.pn 4 4)).startFill (fin4 s) (fin16 r)) (.memFill (fin4 s) r)

/-- MEM_FILL. -/
def execMemFill (c : Cmd) (s : State) : Host.Outcome State Fault Refusal := cmdStep specMemFill memFill c s

/-- A command that waits for a fill. -/
def Wait.isFill (s : Fin 4) (r : Nat) : Wait → Bool
  | .memFill t q => t == s && q == r
  | _ => false

/-- FILL_COMPLETE: the fill engine reaches FILL_TO; a MEM_FILL that waits completes (R345). -/
def fillEnds (k : Fin 4) (r : Fin 16) (m : Mach) : Mach :=
  let m := fillComplete k r m
  { m with dev := m.dev.release (Wait.isFill k r.val) .ok 0 0 0 }

/-- FILL_COMPLETE. -/
def execFillComplete (k : Fin 4) (r : Fin 16) (s : State) : Host.Outcome State Fault Refusal := memStep s (fillEnds k r)

/-- MEM_SET_BG's row. -/
def specMemSetBg : CmdSpec := { op := 0x0D23, rights := .pf, used := params 0 3 }

/-- MEM_SET_BG (R357; a stack's interval is 10 µs or more). -/
def memSetBg (c : Cmd) (d : Dev) : Reply Dev :=
  let n := c.pn 2 2
  if 4 < c.p 0 then refused .range 0
  else if 1 ≤ c.p 0 ∧ !bit d.fus.stks (c.p 0 - 1) then refused .absent (c.p 0 - 1)
  else if 1 < c.p 1 then refused .range 1
  else if c.p 0 = 0 then
    done ((d.setRf R.SCP_CTL F.SCP_CTL_BG_EN (c.p 1)).setRf R.SCP_BG_CFG F.SCP_BG_CFG_BG_INTERVAL n)
  else if n < 10 then refused .range 2
  else
    let s := c.p 0 - 1
    done (((d.needDom (31 + s)).setRf (R.STK_CTL s) F.STK_CTL_BG_EN (c.p 1)).setRf (R.STK_BG_CFG s) F.STK_BG_CFG_BG_INTERVAL n)

/-- MEM_SET_BG. -/
def execMemSetBg (c : Cmd) (s : State) : Host.Outcome State Fault Refusal := cmdStep specMemSetBg memSetBg c s

/-! ### Diagnostics -/

/-- A Diagnostics row: Own, in lab mode (R405). -/
def specDiag (op : Nat) (used : List (Nat × Nat)) : CmdSpec :=
  { op := op, rights := .own, names := .parcel, used := params 0 0 ++ used, buffer := true }

/-- Steps 6 and 7 of Table 13.1 of a Diagnostics command: the mode, and the Gallery in P0. -/
def Dev.onDiag {σ : Type} (d : Dev) (c : Cmd) (r : Fin 8 → Reply σ) : Reply σ :=
  if !d.boot.lab then refused .mode
  else if 8 ≤ c.p 0 ∨ d.parcelAt (c.p 0) ≠ some c.parcel then refused .range 0
  else r (fin8 (c.p 0))

/-- DIAG_TAP (Table 13.18). -/
def diagTap (c : Cmd) (d : Dev) : Reply Dev := d.onDiag c (fun g =>
  if 131072 ≤ c.pn 4 4 then refused .range 4
  else if 131072 ≤ c.pn 8 4 ∨ c.pn 8 4 < c.pn 4 4 then refused .range 8
  else match inputOf c with
    | none => dmaError
    | some _ =>
      if c.bufLen < 8 ∨ c.pn 12 2 = 0 then done d
      else
        let t : Tap := { issuer := c.issuer, idx := c.idx, tag := c.tag, gallery := g.val, lo := c.pn 4 4, hi := c.pn 8 4,
                         left := c.pn 12 2, room := c.bufLen / 8 }
        .hold { d with taps := d.taps ++ [t] } (.tap c.issuer c.idx))

/-- DIAG_TAP. -/
def execDiagTap (c : Cmd) (s : State) : Host.Outcome State Fault Refusal := cmdStep (specDiag 0x0E00 (params 4 13)) diagTap c s

/-- The memories of DIAG_READ: bytes of a word, and how many words a Gallery holds. Ring slots are numbered 16 × neuron + slot
(the model's own). -/
def diagWidth (mem : Nat) : Nat := if mem = 0 ∨ mem = 2 then 8 else if mem = 1 then 2 else 4

/-- Words of a memory. -/
def diagLimit (mem : Nat) : Nat := if mem = 0 then 131072 else if mem = 1 then 2097152 else if mem = 2 then 262144 else 12582912

/-- The first offending parameter of DIAG_READ and DIAG_WRITE. -/
def diagBad (c : Cmd) : Option Nat :=
  if 4 < c.p 1 then some 1
  else if c.pn 8 4 = 0 ∨ 65536 < c.pn 8 4 then some 8
  else if diagLimit (c.p 1) < c.pn 4 4 + c.pn 8 4 then some 4
  else none

/-- One word as the readout port returns it, ECC bits apart. An uncorrectable axon entry has no value: it is free. -/
def Dev.diagWord (d : Dev) (g : Fin 8) (mem i : Nat) : Nat × Dev :=
  match mem with
  | 0 =>
    let (w, d) := d.readState g i
    ((w.getD (SMap.get 0 (d.gal g).state i)).toNat, d)
  | 1 =>
    let d := d.touchRing g (i % 16) (i / 16)
    ((SMap.get 0 (d.gal g).ring (slotKey (i % 16) (i / 16))).toNat, if (d.gal g).ringInit then d else d.unwritten g (i / 16))
  | 2 => (match d.readAxon g i with
    | (some w, d) => (w.toNat, d)
    | (none, d) =>
      let (v, d) := d.fresh 64
      (v.toNat, d))
  | _ =>
    let (w, d) := d.readSyn g i
    ((w.getD ((d.gal g).synWord i)).toNat, d)

/-- The words of a span, as bytes. -/
def Dev.diagWords (d : Dev) (g : Fin 8) (mem : Nat) : List Nat → List Byte × Dev
  | [] => ([], d)
  | i :: t =>
    let (w, d) := d.diagWord g mem i
    let (l, d) := Dev.diagWords d g mem t
    (leBytes (diagWidth mem) w ++ l, d)

/-- DIAG_READ (Table 13.18): the words that fit whole. -/
def diagRead (c : Cmd) (d : Dev) : Reply Dev := d.onDiag c (fun g =>
  match diagBad c with
  | some i => refused .range i
  | none => match inputOf c with
    | none => dmaError
    | some _ =>
      let n := min (c.pn 8 4) (c.bufLen / diagWidth (c.p 1))
      let (b, d) := (d.needDom (4 + g.val)).diagWords g (c.p 1) ((List.range n).map (fun k => c.pn 4 4 + k))
      done (d.toBuffer c b))

/-- DIAG_READ. -/
def execDiagRead (c : Cmd) (s : State) : Host.Outcome State Fault Refusal := cmdStep (specDiag 0x0E01 (params 1 1 ++ params 4 11)) diagRead c s

/-- The dark check that a diagnostic write of words from index `i` breaks (R126, R420): checks 1 to 5, and check 6 for an axon that it makes
dark. -/
def Mach.diagCheck (m : Mach) (g : Fin 8) (mem i : Nat) (ws : List Nat) : Option Nat :=
  let k := m.dev.darkMap g
  if mem = 2 then
    ((List.range ws.length).zip ws).findSome? (fun x =>
      let e := BitVec.ofNat 64 x.2
      let l := m.listOf g e (fun _ => none)
      match k.axonCheck (i + x.1) e l.1 l.2 with
      | some n => some n
      | none => if fget axDark e = 1 ∧ m.dev.delayReaches g (i + x.1) = true then some 6 else none)
  else if 3 ≤ mem then
    let new (j : Nat) : Option Word := if i ≤ j then (ws[j - i]?).map (BitVec.ofNat 32) else none
    (m.dev.gal g).axons.findSome? (fun x =>
      let lo := fget axBase x.2
      let hi := lo + fget axCount x.2 + fget axHead x.2
      if fget axCold x.2 = 0 ∧ lo < i + ws.length ∧ i < hi then
        let l := m.listOf g x.2 new
        k.axonCheck x.1 x.2 l.1 l.2
      else none)
  else none

/-- Writes one word. Bits [3:0] of a state word read 0 (Table 2.5). A ring slot's occupancy bit follows its value (the model's own). -/
def Dev.diagPut (d : Dev) (g : Fin 8) (mem i w : Nat) : Dev :=
  match mem with
  | 0 => if d.isDead g i then d.bump (R.GAL_DEAD_HIT g) F.GAL_DEAD_HIT_HIT else d.putState g i (BitVec.ofNat 64 (w / 16 * 16))
  | 1 => d.updGal g (fun x => (x.putSlot (i % 16) (i / 16) (sext 16 w) (w % 65536 != 0)).clean .ring (4 * (i / 16) + i % 16 / 4))
  | 2 => d.putAxon g i (BitVec.ofNat 64 w)
  | _ => d.updGal g (fun x => x.putSyn i (BitVec.ofNat 32 w))

/-- The numbers that a buffer's words spell. -/
def wordList (b : List Byte) (width n : Nat) : List Nat := (List.range n).map (fun i => leAt b (width * i) width)

/-- DIAG_WRITE (Table 13.18, R126, R406): the parcel is LOADED; a refusal of the checker is counted and faulted, and writes nothing. -/
def diagWrite (c : Cmd) (m : Mach) : Reply Mach := m.dev.onDiag c (fun g =>
  match diagBad c with
  | some i => refused .range i
  | none =>
    if c.bufLen < c.pn 8 4 * diagWidth (c.p 1) then refused .range 8
    else if (m.dev.pcl c.parcel).st ≠ .loaded then busy (m.dev.pcl c.parcel).st.code
    else match inputOf c with
      | none => dmaError
      | some b =>
        let m : Mach := { m with dev := m.dev.needDom (4 + g.val) }
        let ws := wordList b (diagWidth (c.p 1)) (c.pn 8 4)
        match m.diagCheck g (c.p 1) (c.pn 4 4) ws with
        | some k => .finish { m with dev := m.dev.darkDropped g k } .darkViolation 0 0 (detail .check g k)
        | none => done { m with dev := m.dev.forEach ((List.range ws.length).zip ws) (fun x d => d.diagPut g (c.p 1) (c.pn 4 4 + x.1) x.2) })

/-- DIAG_WRITE. -/
def execDiagWrite (c : Cmd) (s : State) : Host.Outcome State Fault Refusal := machStep (specDiag 0x0E02 (params 1 1 ++ params 4 11)) diagWrite c s

end Sys2Proof.Machine
end

