-- ==== Sys2Proof/Machine/Tick.lean ====
section
/-!
DEFINITION. The tick turn (Table 1.3, R42 to R45).
-/
namespace Sys2Proof.Machine

/-- Step 4: the late events of an ingress sub-queue are retired (R171, R172). -/
def Dev.retireSub (d : Dev) (g : Fin 8) (q : Nat) : Dev :=
  let l := (d.gal g).sub q
  let keep := l.filter (fun e => !d.late g e)
  (d.countLate g q (l.length - keep.length)).updGal g (fun x => x.setSub q keep)

/-- Step 4: late events of the sub-queues and of the router delay queue are retired (R171, Table 5.8). -/
def Dev.retireLate (d : Dev) (g : Fin 8) : Dev :=
  let d := d.forEach [0, 1, 2, 3] (fun q d => d.retireSub g q)
  let l := (d.gal g).delayQ
  let keep := l.filter (fun e => decide (d.tick ≤ e.1 + d.grace g))
  (d.countLate g 2 (l.length - keep.length)).updGal g (fun x => { x with delayQ := keep })

/-- Step 7 at one neuron: its current slot is integrated and the fire check runs (R76, R541); where the state word is uncorrectable the
slot's sum is discarded and the slot cleared (R84). -/
def Dev.slotNeuron (d : Dev) (g : Fin 8) (n : Nat) : Dev :=
  if !(d.gal g).fans ∨ !((d.gal g).occupied (d.tick % 16) n) then d
  else match d.openState g n with
    | (none, d) => d.updGal g (fun x => x.putSlot (d.tick % 16) n 0 false)
    | (some (w, mo), d) =>
      let (w, d) := d.takeSlot g n mo w
      d.putState g n w

/-- Step 7: the new current slot, in neuron order (R67, R541); its plane of the slot bitmap is read first. -/
def Dev.slotStep (d : Dev) (g : Fin 8) : Dev :=
  if !(d.gal g).fans then d
  else
    let d := d.touchMaps g (fun i => i / 2048 == d.tick % 16)
    d.forEach (((d.gal g).occupiedSlots.filter (fun e => e.1 == d.tick % 16)).map (·.2)) (fun n d => d.slotNeuron g n)

/-- A Gallery's and its plane's part of the tick turn (Table 1.3 steps 3 to 7; R223, R131). -/
def Dev.galTurn (d : Dev) (g : Fin 8) : Dev :=
  let d := d.lowerFences g
  let d := d.closeTallies g
  if d.domOn (4 + g.val) then
    (if (d.gal g).resume.isSome then (d.countSnapshot g).retireLate g else ((d.countSnapshot g).retireLate g).slotStep g)
  else d

/-- Whether one of a parcel's trunk pools is full. -/
def Dev.poolFullNow (d : Dev) (q : Fin 8) : Bool :=
  (List.finRange 4).any (fun c =>
    let n (l : List Nat) : Nat := (l.filter (· == q.val)).length
    decide (0 < d.trunkPool q c.val ∧ (d.trunkPool q c.val ≤ n (d.hubs[c].out.map (·.1)) ∨ d.trunkPool q c.val ≤ n (d.hubs[c].inb.map (·.1)))))

/-- Counts a tick in which one of a parcel's pools was full (PCL_CNT.POOLFULL); a pool still full is full in the new tick. -/
def Dev.poolTick (d : Dev) (q : Fin 8) : Dev :=
  let now := d.poolFullNow q
  let d := if (d.pcl q).poolFull ∨ now then d.bump (R.PCL_CNT q) F.PCL_CNT_POOLFULL else d
  d.updPcl q (fun p => { p with poolFull := now })

/-- A follower that adopts the group's count does so at its turn (R45, R329); one that is back in FOLLOW slews no more. -/
def Dev.adoptCount (d : Dev) : Dev :=
  let d := { d with grp := { d.grp with turnAt := none, slewing := d.grp.slewing && (d.dat.st == TimeSt.holdover) } }
  match d.grp.adopt with
  | some c => { (d.updDat (fun t => { t with tick := c % 2 ^ 48 })) with grp := { d.grp with adopt := none } }
  | none => d

/-- TICK_TURN: the turn marker and every block's steps (Table 1.3); the sweeps of steps 9 and 10, the releases of step 6 and the epoch
and period ends have rows of their own. -/
def tickTurn (dt : Nat) (errs : List (Fin 8 × EccErr)) (d : Dev) : Dev :=
  let d := d.advance dt
  let d := d.forEach errs (fun e d => d.corrupt e.1 [e.2])
  let d := d.datumTurn.adoptCount
  let d := d.forEach (List.finRange 8) (fun g d => d.galTurn g)
  let d := d.forEach (List.finRange 16) (fun p d => d.portTurn p)
  (d.forEach (List.finRange 8) (fun q d => d.poolTick q)).tapTick

/-- TICK_TURN. -/
def execTickTurn (dt : Nat) (errs : List (Fin 8 × EccErr)) (s : State) : Host.Outcome State Fault Refusal := devStep s (tickTurn dt errs)

end Sys2Proof.Machine
end

