-- ==== Sys2Proof/Machine/Group.lean ====
section
/-!
DEFINITION. Survey groups: formation and dissolution, group time, routes after a retirement, rejoining; the Group and link commands
(10_traverse_links.md R316 to R332, Table 13.14).
-/
namespace Sys2Proof.Machine

/-- Sets the group state. -/
def Dev.setGrpSt (d : Dev) (st leader : Nat) : Dev :=
  (d.setRf R.TRV_GRP_STAT F.TRV_GRP_STAT_STATE st).setRf R.TRV_GRP_STAT F.TRV_GRP_STAT_LEADER leader

/-- Changes the group's state beside its registers. -/
def Dev.updGrp (d : Dev) (f : Group → Group) : Dev := { d with grp := f d.grp }

/-- The Datum block goes back to its own source: ACQUIRE, or FREE where no source is selected (R36, R322). -/
def Dev.ownSource (d : Dev) : Dev :=
  if d.src = 0 then
    d.updDat (fun t => { t with st := .free, reason := 0, held := none, stepPend := false, pend := none, accept := false,
                                run := [], recent := [], lastMeasured := none, err := 0, entryQual := 2 })
  else d.enterAcquire

/-- The chip returns to SINGLE: its routing table keeps only its local entry and COMMIT is 0; `datum` says that its Datum block takes up its
own source (R321, R322). -/
def Dev.toSingle (d : Dev) (datum : Bool) : Dev :=
  let d := (d.setGrpSt 0 d.selfChip).setRf R.TRV_GRP_CTL F.TRV_GRP_CTL_COMMIT 0
  let d := d.setRf R.TRV_SYNC_CFG F.TRV_SYNC_CFG_FWD 0
  let d := d.updGrp (fun g => { coordSet := g.coordSet, lockTries := g.lockTries })
  let d := d.writeRoutes.renameLeaders
  if datum then d.ownSource else d

/-- Whether the Datum block follows the group's markers. -/
def Dev.follows (d : Dev) : Bool := d.dat.st == .follow || d.grpSt == 3

/-! ### Commands of the group -/

/-- GROUP_STATUS's row. -/
def specGroupStatus : CmdSpec := { op := 0x0A00, rights := .any, buffer := true }

/-- GROUP_STATUS (R318): the group block's registers. -/
def groupStatus (c : Cmd) (d : Dev) : Reply Dev :=
  let r0 := (d.peek R.TRV_GRP_STAT).setWidth 64
  let (es, d) := d.readRegs (Blk.grp.addrs 0 (fun _ => true))
  report c d r0 es

/-- GROUP_STATUS. -/
def execGroupStatus (c : Cmd) (s : State) : Host.Outcome State Fault Refusal := cmdStep specGroupStatus groupStatus c s

/-- GROUP_SET_COORD's row. -/
def specSetCoord : CmdSpec := { op := 0x0A01, rights := .pf, used := params 0 6 }

/-- The first parameter of GROUP_SET_COORD out of range: coordinates 0 to 3, sizes 1 to 4, MODE 0 or 1. -/
def coordBad (c : Cmd) : Option Nat :=
  (List.range 7).find? (fun i => if i < 3 then decide (3 < c.p i) else if i < 6 then c.p i == 0 || decide (4 < c.p i) else decide (1 < c.p i))

/-- GROUP_SET_COORD (R320, R477): coordinate, sizes and mode, in SINGLE alone; the Ledger keeps them. -/
def groupSetCoord (c : Cmd) (d : Dev) : Reply Dev :=
  match coordBad c with
  | some i => refused .range i
  | none =>
    if d.grpSt ≠ 0 then busy d.grpSt
    else if !c.env.ledgerOk then .refuse .ledgerError 0
    else
      let x : Coord := { x := c.p 0, y := c.p 1, z := c.p 2, sx := c.p 3, sy := c.p 4, sz := c.p 5, edge := c.p 6 == 1 }
      done ((d.updLed (fun l => { l with coord := some x })).setCoord x)

/-- GROUP_SET_COORD. -/
def execGroupSetCoord (c : Cmd) (s : State) : Host.Outcome State Fault Refusal := cmdStep specSetCoord groupSetCoord c s

/-- Sends a group message to every other chip of the sizes. -/
def Dev.tellAll (d : Dev) (b : GrpBody) : Dev := d.forEach d.others (fun x d => d.sendGrp x b)

/-- Sends a turn marker on a link to the neighbour there (R327). -/
def Dev.sendMarker (d : Dev) (k : Fin 6) (count qual depth rem : Nat) : Dev :=
  d.sendMsg k { typ := 0x40, src := BitVec.ofNat 6 d.selfChip, dst := BitVec.ofNat 6 (d.expected d.selfChip k.val).1, tag := 0,
                arg := BitVec.ofNat 64 (count % 2 ^ 48 + qual % 4 * 2 ^ 48 + depth % 256 * 2 ^ 56),
                data := leBytes 4 rem ++ List.replicate 12 0 }

/-- The links to forward markers on. -/
def Dev.fwdLinks (d : Dev) : List (Fin 6) := (List.finRange 6).filter (fun k => (d.rf R.TRV_SYNC_CFG F.TRV_SYNC_CFG_FWD).testBit k.val)

/-- The leader's marker for its next turn, LEAD before it (R327). -/
def Dev.leadMarker (d : Dev) : Dev :=
  d.forEach d.fwdLinks (fun k d => d.sendMarker k (d.dat.tick + 1) d.dat.quality 0 (d.rf R.TRV_SYNC_CFG F.TRV_SYNC_CFG_LEAD * 8))

/-- Routes, marker tree and COMMIT of a chip that is in its group (Table 10.10 steps 5 and 7). -/
def Dev.commitGroup (d : Dev) : Dev :=
  let d := (d.writeRoutes.renameLeaders).setRf R.TRV_SYNC_CFG F.TRV_SYNC_CFG_FWD d.markerTree
  d.setRf R.TRV_GRP_CTL F.TRV_GRP_CTL_COMMIT 1

/-- A formation's message starts its 100 ms again (R321). -/
def Dev.formingOn (d : Dev) : Dev := d.updGrp (fun g => { g with deadline := d.clk + 10000000 })

/-- A forming leader has asked the other chips, which answer within 5 ms (Table 13.14). -/
def Dev.askedOn (d : Dev) : Dev := d.updGrp (fun g => { g with deadline := d.clk + 500000 })

/-- The wait of GROUP_FORM. -/
def Wait.isForm : Wait → Bool
  | .form => true
  | _ => false

/-- Formation ends without a group: every chip is told to abort, and this one is SINGLE again (R321). -/
def Dev.formFails (d : Dev) : Dev := (d.tellAll .abort).toSingle false

/-- The group forms with this chip as its leader: the first marker goes out, and COMMIT to every chip (Table 10.10 steps 6 and 7). -/
def Dev.formGroup (d : Dev) : Dev :=
  let d := (d.setGrpSt 2 0).updGrp (fun g => { g with forming := 0, replies := [], accepts := [] })
  ((d.commitGroup).leadMarker).tellAll .commit

/-- What the checks of Table 10.9 come to, once every chip has answered: a refusal by row and chip, or the device with every chip sent its routing table
and marker tree (Table 10.10 steps 4 and 5). -/
def Dev.formCheck (d : Dev) : Except (BitVec 32) Dev :=
  match lowestCheck (d.failedChecks d.grp.replies) with
  | some e => .error (detail .check e.1 e.2)
  | none =>
    let homes := d.grp.replies.flatMap (fun r => r.slices.map (fun x => (r.chip, x.slice, x.gals.toNat)))
    let d := d.updGrp (fun g => { g with homes := homes, cuts := [], forming := 2, accepts := [] })
    let all := homes ++ d.ownHomes.map (fun h => (d.selfChip, h.1, h.2))
    .ok (d.askedOn.forEach d.others (fun x d =>
      d.sendGrp x (.table ((List.finRange 64).map (fun c => (c, BitVec.ofNat 32 (d.routeWordAt x c.val)))) (BitVec.ofNat 6 (d.treeAt x))
        (all.filter (fun h => h.1 != x)))))

/-- GROUP_FORM's row. -/
def specGroupForm : CmdSpec := { op := 0x0A02, rights := .pf }

/-- GROUP_FORM (R319 to R321, Table 10.10): on the chip at (0, 0, 0), which becomes FORMING and asks every chip. A group of one chip forms at once. -/
def groupForm (_ : Cmd) (d : Dev) : Reply Dev :=
  if d.anyRun then busy PclSt.run.code
  else if d.grpSt ≠ 0 then busy d.grpSt
  else if d.selfChip ≠ 0 ∨ !d.grp.coordSet then refused .check 1 d.selfChip
  else if d.others.isEmpty then
    match d.formCheck with
    | .error dt => .refuse .refused dt
    | .ok d => done d.formGroup
  else .hold (((d.setGrpSt 1 0).askedOn.updGrp (fun g => { g with forming := 1, replies := [], accepts := [] })).tellAll .discover) .form

/-- GROUP_FORM. -/
def execGroupForm (c : Cmd) (s : State) : Host.Outcome State Fault Refusal := cmdStep specGroupForm groupForm c s

/-- A chip's answer to discovery reaches the forming leader; the last one starts the checks (Table 10.10 steps 3 to 5). -/
def Dev.gotReply (d : Dev) (r : PeerReply) : Dev :=
  if d.grpSt ≠ 1 ∨ d.grp.forming ≠ 1 then d
  else
    let d := d.updGrp (fun g => { g with replies := g.replies.filter (fun x => x.chip != r.chip || x.devId != r.devId) ++ [r] })
    if d.others.all (fun c => d.grp.replies.any (fun x => x.chip == c)) then
      match d.formCheck with
      | .error dt => d.formFails.release Wait.isForm .refused 0 0 dt
      | .ok d => d
    else d

/-- A chip has taken its table; the last one lets the group form (Table 10.10 steps 5 to 7). -/
def Dev.gotAccept (d : Dev) (c : Nat) : Dev :=
  if d.grpSt ≠ 1 ∨ d.grp.forming ≠ 2 then d
  else
    let d := d.updGrp (fun g => { g with accepts := if g.accepts.contains c then g.accepts else g.accepts ++ [c] })
    if d.others.all (fun x => d.grp.accepts.contains x) then d.formGroup.release Wait.isForm .ok 0 0 0 else d

/-- GROUP_DISSOLVE's row. -/
def specGroupDissolve : CmdSpec := { op := 0x0A03, rights := .pf }

/-- What a chip does when its group is dissolved: SINGLE, its own Datum, no coordinate kept for a start; the locks of the other chips' Surveyors
break (R322, R477, Table 12.13). -/
def Dev.dissolved (d : Dev) : Dev :=
  let d := d.forEach d.others (fun x d => d.raiseLife (11 + x))
  (d.toSingle true).updLed (fun l => { l with coord := none })

/-- GROUP_DISSOLVE (R322): on the leader. BUSY while any parcel of the group is in Run. -/
def groupDissolve (c : Cmd) (d : Dev) : Reply Dev :=
  if d.anyRun ∨ c.env.peers.any (·.running) then busy PclSt.run.code
  else if d.grpSt = 3 then refused .check 1
  else if d.grpSt = 1 then busy 1
  else done (d.forEach d.groupChips (fun x d => d.sendGrp x .dissolve)).dissolved

/-- GROUP_DISSOLVE. -/
def execGroupDissolve (c : Cmd) (s : State) : Host.Outcome State Fault Refusal := cmdStep specGroupDissolve groupDissolve c s

/-- GROUP_RESYNC's row. -/
def specGroupResync : CmdSpec := { op := 0x0A04, rights := .pf }

/-- GROUP_RESYNC (R329): the next marker's count is adopted. -/
def groupResync (_ : Cmd) (d : Dev) : Reply Dev :=
  if d.anyRun then busy PclSt.run.code
  else if d.rf R.TRV_SYNC_STAT F.TRV_SYNC_STAT_RESYNC_REQ = 0 then done d 0
  else done (d.updGrp (fun g => { g with resync := true })) 1

/-- GROUP_RESYNC. -/
def execGroupResync (c : Cmd) (s : State) : Host.Outcome State Fault Refusal := cmdStep specGroupResync groupResync c s

/-! ### Commands of the links -/

/-- Steps 4 and 7 of Table 13.1 on the link in P0. -/
def Dev.onLink (d : Dev) (c : Cmd) (f : Fin 6 → Reply Dev) : Reply Dev :=
  if c.p 0 < 6 ∧ !bit d.fus.links (c.p 0) then refused .absent (c.p 0)
  else if h : c.p 0 < 6 then f ⟨c.p 0, h⟩ else refused .range 0

/-- LINK_STATUS's row. -/
def specLinkStatus : CmdSpec := { op := 0x0A05, rights := .any, used := params 0 0, buffer := true }

/-- LINK_STATUS (R332): TRV_STAT and TRV_DELAY, and the link's registers. -/
def linkStatus (c : Cmd) (d : Dev) : Reply Dev := d.onLink c (fun k =>
  let r0 := (d.peek (R.TRV_STAT k)).toNat + (d.peek (R.TRV_DELAY k)).toNat % 65536 * 2 ^ 32
  let (es, d) := d.readRegs (Blk.trv.addrs k (fun _ => true))
  report c d (BitVec.ofNat 64 r0) es)

/-- LINK_STATUS. -/
def execLinkStatus (c : Cmd) (s : State) : Host.Outcome State Fault Refusal := cmdStep specLinkStatus linkStatus c s

/-- LINK_ENABLE's row. -/
def specLinkEnable : CmdSpec := { op := 0x0A06, rights := .pf, used := params 0 1 }

/-- Whether a link can hold a role (R317): host attach stands on Z−, storage attach on Z+. -/
def roleFits (k : Fin 6) (role : Nat) : Bool := role == 0 || (role == 1 && k.val == 4) || (role == 2 && k.val == 5)

/-- LINK_ENABLE (R12, R312, R315, R317): the LINK domain is woken first; the role is recorded for the next start (R487). -/
def linkEnable (c : Cmd) (d : Dev) : Reply Dev := d.onLink c (fun k =>
  let role := c.p 1
  let i := 24 + k.val
  let still : Bool := (d.link k).st == .off || (d.link k).st == .retired
  if role = 2 ∧ !d.licensed 4 ∨ d.zIdle k (d.rf R.TRV_GRP_CTL F.TRV_GRP_CTL_MODE == 1) role then .refuse .notLicensed 0
  else if !roleFits k role then refused .range 1
  else if role ≠ d.linkRole k ∧ !still then busy (d.link k).st.code
  else if role ≠ d.linkRole k ∧ d.rf R.TRV_GRP_CTL F.TRV_GRP_CTL_COMMIT = 1 then busy d.grpSt
  else if !c.env.ledgerOk then .refuse .ledgerError 0
  else if c.env.notReady.contains i then .finish d .faulted d.lastSeq 0 0
  else
    let d := d.needDom i
    if !d.domUp i then .finish d .faulted d.lastSeq 0 0
    else
      let d := d.updLed (fun l => { l with linkRoles := l.linkRoles.set k (some role) })
      done ((d.setRf (R.TRV_CTL k) F.TRV_CTL_ROLE role).enableLink k))

/-- LINK_ENABLE. -/
def execLinkEnable (c : Cmd) (s : State) : Host.Outcome State Fault Refusal := cmdStep specLinkEnable linkEnable c s

/-- LINK_RETRAIN's row. -/
def specLinkRetrain : CmdSpec := { op := 0x0A07, rights := .pf, used := params 0 0 }

/-- LINK_RETRAIN: BUSY unless the link is ACTIVE. -/
def linkRetrain (c : Cmd) (d : Dev) : Reply Dev := d.onLink c (fun k =>
  if (d.link k).st ≠ .active then busy (d.link k).st.code else done (d.enterRetrain k))

/-- LINK_RETRAIN. -/
def execLinkRetrain (c : Cmd) (s : State) : Host.Outcome State Fault Refusal := cmdStep specLinkRetrain linkRetrain c s

/-- LINK_CLEAR_COUNTERS's row. -/
def specLinkClear : CmdSpec := { op := 0x0A08, rights := .pf, used := params 0 0 }

/-- LINK_CLEAR_COUNTERS (Table 10.15). -/
def linkClear (c : Cmd) (d : Dev) : Reply Dev := d.onLink c (fun k => done (d.clearCounters Blk.trv.base k.val 1))

/-- LINK_CLEAR_COUNTERS. -/
def execLinkClearCounters (c : Cmd) (s : State) : Host.Outcome State Fault Refusal := cmdStep specLinkClear linkClear c s

/-! ### Group time -/

/-- TMARK_SEND (R327): not by a leader back from a reset that has no count yet (R330). -/
def execTmarkSend (s : State) : Host.Outcome State Fault Refusal :=
  devStep s (fun d => if d.grpSt = 2 ∧ d.grp.asking = false then d.leadMarker else d)

/-- The time error of a follower (R329): how much later than the marker's turn its own turn of that count would fall. -/
def Dev.markError (d : Dev) (count at_ : Nat) : Int :=
  ((count : Int) - (d.dat.tick + 1)) * d.dat.tperiod + ((d.dat.lastTurn + d.dat.turnLen : Nat) - (at_ : Int))

/-- The marker's count is adopted at its turn, and the Datum block follows (R45, R320, R329). -/
def Dev.adoptMarker (d : Dev) (count : Nat) : Dev :=
  (d.updGrp (fun g => { g with adopt := some count, resync := false, slewing := false })).updDat (fun t => { t with st := .follow, reason := 0, err := 0 })

/-- A follower meets a marker that announces `count` at the instant `at_` (R328, R329). -/
def Dev.meetMarker (d : Dev) (count qual at_ : Nat) : Dev :=
  let d := match d.grp.marker with
    | some (c0, t0) => if c0 < count ∧ t0 < at_ then d.setTickPeriod ((at_ - t0) / (count - c0)) else d
    | none => d
  let d := (d.updGrp (fun g => { g with marker := some (count, at_), turnAt := some at_ })).updDat (fun t => { t with entryQual := qual })
  match d.dat.st with
  | .follow => d
  | .holdover =>
    if d.grp.resync then (d.adoptMarker count).setRf R.TRV_SYNC_STAT F.TRV_SYNC_STAT_RESYNC_REQ 0
    else if d.dat.reason ≠ 4 then d.adoptMarker count
    else
      let e := d.markError count at_
      if e.natAbs ≤ 256 * d.dat.tperiod then (d.updDat (fun t => { t with err := e })).updGrp (fun g => { g with slewing := true })
      else (d.updGrp (fun g => { g with slewing := false })).setRf R.TRV_SYNC_STAT F.TRV_SYNC_STAT_RESYNC_REQ 1
  | _ => d.adoptMarker count

/-- TMARK (R327, R328): the turn at the arrival + REM − d, the marker passed on with what remains; less than 50 ns fires it at once. -/
def tmark (k : Fin 6) (m : LinkMsg) (d : Dev) : Dev :=
  let d := d.takeMsg k m
  if d.grpSt ≠ 1 ∧ d.grpSt ≠ 3 then d
  else
    let count := bits m.arg 47 0
    let qual := bits m.arg 49 48
    let left := leAt m.data 0 4 - d.rf (R.TRV_DELAY k) F.TRV_DELAY_D
    let d := d.forEach d.fwdLinks (fun o d => d.sendMarker o count qual (bits m.arg 63 56 + 1) left)
    let d := d.meetMarker count qual (d.clk + left / 80)
    if left < 400 then tickTurn 0 [] ((d.bump R.TRV_SYNC_STAT F.TRV_SYNC_STAT_LATE).raiseFrom (stLink k) (Flt.markLate k count)) else d

/-- TMARK. -/
def execTmark (k : Fin 6) (m : LinkMsg) (s : State) : Host.Outcome State Fault Refusal := devStep s (tmark k m)

/-- MARKERS_LOST (R329): MISS_MAX markers in a row are missing. -/
def markersLost (d : Dev) : Dev :=
  if d.grpSt ≠ 3 ∨ d.dat.st ≠ .follow then d
  else
    let d := d.bump R.TRV_SYNC_STAT F.TRV_SYNC_STAT_MISSED (d.rf R.TRV_SYNC_CFG F.TRV_SYNC_CFG_MISS_MAX)
    let d := d.updDat (fun t => { t with st := .holdover, reason := 4, err := 0 })
    (d.bump R.DAT_LOSS_CNT F.DAT_LOSS_CNT_LOSS).datumFault

/-- MARKERS_LOST. -/
def execMarkersLost (s : State) : Host.Outcome State Fault Refusal := devStep s markersLost

/-! ### Routes after a retirement -/

/-- Rewrites the routes: a chip that can no longer be reached counts as reset for its locks, and the experts homed on it are UNREACH
(R326, R331); one that can be reached again has them cleared. -/
def Dev.reroute (d : Dev) : Dev :=
  let open_ (d : Dev) (x : Nat) : Bool := d.rf (R.TRV_RT x) F.TRV_RT_WORD % 8 != 0
  let e := d.writeRoutes
  let e := if e.grpSt = 2 ∨ e.grpSt = 3 then e.setRf R.TRV_SYNC_CFG F.TRV_SYNC_CFG_FWD e.markerTree else e
  e.forEach e.groupChips (fun x e => if open_ d x ∧ !open_ e x then e.raiseLife (11 + x) else e)

/-- ROUTE_REWRITE (R326): the firmware also tells the chips it still reaches which wires it finds out of use. Rewrites are held while the Surveyor
recovers (Table 18.10). -/
def execRouteRewrite (s : State) : Host.Outcome State Fault Refusal :=
  devStep s (fun d =>
    if d.mirState = 3 then d else
    let d := d.reroute
    d.forEach (d.groupChips.filter (fun x => (d.outFor x).isSome)) (fun x d => d.sendGrp x (.cuts d.ownCuts)))

/-! ### Group messages -/

/-- Whether a table a FORMING chip is sent is the one of dimension order (Table 10.10 step 5). -/
def Dev.tableOk (d : Dev) (l : List (Fin 64 × BitVec 32)) : Bool :=
  l.all (fun e => bits e.2 2 0 == d.routeWord e.1 % 8)

/-- The wires that another chip reports out of use; the routes follow, or are held while the Surveyor recovers (Table 18.10). -/
def Dev.setCuts (d : Dev) (c : Nat) (l : List (Nat × Nat)) : Dev :=
  let d := d.updGrp (fun g => { g with cuts := g.cuts.filter (fun e => e.1 != c) ++ l.map (fun w => (c, w)) })
  if d.mirState = 3 then d else d.reroute

/-- A returning leader takes up a follower's count, projected to its own next turn (R330): `age` is how long ago, in 10 ns, that count's turn was. -/
def Dev.takeCount (d : Dev) (n age : Nat) : Dev :=
  if d.grp.asking = false then d
  else
    let next := d.dat.lastTurn + d.dat.turnLen
    let more := if d.dat.tperiod = 0 then 0 else (age + (next - d.clk)) / d.dat.tperiod
    d.updGrp (fun g => { g with asking := false, adopt := some ((n + more) % 2 ^ 48) })

/-- A chip returns to SINGLE on the leader's abort (R321). -/
def Dev.aborted (d : Dev) : Dev := if d.grpSt = 1 ∨ d.grpSt = 3 then d.toSingle d.follows else d

/-- A group management message (Table 10.10, R241, R255, R259, R260, R320 to R322, R326, R330). -/
def grp (k : Fin 6) (m : LinkMsg) (b : GrpBody) (d : Dev) : Dev :=
  let d := d.takeMsg k m
  let from_ := m.src.toNat
  match b with
  | .discover =>
    if d.grpSt = 0 ∨ (d.grpSt = 1 ∧ d.grp.forming = 0) then ((d.setGrpSt 1 0).formingOn).sendGrp from_ (.reply (d.ownReply m.dst.toNat)) else d
  | .reply r => d.gotReply r
  | .table l fwd homes =>
    if d.grpSt ≠ 1 ∨ d.grp.forming ≠ 0 then d
    else if !d.tableOk l then (d.formingOn).sendGrp from_ .refuse
    else
      let d := (d.formingOn).updGrp (fun g => { g with homes := homes, cuts := [] })
      let d := d.forEach l (fun e d => d.setReg (R.TRV_RT e.1) e.2)
      ((d.markExperts).setRf R.TRV_SYNC_CFG F.TRV_SYNC_CFG_FWD fwd.toNat).sendGrp from_ .accept
  | .accept => d.gotAccept from_
  | .refuse => if d.grpSt = 1 ∧ d.grp.forming = 2 then d.formFails.release Wait.isForm .refused 0 0 (detail .check 2 from_) else d
  | .commit => if d.grpSt = 1 ∧ d.grp.forming = 0 then ((d.setGrpSt 3 0).setRf R.TRV_GRP_CTL F.TRV_GRP_CTL_COMMIT 1).renameLeaders else d
  | .abort => d.aborted
  | .dissolve => if d.grpSt = 3 then d.dissolved else d
  | .cuts l => d.setCuts from_ l
  | .chipReset c => d.raiseLife (11 + c.val)
  | .slices l => d.setHomes from_ l
  | .bearing slice b step tol lshift en =>
    match d.sliceParcel slice.val with
    | some q => (d.setBearing q b step tol lshift en).sendGrp from_ .bearingDone
    | none => d
  | .bearingDone => d
  | .bias slice e b => match (d.sliceParcel slice.val).bind d.firstGal with
    | some g => (match d.leaderHere g with
        | some l => d.onGal l (fun d => (d.setBias l e (toTwos 8 b)).sendBias l e b)
        | none => d)
    | none => d
  | .askCount => d.sendGrp from_ (.count d.dat.tick (d.clk - d.dat.lastTurn))
  | .count n age => d.takeCount n age

/-- GRP. -/
def execGrp (k : Fin 6) (m : LinkMsg) (b : GrpBody) (s : State) : Host.Outcome State Fault Refusal := devStep s (grp k m b)

/-- GRP_ABORT (R321): the chip returns to SINGLE. -/
def execGrpAbort (k : Fin 6) (m : LinkMsg) (s : State) : Host.Outcome State Fault Refusal := devStep s (fun d => (d.takeMsg k m).aborted)

/-- FORMING_TIMEOUT (R321): a chip returns to SINGLE by itself 100 ms after its last message from the leader; a leader whose chips are silent for 5 ms
(Table 13.14) tells every chip to abort, and GROUP_FORM completes TIMEOUT. -/
def formingTimeout (d : Dev) : Dev :=
  if d.grpSt ≠ 1 ∨ d.clk < d.grp.deadline then d
  else if d.grp.forming = 0 then d.toSingle d.follows
  else d.formFails.release Wait.isForm .timeout 0 0 0

/-- FORMING_TIMEOUT. -/
def execFormingTimeout (s : State) : Host.Outcome State Fault Refusal := devStep s formingTimeout

/-- The lowest follower that a returning leader can reach (R330). -/
def Dev.lowestFollower (d : Dev) : Option Nat := d.others.find? (fun c => (d.outFor c).isSome)

/-- GROUP_REJOIN (R330): a chip back from a reset, once the links its coordinate requires are ACTIVE and the checks of Table 10.9 pass for it.
A follower adopts the next marker's count; the leader asks the lowest follower it reaches for its count. -/
def groupRejoin (x : RejoinIn) (d : Dev) : Dev :=
  if d.led.coord.isNone ∨ d.grpSt ≠ 0 ∨ (d.checkOf (d.ownReply d.selfChip :: x.peers) (d.ownReply d.selfChip)).isSome then d
  else
    let homes := x.peers.flatMap (fun r => r.slices.map (fun y => (r.chip, y.slice, y.gals.toNat)))
    let d := d.updGrp (fun g => { g with homes := homes })
    if d.selfChip = 0 then
      let d := (d.setGrpSt 2 0).commitGroup
      match d.lowestFollower with
      | some c => (d.updGrp (fun g => { g with asking := true })).sendGrp c .askCount
      | none => d
    else (d.setGrpSt 3 0).commitGroup

/-- GROUP_REJOIN. -/
def execGroupRejoin (x : RejoinIn) (s : State) : Host.Outcome State Fault Refusal := devStep s (groupRejoin x)

end Sys2Proof.Machine
end

