-- ==== Sys2Proof/Machine/Guideline.lean ====
section
/-!
DEFINITION. The Guideline ring's frames and the fault collector's arrivals (18_faults.md R495 to R500).
-/
namespace Sys2Proof.Machine

/-- The severity of a fault code (Table 18.7); a code of no row has none stated. -/
def sevOf (code : Nat) : Option Nat :=
  if [0x01, 0x02, 0x03, 0x04, 0x05, 0x06, 0x07, 0x0A, 0x0B, 0x23, 0x33, 0x35, 0x43, 0x55, 0x56, 0x57, 0x58, 0x61].contains code then some 0
  else if [0x08, 0x10, 0x20, 0x30, 0x40, 0x50, 0x51, 0x59, 0x70].contains code then some 1
  else if [0x11, 0x21, 0x22, 0x31, 0x32, 0x34, 0x41, 0x52, 0x53].contains code then some 2
  else if [0x09, 0x42, 0x54, 0x60, 0x71].contains code then some 3
  else none

/-- A fault frame reaches the collector (R500). -/
def Dev.faultIn (d : Dev) (x : FaultIn) : Dev :=
  let r : Raise := { cls := x.cls.toNat, code := x.code.toNat, sev := 0, unit := x.unit.toNat, parcel := x.parcel.toNat, count := x.count.toNat,
                     index := x.index.toNat, arg0 := x.arg0.toNat }
  match sevOf x.code.toNat with
  | some v => d.collect { r with sev := v }
  | none =>
    let (v, d) := d.fresh 2
    d.collect { r with sev := v.toNat }

/-- FAULT_RECORD: a fault of the Warden or the firmware becomes a record (R500). -/
def execFaultRecord (x : FaultIn) (s : State) : Host.Outcome State Fault Refusal := devStep s (fun d => d.faultIn x)

/-- The Warden bypasses a station whose frames fail CRC 16 times within 1 s, and logs the bypass (R495); Table 18.7 has no code for it. -/
def Dev.bypassStation (d : Dev) (st : Nat) : Dev :=
  let d := { d with gdl := { d.gdl with bypassed := st :: d.gdl.bypassed, crcFails := d.gdl.crcFails.filter (fun e => e.1 ≠ st) } }
  let (code, d) := d.fresh 8
  d.collect { cls := 0, code := code.toNat, sev := 0, unit := st }

/-- A frame whose CRC fails is discarded and counted, and charged to the station that sent it (R495, R496). -/
def Dev.crcFailed (d : Dev) (st : Nat) : Dev :=
  let d := d.bump R.GDL_ERR_CNT F.GDL_ERR_CNT_CRC
  let l := (st, d.clk) :: d.gdl.crcFails.filter (fun e => d.clk < e.2 + 100000000)
  let d := { d with gdl := { d.gdl with crcFails := l } }
  if 16 ≤ (l.filter (fun e => e.1 == st)).length ∧ st ≠ 0 ∧ d.gdl.bypassed.contains st = false then d.bypassStation st else d

/-- The originator's station: the Surveyor's, or the Warden's. -/
def gdlOrigin (h : GdlHead) : Nat := if h.surveyor then 0x01 else 0x00

/-- A frame from an originator reaches its station, if it is on the ring and the CRC passes (R495, R496). -/
def Dev.onFrame (d : Dev) (h : GdlHead) (f : Dev → Dev) : Dev :=
  if !h.crcOk then d.crcFailed (gdlOrigin h)
  else if d.stationOn h.station.val then f d else d

/-- A station answers RESP: 0 done, 1 refused, then the value for READ (Table 18.5). -/
def Dev.respond (d : Dev) (h : GdlHead) (status : Nat) (v : List Byte := []) : Dev :=
  d.emit (.gdlFrame { dst := (gdlOrigin h), src := h.station.val, op := 0x03, payload := BitVec.ofNat 8 status :: v })

/-- The block a station's offsets are counted from, and the address where its registers end (Table 18.3). DEDUCED (log entry 51): a hub's offsets run
over its four ports from the first; a station of several blocks counts from the lowest; a mesh node has its own four MSH registers. -/
def stationSpan (st : Nat) : Option (Nat × Nat) :=
  let one (b : Block) (i : Nat) : Option (Nat × Nat) := some (b.base + i * b.stride, b.base + i * b.stride + b.size)
  if st = 0x00 then some (Blk.lnt.base, Blk.gdl.base + Blk.gdl.size)
  else if st = 0x02 then some (Blk.fus.base, Blk.lic.base + Blk.lic.size)
  else if st = 0x03 then one Blk.scp 0
  else if st = 0x04 then one Blk.egr 0
  else if st = 0x05 then some (Blk.hst.base, Blk.mbx.base + 9 * Blk.mbx.stride)
  else if st = 0x06 then some (Blk.clk.base, Blk.dat.base + Blk.dat.size)
  else if st = 0x07 then some (Blk.pwr.base, Blk.tel.base + Blk.tel.size)
  else if 0x08 ≤ st ∧ st ≤ 0x0F then some (R.MSH_NODE_FWD (st - 0x08), R.MSH_NODE_FWD (st - 0x08) + 0x10)
  else if 0x10 ≤ st ∧ st ≤ 0x17 then one Blk.gal (st - 0x10)
  else if 0x18 ≤ st ∧ st ≤ 0x1F then one Blk.dns (st - 0x18)
  else if 0x20 ≤ st ∧ st ≤ 0x23 then some (Blk.int.base + (st - 0x20) * 4 * Blk.int.stride, Blk.int.base + (st - 0x1F) * 4 * Blk.int.stride)
  else if 0x24 ≤ st ∧ st ≤ 0x29 then one Blk.trv (st - 0x24)
  else if 0x2A ≤ st ∧ st ≤ 0x2D then one Blk.stk (st - 0x2A)
  else none

/-- The register at an offset of a station's block, of that station's blocks only. -/
def stationReg (st off : Nat) : Option (Nat × RegAt) := match stationSpan st with
  | none => none
  | some (lo, hi) =>
    if hi ≤ lo + off then none
    else match regAt (lo + off) with
      | none => none
      | some r =>
        if (st = 0x05 ∧ r.block.base ≠ Blk.hst.base ∧ r.block.base ≠ Blk.mbx.base)
          ∨ (st = 0x07 ∧ r.block.base ≠ Blk.pwr.base ∧ r.block.base ≠ Blk.tel.base)
          ∨ (st = 0x00 ∧ (r.block.base = Blk.pwr.base ∨ r.block.base = Blk.tel.base)) then none
        else some (lo + off, r)

/-- GUIDELINE_READ: the station reads a register of its block, never a memory array (R497). -/
def guidelineRead (h : GdlHead) (off : Nat) (d : Dev) : Dev :=
  d.onFrame h (fun d => match stationReg h.station.val off with
    | none => d.respond h 1
    | some (a, _) =>
      let (w, d) := d.readReg a
      d.respond h 0 (leBytes 4 w.toNat))

/-- GUIDELINE_READ. -/
def execGuidelineRead (h : GdlHead) (off : BitVec 32) (s : State) : Host.Outcome State Fault Refusal := devStep s (guidelineRead h off.toNat)

/-- GUIDELINE_WRITE: the station writes a register of its block by the fields' access codes (R497). -/
def guidelineWrite (h : GdlHead) (off : Nat) (v : Word) (m : Mach) : Mach :=
  if !h.crcOk ∨ !m.dev.stationOn h.station.val then { m with dev := m.dev.onFrame h id }
  else match stationReg h.station.val off with
    | none => { m with dev := m.dev.respond h 1 }
    | some (a, r) =>
      let m := writeNow a r v m
      { m with dev := m.dev.respond h 0 }

/-- GUIDELINE_WRITE. -/
def execGuidelineWrite (h : GdlHead) (off v : BitVec 32) (s : State) : Host.Outcome State Fault Refusal :=
  memStep s (guidelineWrite h off.toNat v)

/-- Removes the first outstanding request of the Surveyor to a station. -/
def dropReq (dst : Nat) : List GdlReq → List GdlReq
  | [] => []
  | q :: t => if q.dst = dst ∨ q.dst = 0x3F then t else q :: dropReq dst t

/-- GUIDELINE_RESP: a RESP reaches its originator: the Surveyor holds it in GDL_RX (R496, Table 18.12); the Warden keeps no register of
it. -/
def guidelineResp (h : GdlHead) (status : Nat) (v : Option Word) (d : Dev) : Dev :=
  if !h.crcOk then d.crcFailed h.station.val
  else if !h.surveyor then d
  else
    let payload : List Byte := BitVec.ofNat 8 status :: (match v with
      | some w => leBytes 4 w.toNat
      | none => [])
    let bytes : List Byte := [0x01, BitVec.ofNat 8 h.station.val, 0x03, BitVec.ofNat 8 payload.length] ++ payload
    let d := d.forEach (List.range 7) (fun i d => d.setReg (R.GDL_RX i) (BitVec.ofNat 32 (leAt bytes (4 * i) 4)))
    let d := d.setRf R.GDL_STAT F.GDL_STAT_RX_VALID 1
    { d with gdl := { d.gdl with reqs := dropReq h.station.val d.gdl.reqs } }

/-- GUIDELINE_RESP. -/
def execGuidelineResp (h : GdlHead) (status : BitVec 8) (v : Option (BitVec 32)) (s : State) : Host.Outcome State Fault Refusal :=
  devStep s (guidelineResp h status.toNat v)

/-- GUIDELINE_FAULT: a station's FAULT frame reaches the collector (R498, R500). -/
def execGuidelineFault (h : GdlHead) (x : FaultIn) (s : State) : Host.Outcome State Fault Refusal :=
  devStep s (fun d => if !h.crcOk then d.crcFailed h.station.val else if d.stationOn h.station.val then d.faultIn x else d)

/-- GUIDELINE_DRAIN: a mesh node sets or clears its discard sink (R509, Table 18.5); another station refuses. -/
def guidelineDrain (h : GdlHead) (b : Bool) (d : Dev) : Dev :=
  d.onFrame h (fun d =>
    if 0x08 ≤ h.station.val ∧ h.station.val ≤ 0x0F then
      let g := fin8 (h.station.val - 8)
      let d := d.updGal g (fun x => { x with sink := b })
      d.respond h 0
    else d.respond h 1)

/-- GUIDELINE_DRAIN. -/
def execGuidelineDrain (h : GdlHead) (b : Bool) (s : State) : Host.Outcome State Fault Refusal := devStep s (guidelineDrain h b)

/-- HALT: the block gates its clocks and starts no work; a Gallery enters FAULTED, FORCED (R508, Tables 18.5, 18.11). -/
def halt (h : GdlHead) (d : Dev) : Dev :=
  d.onFrame h (fun d =>
    let st := h.station.val
    let d := if 0x10 ≤ st ∧ st ≤ 0x17 then d.enterFaulted (fin8 (st - 0x10)) 5
      else if d.halted st then d else { d with gdl := { d.gdl with halted := st :: d.gdl.halted } }
    d.respond h 0)

/-- HALT. -/
def execHalt (h : GdlHead) (s : State) : Host.Outcome State Fault Refusal := devStep s (halt h)

/-- PING: the station addressed answers; at 0x3F every station does (Tables 18.3, 18.5). -/
def ping (h : GdlHead) (d : Dev) : Dev :=
  if !h.crcOk then d.crcFailed (gdlOrigin h)
  else if h.station.val = 0x3F then d.forEach d.stations (fun st d => d.emit (.gdlFrame { dst := (gdlOrigin h), src := st, op := 0x03, payload := [0] }))
  else if d.stationOn h.station.val then d.respond h 0 else d

/-- PING. -/
def execPing (h : GdlHead) (s : State) : Host.Outcome State Fault Refusal := devStep s (ping h)

/-- RESET_NOTE reaches the leader's Warden: the life count of owner 0x40 + c rises, and its locks break (R499, R390). -/
def Dev.resetNote (d : Dev) (c : Nat) : Dev := d.raiseLife (11 + c)

/-- RESET_NOTE: a chip's note, carried in a GDL message (R499). -/
def execResetNote (c : Fin 64) (s : State) : Host.Outcome State Fault Refusal :=
  devStep s (fun d => (d.bump R.GDL_TUNNEL_CNT F.GDL_TUNNEL_CNT_RX).resetNote c.val)

/-- GUIDELINE_TIMEOUT: no RESP within 100 µs (R496); the Surveyor's request must be outstanding. -/
def guidelineTimeout (surveyor : Bool) (dst : Nat) (d : Dev) : Dev :=
  if surveyor then
    (if d.gdl.reqs.any (fun q => q.dst == dst) then
      { (d.bump R.GDL_ERR_CNT F.GDL_ERR_CNT_TMO) with gdl := { d.gdl with reqs := dropReq dst d.gdl.reqs } }
     else d)
  else d.bump R.GDL_ERR_CNT F.GDL_ERR_CNT_TMO

/-- GUIDELINE_TIMEOUT. -/
def execGuidelineTimeout (surveyor : Bool) (dst : Fin 64) (s : State) : Host.Outcome State Fault Refusal :=
  devStep s (guidelineTimeout surveyor dst.val)

end Sys2Proof.Machine
end

