-- ==== Sys2Proof/Machine/Messages.lean ====
section
/-!
DEFINITION. Requests and responses over the links: remote registers, group-wide locks, host attach, storage attach, tunnelled Guideline frames
(10_traverse_links.md R303, R304, R331; 12 R386; 09 R291; 18 R499).
-/
namespace Sys2Proof.Machine

/-- Answers a request with STATUS and a status code in ARG (Table 10.7). -/
def Dev.status (d : Dev) (k : Fin 6) (m : LinkMsg) (st : Status) : Dev := d.answer k m 0x82 (BitVec.ofNat 64 st.code) []

/-- A memory access of the link DMA, master 5 of Table 11.4, where the address lies in a memory window (R354). -/
def linkAccess (a : Nat) (write : Option (List Byte)) (errs : List MemErr) (m : Mach) : Option Mach :=
  if scpWindow ≤ a ∧ a < scpWindow + scpBytes then
    some (scpAccess { m := 5, func := pf, off := a - scpWindow, len := 16, write := write, errs := errs } m)
  else if stackWindow ≤ a then
    some (stackAccess { req := .master 5 pf, sa := a - stackWindow, len := 16, write := write, errs := errs } m)
  else none

/-- Where an access of the link DMA lies, if in a stack: the stack. -/
def Dev.linkStack (d : Dev) (a : Nat) : Option (Fin 4) :=
  if stackWindow ≤ a then (stackPlace d.fus.high (a - stackWindow)).map (·.1) else none

/-- Whether an access of the link DMA cannot be taken now: its stack sleeps or is marched, or its scratchpad bank is copied. The message then stays
in its receive buffer (R303, R348, R353, R359). -/
def Dev.linkHeld (d : Dev) (a : Nat) (write : Bool) : Bool := match d.linkStack a with
  | some s => d.stackHeld s && (d.admitStack (.master 5 pf) s (a - stackWindow) 16 write).isSome
  | none =>
    let x : ScpAccess := { m := 5, func := pf, off := a - scpWindow, len := 16, write := if write then some (List.replicate 16 0) else none, errs := [] }
    decide (scpWindow ≤ a) && decide (a < scpWindow + scpBytes) && d.admitScp x && d.scpHeld x

/-- The demand wake of the stack that a held access lies in (R348). -/
def Dev.linkWake (d : Dev) (a : Nat) : Dev := match d.linkStack a with
  | some s => d.wakeEvent (31 + s.val)
  | none => d

/-- What an access answered: the newest thing that left the device since. -/
def answered (before after : Mach) : Option Output :=
  if before.dev.outbox.length < after.dev.outbox.length then after.dev.outbox.head? else none

/-- Reads four registers at an address; a word without a register is a free value. -/
def Dev.readFour (d : Dev) (a : Nat) : Nat → List Byte × Dev
  | 0 => ([], d)
  | n + 1 =>
    let (w, d) : Word × Dev := if (regAt a).isSome then d.readReg a else d.fresh 32
    let (l, d) := d.readFour (a + 4) n
    (leBytes 4 w.toNat ++ l, d)

/-- REG_READ (Table 10.7): 16 bytes at a Surveyor address come back as READ_DATA. A memory access that is denied, or whose data is poisoned,
comes back as STATUS; one that must wait leaves the message where it stands. -/
def regRead (k : Fin 6) (m : LinkMsg) (errs : List MemErr) (x : Mach) : Mach :=
  let a := m.arg.toNat
  if x.dev.linkHeld a false then { x with dev := x.dev.linkWake a } else
  let x := { x with dev := x.dev.takeMsg k m }
  match linkAccess a none errs x with
  | some y =>
    match answered x y with
    | some (.memData _ b false) => { y with dev := y.dev.answer k m 0x81 m.arg b }
    | _ => { y with dev := y.dev.status k m .refused }
  | none =>
    let (b, d) := x.dev.readFour a 4
    { x with dev := d.answer k m 0x81 m.arg b }

/-- REG_READ. -/
def execRegRead (k : Fin 6) (m : LinkMsg) (errs : List MemErr) (s : State) : Host.Outcome State Fault Refusal := memStep s (regRead k m errs)

/-- Writes four registers at an address; a word without a register takes nothing. -/
def Mach.writeFour (m : Mach) (a : Nat) (b : List Byte) : Nat → Mach
  | 0 => m
  | n + 1 =>
    let m := match regAt a with
      | some r => writeReg a r (BitVec.ofNat 32 (leAt b 0 4)) m
      | none => m
    m.writeFour (a + 4) (b.drop 4) n

/-- REG_WRITE (Table 10.7): 16 bytes to a Surveyor address, answered with STATUS. -/
def regWrite (k : Fin 6) (m : LinkMsg) (x : Mach) : Mach :=
  let a := m.arg.toNat
  if x.dev.linkHeld a true then { x with dev := x.dev.linkWake a } else
  let x := { x with dev := x.dev.takeMsg k m }
  let b := slice 0 16 m.data
  match linkAccess a (some b) [] x with
  | some y =>
    match answered x y with
    | some (.memDone _) => { y with dev := y.dev.status k m .ok }
    | _ => { y with dev := y.dev.status k m .refused }
  | none =>
    let y := x.writeFour a b 4
    { y with dev := y.dev.status k m .ok }

/-- REG_WRITE. -/
def execRegWrite (k : Fin 6) (m : LinkMsg) (s : State) : Host.Outcome State Fault Refusal := memStep s (regWrite k m)

/-! ### Group-wide locks -/

/-- A claim of the same lock by a lower chip waits in a receive buffer: the claims of one arbitration window (R331). -/
def Dev.lowerClaim (d : Dev) (m : LinkMsg) : Bool :=
  (List.finRange 6).any (fun k => (d.link k).inbox.any (fun x => x.typ == 0x03 && x.arg == m.arg && decide (x.src.toNat < m.src.toNat)))

/-- LOCK_CLAIM (R331): a group-wide lock, 48 to 63, for owner 0x40 + SRC; STATUS says how it went. -/
def lockClaim (k : Fin 6) (m : LinkMsg) (d : Dev) : Dev :=
  let d := d.takeMsg k m
  if h : 48 ≤ m.arg.toNat ∧ m.arg.toNat < 64 then
    if d.lowerClaim m then d.status k m .busy
    else
      let (r, _, d) := d.lockAcquire ⟨m.arg.toNat, h.2⟩ (0x40 + m.src.toNat)
      match r with
      | .acquired | .heldSelf => d.status k m .ok
      | .acquiredBroken => d.status k m .acquiredBroken
      | .busy => d.status k m .busy
      | .denied => d.status k m .refused
  else d.status k m .refused

/-- LOCK_CLAIM. -/
def execLockClaim (k : Fin 6) (m : LinkMsg) (s : State) : Host.Outcome State Fault Refusal := devStep s (lockClaim k m)

/-- LOCK_RELEASE (R331, R388). -/
def lockRelease (k : Fin 6) (m : LinkMsg) (d : Dev) : Dev :=
  let d := d.takeMsg k m
  if h : 48 ≤ m.arg.toNat ∧ m.arg.toNat < 64 then
    let own : Bool := (d.locks[m.arg.toNat]'h.2).owner == 0x40 + m.src.toNat
    (d.lockRelease ⟨m.arg.toNat, h.2⟩ (0x40 + m.src.toNat) true).status k m (if own then .ok else .refused)
  else d.status k m .refused

/-- LOCK_RELEASE. -/
def execLockRelease (k : Fin 6) (m : LinkMsg) (s : State) : Host.Outcome State Fault Refusal := devStep s (lockRelease k m)

/-! ### This chip's own requests -/

/-- Flits of the response to a request (Table 10.7). -/
def respFlits (typ : Nat) : Nat := if typ = 0x01 then 2 else if typ = 0x05 then 3 else if typ = 0x06 then 17 else 1

/-- Whether the P buffer has room for a further response beside those outstanding (R303). -/
def Link.room (l : Link) (typ : Nat) : Bool := decide ((l.asked.map (fun q => respFlits q.typ)).sum + respFlits typ ≤ 32)

/-- The lowest tag that no outstanding request has. -/
def Link.freeTag (l : Link) : Nat := ((List.range 256).find? (fun t => !l.asked.any (fun q => q.tag == t))).getD 0

/-- Sends a Q request of this chip (R303); over a link outside ACTIVE it is only awaited, and abandoned (R313). -/
def Dev.sendReq (d : Dev) (k : Fin 6) (m : LinkMsg) : Dev :=
  if (d.link k).room m.typ.toNat then
    (d.updLink k (fun l => { l with asked := l.asked ++ [{ tag := m.tag.toNat, typ := m.typ.toNat }] })).sendMsg k m
  else d

/-- STORE_READ: a read of site memory goes to the storage partner (R291). -/
def execStoreRead (k : Fin 6) (m : LinkMsg) (s : State) : Host.Outcome State Fault Refusal :=
  devStep s (fun d => if d.linkRole k = 2 then d.sendReq k { m with typ := 0x06, data := [] } else d)

/-- STORE_WRITE: a write of site memory goes to the storage partner (R291). -/
def execStoreWrite (k : Fin 6) (m : LinkMsg) (s : State) : Host.Outcome State Fault Refusal :=
  devStep s (fun d => if d.linkRole k = 2 then d.sendReq k { m with typ := 0x07 } else d)

/-- LOCK_CLAIM_RETRY (R331): this chip's Surveyor claims a group-wide lock of the leader, again after a BUSY answer. -/
def execLockClaimRetry (n : Fin 64) (s : State) : Host.Outcome State Fault Refusal :=
  devStep s (fun d => match d.routeLink (d.rf R.TRV_GRP_STAT F.TRV_GRP_STAT_LEADER) with
    | none => d
    | some k => d.sendReq k { typ := 0x03, src := BitVec.ofNat 6 d.selfChip, dst := BitVec.ofNat 6 (d.rf R.TRV_GRP_STAT F.TRV_GRP_STAT_LEADER),
                              tag := BitVec.ofNat 8 (d.link k).freeTag, arg := BitVec.ofNat 64 n.val, data := [] })

/-! ### Host attach -/

/-- Commands in progress on the attach path (R386). -/
def Dev.attachBusy (d : Dev) : Nat := d.host.attach.fetched.length + (d.startedBy .attach).length + d.host.attach.done.length

/-- MBX_CMD (R386): in edge mode a command comes over the host-attach link; beyond 8 in progress it waits in the link's buffer. Its index keeps the
message's source and tag for the answer. -/
def mbxCmd (k : Fin 6) (m : LinkMsg) (d : Dev) : Dev :=
  if d.linkRole k ≠ 1 ∨ d.rf R.TRV_GRP_CTL F.TRV_GRP_CTL_MODE ≠ 1 then d.takeMsg k m
  else if 8 ≤ d.attachBusy then d
  else
    let d := d.takeMsg k m
    let f : Fetched := { idx := m.src.toNat * 256 + m.tag.toNat, desc := BitVec.ofNat 512 (ofLe (slice 0 64 m.data)), ord := d.host.fetches }
    { d with host := { d.host with fetches := d.host.fetches + 1, attach := { d.host.attach with fetched := d.host.attach.fetched ++ [f] } } }

/-- MBX_CMD. -/
def execMbxCmd (k : Fin 6) (m : LinkMsg) (s : State) : Host.Outcome State Fault Refusal := devStep s (mbxCmd k m)

/-- The attach path's completion goes out as an MBX_CPL message (R386, Table 10.7); its ARG, and the ring fields CMD_IDX and PHASE that the
path has no ring for, are free values. -/
def Dev.sendCpl (d : Dev) (c : Cpl) : Dev :=
  let (arg, d) := d.fresh 64
  let (i, d) := d.fresh 16
  let (p, d) := d.fresh 1
  let e := cplEntry c.opcode c.tag c.status.code i.toNat c.result0 c.result1 c.detail 0 p.toNat
  d.sendMsg 4 { typ := 0x85, src := BitVec.ofNat 6 d.selfChip, dst := BitVec.ofNat 6 (c.idx / 256), tag := BitVec.ofNat 8 (c.idx % 256), arg := arg,
                data := leBytes 32 e.toNat }

/-- Whether the attach link takes a completion: its earlier P messages have left, and the partner has room for the three flits of an MBX_CPL (R300,
R303, R386). -/
def Dev.attachRoom (d : Dev) : Bool :=
  let l := d.link 4
  l.st == .active && l.txMsg[1].isEmpty && decide ((l.sent[3] + 256 - l.got[3] % 256) % 256 + 3 ≤ chanSize 3)

/-- COMPLETION_WRITE (R379, Table 12.12): written into the ring, or discarded and counted once the rings are quiescing. The attach
path sends it as an MBX_CPL message once P space is reserved; till then it waits (R303, R386). -/
def completionWrite (i : Issuer) (d : Dev) : Dev :=
  match i with
  | .attach =>
    match d.host.attach.done with
    | [] => d
    | c :: t =>
      if d.attachRoom then ({ d with host := { d.host with attach := { d.host.attach with done := t } } }).sendCpl c else d
  | .fn f =>
    match (d.ring f).done with
    | [] => d
    | c :: t =>
      let r := d.ring f
      if c.orphan ∨ r.st = .quiescing ∨ r.st = .off then
        (d.updRing f (fun r => { r with done := t })).bump (R.MBX_CPL_DISC f) F.MBX_CPL_DISC_DISC
      else if (r.cplPi - r.cplCi).toNat < d.cplSize f then
        (d.updRing f (fun r => { r with done := t })).writeCpl f c
      else d

/-- COMPLETION_WRITE. -/
def execCompletionWrite (i : Issuer) (s : State) : Host.Outcome State Fault Refusal := devStep s (completionWrite i)

/-! ### Tunnelled Guideline frames -/

/-- GDL (R499): a frame for this chip enters the ring at the link's station. RESET_NOTE reaches this chip's Warden; a RESP to this chip's
Surveyor reaches it. -/
def gdl (k : Fin 6) (m : LinkMsg) (d : Dev) : Dev :=
  let d := (d.takeMsg k m).bump R.GDL_TUNNEL_CNT F.GDL_TUNNEL_CNT_RX
  let fr : GdlFrame := { dst := leAt m.data 0 1, src := leAt m.data 1 1, op := leAt m.data 2 1, payload := slice 4 (leAt m.data 3 1) m.data }
  if fr.op = 0x07 then d.resetNote (leAt fr.payload 0 1 % 64) else d.emit (.gdlFrame fr)

/-- GDL. -/
def execGdl (k : Fin 6) (m : LinkMsg) (s : State) : Host.Outcome State Fault Refusal := devStep s (gdl k m)

end Sys2Proof.Machine
end

