-- ==== Sys2Proof/Machine/Service.lean ====
section
/-!
DEFINITION. The Device and Security commands (Tables 13.5, 13.16; R371, R404, R415, R416, R467, R482, R483, R489).
-/
namespace Sys2Proof.Machine

/-! ### Device -/

/-- The row of a command with no parameters and no buffer. -/
def specPlain (op : Nat) (rights : Rights) : CmdSpec := { op := op, rights := rights }

/-- How many bits of a mask are set. -/
def popCount (n w : Nat) : Nat := ((List.range w).filter (fun i => n.testBit i)).length

/-- DEVICE_INFO (Table 13.5). -/
def deviceInfo (_ : Cmd) (d : Dev) : Reply Dev :=
  let f := d.fus
  let eff := d.rf R.LIC_EFFECT F.LIC_EFFECT_EFFECT
  let group := if f.part = 4 then 7 else if d.licensed 1 then 63 else 7
  let r0 := f.part + b2n f.high * 2 ^ 4 + popCount f.ports.toNat 16 * 2 ^ 5 + popCount f.links.toNat 6 * 2 ^ 10
    + popCount f.stks.toNat 4 * 2 ^ 13 + f.denseMhz * 2 ^ 16 + f.capW * 2 ^ 28 + d.licencesHeld * 2 ^ 40 + eff * 2 ^ 48
    + (if d.licensed 2 then 8 else 2) * 2 ^ 54 + group * 2 ^ 58
  done d (BitVec.ofNat 64 r0) ((d.reg R.LNT_MIR_FWVER).setWidth 64)

/-- DEVICE_INFO. -/
def execDeviceInfo (c : Cmd) (s : State) : Host.Outcome State Fault Refusal := cmdStep (specPlain 0x0100 .any) deviceInfo c s

/-- DEVICE_STATUS's row. -/
def specDeviceStatus : CmdSpec := { op := 0x0101, rights := .any, buffer := true }

/-- DEVICE_STATUS: the mirror registers (Table 12.6). -/
def deviceStatus (c : Cmd) (d : Dev) : Reply Dev :=
  let r0 := (d.peek R.LNT_MIR_STATE).setWidth 64
  let (es, d) := d.readRegs (Blk.lnt.addrs 0 (fun r => decide (0x400 ≤ r.off) && decide (r.off < 0x600)))
  report c d r0 es

/-- DEVICE_STATUS. -/
def execDeviceStatus (c : Cmd) (s : State) : Host.Outcome State Fault Refusal := cmdStep specDeviceStatus deviceStatus c s

/-- DEVICE_NOP's row. -/
def specDeviceNop : CmdSpec := { op := 0x0102, rights := .any, used := params 0 15 }

/-- DEVICE_NOP: P0 to P15 come back. -/
def deviceNop (c : Cmd) (d : Dev) : Reply Dev := done d (BitVec.ofNat 64 (c.pn 0 8)) (BitVec.ofNat 64 (c.pn 8 8))

/-- DEVICE_NOP. -/
def execDeviceNop (c : Cmd) (s : State) : Host.Outcome State Fault Refusal := cmdStep specDeviceNop deviceNop c s

/-- DEVICE_WARM_RESET's row. -/
def specWarmReset : CmdSpec := { op := 0x0103, rights := .pf, used := [(0, 1)] }

/-- DEVICE_WARM_RESET (R467): WARM_N is asserted inside 1 ms after it completes. -/
def deviceWarmReset (c : Cmd) (d : Dev) : Reply Dev :=
  if d.anyRun ∧ c.p 0 = 0 then busy PclSt.run.code
  else done (d.updBoot (fun b => { b with warmAt := some (d.clk + 100000) }))

/-- DEVICE_WARM_RESET. -/
def execDeviceWarmReset (c : Cmd) (s : State) : Host.Outcome State Fault Refusal := cmdStep specWarmReset deviceWarmReset c s

/-- The firmware slot that is not CONFIRMED (R482). -/
def Dev.freeSlot (d : Dev) : Fin 2 := otherSlot d.led.bootRec.confirmed

/-- The pages of a slot; the delivered image's own bytes are not kept, so its pages read as zeros once it is overwritten. -/
def FwSlot.pageMap : FwSlot → SMap (List Byte)
  | .pages m => m
  | .delivered => []

/-- Page `i` of a slot with bytes written at `off`. -/
def writePage (m : SMap (List Byte)) (off : Nat) (b : List Byte) (i : Nat) : SMap (List Byte) :=
  let old := slice 0 fwPage (SMap.get [] m i)
  let new := slice (i * fwPage - off) (min fwPage (off + b.length - i * fwPage)) b
  SMap.set [] m i (new ++ old.drop new.length)

/-- Writes bytes into a slot from an offset that is a multiple of a page. -/
def writePages (m : SMap (List Byte)) (off : Nat) (b : List Byte) : SMap (List Byte) :=
  ((List.range ((b.length + fwPage - 1) / fwPage)).map (fun i => off / fwPage + i)).foldl (fun m i => writePage m off b i) m

/-- FW_WRITE's row. -/
def specFwWrite : CmdSpec := { op := 0x0104, rights := .pf, used := params 0 3, buffer := true }

/-- FW_WRITE (R482): the first one after a commit clears a TRIAL that names the slot. -/
def fwWrite (c : Cmd) (d : Dev) : Reply Dev :=
  let off := c.pn 0 4
  if off % fwPage ≠ 0 ∨ c.bufLen < fwPage ∨ 0x100000 < c.bufLen ∨ fwSlotBytes < off + c.bufLen then refused .range 0
  else match inputOf c with
    | none => dmaError
    | some b =>
      if !c.env.ledgerOk then .refuse .ledgerError 0
      else
        let s := d.freeSlot
        let d := if !d.led.fwPartial ∧ d.led.bootRec.trial = some s then d.clearTrial else d
        done (d.updLed (fun l => { l with slots := l.slots.set s (.pages (writePages l.slots[s].pageMap off b)), fwPartial := true }))

/-- FW_WRITE. -/
def execFwWrite (c : Cmd) (s : State) : Host.Outcome State Fault Refusal := cmdStep specFwWrite fwWrite c s

/-- Whether FW_COMMIT accepts a slot's image of `n` bytes (R482). -/
def slotAccepted (f : Fuses) (s : FwSlot) (n : Nat) : Bool := match s with
  | .pages m => commitAccepted f m n
  | .delivered => (match bootImage f .delivered false with
    | some i => i.len == n
    | none => false)

/-- FW_COMMIT's row. -/
def specFwCommit : CmdSpec := { op := 0x0105, rights := .pf, used := params 0 3 }

/-- FW_COMMIT (R482): the mirror reads UPDATING meanwhile; an accepted slot becomes TRIAL. -/
def fwCommit (c : Cmd) (d : Dev) : Reply Dev :=
  let s := d.freeSlot
  let ok := slotAccepted d.fus d.led.slots[s] (c.pn 0 4)
  let d := d.setMirror 5 0
  if !ok then .finish (d.setMirror 2 0) .refused 0 0 (detail .signature)
  else if !c.env.ledgerOk then .finish (d.setMirror 2 0) .ledgerError 0 0 0
  else done ((d.updLed (fun l => { (l.writeBoot l.bootRec.confirmed (some s)) with fwPartial := false })).setMirror 2 0)

/-- FW_COMMIT. -/
def execFwCommit (c : Cmd) (s : State) : Host.Outcome State Fault Refusal := cmdStep specFwCommit fwCommit c s

/-- FW_ABORT: a partial image is discarded. -/
def fwAbort (_ : Cmd) (d : Dev) : Reply Dev :=
  if d.led.fwPartial then
    done (d.updLed (fun l => { l with slots := l.slots.set (otherSlot l.bootRec.confirmed) (.pages []), fwPartial := false }))
  else done d

/-- FW_ABORT. -/
def execFwAbort (c : Cmd) (s : State) : Host.Outcome State Fault Refusal := cmdStep (specPlain 0x0106 .pf) fwAbort c s

/-! ### Security -/

/-- The digest of the owner key, QX then QY as the records store them. -/
def keyDigest (k : Nat × Nat) : List Byte := sha384 (leBytes 48 k.1 ++ leBytes 48 k.2)

/-- SEC_STATUS (Table 13.16). With no key enrolled the spec gives RESULT1 no value: it is free. -/
def secStatus (_ : Cmd) (d : Dev) : Reply Dev :=
  let r0 := d.licencesHeld + d.rf R.LIC_EFFECT F.LIC_EFFECT_EFFECT * 2 ^ 8 + b2n d.led.ownerKey.isSome * 2 ^ 16
    + b2n d.led.ownerLock * 2 ^ 17 + b2n d.boot.lab * 2 ^ 18
  match d.led.ownerKey with
  | some k => done d (BitVec.ofNat 64 r0) (BitVec.ofNat 64 (ofBe ((keyDigest k).drop 40)))
  | none =>
    let (v, d) := d.fresh 64
    done d (BitVec.ofNat 64 r0) v

/-- SEC_STATUS. -/
def execSecStatus (c : Cmd) (s : State) : Host.Outcome State Fault Refusal := cmdStep (specPlain 0x0C00 .any) secStatus c s

/-- A row that takes a buffer and no parameters. -/
def specRecord (op : Nat) : CmdSpec := { op := op, rights := .pf, buffer := true }

/-- The feature a licence record names. -/
def licFeature (b : List Byte) : Fin 6 := fin6 (leAt b 6 2)

/-- LICENCE_INSTALL (R15, R404, R489): in effect at once, LAB-MODE apart. -/
def licenceInstall (c : Cmd) (d : Dev) : Reply Dev :=
  match inputOf c with
  | none => dmaError
  | some b =>
    if !licenceFormed b || !licenceSigned b then refused .signature
    else if !licenceBound d.fus b then refused .binding 1
    else if !c.env.ledgerOk then .refuse .ledgerError 0
    else
      let i := licFeature b
      let d := d.updLed (fun l => { l with licences := l.licences.set i (some b) })
      let d := d.setReg R.LIC_BAD (d.reg R.LIC_BAD &&& ~~~(BitVec.ofNat 32 (2 ^ i.val)))
      done (if i = 5 then d else d.setReg R.LIC_EFFECT (d.reg R.LIC_EFFECT ||| BitVec.ofNat 32 (2 ^ i.val)))

/-- LICENCE_INSTALL. -/
def execLicenceInstall (c : Cmd) (s : State) : Host.Outcome State Fault Refusal := cmdStep (specRecord 0x0C01) licenceInstall c s

/-- LICENCE_REMOVE's row. -/
def specLicenceRemove : CmdSpec := { op := 0x0C02, rights := .pf, used := params 0 0 }

/-- LICENCE_REMOVE (R404): the record is erased; the feature stays in effect until the next cold start. -/
def licenceRemove (c : Cmd) (d : Dev) : Reply Dev :=
  if 5 < c.p 0 then refused .range 0
  else if !c.env.ledgerOk then .refuse .ledgerError 0
  else
    let i := fin6 (c.p 0)
    done ((d.updLed (fun l => { l with licences := l.licences.set i none })).setReg R.LIC_BAD
      (d.reg R.LIC_BAD &&& ~~~(BitVec.ofNat 32 (2 ^ i.val))))

/-- LICENCE_REMOVE. -/
def execLicenceRemove (c : Cmd) (s : State) : Host.Outcome State Fault Refusal := cmdStep specLicenceRemove licenceRemove c s

/-- REFUSED where the spec names no reason: DETAIL is a free value (the model's own). -/
def refusedFree (d : Dev) : Reply Dev :=
  let (v, d) := d.fresh 32
  .finish d .refused 0 0 v

/-- Whether an owner key record is well formed (Table 14.5). -/
def ownerFormed (b : List Byte) : Bool :=
  b.length == 256 && leAt b 0 4 == 0x4B4F4E47 && leAt b 4 2 == 1 && decide (leAt b 6 2 ≤ 1) && leAt b 12 4 == 0
    && decide (leAt b 128 2 ≤ 1) && leAt b 130 30 == 0

/-- The key of an owner key record. -/
def ownerKeyOf (b : List Byte) : Nat × Nat := (leAt b 32 48, leAt b 80 48)

/-- REMOVE of an owner key record. -/
def ownerRemoves (b : List Byte) : Bool := leAt b 6 2 == 1

/-- Whether the record's key suits its FLAGS: a point of P-384, or 0 with REMOVE (R415). -/
def ownerKeyOk (b : List Byte) : Bool := onCurve (ownerKeyOf b) || (ownerRemoves b && ownerKeyOf b == (0, 0))

/-- Whether a message is signed by the enrolled owner key. -/
def Dev.ownerSigned (d : Dev) (msg : List Byte) (sig : Nat × Nat) : Bool := match d.led.ownerKey with
  | some k => ecdsaVerify k msg sig.1 sig.2
  | none => false

/-- OWNER_ENROL (R415). -/
def ownerEnrol (c : Cmd) (d : Dev) : Reply Dev :=
  match inputOf c with
  | none => dmaError
  | some b =>
    if !ownerFormed b ∨ leAt b 8 4 ≤ d.led.serial then refusedFree d
    else if leAt b 16 16 ≠ 0 ∧ leAt b 16 16 ≠ d.fus.devid.toNat then refused .binding 1
    else if !ownerKeyOk b then refusedFree d
    else if d.led.ownerLock ∧ !(leAt b 128 2 == 1 && d.ownerSigned (b.take 128) (sigAt b 160)) then refused .owner
    else if d.led.ownerKey = none ∧ ownerRemoves b then refusedFree d
    else if !c.env.ledgerOk then .refuse .ledgerError 0
    else done (d.updLed (fun l => { l with ownerKey := if ownerRemoves b then none else some (ownerKeyOf b), serial := leAt b 8 4 }))

/-- OWNER_ENROL. -/
def execOwnerEnrol (c : Cmd) (s : State) : Host.Outcome State Fault Refusal := cmdStep (specRecord 0x0C03) ownerEnrol c s

/-- Whether a release record is accepted (R416). -/
def Dev.releaseOk (d : Dev) (b : List Byte) : Bool :=
  b.length == 128 && leAt b 0 4 == 0x524F4E47 && leAt b 4 2 == 1 && leAt b 6 2 == 0 && decide (d.led.serial < leAt b 8 4)
    && leAt b 12 4 == 0 && leAt b 16 16 != 0 && leAt b 16 16 == d.fus.devid.toNat && d.ownerSigned (b.take 32) (sigAt b 32)

/-- OWNER_LOCK's row; setting the lock takes no buffer. -/
def specOwnerLock : CmdSpec := { op := 0x0C04, rights := .pf, used := params 0 0, buffer := true }

/-- OWNER_LOCK (R416): P0 1 sets the lock, P0 0 clears it on a release record. -/
def ownerLock (c : Cmd) (d : Dev) : Reply Dev :=
  if 1 < c.p 0 then refused .range 0
  else if c.p 0 = 1 then
    (if c.dataLen ≠ 0 then refused .field
     else if d.led.ownerKey = none then refused .owner
     else if !c.env.ledgerOk then .refuse .ledgerError 0
     else done (d.updLed (fun l => { l with ownerLock := true })))
  else match inputOf c with
    | none => dmaError
    | some b =>
      if !d.releaseOk b then refused .owner
      else if !c.env.ledgerOk then .refuse .ledgerError 0
      else done (d.updLed (fun l => { l with ownerLock := false, serial := leAt b 8 4 }))

/-- OWNER_LOCK with P0 = 1. -/
def execOwnerLockSet (c : Cmd) (s : State) : Host.Outcome State Fault Refusal := cmdStep specOwnerLock ownerLock c s

/-- OWNER_LOCK with P0 = 0. -/
def execOwnerLockClear (c : Cmd) (s : State) : Host.Outcome State Fault Refusal := cmdStep specOwnerLock ownerLock c s

/-- SEC_GET_CERT's row. -/
def specGetCert : CmdSpec := { op := 0x0C05, rights := .any, buffer := true }

/-- SEC_GET_CERT: the device certificate. -/
def secGetCert (c : Cmd) (d : Dev) : Reply Dev :=
  if c.bufLen < 4096 then refused .range 0
  else match inputOf c with
    | none => dmaError
    | some _ => done (d.toBuffer c Config.certificate) (BitVec.ofNat 64 Config.certificate.length)

/-- SEC_GET_CERT. -/
def execSecGetCert (c : Cmd) (s : State) : Host.Outcome State Fault Refusal := cmdStep specGetCert secGetCert c s

end Sys2Proof.Machine
end

