-- ==== Sys2Proof/Machine/Site.lean ====
section
/-!
DEFINITION. Site memory: the image, its sealing, SITE_SAVE, SITE_RESTORE and SITE_DELETE (09_learning.md R288 to R292), and the end of a sweep.
-/
namespace Sys2Proof.Machine

/-! ### The image (R288) -/

/-- The axons of a Gallery whose lists site memory holds: light, with a plastic list. -/
def Gal.siteAxons (x : Gal) : List (Nat × BitVec 64) := x.axons.filter (fun e => x.plasticList e.2 && fget axDark e.2 == 0)

/-- Words and companion words of a plastic list. -/
def listSpan (e : BitVec 64) : Nat :=
  let n := fget axCount e + fget axHead e
  n + (n + 1) / 2

/-- The light neurons whose profile has HOMEO. -/
def Dev.siteNeurons (d : Dev) (g : Fin 8) : List (Nat × BitVec 64) :=
  (d.gal g).state.filter (fun e => fget nsW e.2 == 1 && bit (d.prof g (fget nsModel e.2) 0) 2 && (d.darkPort g e.1).isNone)

/-- What site memory holds for one Gallery: the sampler register, each list with its axon's COUNT, HEADROOM and PRE_TRACE, each ADAPT. -/
def Dev.siteGallery (d : Dev) (g : Fin 8) : List Byte :=
  let x := d.gal g
  let axs := x.siteAxons
  let ns := d.siteNeurons g
  leBytes 4 x.lrn.x.toNat ++ leBytes 4 axs.length
    ++ axs.flatMap (fun e => leBytes 4 e.1 ++ leBytes 2 (fget axCount e.2) ++ leBytes 1 (fget axHead e.2) ++ leBytes 1 (fget axPre e.2)
        ++ (List.range (listSpan e.2)).flatMap (fun i => leBytes 4 (x.synWord (fget axBase e.2 + i)).toNat))
    ++ leBytes 4 ns.length ++ ns.flatMap (fun e => leBytes 4 e.1 ++ leBytes 2 (fget nsAdapt e.2))

/-- The bytes of an image before it is sealed: the bindings (R288), then each Gallery of the parcel. -/
def Dev.sitePlain (d : Dev) (q : Fin 8) : List Byte :=
  leBytes 16 d.fus.devid.toNat ++ leBytes 1 d.fus.part ++ (d.pcl q).digest ++ (d.parcelGals q).flatMap (fun g => d.siteGallery g)

/-- The device-unique key of site memory (R288). -/
def siteKey : List Byte := beBytes 32 Config.siteKey.toNat

/-- A sealed image: the 96-bit IV, the ciphertext, the tag (R288; DESIGN CHOICE of the order, log entry 59). -/
def siteSealed (iv : BitVec 96) (b : List Byte) : List Byte :=
  let v := leBytes 12 iv.toNat
  let ct := gcmCrypt siteKey v b
  v ++ ct ++ gcmTag siteKey v [] ct

/-- The bytes of an image that authenticates. -/
def siteOpen (b : List Byte) : Option (List Byte) :=
  if b.length < 28 then none
  else
    let v := b.take 12
    let ct := (b.drop 12).take (b.length - 28)
    if gcmTag siteKey v [] ct = b.drop (b.length - 16) then some (gcmCrypt siteKey v ct) else none

/-- What an image's authentication and bindings come to: its bytes, or the DETAIL of REFUSED BINDING (R290, Table 13.3). -/
def Dev.siteVerify (d : Dev) (q : Fin 8) (b : List Byte) : Except (BitVec 32) (List Byte) :=
  match siteOpen b with
  | none => .error (detail .binding 0)
  | some p =>
    if leAt p 0 16 ≠ d.fus.devid.toNat then .error (detail .binding 1)
    else if leAt p 16 1 ≠ d.fus.part then .error (detail .binding 2)
    else if slice 17 48 p ≠ (d.pcl q).digest then .error (detail .binding 3)
    else .ok (p.drop 65)

/-! ### SITE_SAVE -/

/-- Bytes of the Ledger's site memory area. -/
def siteArea : Nat := 96 * 1048576

/-- Bytes of an image slot over the storage link. -/
def siteSlot : Nat := 511 * 1048576

/-- Bytes of site memory that the Ledger holds. -/
def Dev.siteUsed (d : Dev) : Nat := ((List.finRange 8).map (fun q => match d.led.sites[q] with | some x => x.bytes.length | none => 0)).sum

/-- Whether a sweep of a Gallery of the parcel runs. -/
def Dev.sweeping (d : Dev) (q : Fin 8) : Bool := (d.parcelGals q).any (fun g => (d.gal g).lrn.running.isSome)

/-- The sealed image of a parcel, copied whole at the instant the copy begins (DESIGN CHOICE, log entry 59); its Galleries wake for it. -/
def Dev.siteImage (d : Dev) (q : Fin 8) : List Byte × Dev :=
  let d := d.forEach (d.parcelGals q) (fun g d => d.needDom (4 + g.val))
  let (iv, d) := d.fresh 96
  (siteSealed iv (d.sitePlain q), d)

/-- Sets LRN_STAT.DEFER of a parcel's Galleries (R289). -/
def Dev.setDefer (d : Dev) (q : Fin 8) (v : Nat) : Dev := d.forEach (d.parcelGals q) (fun g d => d.setRf (R.LRN_STAT g) F.LRN_STAT_DEFER v)

/-- The copy ends: one sweep applies the epochs deferred meanwhile (R289). -/
def Dev.endDefer (d : Dev) (q : Fin 8) : Dev :=
  d.forEach (d.parcelGals q) (fun g d =>
    let d := d.setRf (R.LRN_STAT g) F.LRN_STAT_DEFER 0
    if (d.gal g).lrn.running.isNone && d.learning g then
      d.updLrn g (fun l => { l with running := l.waiting.head?, waiting := l.waiting.drop 1 })
    else d)

/-- SITE_SAVE's row. -/
def specSiteSave : CmdSpec := { specOnParcel 0x0805 with used := params 0 0 }

/-- The storage link: Z+ (R291). -/
def storageLink : Fin 6 := 5

/-- Whether Z+ is ACTIVE in the storage role. -/
def Dev.storageUp (d : Dev) : Bool := (d.link storageLink).st == .active && d.linkRole storageLink == 2

/-- A wait of site memory of parcel `q`. -/
def Wait.isSite (q : Fin 8) : Wait → Bool
  | .site j => j.parcel == q
  | _ => false

/-- The site memory job of a parcel that runs, a save or a restore. -/
def Dev.siteJob (d : Dev) (q : Fin 8) : Option SiteJob := d.host.started.findSome? (fun x => match x.wait with
  | .site j => if j.parcel = q then some j else none
  | _ => none)

/-- Replaces the job of a parcel. -/
def Dev.setJob (d : Dev) (j : SiteJob) : Dev :=
  { d with host := { d.host with started := d.host.started.map (fun x => if Wait.isSite j.parcel x.wait then { x with wait := .site j } else x) } }

/-- Whether a save of the parcel's site memory runs. -/
def Dev.saving (d : Dev) (q : Fin 8) : Bool := (d.siteJob q).any (fun j => j.step.ofSave)

/-- A job ends with a status: a save's copy is over, if it was not. -/
def Dev.endJob (d : Dev) (j : SiteJob) (st : Status) (dt : BitVec 32 := 0) : Dev :=
  let d := if j.step.ofSave then d.endDefer j.parcel else d
  d.release (Wait.isSite j.parcel) st 0 0 dt

/-- The copy of a save begins: an image that does not fit is refused; one for the Ledger is written at 40 MB/s, one for the storage link once the
partner's directory is read (R289, R291). `none` says that the command ends at once, refused. -/
def Dev.beginCopy (d : Dev) (q : Fin 8) (dest : Nat) (ledgerOk : Bool) : Option (SiteJob × Dev) :=
  let (b, d) := d.siteImage q
  if (if dest = 0 then decide (siteArea < d.siteUsed + b.length) else decide (siteSlot < b.length)) then none
  else
    let j : SiteJob := { parcel := q, step := if dest = 0 then .ledger else .dirRead, dest := dest, ledgerOk := ledgerOk, image := b,
                         ends := d.clk + (b.length * 5 + 1) / 2 }
    some (j, d.setDefer q 1)

/-- The licences of a site memory command (R13, R291, Table 13.12). -/
def Dev.siteLicensed (d : Dev) (storage : Bool) : Bool := d.licensed 3 && (!storage || d.licensed 4)

/-- SITE_SAVE (R289, R292): it waits for running sweeps, then copies. -/
def siteSave (c : Cmd) (d : Dev) : Reply Dev :=
  let q := c.parcel
  if !d.siteLicensed (c.p 0 == 1) then .refuse .notLicensed 0
  else if 1 < c.p 0 then refused .range 0
  else d.inStates q [.loaded, .run] (
    if c.p 0 = 1 ∧ !d.storageUp then busy (d.link storageLink).st.code
    else if (d.siteJob q).isSome then busy (d.pcl q).st.code
    else if d.sweeping q then .hold d (.site { parcel := q, step := .sweeps, dest := c.p 0, ledgerOk := c.env.ledgerOk })
    else match d.beginCopy q (c.p 0) c.env.ledgerOk with
      | none => .refuse .refused (detail .capacity)
      | some (j, d) => .hold d (.site j))

/-- SITE_SAVE. -/
def execSiteSave (c : Cmd) (s : State) : Host.Outcome State Fault Refusal := cmdStep specSiteSave siteSave c s

/-- The save that waited for the sweeps of a parcel copies, once none of its sweeps runs. -/
def Dev.afterSweeps (d : Dev) (q : Fin 8) : Dev :=
  if d.sweeping q then d
  else match d.siteJob q with
    | some j =>
      if j.step ≠ .sweeps then d
      else if [PclSt.loaded, .run, .stopping].contains (d.pcl q).st then
        match d.beginCopy q j.dest j.ledgerOk with
        | none => d.endJob j .refused (detail .capacity)
        | some (j, d) => d.setJob j
      else d.endJob j .busy (detail .state (d.pcl q).st.code)
    | none => d

/-- A Ledger write of site memory that is over: verified, it replaces the old image; a failure leaves that (R289). -/
def Dev.ledgerWritten (d : Dev) (q : Fin 8) : Dev := match d.siteJob q with
  | some j =>
    if j.step = .ledger ∧ j.ends ≤ d.clk then
      if j.ledgerOk then (d.updLed (fun l => { l with sites := l.sites.set q (some { bytes := j.image }) })).endJob j .ok
      else d.endJob j .ledgerError
    else d
  | none => d

/-- EPOCH_SWEEP_DONE: the sweep latched at an epoch end runs in the order of R273, and reports; it completes even when its Gallery has left
RUN (R287). A site memory save that waited for it follows (R289). -/
def epochSweepDone (g : Fin 8) (errs : List EccErr) (d : Dev) : Dev :=
  let d := match (d.gal g).lrn.running with
    | some w => if d.domOn (4 + g.val) ∧ (d.gal g).st ≠ GalSt.faulted then (d.corrupt g errs).sweep g w else d
    | none => d
  match d.parcelAt g.val with
  | some q => d.afterSweeps q
  | none => d

/-- EPOCH_SWEEP_DONE. -/
def execEpochSweepDone (g : Fin 8) (errs : List EccErr) (s : State) : Host.Outcome State Fault Refusal := devStep s (epochSweepDone g errs)

/-! ### SITE_RESTORE -/

/-- The list of one axon, through the dark range checker (R126, R290): COUNT, HEADROOM and PRE_TRACE, words and companions. -/
def Dev.restoreList (d : Dev) (g : Fin 8) (a count head pre : Nat) (ws : List Word) : Dev :=
  let e := SMap.get 0 (d.gal g).axons a
  let e' := fput axPre (fput axHead (fput axCount e count) head) pre
  match (if fget axDark e = 1 then some 3 else (d.darkMap g).axonCheck a e' (ws.take count) ((ws.drop count).take head)) with
  | some n => d.darkDropped g n
  | none => (d.updGal g (fun x => ((List.range ws.length).zip ws).foldl (fun x w => x.putSyn (fget axBase e + w.1) w.2) x)).putAxon g a e'

/-- The lists of an image of one Gallery; what is left of the bytes. -/
def Dev.restoreLists (d : Dev) (g : Fin 8) : Nat → List Byte → List Byte × Dev
  | 0, b => (b, d)
  | n + 1, b =>
    let count := leAt b 4 2
    let head := leAt b 6 1
    let k := count + head + (count + head + 1) / 2
    Dev.restoreLists (d.restoreList g (leAt b 0 4) count head (leAt b 7 1) (words32 ((b.drop 8).take (4 * k)))) g n (b.drop (8 + 4 * k))

/-- ADAPT of the neurons of an image of one Gallery. -/
def Dev.restoreAdapt (d : Dev) (g : Fin 8) (n : Nat) (b : List Byte) : Dev :=
  d.forEach (List.range n) (fun i d =>
    let k := leAt b (6 * i) 4
    d.putState g k (fput nsAdapt (SMap.get 0 (d.gal g).state k) (leAt b (6 * i + 4) 2)))

/-- One Gallery's part of an image; what is left of the bytes. -/
def Dev.restoreGallery (d : Dev) (g : Fin 8) (b : List Byte) : List Byte × Dev :=
  let d := d.updLrn g (fun l => { l with x := BitVec.ofNat 32 (leAt b 0 4) })
  let (b, d) := d.restoreLists g (leAt b 4 4) (b.drop 8)
  let n := leAt b 0 4
  ((b.drop (4 + 6 * n)), d.restoreAdapt g n (b.drop 4))

/-- Writes an image's state into the parcel's Galleries. -/
def Dev.restoreSite (d : Dev) (q : Fin 8) (b : List Byte) : Dev :=
  let d := d.forEach (d.parcelGals q) (fun g d => d.needDom (4 + g.val))
  ((d.parcelGals q).foldl (fun (s : List Byte × Dev) g => s.2.restoreGallery g s.1) (b, d)).2

/-- A restore fails once its second pass has begun: the parcel is left CREATED and its Galleries EMPTY (R290, R291). -/
def Dev.restoreFails (d : Dev) (q : Fin 8) : Dev := ((d.forEach (d.parcelGals q) (fun g d => d.onGal g (fun d => d.cfgReset g)))).failLoad q

/-- SITE_RESTORE's row. -/
def specSiteRestore : CmdSpec := { specOnParcel 0x0806 with used := params 0 0 }

/-- SITE_RESTORE from the Ledger (R290, R291): the first reading changes nothing; a second reading that fails leaves the parcel CREATED. -/
def Dev.restoreLedger (d : Dev) (c : Cmd) : Reply Dev :=
  let q := c.parcel
  if !c.env.ledgerOk then .refuse .ledgerError 0
  else match d.led.sites[q] with
    | none => refused .absent
    | some x => match d.siteVerify q x.bytes with
      | .error dt => .refuse .refused dt
      | .ok p => match c.env.second with
        | none => done (d.restoreSite q p)
        | some e => match e.read with
          | none => .finish (d.restoreFails q) .ledgerError 0 0 0
          | some b2 => match d.siteVerify q b2 with
            | .ok p2 => done (d.restoreSite q p2)
            | .error _ => .finish (d.restoreFails q) .refused 0 0 (detail .buffer)

/-- SITE_RESTORE (R290 to R292): over the storage link it reads the partner's directory, then the image twice. -/
def siteRestore (c : Cmd) (d : Dev) : Reply Dev :=
  let q := c.parcel
  if !d.siteLicensed (c.p 0 == 1) then .refuse .notLicensed 0
  else if 1 < c.p 0 then refused .range 0
  else d.inStates q [.loaded] (
    if (d.siteJob q).isSome then busy (d.pcl q).st.code
    else if c.p 0 = 0 then d.restoreLedger c
    else if !d.storageUp then .refuse .timeout 0
    else .hold d (.site { parcel := q, step := .find, dest := 1 }))

/-- SITE_RESTORE. -/
def execSiteRestore (c : Cmd) (s : State) : Host.Outcome State Fault Refusal := cmdStep specSiteRestore siteRestore c s

/-- SITE_DELETE: the parcel's image in the Ledger. RESULT0 is 0 if none was stored. -/
def siteDelete (c : Cmd) (d : Dev) : Reply Dev :=
  let q := c.parcel
  if !c.env.ledgerOk then .refuse .ledgerError 0
  else match d.led.sites[q] with
    | none => done d 0
    | some _ => done { d with led := { d.led with sites := d.led.sites.set q none } } 1

/-- SITE_DELETE. -/
def execSiteDelete (c : Cmd) (s : State) : Host.Outcome State Fault Refusal := cmdStep (specOnParcel 0x0807) siteDelete c s

end Sys2Proof.Machine
end

