-- ==== Sys2Proof/Machine/Command.lean ====
section
/-!
DEFINITION. The start of a fetched command: the opcodes of Tables 13.5 to 13.18, and what a command waits for (R377, R384, R386, R392,
R396).
-/
namespace Sys2Proof.Machine

/-- An opcode: its row, and what serving a command of it does. -/
structure Opcode where
  spec : CmdSpec
  serve : Cmd → Mach → Mach

/-- An opcode whose effect is on the device alone. -/
def opDev (sp : CmdSpec) (h : Cmd → Dev → Reply Dev) : Opcode :=
  { spec := sp, serve := fun c m => { m with dev := serveDev sp h c m.dev } }

/-- An opcode whose effect is also on memory. -/
def opMach (sp : CmdSpec) (h : Cmd → Mach → Reply Mach) : Opcode := { spec := sp, serve := serveMach sp h }

/-- Groups 0x01 to 0x06. -/
def opcodesLow : List Opcode := [
  opDev (specPlain 0x0100 .any) deviceInfo, opDev specDeviceStatus deviceStatus, opDev specDeviceNop deviceNop,
  opDev specWarmReset deviceWarmReset, opDev specFwWrite fwWrite, opDev specFwCommit fwCommit, opDev (specPlain 0x0106 .pf) fwAbort,
  opDev specParcelStatus parcelStatus, opDev specParcelCreate parcelCreate, opDev specParcelDestroy parcelDestroy,
  opDev specParcelSetPools parcelSetPools, opDev specParcelClear parcelClear,
  opDev (specOnParcel 0x0300 true) atlasStatus, opMach (specOnParcel 0x0301 true) atlasLoad, opDev (specOnParcel 0x0302) atlasUnload,
  opDev specIntakeStatus intakeStatus, opDev (specIntake 0x0401) intakeEnable, opDev (specIntake 0x0402) intakeDisable,
  opDev specIntakeSetShed intakeSetShed, opDev specIntakeInject intakeInject, opDev (specIntake 0x0405) intakeClear,
  opDev specTimeStatus timeStatus, opDev specTimeSetSource timeSetSource, opDev specTimeSetRatio timeSetRatio,
  opDev specTimeSetPhase timeSetPhase, opDev specTimeAcceptPeriod timeAcceptPeriod, opDev specTimeSetLabel timeSetLabel,
  opDev specRunStatus runStatus, opDev specRunStart runStart, opDev specRunStop runStop]

/-- Groups 0x07 to 0x0A. -/
def opcodesMid : List Opcode := [
  opDev (specOnParcel 0x0700 true) egressStatus, opDev specEgressSetMeter egressSetMeter, opDev specSetHeartbeat egressSetHeartbeat,
  opDev specSetBacklog egressSetBacklog, opDev (specOnParcel 0x0704) egressClear, opDev (specOnParcel 0x0705 true) darkStatus,
  opDev (specOnParcel 0x0800 true) learnStatus, opDev (specOnParcel 0x0801) learnEnable, opDev (specOnParcel 0x0802) learnDisable,
  opDev specLearnSetEpoch learnSetEpoch, opDev specLearnReward learnReward, opDev specSiteSave siteSave,
  opDev specSiteRestore siteRestore, opDev (specOnParcel 0x0807) siteDelete, opDev (specOnParcel 0x0808) learnClear,
  opDev (specOnParcel 0x0900 true) expertStatus, opDev specSetBearing expertSetBearing, opDev specSetBias expertSetBias,
  opDev (specOnParcel 0x0903) expertClear,
  opDev specGroupStatus groupStatus, opDev specSetCoord groupSetCoord, opDev specGroupForm groupForm, opDev specGroupDissolve groupDissolve,
  opDev specGroupResync groupResync, opDev specLinkStatus linkStatus, opDev specLinkEnable linkEnable, opDev specLinkRetrain linkRetrain,
  opDev specLinkClear linkClear]

/-- Groups 0x0B to 0x0E. -/
def opcodesHigh : List Opcode := [
  opDev specPowerStatus powerStatus, opDev specPowerSetDomain powerSetDomain, opDev specPowerSetPolicy powerSetPolicy,
  opDev specClockSet clockSet, opDev specTelemetryRead telemetryRead, opDev specPowerSetCap powerSetCap,
  opDev (specPlain 0x0C00 .any) secStatus, opDev (specRecord 0x0C01) licenceInstall, opDev specLicenceRemove licenceRemove,
  opDev (specRecord 0x0C03) ownerEnrol, opDev specOwnerLock ownerLock, opDev specGetCert secGetCert,
  opDev { op := 0x0D00, rights := .any } faultStatus, opDev specLogRead faultLogRead, opDev (specCounters 0x0D02 true) countersRead,
  opDev (specCounters 0x0D03 false) countersClear, opDev specSetBudget faultSetBudget, opDev specFaultRecover faultRecover,
  opDev specMemStatus memStatus, opDev specMemTest memTest, opDev specMemFill memFill, opDev specMemSetBg memSetBg,
  opDev (specDiag 0x0E00 (params 4 13)) diagTap, opDev (specDiag 0x0E01 (params 1 1 ++ params 4 11)) diagRead,
  opMach (specDiag 0x0E02 (params 1 1 ++ params 4 11)) diagWrite]

/-- Every opcode (Tables 13.5 to 13.18). -/
def opcodes : List Opcode := opcodesLow ++ opcodesMid ++ opcodesHigh

/-- The row of an opcode number. -/
def opcodeOf (n : Nat) : Option Opcode := opcodes.find? (fun o => o.spec.op == n)

/-- The object a command acts on: 0 and a parcel, 1 and a port, 2 and a stack, 3 and a link (R377, R396). -/
def cmdObject (c : Cmd) : Option (Nat × Nat) :=
  if 0x0A05 ≤ c.opcode ∧ c.opcode ≤ 0x0A08 then some (3, c.p 0)
  else match opcodeOf c.opcode with
    | none => none
    | some o => match o.spec.names with
      | .parcel => some (0, c.target)
      | .port => some (1, c.p 0)
      | .region => some (2, c.p 0)
      | _ => none

/-- A command from its issuer's record. -/
def startedCmd (x : Started) : Cmd := { issuer := x.issuer, idx := x.idx, desc := x.desc }

/-- The commands of an issuer that are fetched and not started. -/
def Dev.fetchedOf (d : Dev) (i : Issuer) : List Fetched := match i with
  | .fn f => (d.ring f).fetched
  | .attach => d.host.attach.fetched

/-- The finished commands of an issuer whose completions are not written. -/
def Dev.doneOf (d : Dev) (i : Issuer) : List Cpl := match i with
  | .fn f => (d.ring f).done
  | .attach => d.host.attach.done

/-- Every issuer. -/
def issuers : List Issuer := (List.finRange 9).map Issuer.fn ++ [.attach]

/-- Whether a command must wait: an earlier one of its issuer in its group, or any earlier one under FENCE (R377); a started one of its
group, or an earlier fetched one, of another issuer that acts on the same object (R377, R396). -/
def Dev.mustWait (d : Dev) (c : Cmd) (x : Fetched) : Bool :=
  let mine := (d.startedBy c.issuer).map (fun s => (startedCmd s).opcode) ++ (d.doneOf c.issuer).map (·.opcode)
  let same (a : Cmd) : Bool := (cmdObject c).isSome && cmdObject a == cmdObject c
  (c.fence && !mine.isEmpty) || mine.any (fun o => o / 256 == c.opcode / 256)
    || d.host.started.any (fun s => s.issuer != c.issuer && (startedCmd s).opcode / 256 == c.opcode / 256 && same (startedCmd s))
    || issuers.any (fun i => i != c.issuer && (d.fetchedOf i).any (fun y => decide (y.ord < x.ord) && same { issuer := i, idx := y.idx, desc := y.desc }))

/-- Takes the oldest fetched command of an issuer off its list. -/
def Dev.popFetched (d : Dev) (i : Issuer) : Dev := match i with
  | .fn f => d.updRing f (fun r => { r with fetched := r.fetched.drop 1 })
  | .attach => { d with host := { d.host with attach := { d.host.attach with fetched := d.host.attach.fetched.drop 1 } } }

/-- Marks a command of a function whose rings have been quiesced since its fetch (Table 12.12). -/
def Dev.orphanOne (d : Dev) (i : Issuer) (idx : Nat) : Dev :=
  let d := { d with host := { d.host with started := d.host.started.map (fun s => if s.issuer = i ∧ s.idx = idx then { s with orphan := true } else s) } }
  match i with
  | .fn f => d.updRing f (fun r => { r with done := r.done.map (fun x => if x.idx = idx then { x with orphan := true } else x) })
  | .attach => d

/-- Serves a command by its opcode; steps 1 and 2 of Table 13.1 for an opcode that does not exist. -/
def serveAny (c : Cmd) (m : Mach) : Mach := match opcodeOf c.opcode with
  | some o => o.serve c m
  | none =>
    let st := if descBad c then Status.refused else .unknownOpcode
    let dt := if descBad c then detail .field else 0
    { m with dev := m.dev.finish c.issuer (cplOf c st 0 0 dt) }

/-- COMMAND_START: the oldest fetched command of an issuer starts, unless it must wait (R377, R392). -/
def commandStart (i : Issuer) (buf : Buf) (env : CmdEnv) (m : Mach) : Mach :=
  match m.dev.fetchedOf i with
  | [] => m
  | x :: _ =>
    let c : Cmd := { issuer := i, idx := x.idx, desc := x.desc, buf := buf, env := env }
    if !m.dev.mayFetch c.opcode ∨ m.dev.mustWait c x then m
    else if !m.dev.domOn 1 then { m with dev := m.dev.wakeEvent 1 }
    else
      let m := serveAny c { m with dev := m.dev.popFetched i }
      if x.orphan then { m with dev := m.dev.orphanOne i x.idx } else m

/-- COMMAND_START. -/
def execCommandStart (i : Issuer) (buf : Buf) (env : CmdEnv) (s : State) : Host.Outcome State Fault Refusal :=
  memStep s (commandStart i buf env)

end Sys2Proof.Machine
end

