-- ==== Sys2Proof/Machine/Mesh.lean ====
section
/-!
DEFINITION. A slot of an output of a mesh node (06_passage_mesh.md R179 to R183), and the arrival of events (R158).
-/
namespace Sys2Proof.Machine

/-- The buffers that feed a network, in order of precedence: 0 VN-P, 1 VN-S with its lanes SA and SB, 2 VN-M, 3 VN-Q (R182). -/
def netBufs (n : Fin 4) : List (Fin 20) := match n with
  | 0 => (List.finRange 4).map (fun p => bufAt p 3)
  | 1 => (List.finRange 4).flatMap (fun p => [bufAt p 0, bufAt p 1])
  | 2 => (List.finRange 4).map (fun p => bufAt p 4)
  | 3 => (List.finRange 4).map (fun p => bufAt p 2)

/-- The head of an input buffer, if it goes to an output (R181). -/
def Gal.headFor (x : Gal) (g : Fin 8) (out : Fin 4) (i : Fin 20) : Option MeshMsg := match x.node[i] with
  | m :: _ => if outTo g.val m.dst = out then some m else none
  | [] => none

/-- A message is delivered to its Gallery (R180, R183): `none` where it must wait, for credits or for a Gallery that sleeps. -/
def Dev.deliverMsg (d : Dev) (g : Fin 8) (m : MeshMsg) : Option Dev :=
  match m.body with
  | .event ev => d.arriveFlit g m.parcel ev
  | .access => some (if m.parcel = 7 then d else d.dropParcel g)
  | b =>
    if d.badParcel g m.parcel then some (d.dropParcel g)
    else if d.asleep g then none
    else match b with
      | .submit q => some (d.takeJob g q)
      | .read plane tag ref row chunk => some (d.serveRead g plane tag ref row chunk)
      | .answer a code => some (d.takeAnswer g a code)
      | .data gallery tag ref row bytes => some (d.takeOperands g gallery tag ref row bytes)
      | _ => some d

/-- A message leaves a node for the next one, which has credits for it: an event counts and raises HOPS, or is dropped at 31 (R56, R179, Table
6.10). -/
def Dev.forward (d : Dev) (g h : Fin 8) (port : Fin 4) (m : MeshMsg) : Dev :=
  match m.body with
  | .event ev =>
    if fget evHops ev = 31 then d.bump (R.MSH_NODE_DROP g) F.MSH_NODE_DROP_HOPS
    else (d.bump (R.MSH_NODE_FWD g) F.MSH_NODE_FWD_FWD).pushNode h port { m with body := .event (addHops ev 1) }
  | _ => d.pushNode h port m

/-- What one slot of an output does with a message that has left its buffer; `none` where it cannot go. -/
def Dev.moveMsg (d : Dev) (g : Fin 8) (out : Fin 4) (m : MeshMsg) : Option Dev :=
  match neighbour g out with
  | some (h, port) => if (d.gal h).laneRoom port m.body then some (d.forward g h port m) else none
  | none => d.deliverMsg g m

/-- The buffers of a network that can use a slot of an output, in the round robin's order from its place (R182). -/
def Dev.ready (d : Dev) (g : Fin 8) (out : Fin 4) (n : Fin 4) : List (Fin 20) :=
  let l := netBufs n
  let r := (d.gal g).robin[fin16 (out.val * 4 + n.val)]
  (List.range l.length).filterMap (fun k => match l[(r + k) % l.length]? with
    | some i => (match (d.gal g).headFor g out i with
      | some m => if (d.moveMsg g out m).isSome then some i else none
      | none => none)
    | none => none)

/-- The network that a slot is granted to: one that slots have passed over twelve times, so that each holding a flit has one slot in 16 (R182;
the count is a DESIGN CHOICE, log entry 55), else the first in order of precedence. -/
def Dev.granted4 (d : Dev) (g : Fin 8) (out : Fin 4) : Option (Fin 4) :=
  let l := (List.finRange 4).filter (fun n => !(d.ready g out n).isEmpty)
  match l.find? (fun n => decide (12 ≤ (d.gal g).passed[fin16 (out.val * 4 + n.val)])) with
  | some n => some n
  | none => l.head?

/-- The round robin's and the precedence's account of a slot granted to network `n` and buffer `i` (R182). -/
def Dev.countSlot (d : Dev) (g : Fin 8) (out n : Fin 4) (i : Fin 20) : Dev :=
  let waits := (List.finRange 4).filter (fun k => k != n && !(d.ready g out k).isEmpty)
  let at_ (k : Fin 4) : Fin 16 := fin16 (out.val * 4 + k.val)
  let l := netBufs n
  d.updGal g (fun x =>
    { x with robin := x.robin.set (at_ n) ((l.idxOf i + 1) % l.length),
             passed := waits.foldl (fun v k => v.set (at_ k) (v[at_ k] + 1)) (x.passed.set (at_ n) 0) })

/-- One slot of an output of a node (R182): the message granted it moves on; a flit that fails parity is dropped by the node that received it
(R180). What waits for a Gallery that sleeps wakes it (R177, R432). -/
def Dev.serveSlot (d : Dev) (g : Fin 8) (out : Fin 4) (bad : Bool) : Dev :=
  let held : Bool := out == 3 && d.asleep g && (List.finRange 20).any (fun i => ((d.gal g).headFor g out i).isSome)
  let d := if held then d.wakeEvent (4 + g.val) else d
  match d.granted4 g out with
  | none => d
  | some n => match d.ready g out n with
    | [] => d
    | i :: _ => match (d.gal g).headFor g out i with
      | none => d
      | some m =>
        let d := d.countSlot g out n i
        let e := (d.updGal g (fun x => { x with node := x.node.set i (x.node[i].drop 1) })).refill g
        if bad ∧ i.val < 15 then e.parityDrop g else (e.moveMsg g out m).getD d

/-- EVENT_ARRIVAL (R158): what stands at the place named, or the flit given, meets the node's checks. Nothing happens where nothing stands
there, or where it has no credit to move on. The rail and the node's forwarding raise HOPS (R56). -/
def eventArrival (g : Fin 8) (a : Arrival) (d : Dev) : Dev :=
  if d.halted (stNode g.val) then d
  else match a with
  | .flit parcel ev => (d.arriveFlit g parcel.toNat ev).getD d
  | .mesh out bad => d.serveSlot g out bad
  | .management parcel =>
    if (d.gal 0).laneRoom 0 .access then d.pushNode 0 0 { parcel := parcel.toNat, dst := g.val, body := .access } else d
  | .tri bad =>
    match takeInbound g.val d.hubs[columnOf g].inb with
    | none => d
    | some (ev, t) =>
      let e := d.updHub (columnOf g) (fun h => { h with inb := t })
      if bad then e.bump (R.MSH_RAIL_ERR (columnOf g)) F.MSH_RAIL_ERR_PAR else (e.deliver g 1 (addHops ev 1)).getD d
  | .rail port bad =>
    match d.ports[columnPort g port].fifo with
    | [] => d
    | ev :: t =>
      if fget evGallery ev ≠ g.val then d
      else
        let e := (d.updPort (columnPort g port) (fun x => { x with fifo := t })).bump (R.MSH_RAIL_EV (columnOf g)) F.MSH_RAIL_EV_EV
        if bad then e.bump (R.MSH_RAIL_ERR (columnOf g)) F.MSH_RAIL_ERR_PAR
        else (e.deliver g 0 (addHops ev 1)).getD d

/-- EVENT_ARRIVAL. -/
def execEventArrival (g : Fin 8) (a : Arrival) (s : State) : Host.Outcome State Fault Refusal := devStep s (eventArrival g a)

end Sys2Proof.Machine
end

