-- ==== Sys2Proof/Machine/Pins.lean ====
section
/-!
DEFINITION. The SMBus management target and the TAP (19_electrical.md R531 to R534).
-/
namespace Sys2Proof.Machine

/-- Whether the target answers: the Lantern domain runs in every mirror state, but not under cold reset (R532, R529). -/
def Dev.smbusUp (d : Dev) : Bool := !d.boot.inCold

/-- The target answers a read with bytes (Table 19.10). -/
def smbusRead (b : Dev → List Byte) (d : Dev) : Dev := if d.smbusUp then d.emit (.smbus (b d)) else d

/-- The bytes of a register. -/
def Dev.regBytes (d : Dev) (a n : Nat) : List Byte := leBytes n (d.peek a).toNat

/-- SMBUS_READ_ID (0x00). -/
def execSmbusReadId (s : State) : Host.Outcome State Fault Refusal :=
  devStep s (smbusRead (fun d => d.regBytes R.LNT_MIR_ID 4 ++ (List.range 4).flatMap (fun j => d.regBytes (R.LNT_MIR_DEVID j) 4)))
/-- SMBUS_READ_STATE (0x01). -/
def execSmbusReadState (s : State) : Host.Outcome State Fault Refusal := devStep s (smbusRead (fun d => d.regBytes R.LNT_MIR_STATE 4))
/-- SMBUS_READ_TJ (0x02). -/
def execSmbusReadTj (s : State) : Host.Outcome State Fault Refusal := devStep s (smbusRead (fun d => d.regBytes R.PWR_TJ 2))
/-- SMBUS_READ_PKG (0x03). -/
def execSmbusReadPkg (s : State) : Host.Outcome State Fault Refusal := devStep s (smbusRead (fun d => d.regBytes R.TEL_PKG 4))
/-- SMBUS_READ_PTIME (0x04): powered time, LO first. -/
def execSmbusReadPtime (s : State) : Host.Outcome State Fault Refusal := devStep s (smbusRead (fun d => leBytes 8 d.ptime))

/-- A write's PEC is judged: none, or a wrong one, discards the write where PEC_REQ is set; a wrong one always does, and counts (R532). -/
def Dev.pecOk (d : Dev) (pec : Option Bool) : Bool × Dev := match pec with
  | some true => (true, d)
  | some false => (false, d.bump R.LNT_SMB_ERR F.LNT_SMB_ERR_PEC)
  | none => (d.rf R.LNT_SMB_CFG F.LNT_SMB_CFG_PEC_REQ == 0, d)

/-- A register that the target reads or writes; `wr` is the value written and how its PEC stands. -/
def smbusReg (rd : Dev → List Byte) (put : Nat → Dev → Dev) (wr : Option (Nat × Option Bool)) (d : Dev) : Dev :=
  if !d.smbusUp then d
  else match wr with
    | none => d.emit (.smbus (rd d))
    | some (v, pec) =>
      let (ok, d) := d.pecOk pec
      if ok then put v d else d

/-- What SMBUS_ALERT_STAT does (0x05): a read, or a write that clears each bit written as 1 (R534). -/
def smbusAlertStat (wr : Option (BitVec 8 × Option Bool)) (d : Dev) : Dev :=
  smbusReg (fun d => leBytes 1 (d.rf R.LNT_SMB_ALERT F.LNT_SMB_ALERT_STAT))
    (fun v d => d.setRf R.LNT_SMB_ALERT F.LNT_SMB_ALERT_STAT (Nat.land (d.rf R.LNT_SMB_ALERT F.LNT_SMB_ALERT_STAT) (15 - v % 16)))
    (wr.map (fun e => (e.1.toNat, e.2))) d

/-- SMBUS_ALERT_STAT. -/
def execSmbusAlertStat (wr : Option (BitVec 8 × Option Bool)) (s : State) : Host.Outcome State Fault Refusal := devStep s (smbusAlertStat wr)

/-- What SMBUS_ALERT_MASK does (0x11). -/
def smbusAlertMask (wr : Option (BitVec 8 × Option Bool)) (d : Dev) : Dev :=
  smbusReg (fun d => leBytes 1 (d.rf R.LNT_SMB_ALERT F.LNT_SMB_ALERT_MASK))
    (fun v d => d.setRf R.LNT_SMB_ALERT F.LNT_SMB_ALERT_MASK (v % 16)) (wr.map (fun e => (e.1.toNat, e.2))) d

/-- SMBUS_ALERT_MASK. -/
def execSmbusAlertMask (wr : Option (BitVec 8 × Option Bool)) (s : State) : Host.Outcome State Fault Refusal := devStep s (smbusAlertMask wr)

/-- What SMBUS_IO_SLEW does (0x10). -/
def smbusIoSlew (wr : Option (BitVec 16 × Option Bool)) (d : Dev) : Dev :=
  smbusReg (fun d => d.regBytes R.LNT_IO_SLEW 2)
    (fun v d => (d.setRf R.LNT_IO_SLEW F.LNT_IO_SLEW_TDO (v / 256 % 4)).setRf R.LNT_IO_SLEW F.LNT_IO_SLEW_CLKOUT (v / 16 % 4))
    (wr.map (fun e => (e.1.toNat, e.2))) d

/-- SMBUS_IO_SLEW. -/
def execSmbusIoSlew (wr : Option (BitVec 16 × Option Bool)) (s : State) : Host.Outcome State Fault Refusal := devStep s (smbusIoSlew wr)

/-- Whether SMB_ALERT_N is asserted (R534). -/
def Dev.alertAsserted (d : Dev) : Bool :=
  Nat.land (d.rf R.LNT_SMB_ALERT F.LNT_SMB_ALERT_STAT) (15 - d.rf R.LNT_SMB_ALERT F.LNT_SMB_ALERT_MASK) != 0

/-- SMBUS_ALERT_RESPONSE: the target that asserts the alert answers the Alert Response Address with its own address (R532, SMBus 3.1). -/
def smbusAlertResponse (d : Dev) : Dev :=
  if d.smbusUp && d.alertAsserted then d.emit (.smbus [BitVec.ofNat 8 (2 * (0x64 + d.pins.straps.toNat))]) else d

/-- SMBUS_ALERT_RESPONSE. -/
def execSmbusAlertResponse (s : State) : Host.Outcome State Fault Refusal := devStep s smbusAlertResponse

/-- SMBUS_TIMEOUT: the target is reset, and the event counts (R532). -/
def execSmbusTimeout (s : State) : Host.Outcome State Fault Refusal :=
  devStep s (fun d => if d.smbusUp then d.bump R.LNT_SMB_ERR F.LNT_SMB_ERR_TMO else d)

/-! ### TAP -/

/-- The TAP takes an instruction, unless TRST_N holds it in reset (R531). -/
def Dev.tapTakes (d : Dev) (ir : JtagIr) (out : List Bool) : Dev :=
  if d.pins.trst then d else { (d.emit (.tdo out)) with pins := { d.pins with ir := ir } }

/-- The PF Device ID of a part (Table 12.2). -/
def Dev.pfDeviceId (d : Dev) : Nat := pfDevice d.fus.part

/-- The device identity: version 1, the PF Device ID of Table 12.2, manufacturer 0x4B5 (R531). -/
def Dev.idcode (d : Dev) : Word := BitVec.ofNat 32 (2 ^ 28 + d.pfDeviceId * 2 ^ 12 + 0x4B5 * 2 + 1)

/-- The bits of a word, least significant first, as a scan shifts them out. -/
def scanBits {n : Nat} (w : BitVec n) : List Bool := (List.range n).map (fun i => w.getLsbD i)

/-- IDCODE. -/
def execIdcode (s : State) : Host.Outcome State Fault Refusal := devStep s (fun d => d.tapTakes .idcode (scanBits d.idcode))

/-- Test mode (R531, Table 4.3): dark storage is cleared, every domain but LANTERN and HOST is held in reset, the mirror reads FAILED with
REASON CLOCK, and only COLD_N ends it. -/
def testMode (m : Mach) : Mach :=
  let d := m.dev.forEach (List.finRange 8) (fun g d => (d.eraseGallery g).updGal g (fun x => { x with eraseQ := [] }))
  let d := d.forEach (List.range 4) (fun c d => d.eraseHub c)
  let m := tripped.foldl (fun m i => if m.dev.domSt i = .held then m else holdOff 0 i m) { m with dev := d }
  let d := (m.dev.domTo 2 .held).domTo 35 .held
  let d := d.updPwr (fun p => { p with req := none, queue := [] })
  let d := d.updBoot (fun b => { b with testMode := true, resume := none, warmHeld := false, warmLatched := false, warmAt := none })
  { m with dev := d.setMirror 4 4 }

/-- EXTEST: the boundary drives the pins from the preloaded values, and the device enters test mode (R531). -/
def extest (m : Mach) : Mach :=
  if m.dev.pins.trst ∨ m.dev.boot.inCold = true then m
  else testMode { m with dev := m.dev.tapTakes .extest m.dev.pins.boundary }

/-- EXTEST. -/
def execExtest (s : State) : Host.Outcome State Fault Refusal := memStep s extest

/-- BYPASS; a private instruction acts as it in field mode, and enters test mode in lab mode (R531). -/
def execBypass (priv : Bool) (s : State) : Host.Outcome State Fault Refusal :=
  memStep s (fun m =>
    let d := m.dev.tapTakes .bypass [false]
    if priv && m.dev.boot.lab && !m.dev.pins.trst then testMode { m with dev := d } else { m with dev := d })

/-- SAMPLE_PRELOAD: the levels of the LVCMOS balls are captured and shifted out, new boundary values shifted in (R531). -/
def execSamplePreload (levels pre : List Bool) (s : State) : Host.Outcome State Fault Refusal :=
  devStep s (fun d => if d.pins.trst then d else
    let d := d.tapTakes .sample levels
    { d with pins := { d.pins with boundary := pre } })

/-- TRST: TRST_N falls, and holds the TAP in reset, or rises (R523, R531). -/
def execTrst (low : Bool) (s : State) : Host.Outcome State Fault Refusal :=
  devStep s (fun d => { d with pins := { d.pins with trst := low, ir := if low then .idcode else d.pins.ir } })

end Sys2Proof.Machine
end

