-- ==== Sys2Proof/Machine/Storage.lean ====
section
/-!
DEFINITION. Site memory over the storage link: the partner's directory, the units of an image, and the requests and responses that a save or a restore
in progress exchanges with the storage partner (09_learning.md R291; 10_traverse_links.md R303).
-/
namespace Sys2Proof.Machine

/-! ### The directory (Table 9.10) -/

/-- Bytes of a unit. -/
def unitBytes : Nat := 256

/-- The unit of a parcel's window (R291). -/
def siteUnit (q : Fin 8) (u : Nat) : Nat := q.val * 0x400000 + u

/-- The first unit of an image slot (R291). -/
def slotBase (slot : Nat) : Nat := if slot = 0 then 0x1000 else 0x201000

/-- The slot that a directory names, `none` without MAGIC or without an image. A value of ACTIVE that the table does not give names none
(DESIGN CHOICE, log entry 59). -/
def dirActive (b : List Byte) : Option Nat :=
  if leAt b 0 4 = 0x4D534E47 ∧ leAt b 6 1 < 2 then some (leAt b 6 1) else none

/-- Image bytes of a slot in a directory. -/
def dirLen (b : List Byte) (slot : Nat) : Nat := leAt b (12 + 4 * slot) 4

/-- The directory after a save of `len` bytes into a slot: ACTIVE names it and SEQ is one more; without a directory before, both begin anew. -/
def dirAfter (devId : BitVec 128) (b : List Byte) (slot len : Nat) : List Byte :=
  let old : Bool := leAt b 0 4 == 0x4D534E47
  let seq := if old then leAt b 8 4 + 1 else 1
  let other := if old then dirLen b (1 - slot) else 0
  leBytes 4 0x4D534E47 ++ leBytes 2 1 ++ leBytes 1 slot ++ [0] ++ leBytes 4 seq
    ++ leBytes 4 (if slot = 0 then len else other) ++ leBytes 4 (if slot = 0 then other else len)
    ++ leBytes 16 devId.toNat ++ List.replicate 220 0

/-! ### Requests -/

/-- The bytes of an image that unit `i` of its slot holds, zeros after its end. -/
def imageUnit (b : List Byte) (i : Nat) : List Byte :=
  let c := (b.drop (unitBytes * i)).take unitBytes
  c ++ List.replicate (unitBytes - c.length) 0

/-- Bytes of the image that a job moves. -/
def SiteJob.len (j : SiteJob) : Nat := if j.step.ofSave then j.image.length else dirLen j.directory j.slot

/-- Units of that image. -/
def SiteJob.unitsNeeded (j : SiteJob) : Nat := (j.len + unitBytes - 1) / unitBytes

/-- The type, unit and data of a job's next request (R291). -/
def SiteJob.request (devId : BitVec 128) (j : SiteJob) : Option (Nat × Nat × List Byte) := match j.step with
  | .sweeps | .ledger => none
  | .dirRead | .find => some (0x06, 0, [])
  | .write => some (0x07, slotBase j.slot + j.units, imageUnit j.image j.units)
  | .readBack | .first | .second => some (0x06, slotBase j.slot + j.units, [])
  | .dirWrite => some (0x07, 0, dirAfter devId j.directory j.slot j.len)

/-- A job loses its partner: the link left ACTIVE, or a request was abandoned (R291). -/
def Dev.siteLost (d : Dev) (j : SiteJob) : Dev :=
  if j.step = .second then (d.restoreFails j.parcel).endJob j .timeout else d.endJob j .timeout

/-- A job sends its next request, once the P buffer has room for the response (R303). -/
def Dev.siteAsk (d : Dev) (j : SiteJob) : Dev :=
  match j.request d.fus.devid with
  | none => d.setJob j
  | some (typ, u, data) =>
    if !d.storageUp then d.siteLost j
    else
      let l := d.link storageLink
      let tag := l.freeTag
      if l.room typ then
        (d.setJob { j with tag := some tag }).sendReq storageLink
          { typ := BitVec.ofNat 8 typ, src := BitVec.ofNat 6 d.selfChip, dst := BitVec.ofNat 6 (d.rf (R.TRV_STAT storageLink) F.TRV_STAT_PCHIP),
            tag := BitVec.ofNat 8 tag, arg := BitVec.ofNat 64 (siteUnit j.parcel u), data := data }
      else d.setJob { j with tag := none }

/-! ### Responses -/

/-- A reading of the image has come whole: a save's is verified before the directory is rewritten, a restore's first changes nothing, its second is
written (R291). A save whose image does not verify is refused as a restore's second pass is (DESIGN CHOICE, log entry 59). -/
def Dev.siteReadDone (d : Dev) (j : SiteJob) : Dev :=
  let b := j.got.take j.len
  match j.step with
  | .readBack => if (siteOpen b).isSome then d.siteAsk { j with step := .dirWrite, tag := none } else d.endJob j .refused (detail .buffer)
  | .first => match d.siteVerify j.parcel b with
    | .error dt => d.endJob j .refused dt
    | .ok _ =>
      if (d.pcl j.parcel).st = .loaded then d.siteAsk { j with step := .second, units := 0, got := [], tag := none }
      else d.endJob j .busy (detail .state (d.pcl j.parcel).st.code)
  | .second =>
    if (d.pcl j.parcel).st ≠ .loaded then d.endJob j .busy (detail .state (d.pcl j.parcel).st.code)
    else match d.siteVerify j.parcel b with
      | .ok p => (d.restoreSite j.parcel p).endJob j .ok
      | .error _ => (d.restoreFails j.parcel).endJob j .refused (detail .buffer)
  | _ => d.setJob j

/-- A job goes on reading: the next unit, or the end of the reading. -/
def Dev.siteRead (d : Dev) (j : SiteJob) : Dev :=
  if j.units < j.unitsNeeded then d.siteAsk { j with tag := none } else d.siteReadDone j

/-- The directory has come (R291). -/
def Dev.siteDirectory (d : Dev) (j : SiteJob) (b : List Byte) : Dev :=
  let j := { j with directory := b, units := 0, tag := none }
  if j.step = .dirRead then
    d.siteAsk { j with step := .write, slot := match dirActive b with
      | some 0 => 1
      | _ => 0 }
  else match dirActive b with
    | none => d.endJob j .refused (detail .absent)
    | some s =>
      if siteSlot < dirLen b s then d.endJob j .refused (detail .binding)
      else d.siteRead { j with step := .first, slot := s }

/-- A write has been taken: the next unit; after the last the copy is over and the image is read back; after the directory the save is complete. -/
def Dev.siteWrote (d : Dev) (j : SiteJob) : Dev :=
  if j.step = .dirWrite then d.endJob j .ok
  else if j.units + 1 < j.unitsNeeded then d.siteAsk { j with units := j.units + 1, tag := none }
  else (d.endDefer j.parcel).siteRead { j with step := .readBack, units := 0, got := [], tag := none }

/-- The partner's response to a job's request (R291): STORE_DATA for a read, STATUS for a write. A write answered with an error finds no space; a read
answered with one counts as abandoned (DESIGN CHOICE, log entry 59). -/
def Dev.siteReply (d : Dev) (j : SiteJob) (m : LinkMsg) : Dev :=
  match j.step with
  | .write | .dirWrite => if m.typ = 0x82 ∧ m.arg = 0 then d.siteWrote j else d.endJob j .refused (detail .capacity)
  | .dirRead | .find => if m.typ = 0x86 then d.siteDirectory j m.data else d.siteLost j
  | .readBack | .first | .second =>
    if m.typ = 0x86 then d.siteRead { j with units := j.units + 1, got := j.got ++ m.data, tag := none } else d.siteLost j
  | .sweeps | .ledger => d

/-- The site memory job that awaits the response with a tag. -/
def Dev.jobOfTag (d : Dev) (t : Nat) : Option SiteJob := (List.finRange 8).findSome? (fun q => (d.siteJob q).filter (fun j => j.tag == some t))

/-- LINK_RESPONSE: a response ends its request (R303). BUSY answers to lock claims are counted for the retry's delay (R331); a storage partner's
answers carry site memory on (R291). -/
def linkResponse (k : Fin 6) (m : LinkMsg) (d : Dev) : Dev :=
  let d := d.takeMsg k m
  match (d.link k).asked.find? (fun q => q.tag == m.tag.toNat) with
  | none => d
  | some q =>
    let d := d.updLink k (fun l => { l with asked := l.asked.erase q })
    if q.typ = 0x03 then
      d.updGrp (fun g => { g with lockTries := if m.typ = 0x82 ∧ m.arg.toNat = Status.busy.code then g.lockTries + 1 else 0 })
    else if k = storageLink ∧ (q.typ = 0x06 ∨ q.typ = 0x07) then
      match d.jobOfTag q.tag with
      | some j => d.siteReply { j with tag := none } m
      | none => d
    else d

/-- LINK_RESPONSE. -/
def execLinkResponse (k : Fin 6) (m : LinkMsg) (s : State) : Host.Outcome State Fault Refusal := devStep s (linkResponse k m)

/-- LINK_Q_TIMEOUT: a Q request unanswered within 10 µs is abandoned and counted (R303); a site memory command that sent it ends (R291). -/
def linkQTimeout (k : Fin 6) (t : BitVec 8) (d : Dev) : Dev :=
  if (d.link k).asked.any (fun q => q.tag == t.toNat) then
    let d := (d.updLink k (fun l => { l with asked := l.asked.filter (fun q => q.tag != t.toNat) })).bump (R.TRV_Q_TMO k) F.TRV_Q_TMO_TMO
    if k = storageLink then
      match d.jobOfTag t.toNat with
      | some j => d.siteLost j
      | none => d
    else d
  else d

/-- LINK_Q_TIMEOUT. -/
def execLinkQTimeout (k : Fin 6) (t : BitVec 8) (s : State) : Host.Outcome State Fault Refusal := devStep s (linkQTimeout k t)

/-- What time brings to a parcel's site memory: a Ledger write that is over, the loss of the storage link, a request that waited for room. -/
def Dev.siteTime (d : Dev) (q : Fin 8) : Dev :=
  let d := d.ledgerWritten q
  match d.siteJob q with
  | some j => if (j.request d.fus.devid).isNone then d else if !d.storageUp then d.siteLost j else if j.tag.isNone then d.siteAsk j else d
  | none => d

end Sys2Proof.Machine
end

