-- ==== Sys2Proof/Machine/Dispatch.lean ====
section
/-!
DEFINITION. The meaning of each command on everything but the queue: one arm per constructor.
-/
namespace Sys2Proof.Machine

/-- The effect of a command. -/
def exec (i : Instr) (s : State) : Host.Outcome State Fault Refusal :=
  match i with
  | .timeStatus c => Sys2Proof.Machine.execTimeStatus c s
  | .timeSetSource c => Sys2Proof.Machine.execTimeSetSource c s
  | .timeSetRatio c => Sys2Proof.Machine.execTimeSetRatio c s
  | .timeSetPhase c => Sys2Proof.Machine.execTimeSetPhase c s
  | .timeAcceptPeriod c => Sys2Proof.Machine.execTimeAcceptPeriod c s
  | .timeSetLabel c => Sys2Proof.Machine.execTimeSetLabel c s
  | .datumEdge dt edge => Sys2Proof.Machine.execDatumEdge dt edge s
  | .datumLoss => Sys2Proof.Machine.execDatumLoss s
  | .tickTurn dt errs => Sys2Proof.Machine.execTickTurn dt errs s
  | .settlingSweep errs => Sys2Proof.Machine.execSettlingSweep errs s
  | .epochEnd g => Sys2Proof.Machine.execEpochEnd g s
  | .epochSweepDone g errs => Sys2Proof.Machine.execEpochSweepDone g errs s
  | .eventArrival g a => Sys2Proof.Machine.execEventArrival g a s
  | .eventTake g errs => Sys2Proof.Machine.execEventTake g errs s
  | .emissionSend g => Sys2Proof.Machine.execEmissionSend g s
  | .pendingEmit g m => Sys2Proof.Machine.execPendingEmit g m s
  | .delayRelease g => Sys2Proof.Machine.execDelayRelease g s
  | .coldFetchResponse g slot errs => Sys2Proof.Machine.execColdFetchResponse g slot errs s
  | .galleryDrained g => Sys2Proof.Machine.execGalleryDrained g s
  | .cfgResetDone g => Sys2Proof.Machine.execCfgResetDone g s
  | .resumeSweep g => Sys2Proof.Machine.execResumeSweep g s
  | .galleryFault g cause => Sys2Proof.Machine.execGalleryFault g cause s
  | .engineStall g => Sys2Proof.Machine.execEngineStall g s
  | .tallyScore g => Sys2Proof.Machine.execTallyScore g s
  | .batchSubmit g b => Sys2Proof.Machine.execBatchSubmit g b s
  | .jobSubmit p q => Sys2Proof.Machine.execJobSubmit p q s
  | .jobResponse g a code => Sys2Proof.Machine.execJobResponse g a code s
  | .operandRead g => Sys2Proof.Machine.execOperandRead g s
  | .operandTimeout p j => Sys2Proof.Machine.execOperandTimeout p j s
  | .stagingTimeout g slot => Sys2Proof.Machine.execStagingTimeout g slot s
  | .weightLoad p errs => Sys2Proof.Machine.execWeightLoad p errs s
  | .jobStart p => Sys2Proof.Machine.execJobStart p s
  | .jobComplete p bufUe => Sys2Proof.Machine.execJobComplete p bufUe s
  | .trainPart g ev => Sys2Proof.Machine.execTrainPart g ev s
  | .trainTimeout g ctx => Sys2Proof.Machine.execTrainTimeout g ctx s
  | .bearingPeriodEnd g => Sys2Proof.Machine.execBearingPeriodEnd g s
  | .loadEvent g ev => Sys2Proof.Machine.execLoadEvent g ev s
  | .bearingStep g => Sys2Proof.Machine.execBearingStep g s
  | .biasEvent g ev => Sys2Proof.Machine.execBiasEvent g ev s
  | .requestTimeout g r => Sys2Proof.Machine.execRequestTimeout g r s
  | .trunkEvent src => Sys2Proof.Machine.execTrunkEvent src s
  | .csi2LongPacket p k => Sys2Proof.Machine.execCsi2LongPacket p k s
  | .csi2ShortPacket p k => Sys2Proof.Machine.execCsi2ShortPacket p k s
  | .seamPacket p k => Sys2Proof.Machine.execSeamPacket p k s
  | .flickerWindowEnd p => Sys2Proof.Machine.execFlickerWindowEnd p s
  | .portSyncLoss p => Sys2Proof.Machine.execPortSyncLoss p s
  | .portRestartEnd p => Sys2Proof.Machine.execPortRestartEnd p s
  | .eraseRequest p => Sys2Proof.Machine.execEraseRequest p s
  | .eraseComplete g p => Sys2Proof.Machine.execEraseComplete g p s
  | .intakeClockFallback p b => Sys2Proof.Machine.execIntakeClockFallback p b s
  | .recordRequest q src payload => Sys2Proof.Machine.execRecordRequest q src payload s
  | .meterRefill => Sys2Proof.Machine.execMeterRefill s
  | .heartbeat => Sys2Proof.Machine.execHeartbeat s
  | .learningStatus q => Sys2Proof.Machine.execLearningStatus q s
  | .backlogWrite q => Sys2Proof.Machine.execBacklogWrite q s
  | .backlogAge q => Sys2Proof.Machine.execBacklogAge q s
  | .parcelStatus c => Sys2Proof.Machine.execParcelStatus c s
  | .parcelCreate c => Sys2Proof.Machine.execParcelCreate c s
  | .parcelDestroy c => Sys2Proof.Machine.execParcelDestroy c s
  | .parcelSetPools c => Sys2Proof.Machine.execParcelSetPools c s
  | .parcelClearCounters c => Sys2Proof.Machine.execParcelClearCounters c s
  | .atlasStatus c => Sys2Proof.Machine.execAtlasStatus c s
  | .atlasLoad c => Sys2Proof.Machine.execAtlasLoad c s
  | .atlasUnload c => Sys2Proof.Machine.execAtlasUnload c s
  | .intakeStatus c => Sys2Proof.Machine.execIntakeStatus c s
  | .intakeEnable c => Sys2Proof.Machine.execIntakeEnable c s
  | .intakeDisable c => Sys2Proof.Machine.execIntakeDisable c s
  | .intakeSetShed c => Sys2Proof.Machine.execIntakeSetShed c s
  | .intakeInject c => Sys2Proof.Machine.execIntakeInject c s
  | .intakeClearCounters c => Sys2Proof.Machine.execIntakeClearCounters c s
  | .runStatus c => Sys2Proof.Machine.execRunStatus c s
  | .runStart c => Sys2Proof.Machine.execRunStart c s
  | .runStop c => Sys2Proof.Machine.execRunStop c s
  | .egressStatus c => Sys2Proof.Machine.execEgressStatus c s
  | .egressSetMeter c => Sys2Proof.Machine.execEgressSetMeter c s
  | .egressSetHeartbeat c => Sys2Proof.Machine.execEgressSetHeartbeat c s
  | .egressSetBacklog c => Sys2Proof.Machine.execEgressSetBacklog c s
  | .egressClearCounters c => Sys2Proof.Machine.execEgressClearCounters c s
  | .darkStatus c => Sys2Proof.Machine.execDarkStatus c s
  | .learnStatus c => Sys2Proof.Machine.execLearnStatus c s
  | .learnEnable c => Sys2Proof.Machine.execLearnEnable c s
  | .learnDisable c => Sys2Proof.Machine.execLearnDisable c s
  | .learnSetEpoch c => Sys2Proof.Machine.execLearnSetEpoch c s
  | .learnReward c => Sys2Proof.Machine.execLearnReward c s
  | .siteSave c => Sys2Proof.Machine.execSiteSave c s
  | .siteRestore c => Sys2Proof.Machine.execSiteRestore c s
  | .siteDelete c => Sys2Proof.Machine.execSiteDelete c s
  | .learnClearCounters c => Sys2Proof.Machine.execLearnClearCounters c s
  | .expertStatus c => Sys2Proof.Machine.execExpertStatus c s
  | .expertSetBearing c => Sys2Proof.Machine.execExpertSetBearing c s
  | .expertSetBias c => Sys2Proof.Machine.execExpertSetBias c s
  | .expertClearCounters c => Sys2Proof.Machine.execExpertClearCounters c s
  | .groupStatus c => Sys2Proof.Machine.execGroupStatus c s
  | .groupSetCoord c => Sys2Proof.Machine.execGroupSetCoord c s
  | .groupForm c => Sys2Proof.Machine.execGroupForm c s
  | .formingTimeout => Sys2Proof.Machine.execFormingTimeout s
  | .grpAbort k m => Sys2Proof.Machine.execGrpAbort k m s
  | .groupDissolve c => Sys2Proof.Machine.execGroupDissolve c s
  | .groupResync c => Sys2Proof.Machine.execGroupResync c s
  | .groupRejoin x => Sys2Proof.Machine.execGroupRejoin x s
  | .linkStatus c => Sys2Proof.Machine.execLinkStatus c s
  | .linkEnable c => Sys2Proof.Machine.execLinkEnable c s
  | .linkRetrain c => Sys2Proof.Machine.execLinkRetrain c s
  | .linkClearCounters c => Sys2Proof.Machine.execLinkClearCounters c s
  | .linkTrainingStep k r => Sys2Proof.Machine.execLinkTrainingStep k r s
  | .flitReceive k f => Sys2Proof.Machine.execFlitReceive k f s
  | .lctl k p => Sys2Proof.Machine.execLctl k p s
  | .lctlSend k => Sys2Proof.Machine.execLctlSend k s
  | .replayTimeout k => Sys2Proof.Machine.execReplayTimeout k s
  | .blockClose k => Sys2Proof.Machine.execBlockClose k s
  | .tag k t => Sys2Proof.Machine.execTag k t s
  | .linkQTimeout k t => Sys2Proof.Machine.execLinkQTimeout k t s
  | .routeRewrite => Sys2Proof.Machine.execRouteRewrite s
  | .regRead k m errs => Sys2Proof.Machine.execRegRead k m errs s
  | .regWrite k m => Sys2Proof.Machine.execRegWrite k m s
  | .lockClaim k m => Sys2Proof.Machine.execLockClaim k m s
  | .lockRelease k m => Sys2Proof.Machine.execLockRelease k m s
  | .mbxCmd k m => Sys2Proof.Machine.execMbxCmd k m s
  | .storeRead k m => Sys2Proof.Machine.execStoreRead k m s
  | .storeWrite k m => Sys2Proof.Machine.execStoreWrite k m s
  | .tmark k m => Sys2Proof.Machine.execTmark k m s
  | .tmarkSend => Sys2Proof.Machine.execTmarkSend s
  | .markersLost => Sys2Proof.Machine.execMarkersLost s
  | .echo k m => Sys2Proof.Machine.execEcho k m s
  | .grp k m b => Sys2Proof.Machine.execGrp k m b s
  | .gdl k m => Sys2Proof.Machine.execGdl k m s
  | .powerStatus c => Sys2Proof.Machine.execPowerStatus c s
  | .powerSetDomain c => Sys2Proof.Machine.execPowerSetDomain c s
  | .powerSetPolicy c => Sys2Proof.Machine.execPowerSetPolicy c s
  | .clockSetDense c => Sys2Proof.Machine.execClockSetDense c s
  | .clockSetClkout c => Sys2Proof.Machine.execClockSetClkout c s
  | .clockSetSpread c => Sys2Proof.Machine.execClockSetSpread c s
  | .telemetryRead c => Sys2Proof.Machine.execTelemetryRead c s
  | .powerSetCap c => Sys2Proof.Machine.execPowerSetCap c s
  | .domainEntryStage d expired => Sys2Proof.Machine.execDomainEntryStage d expired s
  | .wakeEvent d => Sys2Proof.Machine.execWakeEvent d s
  | .domainWake d => Sys2Proof.Machine.execDomainWake d s
  | .wakeReady d errs => Sys2Proof.Machine.execWakeReady d errs s
  | .dnsIdleTimer p => Sys2Proof.Machine.execDnsIdleTimer p s
  | .capLoop => Sys2Proof.Machine.execCapLoop s
  | .tjSample region t => Sys2Proof.Machine.execTjSample region t s
  | .thermalRecovery t => Sys2Proof.Machine.execThermalRecovery t s
  | .currentLimit mean inst => Sys2Proof.Machine.execCurrentLimit mean inst s
  | .telemetryFrame r => Sys2Proof.Machine.execTelemetryFrame r s
  | .supplyUndervoltage vin => Sys2Proof.Machine.execSupplyUndervoltage vin s
  | .supplyReturn => Sys2Proof.Machine.execSupplyReturn s
  | .monitorWindow m count amp => Sys2Proof.Machine.execMonitorWindow m count amp s
  | .relockDone p ok => Sys2Proof.Machine.execRelockDone p ok s
  | .referenceLoss => Sys2Proof.Machine.execReferenceLoss s
  | .resonatorRestart ok => Sys2Proof.Machine.execResonatorRestart ok s
  | .denseChangeDrain expired => Sys2Proof.Machine.execDenseChangeDrain expired s
  | .coldN ns => Sys2Proof.Machine.execColdN ns s
  | .coldStart x => Sys2Proof.Machine.execColdStart x s
  | .warmN ns => Sys2Proof.Machine.execWarmN ns s
  | .warmStart x => Sys2Proof.Machine.execWarmStart x s
  | .bootWatchdog => Sys2Proof.Machine.execBootWatchdog s
  | .trialConfirm => Sys2Proof.Machine.execTrialConfirm s
  | .peRstN => Sys2Proof.Machine.execPeRstN s
  | .flr f => Sys2Proof.Machine.execFlr f s
  | .hotReset => Sys2Proof.Machine.execHotReset s
  | .vfEnableCleared => Sys2Proof.Machine.execVfEnableCleared s
  | .d3hot f => Sys2Proof.Machine.execD3hot f s
  | .barAccess a => Sys2Proof.Machine.execBarAccess a s
  | .bar0BadAccess a => Sys2Proof.Machine.execBar0BadAccess a s
  | .mbxCmdPiDb f v => Sys2Proof.Machine.execMbxCmdPiDb f v s
  | .mbxCplCiDb f v => Sys2Proof.Machine.execMbxCplCiDb f v s
  | .mbxResCiDb f v => Sys2Proof.Machine.execMbxResCiDb f v s
  | .ringEnable f => Sys2Proof.Machine.execRingEnable f s
  | .ringDisable f => Sys2Proof.Machine.execRingDisable f s
  | .quiesceComplete f => Sys2Proof.Machine.execQuiesceComplete f s
  | .commandFetch f r => Sys2Proof.Machine.execCommandFetch f r s
  | .commandStart who buf env => Sys2Proof.Machine.execCommandStart who buf env s
  | .completionWrite who => Sys2Proof.Machine.execCompletionWrite who s
  | .notice f kind arg => Sys2Proof.Machine.execNotice f kind arg s
  | .cplCoalesceTimer f => Sys2Proof.Machine.execCplCoalesceTimer f s
  | .resCoalesceTimer f => Sys2Proof.Machine.execResCoalesceTimer f s
  | .lckAcq u n => Sys2Proof.Machine.execLckAcq u n s
  | .lckRel u n v => Sys2Proof.Machine.execLckRel u n v s
  | .deviceInfo c => Sys2Proof.Machine.execDeviceInfo c s
  | .deviceStatus c => Sys2Proof.Machine.execDeviceStatus c s
  | .deviceNop c => Sys2Proof.Machine.execDeviceNop c s
  | .deviceWarmReset c => Sys2Proof.Machine.execDeviceWarmReset c s
  | .fwWrite c => Sys2Proof.Machine.execFwWrite c s
  | .fwCommit c => Sys2Proof.Machine.execFwCommit c s
  | .fwAbort c => Sys2Proof.Machine.execFwAbort c s
  | .secStatus c => Sys2Proof.Machine.execSecStatus c s
  | .licenceInstall c => Sys2Proof.Machine.execLicenceInstall c s
  | .licenceRemove c => Sys2Proof.Machine.execLicenceRemove c s
  | .ownerEnrol c => Sys2Proof.Machine.execOwnerEnrol c s
  | .ownerLockSet c => Sys2Proof.Machine.execOwnerLockSet c s
  | .ownerLockClear c => Sys2Proof.Machine.execOwnerLockClear c s
  | .secGetCert c => Sys2Proof.Machine.execSecGetCert c s
  | .faultStatus c => Sys2Proof.Machine.execFaultStatus c s
  | .faultLogRead c => Sys2Proof.Machine.execFaultLogRead c s
  | .countersRead c => Sys2Proof.Machine.execCountersRead c s
  | .countersClear c => Sys2Proof.Machine.execCountersClear c s
  | .faultSetBudget c => Sys2Proof.Machine.execFaultSetBudget c s
  | .faultRecover c => Sys2Proof.Machine.execFaultRecover c s
  | .memStatus c => Sys2Proof.Machine.execMemStatus c s
  | .memTest c => Sys2Proof.Machine.execMemTest c s
  | .memFill c => Sys2Proof.Machine.execMemFill c s
  | .memSetBg c => Sys2Proof.Machine.execMemSetBg c s
  | .diagTap c => Sys2Proof.Machine.execDiagTap c s
  | .diagRead c => Sys2Proof.Machine.execDiagRead c s
  | .diagWrite c => Sys2Proof.Machine.execDiagWrite c s
  | .stackAccess a => Sys2Proof.Machine.execStackAccess a s
  | .fillComplete k r => Sys2Proof.Machine.execFillComplete k r s
  | .refresh k => Sys2Proof.Machine.execRefresh k s
  | .stackTempRead k t => Sys2Proof.Machine.execStackTempRead k t s
  | .backgroundTestBlock target r => Sys2Proof.Machine.execBackgroundTestBlock target r s
  | .scratchpadAccess a => Sys2Proof.Machine.execScratchpadAccess a s
  | .scpBankCopyDone => Sys2Proof.Machine.execScpBankCopyDone s
  | .marchDone r => Sys2Proof.Machine.execMarchDone r s
  | .faultRecord x => Sys2Proof.Machine.execFaultRecord x s
  | .collectorDrain ok => Sys2Proof.Machine.execCollectorDrain ok s
  | .surveyorRecovery reason => Sys2Proof.Machine.execSurveyorRecovery reason s
  | .recoveryReturn out => Sys2Proof.Machine.execRecoveryReturn out s
  | .beat => Sys2Proof.Machine.execBeat s
  | .guidelineRead h off => Sys2Proof.Machine.execGuidelineRead h off s
  | .guidelineWrite h off v => Sys2Proof.Machine.execGuidelineWrite h off v s
  | .guidelineResp h st v => Sys2Proof.Machine.execGuidelineResp h st v s
  | .guidelineFault h x => Sys2Proof.Machine.execGuidelineFault h x s
  | .guidelineDrain h b => Sys2Proof.Machine.execGuidelineDrain h b s
  | .halt h => Sys2Proof.Machine.execHalt h s
  | .resetNote c => Sys2Proof.Machine.execResetNote c s
  | .ping h => Sys2Proof.Machine.execPing h s
  | .guidelineTimeout sv dst => Sys2Proof.Machine.execGuidelineTimeout sv dst s
  | .gdlGo => Sys2Proof.Machine.execGdlGo s
  | .panic => Sys2Proof.Machine.execPanic s
  | .fltDrain n => Sys2Proof.Machine.execFltDrain n s
  | .cfgReset g => Sys2Proof.Machine.execCfgReset g s
  | .runEn g b => Sys2Proof.Machine.execRunEn g b s
  | .flush p => Sys2Proof.Machine.execFlush p s
  | .fill k r => Sys2Proof.Machine.execFill k r s
  | .marchGo target preserve => Sys2Proof.Machine.execMarchGo target preserve s
  | .pwrReqGo d t => Sys2Proof.Machine.execPwrReqGo d t s
  | .trvRetrainWrite k => Sys2Proof.Machine.execTrvRetrainWrite k s
  | .lrnRewardAdd g v => Sys2Proof.Machine.execLrnRewardAdd g v s
  | .galEvtClrCnt g => Sys2Proof.Machine.execGalEvtClrCnt g s
  | .galStateClrCnt g => Sys2Proof.Machine.execGalStateClrCnt g s
  | .mshClrCnt => Sys2Proof.Machine.execMshClrCnt s
  | .dnsClrCnt g => Sys2Proof.Machine.execDnsClrCnt g s
  | .cmpClrCnt g => Sys2Proof.Machine.execCmpClrCnt g s
  | .lrnClrCnt g => Sys2Proof.Machine.execLrnClrCnt g s
  | .trvClrCnt k => Sys2Proof.Machine.execTrvClrCnt k s
  | .stkClrCnt k => Sys2Proof.Machine.execStkClrCnt k s
  | .scpClrCnt => Sys2Proof.Machine.execScpClrCnt s
  | .pwrClrCnt => Sys2Proof.Machine.execPwrClrCnt s
  | .clkClrCnt => Sys2Proof.Machine.execClkClrCnt s
  | .fltClrCnt => Sys2Proof.Machine.execFltClrCnt s
  | .gdlClrCnt => Sys2Proof.Machine.execGdlClrCnt s
  | .registerWrite a v => Sys2Proof.Machine.execRegisterWrite a v s
  | .smbusReadId => Sys2Proof.Machine.execSmbusReadId s
  | .smbusReadState => Sys2Proof.Machine.execSmbusReadState s
  | .smbusReadTj => Sys2Proof.Machine.execSmbusReadTj s
  | .smbusReadPkg => Sys2Proof.Machine.execSmbusReadPkg s
  | .smbusReadPtime => Sys2Proof.Machine.execSmbusReadPtime s
  | .smbusAlertStat wr => Sys2Proof.Machine.execSmbusAlertStat wr s
  | .smbusIoSlew wr => Sys2Proof.Machine.execSmbusIoSlew wr s
  | .smbusAlertMask wr => Sys2Proof.Machine.execSmbusAlertMask wr s
  | .smbusAlertResponse => Sys2Proof.Machine.execSmbusAlertResponse s
  | .smbusTimeout => Sys2Proof.Machine.execSmbusTimeout s
  | .extest => Sys2Proof.Machine.execExtest s
  | .idcode => Sys2Proof.Machine.execIdcode s
  | .bypass priv => Sys2Proof.Machine.execBypass priv s
  | .samplePreload levels pre => Sys2Proof.Machine.execSamplePreload levels pre s
  | .trst low => Sys2Proof.Machine.execTrst low s
  | .blockLockLoss k => Sys2Proof.Machine.execBlockLockLoss k s
  | .stackTrainStep k r => Sys2Proof.Machine.execStackTrainStep k r s
  | .settlingSweepComplete g => Sys2Proof.Machine.execSettlingSweepComplete g s
  | .surveyorIdleEntry => Sys2Proof.Machine.execSurveyorIdleEntry s
  | .faultedEraseTimeout g => Sys2Proof.Machine.execFaultedEraseTimeout g s
  | .discardSinkTimeout g => Sys2Proof.Machine.execDiscardSinkTimeout g s
  | .linkResponse k m => Sys2Proof.Machine.execLinkResponse k m s
  | .lockClaimRetry n => Sys2Proof.Machine.execLockClaimRetry n s

end Sys2Proof.Machine
end

