-- ==== Sys2Proof/Machine/Idle.lean ====
section
/-!
DEFINITION. What the passing of time brings when no command acts: the powered-time clock, the Ledger writes and storage requests of site memory, and the
NULL flits that fill a superblock; a forming leader's wait for its chips; the PCIe link's training after a reset (R47, R289, R291, R296,
R321, R530).
-/
namespace Sys2Proof.Machine

/-- The PCIe link that a reset took down comes up when its training is over (R530, log 58). -/
def Dev.linkTime (d : Dev) : Dev :=
  match d.host.linkAt with
  | some t => if !d.host.linkUp ∧ d.domOn 30 ∧ t ≤ d.clk then { d with host := { d.host with linkUp := true, linkAt := none } } else d
  | none => d

/-- 10 ns pass. -/
def idle (d : Dev) : Dev :=
  let d := d.advance 1
  let d := d.linkTime
  let d := d.forEach (List.finRange 8) (fun q d => d.siteTime q)
  let d := if d.grp.forming = 0 then d else formingTimeout d
  d.forEach (List.finRange 6) (fun k d => d.fillSuperblock k)

/-- 10 ns pass on the machine; writes whose domain a command has woken are served (R432). -/
def idleStep (m : Mach) : Mach :=
  let m := m.serveWrites
  { m with dev := idle m.dev }

end Sys2Proof.Machine
end

