-- ==== Sys2Proof/Safety.lean ====
section
/-!
DEFINITION. What counts as a safe run, in the terms that claims use: a step that goes on, a command that completes, a firmware command that
is served, and the canonical forms of the stored data.
-/
namespace Sys2Proof.Machine

/-- A step goes on to a state. -/
def StepsTo (s t : State) : Prop := step s = .next t

/-- A command completes: it leads to a state, no fault and no refusal. -/
def Completes (i : Instr) (s t : State) : Prop := exec i s = .next t

/-- The firmware serves a command: the mirror state lets it be fetched (R372, Table 12.7), the SURVEYOR domain is on, and steps 1 and 3 of
Table 13.1 find nothing against it. -/
def Served (sp : CmdSpec) (c : Cmd) (s : State) : Prop :=
  s.dev.mayFetch sp.op = true ∧ s.dev.domOn 1 = true ∧ s.dev.admission c sp = none

/-- The state in which a command has finished with OK and its results, `d` being the device the command leaves: memory and the queue stand
as they were. -/
def State.finished (s : State) (c : Cmd) (d : Dev) (r0 r1 : BitVec 64 := 0) : State :=
  { s with dev := d.finish c.issuer (cplOf c .ok r0 r1 0) }

/-- The state in which a command waits on the device before it completes (R384). -/
def State.held (s : State) (c : Cmd) (d : Dev) (w : Wait) : State :=
  { s with dev := { d with host := { d.host with
      started := d.host.started ++ [{ issuer := c.issuer, idx := c.idx, desc := c.desc, wait := w }] } } }

/-- The firmware command that a row carries, with its opcode's row of Tables 13.5 to 13.18. -/
def commandOf (i : Instr) : Option (CmdSpec × Cmd) :=
  match i with
  | .timeStatus c => some (specTimeStatus, c)
  | .timeSetSource c => some (specTimeSetSource, c)
  | .timeSetRatio c => some (specTimeSetRatio, c)
  | .timeSetPhase c => some (specTimeSetPhase, c)
  | .timeAcceptPeriod c => some (specTimeAcceptPeriod, c)
  | .timeSetLabel c => some (specTimeSetLabel, c)
  | .parcelStatus c => some (specParcelStatus, c)
  | .parcelCreate c => some (specParcelCreate, c)
  | .parcelDestroy c => some (specParcelDestroy, c)
  | .parcelSetPools c => some (specParcelSetPools, c)
  | .parcelClearCounters c => some (specParcelClear, c)
  | .atlasStatus c => some ((specOnParcel 0x0300 true), c)
  | .atlasLoad c => some ((specOnParcel 0x0301 true), c)
  | .atlasUnload c => some ((specOnParcel 0x0302), c)
  | .intakeStatus c => some (specIntakeStatus, c)
  | .intakeEnable c => some ((specIntake 0x0401), c)
  | .intakeDisable c => some ((specIntake 0x0402), c)
  | .intakeSetShed c => some (specIntakeSetShed, c)
  | .intakeInject c => some (specIntakeInject, c)
  | .intakeClearCounters c => some ((specIntake 0x0405), c)
  | .runStatus c => some (specRunStatus, c)
  | .runStart c => some (specRunStart, c)
  | .runStop c => some (specRunStop, c)
  | .egressStatus c => some ((specOnParcel 0x0700 true), c)
  | .egressSetMeter c => some (specEgressSetMeter, c)
  | .egressSetHeartbeat c => some (specSetHeartbeat, c)
  | .egressSetBacklog c => some (specSetBacklog, c)
  | .egressClearCounters c => some ((specOnParcel 0x0704), c)
  | .darkStatus c => some ((specOnParcel 0x0705 true), c)
  | .learnStatus c => some ((specOnParcel 0x0800 true), c)
  | .learnEnable c => some ((specOnParcel 0x0801), c)
  | .learnDisable c => some ((specOnParcel 0x0802), c)
  | .learnSetEpoch c => some (specLearnSetEpoch, c)
  | .learnReward c => some (specLearnReward, c)
  | .siteSave c => some (specSiteSave, c)
  | .siteRestore c => some (specSiteRestore, c)
  | .siteDelete c => some ((specOnParcel 0x0807), c)
  | .learnClearCounters c => some ((specOnParcel 0x0808), c)
  | .expertStatus c => some ((specOnParcel 0x0900 true), c)
  | .expertSetBearing c => some (specSetBearing, c)
  | .expertSetBias c => some (specSetBias, c)
  | .expertClearCounters c => some ((specOnParcel 0x0903), c)
  | .groupStatus c => some (specGroupStatus, c)
  | .groupSetCoord c => some (specSetCoord, c)
  | .groupForm c => some (specGroupForm, c)
  | .groupDissolve c => some (specGroupDissolve, c)
  | .groupResync c => some (specGroupResync, c)
  | .linkStatus c => some (specLinkStatus, c)
  | .linkEnable c => some (specLinkEnable, c)
  | .linkRetrain c => some (specLinkRetrain, c)
  | .linkClearCounters c => some (specLinkClear, c)
  | .powerStatus c => some (specPowerStatus, c)
  | .powerSetDomain c => some (specPowerSetDomain, c)
  | .powerSetPolicy c => some (specPowerSetPolicy, c)
  | .clockSetDense c => some (specClockSet, c)
  | .clockSetClkout c => some (specClockSet, c)
  | .clockSetSpread c => some (specClockSet, c)
  | .telemetryRead c => some (specTelemetryRead, c)
  | .powerSetCap c => some (specPowerSetCap, c)
  | .deviceInfo c => some ((specPlain 0x0100 .any), c)
  | .deviceStatus c => some (specDeviceStatus, c)
  | .deviceNop c => some (specDeviceNop, c)
  | .deviceWarmReset c => some (specWarmReset, c)
  | .fwWrite c => some (specFwWrite, c)
  | .fwCommit c => some (specFwCommit, c)
  | .fwAbort c => some ((specPlain 0x0106 .pf), c)
  | .secStatus c => some ((specPlain 0x0C00 .any), c)
  | .licenceInstall c => some ((specRecord 0x0C01), c)
  | .licenceRemove c => some (specLicenceRemove, c)
  | .ownerEnrol c => some ((specRecord 0x0C03), c)
  | .ownerLockSet c => some (specOwnerLock, c)
  | .ownerLockClear c => some (specOwnerLock, c)
  | .secGetCert c => some (specGetCert, c)
  | .faultStatus c => some ({ op := 0x0D00, rights := .any }, c)
  | .faultLogRead c => some (specLogRead, c)
  | .countersRead c => some ((specCounters 0x0D02 true), c)
  | .countersClear c => some ((specCounters 0x0D03 false), c)
  | .faultSetBudget c => some (specSetBudget, c)
  | .faultRecover c => some (specFaultRecover, c)
  | .memStatus c => some (specMemStatus, c)
  | .memTest c => some (specMemTest, c)
  | .memFill c => some (specMemFill, c)
  | .memSetBg c => some (specMemSetBg, c)
  | .diagTap c => some ((specDiag 0x0E00 (params 4 13)), c)
  | .diagRead c => some ((specDiag 0x0E01 (params 1 1 ++ params 4 11)), c)
  | .diagWrite c => some ((specDiag 0x0E02 (params 1 1 ++ params 4 11)), c)
  | _ => none

/-- The rows that can change a byte of the stacks or of the scratchpad. -/
def touchesMemory (i : Instr) : Bool :=
  match i with
  | .coldFetchResponse _ _ _ => true
  | .weightLoad _ _ => true
  | .atlasLoad _ => true
  | .regRead _ _ _ => true
  | .regWrite _ _ => true
  | .domainEntryStage _ _ => true
  | .tjSample _ _ => true
  | .wakeReady _ _ => true
  | .thermalRecovery _ => true
  | .supplyUndervoltage _ => true
  | .monitorWindow _ _ _ => true
  | .relockDone _ _ => true
  | .resonatorRestart _ => true
  | .coldN _ => true
  | .coldStart _ => true
  | .warmN _ => true
  | .warmStart _ => true
  | .bootWatchdog => true
  | .barAccess _ => true
  | .commandStart _ _ _ => true
  | .diagWrite _ => true
  | .stackAccess _ => true
  | .fillComplete _ _ => true
  | .scratchpadAccess _ => true
  | .scpBankCopyDone => true
  | .marchDone _ => true
  | .surveyorRecovery _ => true
  | .guidelineWrite _ _ _ => true
  | .panic => true
  | .registerWrite _ _ => true
  | .extest => true
  | .bypass _ => true
  | .faultedEraseTimeout _ => true
  | _ => false

/-- The function that a row of the host interface concerns (Tables 12.8, 12.12). -/
def functionOf (i : Instr) : Option Func :=
  match i with
  | .flr f => some f
  | .d3hot f => some f
  | .mbxCmdPiDb f _ => some f
  | .mbxCplCiDb f _ => some f
  | .mbxResCiDb f _ => some f
  | .ringEnable f => some f
  | .ringDisable f => some f
  | .quiesceComplete f => some f
  | .commandFetch f _ => some f
  | .notice f _ _ => some f
  | .cplCoalesceTimer f => some f
  | .resCoalesceTimer f => some f
  | _ => none

/-- The rows of the rings, their interrupts and their PCIe resets. -/
def ringRow (i : Instr) : Bool :=
  match i with
  | .peRstN => true
  | .hotReset => true
  | .vfEnableCleared => true
  | _ => (functionOf i).isSome

/-- The changes of ring state that Table 12.12 allows, and no change. -/
def ringMoves (x y : RingSt) : Bool :=
  x == y || (match x, y with
    | .off, .active => true
    | .off, .error => true
    | .active, .quiescing => true
    | .active, .error => true
    | .error, .quiescing => true
    | .quiescing, .off => true
    | _, _ => false)

/-- No two fields of a register share a bit, and each lies within 32 bits. -/
def fieldsApart : List (Fld × Acc) → Bool
  | [] => true
  | e :: t => decide (e.1.lo + e.1.width ≤ 32) && t.all (fun x => decide (e.1.lo + e.1.width ≤ x.1.lo ∨ x.1.lo + x.1.width ≤ e.1.lo)) && fieldsApart t

/-- A byte address of the scratchpad (R351), or of the stacks' window (R333). -/
def inMemory (a : Nat) : Bool := (decide (scpWindow ≤ a) && decide (a < scpWindow + scpBytes)) || decide (stackWindow ≤ a)

/-- The stored memory is canonical and lies in the scratchpad or the stacks' window. -/
def Memory.sound (m : Mem) : Bool := Memory.wf m && m.all (fun e => inMemory e.1)

end Sys2Proof.Machine
end

