-- ==== Sys2Proof/Certificates/Slice0/Obligations.lean ====
section
/-!
DEFINITION. Statements for the provers: what each command does where it takes effect, what it leaves unchanged, and what holds of every
step.
-/
open Sys2Proof Sys2Proof.Machine

/-- A step of a state whose queue has a front command is that command's effect on the state with the rest of the queue. -/
def Obligations.StepRunsTheFrontCommand : Prop :=
  ∀ (c : Instr) (rest : List Instr) (s : State), step { s with pending := c :: rest } = exec c { s with pending := rest }

/-- Every command leaves the queue as it was and answers a next state, or it is REGISTER_WRITE to an address where the register map has no
register, which faults and names the address; no command is refused. -/
def Obligations.EveryCommandAnswers : Prop :=
  ∀ (c : Instr) (s : State), (∃ t, exec c s = .next t ∧ t.pending = s.pending) ∨
    (∃ a v, c = .registerWrite a v ∧ regAt a.toNat = none ∧ exec c s = .fault (.unmappedRegister a.toNat))

/-- A row that is none of the memory accesses, weight loads, region and bank operations, marches, resets, starts, power changes, link register
messages and register writes named in touchesMemory leaves every byte of the stacks and the scratchpad as it was. -/
def Obligations.OnlyMemoryRowsTouchMemory : Prop :=
  ∀ (c : Instr) (s t : State), touchesMemory c = false → exec c s = .next t → t.mem = s.mem

/-- At State.reset the stored memory is canonical and lies in the scratchpad or the stacks' window. -/
def Obligations.ResetMemoryIsSound : Prop :=
  Memory.sound State.reset.mem = true

/-- From any state whose stored memory is canonical (addresses strictly rising, no listed zero byte) and lies in the scratchpad or the stacks'
window, a step that answers a next state leaves it so: a byte that no write reached reads as zero, and no other address holds anything.
Rests on the model's choices and readings of log entry 9. -/
def Obligations.MemoryStaysSound : Prop :=
  ∀ (s t : State), Memory.sound s.mem = true → step s = .next t → Memory.sound t.mem = true

/-- The register bank answers the word last written at an address; a write leaves every other address; putting a field leaves every field that
shares no bit with it and reads back cut to its width. -/
def Obligations.RegisterBankReadsBack : Prop :=
  (∀ (d : Dev) (a b : Nat) (v : Word), (d.setReg a v).reg b = if b = a then v else d.reg b) ∧
  (∀ (d : Dev) (a b : Nat) (f g : Fld) (v : Nat), f.lo + f.width ≤ 32 → (d.setRf a f v).rf a f = v % 2 ^ f.width ∧
    (b ≠ a ∨ f.lo + f.width ≤ g.lo ∨ g.lo + g.width ≤ f.lo → (d.setRf a f v).rf b g = d.rf b g))

/-- For every register of the map: its fields share no bit and lie in 32 bits; after a write an RW field holds the value written, an RWL field
does until its block's commit is set and then keeps its value, an RO field keeps its value, a W1C field loses exactly the bits written as 1.
Rests on the model's choices and readings of log entry 13. -/
def Obligations.FieldsFollowTheirCodes : Prop :=
  ∀ (a : Nat) (r : RegAt), regAt a = some r → fieldsApart r.spec.fields = true ∧
    ∀ (locked : Bool) (old v : Word) (f : Fld) (c : Acc), (f, c) ∈ r.spec.fields →
      fget f (r.spec.written locked old v) = match c with
        | .rw => fget f v
        | .rwl => if locked then fget f old else fget f v
        | .ro => fget f old
        | .wo => fget f old
        | .w1c => Nat.land (fget f old) (2 ^ f.width - 1 - fget f v)

/-- A read of LCK_ACQ_n answers DENIED and changes no lock where the grant excludes the reader; granted, it takes a free lock with ACQUIRED, a
free broken lock with ACQUIRED_BROKEN and bit 31 (the lock no longer broken), answers BUSY for another owner's lock and HELD_SELF for the
reader's own, changing no lock. -/
def Obligations.LockAcquisition : Prop :=
  ∀ (s : State) (u : LockUser) (n : Fin 64),
    let l := s.dev.locks[n]
    let life := s.dev.rf (R.LCK_LIFE (lifeOfOwner (ownerId u))) F.LCK_LIFE_LIFE
    let answer (m : Lock) (w : Word) : State :=
      { s with dev := { s.dev with locks := s.dev.locks.set n m, outbox := .lockWord (ownerId u) w :: s.dev.outbox } }
    (s.dev.granted n (ownerId u) = false → exec (.lckAcq u n) s = .next (answer l (lockWord false 4 l.life l.owner))) ∧
    (s.dev.granted n (ownerId u) = true → l.owner = 0 → l.broken = false →
      exec (.lckAcq u n) s = .next (answer { owner := ownerId u, life := life, broken := false } (lockWord false 0 life (ownerId u)))) ∧
    (s.dev.granted n (ownerId u) = true → l.owner = 0 → l.broken = true →
      exec (.lckAcq u n) s = .next (answer { owner := ownerId u, life := life, broken := false } (lockWord true 1 life (ownerId u)))) ∧
    (s.dev.granted n (ownerId u) = true → l.owner ≠ 0 → l.owner ≠ ownerId u →
      exec (.lckAcq u n) s = .next (answer l (lockWord false 2 l.life l.owner))) ∧
    (s.dev.granted n (ownerId u) = true → l.owner = ownerId u →
      exec (.lckAcq u n) s = .next (answer l (lockWord false 3 l.life l.owner)))

/-- A write to LCK_REL_n by the lock's owner with bit 0 set frees it, not broken; any other write leaves every lock and counts in LCK_BAD_REL;
either leaves memory and everything of the device but the locks and that counter. -/
def Obligations.LockRelease : Prop :=
  ∀ (s : State) (u : LockUser) (n : Fin 64) (v : BitVec 32),
    ((s.dev.locks[n]).owner = ownerId u ∧ bit v 0 = true →
      exec (.lckRel u n v) s = .next { s with dev := { s.dev with locks := s.dev.locks.set n { owner := 0, life := 0, broken := false } } }) ∧
    (¬((s.dev.locks[n]).owner = ownerId u ∧ bit v 0 = true) →
      exec (.lckRel u n v) s = .next { s with dev := s.dev.setRf R.LCK_BAD_REL F.LCK_BAD_REL_BAD (min (s.dev.rf R.LCK_BAD_REL F.LCK_BAD_REL_BAD + 1)
        (2 ^ F.LCK_BAD_REL_BAD.width - 1)) })

/-- Whenever a life count rises, the count becomes one more, 0xFFFF wrapping to 1, and of the 64 locks exactly those its owner holds become free
and broken. A function level reset does this to the function's locks and a remote chip's reset note to that chip's; a granted reader then
acquires such a lock as broken. -/
def Obligations.ResetsBreakLocks : Prop :=
  (∀ (d : Dev) (o : Nat) (n : Fin 64), o < 75 →
    (d.raiseLife o).rf (R.LCK_LIFE o) F.LCK_LIFE_LIFE = (if d.rf (R.LCK_LIFE o) F.LCK_LIFE_LIFE = 0xFFFF then 1 else d.rf (R.LCK_LIFE o) F.LCK_LIFE_LIFE + 1) ∧
    (d.raiseLife o).locks[n] = if (d.locks[n]).owner = ownerOfLife o then { owner := 0, life := 0, broken := true } else d.locks[n]) ∧
  (∀ (s t : State) (f : Func) (n : Fin 64), exec (.flr f) s = .next t →
    t.dev.locks[n] = if (s.dev.locks[n]).owner = ownerId (.fn f) then { owner := 0, life := 0, broken := true } else s.dev.locks[n]) ∧
  (∀ (s t : State) (c n : Fin 64), exec (.resetNote c) s = .next t →
    t.dev.locks[n] = if (s.dev.locks[n]).owner = 0x40 + c.val then { owner := 0, life := 0, broken := true } else s.dev.locks[n]) ∧
  (∀ (s : State) (u : LockUser) (n : Fin 64), s.dev.granted n (ownerId u) = true → s.dev.locks[n] = { owner := 0, life := 0, broken := true } →
    ∃ t w, exec (.lckAcq u n) s = .next t ∧ t.dev.outbox = .lockWord (ownerId u) w :: s.dev.outbox ∧ w.getLsbD 31 = true ∧
      w.extractLsb' 28 3 = 1#3 ∧ (t.dev.locks[n]).owner = ownerId u ∧ (t.dev.locks[n]).broken = false)

/-- On ACTIVE rings, in every mirror state: a value equal to the latched one has no effect; a value at most S past the latched one that does not
pass the other side's index latches (a consumer doorbell's freed slots then take pending notices), and of the rest only the power state may
change; any other value counts in MBX_DB_ERR and puts the rings into ERROR with reason DOORBELL. -/
def Obligations.DoorbellsLatchWithinTheRing : Prop :=
  ∀ (s : State) (f : Func) (v : BitVec 32), (s.dev.ring f).st = .active →
    let r := s.dev.ring f
    let bad : State := s.onDev (fun d => ((d.setRf (R.MBX_DB_ERR f) F.MBX_DB_ERR_ERR (min (d.rf (R.MBX_DB_ERR f) F.MBX_DB_ERR_ERR + 1)
      (2 ^ F.MBX_DB_ERR_ERR.width - 1))).updRing f (fun x => { x with st := .error, reason := 2, quiesced := false })).vfEvent f)
    let cmdOk : Bool := decide ((v - r.cmdPi).toNat ≤ s.dev.cmdSize f ∧ (v - r.cmdCi).toNat ≤ s.dev.cmdSize f)
    let cplOk : Bool := decide ((v - r.cplCi).toNat ≤ s.dev.cplSize f ∧ (r.cplPi - v).toNat ≤ s.dev.cplSize f)
    let resOk : Bool := decide ((v - r.resCi).toNat ≤ s.dev.resSize f ∧ (r.resPi - v).toNat ≤ s.dev.resSize f)
    (∃ p, exec (.mbxCmdPiDb f v) s = .next (if v = r.cmdPi then s else if cmdOk then
      s.onDev (fun d => { d.updRing f (fun x => { x with cmdPi := v }) with pwr := p }) else bad)) ∧
    (∃ p, exec (.mbxCplCiDb f v) s = .next (if v = r.cplCi then s else if cplOk then
      s.onDev (fun d => ({ d.updRing f (fun x => { x with cplCi := v }) with pwr := p }).flushNotices f r.notices) else bad)) ∧
    (∃ p, exec (.mbxResCiDb f v) s = .next (if v = r.resCi then s else if resOk then
      s.onDev (fun d => { d.updRing f (fun x => { x with resCi := v }) with pwr := p }) else bad))

/-- A row of the rings, their interrupts or their PCIe resets takes every function's ring state to itself or along a change of Table 12.12.
Rests on the model's choices and readings of log entry 37. -/
def Obligations.RingStatesMoveByTheTable : Prop :=
  ∀ (c : Instr) (s t : State) (f : Func), ringRow c = true → exec c s = .next t → ringMoves (s.dev.ring f).st (t.dev.ring f).st = true

/-- A reset, doorbell, ring control, fetch, notice or interrupt timer of one function leaves every other function's rings as they were, and
every lock that the function does not hold. Rests on the model's choices and readings of log entry 37. -/
def Obligations.FunctionsAreIsolated : Prop :=
  ∀ (c : Instr) (s t : State) (f g : Func) (n : Fin 64), functionOf c = some f → exec c s = .next t →
    (g ≠ f → t.dev.ring g = s.dev.ring g) ∧ ((s.dev.locks[n]).owner ≠ ownerId (.fn f) → t.dev.locks[n] = s.dev.locks[n])

/-- PE_RST_N acts as HOT_RESET; a row of the rings, their interrupts or their PCIe resets leaves memory, the Galleries, planes, parcels, links,
group, hubs, ports, stacks, scratchpad, clocks, Datum block, collector, Ledger, fuses, pins and powered time as they were, and the power state
too but for the wake of SURVEYOR by a doorbell or a notice. Rests on the model's choices and readings of log entries 37, 45. -/
def Obligations.HostRowsLeaveTheFabric : Prop :=
  (∀ s : State, exec .peRstN s = exec .hotReset s) ∧
  (∀ (c : Instr) (s t : State), ringRow c = true → exec c s = .next t →
    t.mem = s.mem ∧ t.dev.gals = s.dev.gals ∧ t.dev.planes = s.dev.planes ∧ t.dev.pcls = s.dev.pcls ∧ t.dev.links = s.dev.links ∧
    t.dev.grp = s.dev.grp ∧ t.dev.hubs = s.dev.hubs ∧ t.dev.ports = s.dev.ports ∧ t.dev.stks = s.dev.stks ∧ t.dev.scp = s.dev.scp ∧
    (t.dev.pwr = s.dev.pwr ∨ t.dev.pwr = s.dev.wakeSurveyor.pwr) ∧ t.dev.clks = s.dev.clks ∧ t.dev.dat = s.dev.dat ∧ t.dev.flt = s.dev.flt ∧ t.dev.led = s.dev.led ∧
    t.dev.fus = s.dev.fus ∧ t.dev.pins = s.dev.pins ∧ t.dev.clk = s.dev.clk)

/-- The completion of a finished command, its function's rings ACTIVE or in ERROR with a slot free, is written at index CPL_PI, to the entry's
address MBX_CPL_BASE + (index mod S) × 32, and the index rises by 1: opcode, tag, status, the low 16 bits of the ring index, RESULT0, RESULT1 and DETAIL at their bytes, KIND 0, reserved bits 0, PHASE
((index div S) mod 2) XOR 1. A notice with a slot free takes the same form: opcode, status, index, RESULT1 and DETAIL 0, TAG 1, the argument
in RESULT0, and its KIND. -/
def Obligations.CompletionEntryLayout : Prop :=
  (∀ (s t : State) (f : Func) (c : Cpl) (l : List Cpl), (s.dev.ring f).done = c :: l → c.orphan = false →
    ((s.dev.ring f).st = .active ∨ (s.dev.ring f).st = .error) → ((s.dev.ring f).cplPi - (s.dev.ring f).cplCi).toNat < s.dev.cplSize f →
    exec (.completionWrite (.fn f)) s = .next t →
    (t.dev.ring f).cplPi = (s.dev.ring f).cplPi + 1 ∧ (t.dev.ring f).done = l ∧
    ∃ e, Output.cplEntry f (s.dev.ring f).cplPi.toNat (s.dev.cplAddr f (s.dev.ring f).cplPi.toNat) e ∈ t.dev.outbox ∧ bits e 15 0 = c.opcode % 2 ^ 16 ∧ bits e 31 16 = c.tag % 2 ^ 16 ∧
      bits e 47 32 = c.status.code ∧ bits e 63 48 = c.idx % 2 ^ 16 ∧ e.extractLsb' 64 64 = c.result0 ∧ e.extractLsb' 128 64 = c.result1 ∧
      e.extractLsb' 192 32 = c.detail ∧ bits e 254 224 = 0 ∧
      bits e 255 255 = ((s.dev.ring f).cplPi.toNat / s.dev.cplSize f % 2) ^^^ 1) ∧
  (∀ (s t : State) (f : Func) (k : Fin 7) (arg : BitVec 64), k ≠ 0 → (s.dev.ring f).st = .active → 0 < s.dev.cplFree f →
    exec (.notice f k arg) s = .next t →
    (t.dev.ring f).cplPi = (s.dev.ring f).cplPi + 1 ∧
    ∃ e, Output.cplEntry f (s.dev.ring f).cplPi.toNat (s.dev.cplAddr f (s.dev.ring f).cplPi.toNat) e ∈ t.dev.outbox ∧ bits e 15 0 = 0 ∧ bits e 31 16 = 1 ∧ bits e 63 32 = 0 ∧
      e.extractLsb' 64 64 = arg ∧ bits e 223 128 = 0 ∧ bits e 239 224 = k.val ∧ bits e 254 240 = 0 ∧
      bits e 255 255 = ((s.dev.ring f).cplPi.toNat / s.dev.cplSize f % 2) ^^^ 1)

/-- In every mirror state but ONLINE and UPDATING a firmware command changes nothing: it stays with the host; in UPDATING this holds for every
opcode but those of the groups 0x01 and 0x0C. Rests on the model's choices and readings of log entry 38. -/
def Obligations.CommandsWaitForTheFirmware : Prop :=
  ∀ (i : Instr) (sp : CmdSpec) (c : Cmd) (s : State), commandOf i = some (sp, c) → s.dev.mirState ≠ 2 →
    (s.dev.mirState = 5 → sp.op / 256 ≠ 0x01 ∧ sp.op / 256 ≠ 0x0C) → exec i s = .next s

/-- A firmware command that the mirror state lets be fetched and that fails the reserved bits, the buffer rule, the rights or the range of
TARGET leaves memory, the queue and the device as they were but for its completion, which carries the failed check's status and detail and
results 0. Rests on the model's choices and readings of log entry 38. -/
def Obligations.RefusedAtAdmissionChangesNothing : Prop :=
  ∀ (i : Instr) (sp : CmdSpec) (c : Cmd) (s : State) (st : Status) (dt : BitVec 32), commandOf i = some (sp, c) → s.dev.mayFetch sp.op = true →
    s.dev.domOn 1 = true → s.dev.admission c sp = some (st, dt) →
    exec i s = .next { s with dev := s.dev.finish c.issuer (cplOf c st 0 0 dt) } ∧ st ≠ .ok

/-- HALT to the station of a Gallery on the ring that is not FAULTED leaves it FAULTED with its discard sink set, no event in its ingress, its
emission queue, its delay queue or the Compass forward buffer and no neuron with a pending spike, and its plane with no event; every other
Gallery and plane and all of memory are as before. Rests on the model's choices and readings of log entry 19. -/
def Obligations.HaltedGalleryHoldsNothing : Prop :=
  ∀ (s t : State) (h : GdlHead) (g k : Fin 8), h.crcOk = true → h.station.val = 0x10 + g.val → s.dev.stationOn h.station.val = true →
    (s.dev.gal g).st ≠ .faulted → exec (.halt h) s = .next t →
    (t.dev.gal g).st = .faulted ∧ (t.dev.gal g).sink = true ∧ (t.dev.gal g).ingress = 0 ∧ (t.dev.gal g).emitQ = [] ∧ (t.dev.gal g).delayQ = [] ∧
    (t.dev.gal g).cmp.fwd = [] ∧ (t.dev.gal g).pendingNeurons = [] ∧ (t.dev.plane g).outEvents = [] ∧
    (k ≠ g → t.dev.gal k = s.dev.gal k ∧ t.dev.plane k = s.dev.plane k) ∧ t.mem = s.mem

/-- pow_q16(D, g) starts from 0x10000 and for each bit of g from 7 down to 0 squares and, where the bit is set, multiplies by D, rounding half
up at each; for D and g of 16 and 8 bits the result lies in 0 .. 0x10000. -/
def Obligations.PowQ16IsTheSketch : Prop :=
  ∀ (d : BitVec 16) (g : BitVec 8),
    powQ16 d.toNat g.toNat = [7, 6, 5, 4, 3, 2, 1, 0].foldl (fun f b =>
      let q := (f * f + 0x8000) >>> 16
      if (g.toNat >>> b) % 2 = 1 then (q * d.toNat + 0x8000) >>> 16 else q) 0x10000 ∧
    powQ16 d.toNat g.toNat ≤ 0x10000

/-- With a gap g of 0 the state word is unchanged. Otherwise LAST becomes the low 8 bits of t, REFR falls by g and stops at 0, TRACE and ADAPT
are scaled by pow_q16 and truncated, V moves toward 0 without crossing it (linear leak) or is scaled with its sign kept (exponential leak),
and W, P and MODEL stay. -/
def Obligations.LazyUpdateFields : Prop :=
  ∀ (w0 w1 w2 w3 : Word) (t : Nat) (w : BitVec 64),
    let m := modelOf w0 w1 w2 w3
    let g := (t % 256 + 256 - fget nsLast w) % 256
    let u := lazyUpdate m t w
    (g = 0 → u = w) ∧
    (g ≠ 0 → fget nsLast u = t % 256 ∧ fget nsRefr u = fget nsRefr w - g ∧
      fget nsTrace u = fget nsTrace w * powQ16 m.traceDecay g / 65536 ∧ fget nsAdapt u = fget nsAdapt w * powQ16 m.adaptDecay g / 65536 ∧
      (m.expo = false → stV u = (stV w).sign * ((stV w).natAbs - min (stV w).natAbs (m.leak * g) : Nat)) ∧
      (m.expo = true → stV u = (stV w).sign * ((stV w).natAbs * powQ16 m.leak g / 65536 : Nat)) ∧
      fget nsW u = fget nsW w ∧ fget nsP u = fget nsP w ∧ fget nsModel u = fget nsModel w)

/-- An input to a word in refractory state is discarded. Otherwise V becomes the sum, saturated at −131,072 and 131,071; the neuron fires when V
is at least THETA + ADAPT × 2^ASHIFT: V then becomes VRESET or V minus the threshold, REFR becomes REFRAC, TRACE and ADAPT gain their
increments and stop at 1,023 and 4,095; W, P, MODEL and LAST stay, and a word that does not fire changes V alone. -/
def Obligations.IntegrationAndFire : Prop :=
  ∀ (w0 w1 w2 w3 : Word) (x : Int) (w : BitVec 64),
    let m := modelOf w0 w1 w2 w3
    let v : Int := if stV w + x < -131072 then -131072 else if 131071 < stV w + x then 131071 else stV w + x
    let thr : Int := m.theta + fget nsAdapt w * 2 ^ m.ashift
    let r := integrate m x w
    (fget nsRefr w ≠ 0 → r = { word := w, sat := false, fired := none }) ∧
    (fget nsRefr w = 0 → r.sat = decide (v ≠ stV w + x) ∧ r.fired = (if thr ≤ v then some v else none) ∧
      stV r.word = (if thr ≤ v then (if m.subtract then v - thr else m.vreset) else v) ∧
      fget nsRefr r.word = (if thr ≤ v then m.refrac else 0) ∧
      fget nsTrace r.word = (if thr ≤ v then min 1023 (fget nsTrace w + m.traceInc) else fget nsTrace w) ∧
      fget nsAdapt r.word = (if thr ≤ v then min 4095 (fget nsAdapt w + m.adaptInc) else fget nsAdapt w) ∧
      fget nsW r.word = fget nsW w ∧ fget nsP r.word = fget nsP w ∧ fget nsModel r.word = fget nsModel w ∧ fget nsLast r.word = fget nsLast w)

/-- An event word formed from fields in range reads each of them back and HOPS 0; the origin tick recovered at tick t (t not below the age) is
at most t, less than 256 ticks old, and its low 8 bits are STAMP; a hop raises HOPS, which stops at 31, and no other field. -/
def Obligations.EventWordFields : Prop :=
  (∀ (chip gallery axon adly stamp slice kind payload : Nat), chip < 64 → gallery < 8 → axon < 2 ^ 18 → adly < 1024 → stamp < 256 → slice < 16 →
    kind < 4 → payload < 256 →
    let e := mkEvent chip gallery axon adly stamp slice kind payload
    bits e 63 58 = chip ∧ fget evGallery e = gallery ∧ fget evAxon e = axon ∧ fget evAdly e = adly ∧ fget evStamp e = stamp ∧
    fget evSlice e = slice ∧ fget evKind e = kind ∧ fget evPayload e = payload ∧ fget evHops e = 0) ∧
  (∀ (t : Nat) (e : BitVec 64), (t + 256 - fget evStamp e) % 256 ≤ t →
    originTick t e ≤ t ∧ t < originTick t e + 256 ∧ originTick t e % 256 = fget evStamp e) ∧
  (∀ (e : BitVec 64) (n : Nat), fget evHops (addHops e n) = min 31 (fget evHops e + n) ∧ bits (addHops e n) 63 5 = bits e 63 5)

/-- When the erasure at the head of a Gallery's queue completes and the Gallery holds no detected memory error, every neuron of the dark ranges
tagged with the port has only W and MODEL left in its state word, no input in any of its ring slots and no occupancy bit; the port leaves
the queue. -/
def Obligations.ErasureLeavesNoDarkState : Prop :=
  ∀ (s t : State) (g : Fin 8) (p : Fin 16) (rest : List Nat) (n k : Nat), (s.dev.gal g).eraseQ = p.val :: rest → (s.dev.gal g).bad = [] →
    s.dev.taggedWith g p n = true → k % 131072 = n → exec (.eraseComplete g p) s = .next t →
    let w := SMap.get 0 (t.dev.gal g).state n
    fget nsP w = 0 ∧ fget nsV w = 0 ∧ fget nsLast w = 0 ∧ fget nsRefr w = 0 ∧ fget nsTrace w = 0 ∧ fget nsAdapt w = 0 ∧
    SMap.get 0 (t.dev.gal g).ring k = 0 ∧ SMap.get false (t.dev.gal g).occ k = false ∧ (t.dev.gal g).eraseQ = rest

/-- A read of a unit at or above its region's watermark does not touch the stack, returns 64 zero bytes without error, increments STK_RGN_UNW_r
and raises a fault where UNW_FAULT is 1. -/
def Obligations.UnwrittenStackUnits : Prop :=
  ∀ (m : Mach) (k : Fin 4) (r : Fin 16) (u : Nat) (errs : List MemErr), m.dev.rgnWm k r ≤ u →
    let d := m.dev.setRf (R.STK_RGN_UNW k r) F.STK_RGN_UNW_UNW (min (m.dev.rf (R.STK_RGN_UNW k r) F.STK_RGN_UNW_UNW + 1) (2 ^ F.STK_RGN_UNW_UNW.width - 1))
    (d.rf (R.STK_RGN_CTL k r) F.STK_RGN_CTL_UNW_FAULT = 0 → m.readUnit k r u errs = (List.replicate 64 0, false, { dev := d, mem := m.mem })) ∧
    (d.rf (R.STK_RGN_CTL k r) F.STK_RGN_CTL_UNW_FAULT = 1 → m.readUnit k r u errs = (List.replicate 64 0, false,
      { dev := d.raiseFrom (stStack k) (Flt.stackUnw k (u * 64) r (ownerParcel (d.rgnOwner k r))), mem := m.mem }))

/-- A read of a line whose written bit is 0 answers zero bytes and increments SCP_UNW_CNT, and raises a fault with UNW_FAULT; an admitted write
sets the bit of each line it spans, stores its bytes, zero-fills the rest of each line that was unwritten and leaves every other byte;
COLD_N clears every written bit; WARM_N keeps the written bits and the contents. -/
def Obligations.ScratchpadLines : Prop :=
  (∀ (d : Dev) (l : Nat) (errs : List MemErr), SMap.get false d.scp.written l = false →
    let e := d.setRf R.SCP_UNW_CNT F.SCP_UNW_CNT_UNW (min (d.rf R.SCP_UNW_CNT F.SCP_UNW_CNT_UNW + 1) (2 ^ F.SCP_UNW_CNT_UNW.width - 1))
    (e.rf R.SCP_CTL F.SCP_CTL_UNW_FAULT = 0 → d.scpReadLines errs [l] = e) ∧
    (e.rf R.SCP_CTL F.SCP_CTL_UNW_FAULT = 1 → d.scpReadLines errs [l] = e.raiseFrom 0x03 (Flt.scpUnw (l * 64)))) ∧
  (∀ (s t : State) (a : ScpAccess), a.write = none → a.off + a.len ≤ scpBytes → 0 < a.len →
    s.dev.masterAdmits a.m a.func (scpWindow + a.off) (scpWindow + a.off + a.len) false = true → s.dev.scp.copying = none → s.dev.march = none →
    s.dev.rf R.SCP_STAT F.SCP_STAT_DEGRADED = 0 → (∀ l, SMap.get false s.dev.scp.written l = false) → exec (.scratchpadAccess a) s = .next t →
    t.mem = s.mem ∧ ∃ p, .memData (.master a.m a.func) (List.replicate a.len 0) p ∈ t.dev.outbox) ∧
  (∀ (s t : State) (a : ScpAccess) (b : List Byte) (x : Nat), a.write = some b → a.off + b.length ≤ scpBytes → b ≠ [] →
    s.dev.masterAdmits a.m a.func (scpWindow + a.off) (scpWindow + a.off + b.length) true = true → s.dev.scp.copying = none → s.dev.march = none →
    s.dev.rf R.SCP_STAT F.SCP_STAT_DEGRADED = 0 → exec (.scratchpadAccess a) s = .next t →
    (∀ l, SMap.get false t.dev.scp.written l = (SMap.get false s.dev.scp.written l || (decide (a.off / 64 ≤ l) && decide (l ≤ (a.off + b.length - 1) / 64)))) ∧
    Memory.readByte t.mem (scpWindow + x) =
      (if a.off ≤ x ∧ x < a.off + b.length then b.getD (x - a.off) 0
       else if SMap.get false s.dev.scp.written (x / 64) = false ∧ a.off / 64 ≤ x / 64 ∧ x / 64 ≤ (a.off + b.length - 1) / 64 then 0
       else Memory.readByte s.mem (scpWindow + x)) ∧
    (x < scpWindow → Memory.readByte t.mem x = Memory.readByte s.mem x)) ∧
  (∀ (s t : State) (ns l : Nat), 10000 ≤ ns → exec (.coldN ns) s = .next t → SMap.get false t.dev.scp.written l = false) ∧
  (∀ (s t : State) (ns x : Nat), exec (.warmN ns) s = .next t → t.dev.scp.written = s.dev.scp.written ∧
    (x < scpBytes → Memory.readByte t.mem (scpWindow + x) = Memory.readByte s.mem (scpWindow + x)))

/-- A stack write that nothing holds, admitted by its region, ending at or below the watermark and without a second command error, stores each byte
whose unit is not retired; the units that the fill engine has passed by then are zero in every other byte, and every other byte of memory stays
as it was; the watermark stays. Rests on the model's choices and readings of log entry 9. -/
def Obligations.StackWriteFrame : Prop :=
  ∀ (s t : State) (a : StackAccess) (k : Fin 4) (l : Nat) (r : Fin 16) (b : List Byte) (x : Nat), stackPlace s.dev.fus.high a.sa = some (k, l) →
    s.dev.stackHeld k = false → s.dev.stackReady k = true → a.ca ≠ 2 → a.write = some b → s.dev.admitStack a.req k a.sa b.length true = some r →
    (a.sa + b.length + 63) / 64 ≤ s.dev.rgnWm k r → exec (.stackAccess a) s = .next t →
    Memory.readByte t.mem x = (if stackWindow + a.sa ≤ x ∧ x < stackWindow + a.sa + b.length ∧ s.dev.unitRetired k ((x - stackWindow) / 64) = false
      then b.getD (x - stackWindow - a.sa) 0
      else if stackWindow + s.dev.setWmAt k r * 64 ≤ x ∧ x < stackWindow + s.dev.rgnWm k r * 64 then 0 else Memory.readByte s.mem x) ∧
    t.dev.rgnWm k r = s.dev.rgnWm k r

/-- A scratchpad access that the master's regions do not admit, and an access to a READY stack that its regions do not admit, leave every byte
of memory, the written bits, the stacks' state and every watermark as they were; the scratchpad master's denial counts. -/
def Obligations.DeniedAccessTouchesNothing : Prop :=
  (∀ (s t : State) (a : ScpAccess) (len : Nat), len = (match a.write with | some b => b.length | none => a.len) →
    s.dev.masterAdmits a.m a.func (scpWindow + a.off) (scpWindow + a.off + len) a.write.isSome = false → exec (.scratchpadAccess a) s = .next t →
    t.mem = s.mem ∧ t.dev.scp = s.dev.scp ∧
    t.dev.rf (R.SCP_DENY_CNT a.m) F.SCP_DENY_CNT_DENY = min (s.dev.rf (R.SCP_DENY_CNT a.m) F.SCP_DENY_CNT_DENY + 1) (2 ^ F.SCP_DENY_CNT_DENY.width - 1)) ∧
  (∀ (s t : State) (a : StackAccess) (k : Fin 4) (l : Nat), stackPlace s.dev.fus.high a.sa = some (k, l) → s.dev.stackReady k = true →
    s.dev.stackSleeps k = false →
    s.dev.admitStack a.req k a.sa (match a.write with | some b => b.length | none => a.len) a.write.isSome = none → exec (.stackAccess a) s = .next t →
    t.mem = s.mem ∧ t.dev.stks = s.dev.stks ∧ ∀ (j : Fin 4) (r : Fin 16), t.dev.rgnWm j r = s.dev.rgnWm j r)

/-- While the collector has room and its records are numbered, a fault of the firmware adds one record at its end, with the next sequence
number, powered time and the tick count; LNT_MIR_FLTSEQ shows that number and FLT_SEQ the next; the collector never holds more than 256
records. Rests on the model's choices and readings of log entry 41. -/
def Obligations.CollectorTakesARecord : Prop :=
  (∀ (s t : State) (x : FaultIn), s.dev.flt.recs.length < 256 → s.dev.flt.numbered = true → exec (.faultRecord x) s = .next t →
    ∃ r, t.dev.flt.recs = s.dev.flt.recs ++ [r] ∧ r.seq = s.dev.rf R.FLT_SEQ F.FLT_SEQ_SEQ ∧ r.ptime = s.dev.clk / 100 ∧ r.tick = s.dev.dat.tick ∧
      r.code = x.code.toNat ∧ r.cls = x.cls.toNat ∧ r.unit = x.unit.toNat ∧ r.parcel = x.parcel.toNat ∧
      t.dev.reg R.LNT_MIR_FLTSEQ = BitVec.ofNat 32 r.seq ∧ t.dev.rf R.FLT_SEQ F.FLT_SEQ_SEQ = (r.seq + 1) % 2 ^ 32) ∧
  (∀ (s t : State) (x : FaultIn), s.dev.flt.recs.length ≤ 256 → exec (.faultRecord x) s = .next t → t.dev.flt.recs.length ≤ 256)

/-- COLD_N held for 10 µs leaves every register at its reset value but LNT_BOOT_CNT, whose COLD count is 1, memory empty, rings OFF, locks free,
Galleries EMPTY, parcels FREE, links OFF, powered time 0 and no fault record; fuses and Ledger stay. State.reset is such a state. Rests on
the model's choices and readings of log entries 10, 12. -/
def Obligations.ColdResetState : Prop :=
  (∀ (s t : State) (ns a : Nat), 10000 ≤ ns → exec (.coldN ns) s = .next t →
    t.dev.reg a = (if a = R.LNT_BOOT_CNT then 1 else resetAt a) ∧ t.mem = [] ∧ t.dev.fus = s.dev.fus ∧ t.dev.led = s.dev.led ∧ t.dev.clk = 0 ∧
    t.dev.flt.recs = [] ∧ (∀ f : Func, (t.dev.ring f).st = .off) ∧ (∀ n : Fin 64, (t.dev.locks[n]).owner = 0) ∧
    (∀ g : Fin 8, (t.dev.gal g).st = .empty ∧ (t.dev.pcl g).st = .free) ∧ (∀ k : Fin 6, (t.dev.link k).st = .off) ∧ t.pending = s.pending) ∧
  (∀ ns, 10000 ≤ ns → exec (.coldN ns) State.reset = .next { State.reset with dev := { State.reset.dev with
    boot := { coldPin := true, coldInternal := State.reset.dev.boot.coldInternal } } })

/-- With a fused ceiling depth of at most 64, METER_REFILL adds RATE_U to each programmed bucket and CEIL_U to each ceiling bucket and caps each
at its depth of BURST or ceiling-depth records of 128 bits, for every one of the 16 streams; no other register changes. Rests on the model's
choices and readings of log entry 3. -/
def Obligations.MeterRefill : Prop :=
  ∀ (s t : State) (p : Fin 16) (a : Nat), s.dev.fus.ceilBurst ≤ 64 → exec .meterRefill s = .next t →
    t.dev.rf (R.EGR_MTR_LVL p) F.EGR_MTR_LVL_LVL = min (s.dev.rf (R.EGR_MTR_LVL p) F.EGR_MTR_LVL_LVL + s.dev.rf (R.EGR_MTR_CFG p) F.EGR_MTR_CFG_RATE_U)
      (s.dev.rf (R.EGR_MTR_CFG p) F.EGR_MTR_CFG_BURST * 128) ∧
    t.dev.rf (R.EGR_MTR_LVL p) F.EGR_MTR_LVL_CEIL_LVL = min (s.dev.rf (R.EGR_MTR_LVL p) F.EGR_MTR_LVL_CEIL_LVL + s.dev.fus.ceilU) (s.dev.fus.ceilBurst * 128) ∧
    ((∀ q : Fin 16, a ≠ R.EGR_MTR_LVL q) → t.dev.reg a = s.dev.reg a)

/-- With DATA_LEN 0, a served TIME_STATUS, DEVICE_STATUS, INTAKE_STATUS (of a fitted port), EGRESS_STATUS, DARK_STATUS or LEARN_STATUS completes
OK with the RESULT0 of its table row and RESULT1 0; beside the completion only the HI words that register reads latch may change. Served,
DEVICE_INFO answers the fused limits and the firmware version; DEVICE_NOP echoes P0 to P15; DEVICE_WARM_RESET (no parcel in Run, or P0 = 1)
sets the reset 1 ms after its completion; FW_WRITE of whole pages writes the slot that is not CONFIRMED; FW_COMMIT makes the slot TRIAL if
its image is accepted, else refuses with SIGNATURE, the mirror reading UPDATING and then ONLINE; FW_ABORT discards a partial image. Rests on
the model's choices and readings of log entries 15, 38, 40. -/
def Obligations.DeviceCommandsTakeEffect : Prop :=
  (∀ (s : State) (c : Cmd), Served specTimeStatus c s → c.dataLen = 0 →
    ∃ l, Completes (.timeStatus c) s (s.finished c { s.dev with lat := l }
      (BitVec.ofNat 64 (s.dev.dat.st.code + s.dev.dat.qual * 8 + s.dev.dat.reason * 32 + b2n s.dev.dat.stepPend * 256
        + b2n s.dev.follower * 512 + s.dev.dat.tick * 65536)))) ∧
  (∀ (s : State) (c : Cmd), Served specDeviceStatus c s → c.dataLen = 0 →
    ∃ l, Completes (.deviceStatus c) s (s.finished c { s.dev with lat := l } ((s.dev.peek R.LNT_MIR_STATE).setWidth 64))) ∧
  (∀ (s : State) (c : Cmd), Served specIntakeStatus c s → c.dataLen = 0 → c.p 0 < 16 → bit s.dev.fus.ports (c.p 0) = true →
    ∃ l, Completes (.intakeStatus c) s (s.finished c { s.dev with lat := l }
      (s.dev.peek (R.SEAM_HELLO_ID (c.p 0)) ++ s.dev.peek (R.INT_STAT (c.p 0))))) ∧
  (∀ (s : State) (c : Cmd), Served (specOnParcel 0x0700 true) c s → c.dataLen = 0 →
    ∃ l, Completes (.egressStatus c) s (s.finished c { s.dev with lat := l } ((s.dev.peek (R.EGR_BL_STAT c.parcel)).setWidth 64))) ∧
  (∀ (s : State) (c : Cmd), Served (specOnParcel 0x0705 true) c s → c.dataLen = 0 →
    ∃ l, Completes (.darkStatus c) s (s.finished c { s.dev with lat := l })) ∧
  (∀ (s : State) (c : Cmd) (g : Fin 8), Served (specOnParcel 0x0800 true) c s → c.dataLen = 0 → s.dev.firstGal c.parcel = some g →
    ∃ l, Completes (.learnStatus c) s (s.finished c { s.dev with lat := l }
      (BitVec.ofNat 64 (s.dev.rf (R.LRN_CTL g) F.LRN_CTL_EN + s.dev.rf (R.LRN_EPOCH g) F.LRN_EPOCH_EPOCH * 65536
        + s.dev.rf (R.LRN_STAT g) F.LRN_STAT_DEFER * 2 ^ 33 + b2n (s.dev.led.sites[c.parcel]).isSome * 2 ^ 32)))) ∧
  (∀ (s : State) (c : Cmd), Served (specPlain 0x0100 .any) c s →
    Completes (.deviceInfo c) s (s.finished c s.dev
      (BitVec.ofNat 64 (s.dev.fus.part + b2n s.dev.fus.high * 2 ^ 4 + popCount s.dev.fus.ports.toNat 16 * 2 ^ 5
        + popCount s.dev.fus.links.toNat 6 * 2 ^ 10 + popCount s.dev.fus.stks.toNat 4 * 2 ^ 13 + s.dev.fus.denseMhz * 2 ^ 16
        + s.dev.fus.capW * 2 ^ 28 + s.dev.licencesHeld * 2 ^ 40 + s.dev.rf R.LIC_EFFECT F.LIC_EFFECT_EFFECT * 2 ^ 48
        + (if s.dev.licensed 2 then 8 else 2) * 2 ^ 54
        + (if s.dev.fus.part = 4 then 7 else if s.dev.licensed 1 then 63 else 7) * 2 ^ 58))
      ((s.dev.reg R.LNT_MIR_FWVER).setWidth 64))) ∧
  (∀ (s : State) (c : Cmd), Served specDeviceNop c s →
    Completes (.deviceNop c) s (s.finished c s.dev (BitVec.ofNat 64 (c.pn 0 8)) (BitVec.ofNat 64 (c.pn 8 8)))) ∧
  (∀ (s : State) (c : Cmd), Served specWarmReset c s → (s.dev.anyRun = false ∨ c.p 0 = 1) →
    Completes (.deviceWarmReset c) s (s.finished c (s.dev.updBoot (fun b => { b with warmAt := some (s.dev.clk + 100000) })))) ∧
  (∀ (s : State) (c : Cmd) (b : List Byte), Served specFwWrite c s → inputOf c = some b → c.env.ledgerOk = true →
    c.pn 0 4 % 4096 = 0 → 4096 ≤ c.bufLen → c.bufLen ≤ 0x100000 → c.pn 0 4 + c.bufLen ≤ fwSlotBytes →
    s.dev.led.bootRec.trial = none →
    Completes (.fwWrite c) s (s.finished c (s.dev.updLed (fun l => { l with
      slots := l.slots.set s.dev.freeSlot (.pages (writePages l.slots[s.dev.freeSlot].pageMap (c.pn 0 4) b)), fwPartial := true })))) ∧
  (∀ (s : State) (c : Cmd), Served specFwCommit c s → c.env.ledgerOk = true →
    Completes (.fwCommit c) s (if slotAccepted s.dev.fus s.dev.led.slots[s.dev.freeSlot] (c.pn 0 4) then
        s.finished c (((s.dev.setMirror 5 0).updLed (fun l =>
          { (l.writeBoot l.bootRec.confirmed (some s.dev.freeSlot)) with fwPartial := false })).setMirror 2 0)
      else { s with dev := ((s.dev.setMirror 5 0).setMirror 2 0).finish c.issuer (cplOf c .refused 0 0 (detail .signature)) })) ∧
  (∀ (s : State) (c : Cmd), Served (specPlain 0x0106 .pf) c s → s.dev.led.fwPartial = true →
    Completes (.fwAbort c) s (s.finished c (s.dev.updLed (fun l => { l with
      slots := l.slots.set s.dev.freeSlot (.pages []), fwPartial := false }))))

/-- Served and with the Ledger answering: SEC_STATUS answers the mode, licences and key state (RESULT1 is a free value, the model's own, where
no key is enrolled); LICENCE_INSTALL of a bound record for a feature other than LAB-MODE stores it and puts its feature into effect at once
if its signature verifies, else refuses with SIGNATURE; LICENCE_REMOVE erases a record and leaves the effect; OWNER_ENROL of an acceptable
record stores or removes the key and takes its SERIAL; OWNER_LOCK sets the lock when a key is enrolled and clears it on an accepted release
record, refusing any other with OWNER; SEC_GET_CERT writes the certificate into a buffer of at least 4 KiB. Rests on the model's choices and
readings of log entries 7, 8, 38, 40. -/
def Obligations.SecurityCommandsAnswer : Prop :=
  (∀ (s : State) (c : Cmd), Served (specPlain 0x0C00 .any) c s →
    ∃ n v, Completes (.secStatus c) s (s.finished c { s.dev with freeCtr := n }
      (BitVec.ofNat 64 (s.dev.licencesHeld + s.dev.rf R.LIC_EFFECT F.LIC_EFFECT_EFFECT * 2 ^ 8 + b2n s.dev.led.ownerKey.isSome * 2 ^ 16
        + b2n s.dev.led.ownerLock * 2 ^ 17 + b2n s.dev.boot.lab * 2 ^ 18)) v)) ∧
  (∀ (s : State) (c : Cmd) (b : List Byte), Served (specRecord 0x0C01) c s → inputOf c = some b → licenceFormed b = true →
    licenceBound s.dev.fus b = true → c.env.ledgerOk = true → licFeature b ≠ 5 →
    let e := (s.dev.updLed (fun l => { l with licences := l.licences.set (licFeature b) (some b) })).setReg R.LIC_BAD
      (s.dev.reg R.LIC_BAD &&& ~~~(BitVec.ofNat 32 (2 ^ (licFeature b).val)))
    Completes (.licenceInstall c) s (if licenceSigned b then
        s.finished c (e.setReg R.LIC_EFFECT (e.reg R.LIC_EFFECT ||| BitVec.ofNat 32 (2 ^ (licFeature b).val)))
      else { s with dev := s.dev.finish c.issuer (cplOf c .refused 0 0 (detail .signature)) })) ∧
  (∀ (s : State) (c : Cmd), Served specLicenceRemove c s → c.p 0 ≤ 5 → c.env.ledgerOk = true →
    Completes (.licenceRemove c) s (s.finished c ((s.dev.updLed (fun l => { l with licences := l.licences.set (fin6 (c.p 0)) none })).setReg
      R.LIC_BAD (s.dev.reg R.LIC_BAD &&& ~~~(BitVec.ofNat 32 (2 ^ (fin6 (c.p 0)).val)))))) ∧
  (∀ (s : State) (c : Cmd) (b : List Byte), Served (specRecord 0x0C03) c s → inputOf c = some b → ownerFormed b = true →
    s.dev.led.serial < leAt b 8 4 → (leAt b 16 16 = 0 ∨ leAt b 16 16 = s.dev.fus.devid.toNat) → ownerKeyOk b = true →
    (s.dev.led.ownerLock = false ∨ (leAt b 128 2 = 1 ∧ s.dev.ownerSigned (b.take 128) (sigAt b 160) = true)) →
    (s.dev.led.ownerKey = none → ownerRemoves b = false) → c.env.ledgerOk = true →
    Completes (.ownerEnrol c) s (s.finished c (s.dev.updLed (fun l => { l with
      ownerKey := if ownerRemoves b then none else some (ownerKeyOf b), serial := leAt b 8 4 })))) ∧
  (∀ (s : State) (c : Cmd), Served specOwnerLock c s → c.p 0 = 1 → c.dataLen = 0 → s.dev.led.ownerKey ≠ none → c.env.ledgerOk = true →
    Completes (.ownerLockSet c) s (s.finished c (s.dev.updLed (fun l => { l with ownerLock := true })))) ∧
  (∀ (s : State) (c : Cmd) (b : List Byte), Served specOwnerLock c s → c.p 0 = 0 → inputOf c = some b → c.env.ledgerOk = true →
    Completes (.ownerLockClear c) s (if s.dev.releaseOk b then
        s.finished c (s.dev.updLed (fun l => { l with ownerLock := false, serial := leAt b 8 4 }))
      else { s with dev := s.dev.finish c.issuer (cplOf c .refused 0 0 (detail .owner)) })) ∧
  (∀ (s : State) (c : Cmd) (b : List Byte), Served specGetCert c s → 4096 ≤ c.bufLen → inputOf c = some b →
    Completes (.secGetCert c) s (s.finished c (s.dev.emit (.buffer c.tag Config.certificate)) (BitVec.ofNat 64 Config.certificate.length)))

/-- Served: TIME_SET_SOURCE to the free-running source writes DAT_CTL and the chip (no follower) is FREE; to a usable pin source it writes
DAT_CTL and enters ACQUIRE; TIME_SET_RATIO with fields in range, a usable period left and no parcel in Run writes DAT_RATIO and, unless 0,
DAT_FREE_PERIOD; TIME_SET_PHASE writes DAT_PHASE and measures the phase error anew while SLEW or LOCKED; TIME_ACCEPT_PERIOD accepts a
pending step (RESULT0 1) and changes nothing without one; TIME_SET_LABEL stores the label, sets LVALID and logs LABEL. Rests on the model's
choices and readings of log entries 14, 15, 38. -/
def Obligations.TimeSettingsTakeEffect : Prop :=
  (∀ (s : State) (c : Cmd), Served specTimeSetSource c s → c.p 0 = 0 → c.p 1 < 2 → c.p 2 < 2 → c.p 3 < 16 →
    let w : Word := BitVec.ofNat 32 (c.p 0 + c.p 3 * 16 + c.p 1 * 256 + c.p 2 * 512)
    (s.dev.setReg R.DAT_CTL w).follower = false → s.dev.reg R.DAT_CTL ≠ w →
    ∃ d, Completes (.timeSetSource c) s (s.finished c d) ∧ d = (s.dev.setReg R.DAT_CTL w).updDat (fun t => { t with
      st := .free, reason := 0, held := none, stepPend := false, pend := none, accept := false, run := [], recent := [],
      lastMeasured := none, err := 0, entryQual := 2 })) ∧
  (∀ (s : State) (c : Cmd), Served specTimeSetSource c s → (c.p 0 = 1 ∨ c.p 0 = 3) → c.p 1 < 2 → c.p 2 < 2 → c.p 3 < 16 →
    sourceUsable (c.p 0) s.dev.mul s.dev.div = true →
    let w : Word := BitVec.ofNat 32 (c.p 0 + c.p 3 * 16 + c.p 1 * 256 + c.p 2 * 512)
    s.dev.follower = false → s.dev.reg R.DAT_CTL ≠ w →
    Completes (.timeSetSource c) s (s.finished c (s.dev.setReg R.DAT_CTL w).enterAcquire)
      ∧ (s.dev.setReg R.DAT_CTL w).enterAcquire.dat.st = .acquire) ∧
  (∀ (s : State) (c : Cmd), Served specTimeSetRatio c s → c.p 0 ≠ 0 → 1 ≤ c.pn 2 2 → c.pn 2 2 ≤ 4095 → 2000 ≤ c.pn 4 4 → c.pn 4 4 ≤ 2000000 →
    (s.dev.src = 0 ∨ sourceUsable s.dev.src (c.p 0) (c.pn 2 2) = true) → s.dev.anyRun = false →
    Completes (.timeSetRatio c) s (s.finished c ((s.dev.setReg R.DAT_RATIO (BitVec.ofNat 32 (c.p 0 + c.pn 2 2 * 256))).setReg
      R.DAT_FREE_PERIOD (BitVec.ofNat 32 (c.pn 4 4))))) ∧
  (∀ (s : State) (c : Cmd), Served specTimeSetRatio c s → c.p 0 ≠ 0 → 1 ≤ c.pn 2 2 → c.pn 2 2 ≤ 4095 → c.pn 4 4 = 0 →
    (s.dev.src = 0 ∨ sourceUsable s.dev.src (c.p 0) (c.pn 2 2) = true) → s.dev.anyRun = false →
    Completes (.timeSetRatio c) s (s.finished c (s.dev.setReg R.DAT_RATIO (BitVec.ofNat 32 (c.p 0 + c.pn 2 2 * 256))))) ∧
  (∀ (s : State) (c : Cmd), Served specTimeSetPhase c s →
    Completes (.timeSetPhase c) s (s.finished c (match s.dev.dat.lastAnchor with
      | some e => if s.dev.dat.canLose then (s.dev.setReg R.DAT_PHASE (BitVec.ofNat 32 (c.p 0))).measurePhase e
                  else s.dev.setReg R.DAT_PHASE (BitVec.ofNat 32 (c.p 0))
      | none => s.dev.setReg R.DAT_PHASE (BitVec.ofNat 32 (c.p 0))))) ∧
  (∀ (s : State) (c : Cmd), Served specTimeAcceptPeriod c s →
    Completes (.timeAcceptPeriod c) s (if s.dev.dat.stepPend then
        s.finished c { s.dev with dat := { s.dev.dat with accept := true } } 1
      else s.finished c s.dev)) ∧
  (∀ (s : State) (c : Cmd), Served specTimeSetLabel c s →
    Completes (.timeSetLabel c) s (s.finished c ((((s.dev.setReg R.LNT_HLABEL_LO (BitVec.ofNat 32 (c.pn 0 8))).setReg
      R.LNT_HLABEL_HI (BitVec.ofNat 32 (c.pn 0 8 / 2 ^ 32))).setRf R.LNT_SESS_STAT F.LNT_SESS_STAT_LVALID 1).collect (Flt.label (c.pn 0 8)))))

/-- Served: PARCEL_CREATE of a free parcel that passes its checks, with no stack pool, leaves it CREATED with PCL_RECT, PCL_BIND, PCL_PORTMASK
and PCL_POOL written; PARCEL_DESTROY of a CREATED parcel resets its Galleries, clears its regions and its registers, and leaves it FREE;
PARCEL_SET_POOLS of a CREATED parcel within R198 writes PCL_POOL; PARCEL_CLEAR_COUNTERS clears PCL_CNT and the trunk counters of the columns
it holds whole; PARCEL_STATUS with DATA_LEN 0 answers PCL_BIND and PCL_RECT and changes nothing but latches. Rests on the model's choices
and readings of log entries 20, 38, 39. -/
def Obligations.ParcelCommandsTakeEffect : Prop :=
  (∀ (s : State) (c : Cmd), Served specParcelCreate c s → s.dev.createAbsent c (rectOf (c.p 0)) = none →
    s.dev.createRange c (rectOf (c.p 0)) = none → (s.dev.pcl c.parcel).st = .free → c.pn 12 4 = 0 →
    ∃ (e d : Dev), Completes (.parcelCreate c) s (s.finished c d) ∧
      d = ((e.bindParcel c (rectOf (c.p 0))).vfRegions (fin9 (c.p 2))).slicesChanged ∧ (d.pcl c.parcel).st = .created) ∧
  (∀ (s : State) (c : Cmd), Served specParcelDestroy c s → (s.dev.pcl c.parcel).st = .created →
    let e := (s.dev.needDom 3).forEach (s.dev.parcelGals c.parcel) (fun g d => d.onGal g (fun d => d.cfgReset g))
    ∃ d, Completes (.parcelDestroy c) s (s.finished c d) ∧ (d.pcl c.parcel) = {} ∧
      d = (((((e.clearRegions c.parcel.val).clearRegs (fun r => r.block.base == Blk.pcl.base && r.inst == c.parcel.val)).updPcl c.parcel
        (fun _ => {})).vfRegions (fin9 (e.rf (R.PCL_BIND c.parcel) F.PCL_BIND_FUNC))).slicesChanged)) ∧
  (∀ (s : State) (c : Cmd), Served specParcelSetPools c s →
    s.dev.poolsBad c.parcel (s.dev.parcelCols c.parcel) (c.pn 6 2) (c.p 8) = none → (s.dev.pcl c.parcel).st = .created →
    Completes (.parcelSetPools c) s (s.finished c ((s.dev.needDom 3).setReg (R.PCL_POOL c.parcel) (BitVec.ofNat 32 (c.pn 6 2 * 65536
      + (if (s.dev.parcelCols c.parcel).any (fun k => bit s.dev.fus.stks k) then c.p 8 else 0)))))) ∧
  (∀ (s : State) (c : Cmd), Served specParcelClear c s →
    Completes (.parcelClearCounters c) s (s.finished c ((s.dev.setReg (R.PCL_CNT c.parcel) 0).forEach
      ((s.dev.parcelCols c.parcel).filter (fun k => s.dev.parcelAt (2 * k) == some c.parcel && s.dev.parcelAt (2 * k + 1) == some c.parcel))
      (fun k d => (d.setReg (R.MSH_TRUNK_CNT k) 0).setReg (R.MSH_TRUNK_WAIT k) 0)))) ∧
  (∀ (s : State) (c : Cmd), Served specParcelStatus c s → c.dataLen = 0 →
    ∃ l, Completes (.parcelStatus c) s (s.finished c { s.dev with lat := l } (s.dev.reg (R.PCL_BIND c.parcel) ++ s.dev.reg (R.PCL_RECT c.parcel))))

/-- Served: ATLAS_LOAD of an image that passes pass 1, its second reading (if any) the same bytes, into a CREATED or LOADED parcel whose
domains become ready, runs steps 2 to 9 of Table 14.8 on the reset configuration and completes with the parcel LOADED, its digest the SHA-384
of the image's bytes before the signature and RESULT0 the first 8 bytes of that; ATLAS_UNLOAD of a LOADED parcel stops its ports, resets its
configuration and leaves it CREATED with no digest (RESULT0 1), of a CREATED one changes nothing; ATLAS_STATUS answers the stored digest's first
8 bytes, and into a buffer of 16 bytes or more the report's entries that fit. Rests on the model's choices and readings of log entries 38, 42,
43. -/
def Obligations.ImageCommandsTakeEffect : Prop :=
  (∀ (s : State) (c : Cmd) (b : List Byte) (m : Image), Served (specOnParcel 0x0301 true) c s → inputOf c = some b →
    s.dev.pass1 c.parcel b (loadLen c b) c.env.peers = .ok m → ((s.dev.pcl c.parcel).st = .created ∨ (s.dev.pcl c.parcel).st = .loaded) →
    (c.env.second = none ∨ c.env.second = some (.bytes b)) →
    let e := ((s.dev.resetParcel c.parcel).toCreated c.parcel).forEach m.domains (fun i d => d.needDom i)
    m.domains.any (e.notReady c.env) = false →
    ∃ y : Mach, y = Mach.loadImage { dev := e, mem := s.mem } c.parcel m
      ∧ Completes (.atlasLoad c) s ({ s with mem := y.mem }.finished c y.dev (BitVec.ofNat 64 (leAt (sha384 (b.take m.sigOff)) 0 8)))
      ∧ (y.dev.pcl c.parcel).st = .loaded ∧ (y.dev.pcl c.parcel).digest = sha384 (b.take m.sigOff)) ∧
  (∀ (s : State) (c : Cmd), Served (specOnParcel 0x0302) c s → (s.dev.pcl c.parcel).st = .loaded →
    ∃ d : Dev, d = ((s.dev.stopPorts c.parcel).resetParcel c.parcel).toCreated c.parcel ∧ Completes (.atlasUnload c) s (s.finished c d 1)
      ∧ (d.pcl c.parcel).st = .created ∧ (d.pcl c.parcel).digest = []) ∧
  (∀ (s : State) (c : Cmd), Served (specOnParcel 0x0302) c s → (s.dev.pcl c.parcel).st = .created →
    Completes (.atlasUnload c) s (s.finished c s.dev)) ∧
  (∀ (s : State) (c : Cmd), Served (specOnParcel 0x0300 true) c s → c.dataLen = 0 →
    Completes (.atlasStatus c) s (s.finished c s.dev (BitVec.ofNat 64 (leAt (s.dev.pcl c.parcel).digest 0 8)))) ∧
  (∀ (s : State) (c : Cmd) (b : List Byte), Served (specOnParcel 0x0300 true) c s → c.dataLen ≠ 0 → inputOf c = some b → 16 ≤ b.length →
    let p := s.dev.pcl c.parcel
    let vals := if p.digest.isEmpty then [] else [(fwValue 1, BitVec.ofNat 32 p.tickNs),
      (fwValue 2, BitVec.ofNat 32 (b2n (tickOff p.tickNs p.tolPpm s.dev.dat.tperiod))), (fwValue 3, BitVec.ofNat 32 p.mhz)]
    let fit := min vals.length ((b.length - 16) / 16)
    Completes (.atlasStatus c) s (s.finished c
      (s.dev.toBuffer c (reportHeader c.opcode fit s.dev.dat.tick ++ (vals.take fit).flatMap (fun e => reportEntry e.1 e.2)))
      (BitVec.ofNat 64 (leAt p.digest 0 8)) (BitVec.ofNat 64 (16 + 16 * fit + 2 ^ 32 * (16 + 16 * vals.length)))))

/-- Served: RUN_STATUS answers the parcel's, the Galleries' and the ports' states; RUN_START of a LOADED parcel whose hubs are not asleep runs
R403 in its order and answers RESULT0 1; RUN_STOP of a running parcel stops it as R403 says, and completes (RESULT0 1) where it is LOADED at
once, else waits for the drain; FAULT_RECOVER of a parcel that is CREATED or LOADED and holds a FAULTED Gallery leaves it CREATED. Rests on
the model's choices and readings of log entries 20, 29, 38, 39. -/
def Obligations.RunCommandsTakeEffect : Prop :=
  (∀ (s : State) (c : Cmd), Served specRunStatus c s →
    Completes (.runStatus c) s (s.finished c s.dev
      (BitVec.ofNat 64 ((s.dev.pcl c.parcel).st.code
        + ((List.finRange 8).map (fun g => (if s.dev.parcelAt g.val = some c.parcel then (s.dev.gal g).st.code else 15) * 2 ^ (4 + 4 * g.val))).sum))
      (BitVec.ofNat 64 ((List.finRange 16).map (fun p => (s.dev.port p).st.code * 2 ^ (3 * p.val))).sum))) ∧
  (∀ (s : State) (c : Cmd), Served specRunStart c s → (s.dev.pcl c.parcel).st = .loaded → s.dev.sleepingHubs c.parcel = [] →
    Completes (.runStart c) s (s.finished c (s.dev.startParcel c.parcel) 1)) ∧
  (∀ (s : State) (c : Cmd), Served specRunStop c s → (s.dev.pcl c.parcel).st = .run →
    let e := (s.dev.stopParcel c.parcel).settleParcel c.parcel
    Completes (.runStop c) s (if (e.pcl c.parcel).st = .loaded then s.finished c e 1 else s.held c e (.runStop c.parcel))) ∧
  (∀ (s : State) (c : Cmd) (g : Fin 8), Served specFaultRecover c s → ((s.dev.pcl c.parcel).st = .created ∨ (s.dev.pcl c.parcel).st = .loaded) →
    g ∈ s.dev.parcelGals c.parcel → (s.dev.gal g).st = .faulted →
    ∃ d, Completes (.faultRecover c) s (s.finished c d) ∧ (d.pcl c.parcel).st = .created)

/-- Served, on a fitted port of a created parcel: INTAKE_ENABLE sets EN, clears a RETIRED port's history and starts the port of a running
parcel; INTAKE_DISABLE clears EN and takes a port outside RETIRED to OFF; INTAKE_SET_SHED of settings in range sets them for the next tick
turn, LOW and DECAY of 0 read as 8 and 16; INTAKE_CLEAR_COUNTERS clears the port's counters; in lab mode INTAKE_INJECT delivers its words
into the port's convert stage and answers their number. Rests on the model's choices and readings of log entries 22, 38. -/
def Obligations.IntakeCommandsTakeEffect : Prop :=
  (∀ (s : State) (c : Cmd), Served (specIntake 0x0401) c s → c.p 0 < 16 → bit s.dev.fus.ports (c.p 0) = true →
    (s.dev.parcelOfPort (fin16 (c.p 0)).val).isSome = true →
    let p := fin16 (c.p 0)
    let d₁ := (s.dev.needDom (20 + p.val / 4)).setRf (R.INT_CTL p) F.INT_CTL_EN 1
    let d₂ := if (d₁.port p).st = .retired then (d₁.updPort p (fun x => { x with restarts := [] })).setPort p .off else d₁
    Completes (.intakeEnable c) s (s.finished c (if d₂.portRuns p then d₂.portParcelRun p else d₂))) ∧
  (∀ (s : State) (c : Cmd), Served (specIntake 0x0402) c s → c.p 0 < 16 → bit s.dev.fus.ports (c.p 0) = true →
    (s.dev.parcelOfPort (fin16 (c.p 0)).val).isSome = true →
    let p := fin16 (c.p 0)
    Completes (.intakeDisable c) s (s.finished c (((s.dev.needDom (20 + p.val / 4)).setRf (R.INT_CTL p) F.INT_CTL_EN 0).portParcelStop p))) ∧
  (∀ (s : State) (c : Cmd), Served specIntakeSetShed c s → c.p 0 < 16 → bit s.dev.fus.ports (c.p 0) = true →
    1 ≤ c.pn 4 4 → c.pn 4 4 ≤ 1048575 → c.pn 8 4 < c.pn 4 4 → c.p 12 ≤ 15 → c.p 14 ≤ 15 →
    s.dev.overRail (fin16 (c.p 0)) (c.pn 4 4) = false → (s.dev.parcelOfPort (fin16 (c.p 0)).val).isSome = true →
    let p := fin16 (c.p 0)
    Completes (.intakeSetShed c) s (s.finished c ((s.dev.needDom (20 + p.val / 4)).updPort p (fun x => { x with
      nextShed := some (c.pn 4 4, c.pn 8 4, if c.p 12 = 0 then 8 else c.p 12, if c.p 13 = 0 then 16 else c.p 13, c.p 14) })))) ∧
  (∀ (s : State) (c : Cmd), Served (specIntake 0x0405) c s → c.p 0 < 16 → bit s.dev.fus.ports (c.p 0) = true →
    Completes (.intakeClearCounters c) s (s.finished c (s.dev.clearCounters Blk.int.base (fin16 (c.p 0)).val 1))) ∧
  (∀ (s : State) (c : Cmd) (b : List Byte), Served specIntakeInject c s → c.p 0 < 16 → bit s.dev.fus.ports (c.p 0) = true →
    s.dev.boot.lab = true → 4 ≤ c.bufLen → c.bufLen ≤ 4096 → c.bufLen % 4 = 0 → inputOf c = some b →
    ((s.dev.port (fin16 (c.p 0))).st = .start ∨ (s.dev.port (fin16 (c.p 0))).st = .run) →
    let p := fin16 (c.p 0)
    Completes (.intakeInject c) s (s.finished c ((s.dev.firstValid p).inject p (wordsOf b)) (BitVec.ofNat 64 (wordsOf b).length)))

/-- Served: EGRESS_SET_METER by the PF on a fitted port, within the fused ceiling and for a created parcel, writes EGR_MTR_CFG;
EGRESS_SET_HEARTBEAT writes HB_PERIOD 1 to 60; EGRESS_SET_BACKLOG writes AGE 1 to 10,000; EGRESS_CLEAR_COUNTERS clears the parcel's drop and
pass counters; for a created parcel LEARN_ENABLE and LEARN_DISABLE set and clear LRN_CTL.EN in every Gallery, LEARN_SET_EPOCH sets EPOCH for
the next epoch end, LEARN_REWARD adds its signed reward; LEARN_CLEAR_COUNTERS clears the LRN counters. Rests on the model's choices and
readings of log entries 24, 30, 38. -/
def Obligations.EgressAndLearningCommandsTakeEffect : Prop :=
  (∀ (s : State) (c : Cmd), Served specEgressSetMeter c s → s.dev.actsFor c.issuer = pf → c.p 0 < 16 → bit s.dev.fus.ports (c.p 0) = true →
    1 ≤ c.pn 2 2 → c.pn 2 2 ≤ s.dev.fus.ceilU → 1 ≤ c.p 4 → c.p 4 ≤ 64 → (s.dev.pcl c.parcel).st ≠ .free →
    Completes (.egressSetMeter c) s (s.finished c (s.dev.setReg (R.EGR_MTR_CFG (fin16 (c.p 0))) (BitVec.ofNat 32 (c.p 4 * 65536 + c.pn 2 2))))) ∧
  (∀ (s : State) (c : Cmd), Served specSetHeartbeat c s → 1 ≤ c.p 0 → c.p 0 ≤ 60 →
    Completes (.egressSetHeartbeat c) s (s.finished c (s.dev.setRf R.EGR_HB_CFG F.EGR_HB_CFG_HB_PERIOD (c.p 0)))) ∧
  (∀ (s : State) (c : Cmd), Served specSetBacklog c s → 1 ≤ c.pn 0 2 → c.pn 0 2 ≤ 10000 →
    Completes (.egressSetBacklog c) s (s.finished c (s.dev.setRf R.EGR_BL_CFG F.EGR_BL_CFG_AGE (c.pn 0 2)))) ∧
  (∀ (s : State) (c : Cmd), Served (specOnParcel 0x0704) c s →
    let d₁ := s.dev.forEach (s.dev.maskPorts c.parcel) (fun p d => (d.setReg (R.EGR_MTR_DROP p) 0).setReg (R.EGR_MTR_PASS p) 0)
    Completes (.egressClearCounters c) s (s.finished c ((d₁.forEach (d₁.parcelGals c.parcel) (fun g d => d.setReg (R.GAL_DARK_CNT g) 0)).setReg
      (R.EGR_BL_DROP c.parcel) 0))) ∧
  (∀ (s : State) (c : Cmd), Served (specOnParcel 0x0801) c s → (s.dev.pcl c.parcel).st ≠ .free →
    Completes (.learnEnable c) s (s.finished c (s.dev.setGals c.parcel (fun g d => d.setRf (R.LRN_CTL g) F.LRN_CTL_EN 1)))) ∧
  (∀ (s : State) (c : Cmd), Served (specOnParcel 0x0802) c s → (s.dev.pcl c.parcel).st ≠ .free →
    Completes (.learnDisable c) s (s.finished c (s.dev.setGals c.parcel (fun g d => d.setRf (R.LRN_CTL g) F.LRN_CTL_EN 0)))) ∧
  (∀ (s : State) (c : Cmd), Served specLearnSetEpoch c s → 1 ≤ c.pn 0 2 → (s.dev.pcl c.parcel).st ≠ .free →
    Completes (.learnSetEpoch c) s (s.finished c (s.dev.setGals c.parcel (fun g d => d.updLrn g (fun l => { l with nextEpoch := some (c.pn 0 2) }))))) ∧
  (∀ (s : State) (c : Cmd), Served specLearnReward c s → (s.dev.pcl c.parcel).st ≠ .free →
    Completes (.learnReward c) s (s.finished c (s.dev.setGals c.parcel (fun g d => d.addReward g (sext 8 (c.p 0)))))) ∧
  (∀ (s : State) (c : Cmd), Served (specOnParcel 0x0808) c s →
    Completes (.learnClearCounters c) s (s.finished c (s.dev.setGals c.parcel (fun g d => d.clearCounters Blk.gal.base g.val 5))))

/-- Served and licensed: SITE_SAVE of a LOADED or running parcel with no job of site memory waits for a running sweep; with none running and room for
the image it copies the sealed image, sets DEFER, and writes it to the Ledger at 40 MB/s or reads the partner's directory. A Ledger write that
is over stores the image, ends the copy and completes the command with OK. SITE_RESTORE of an image stored in the Ledger writes its state into
the LOADED parcel's Galleries if it verifies, and refuses otherwise; one over an ACTIVE storage link reads the directory. SITE_DELETE erases the
image and answers RESULT0 1, or 0 where none was stored. Rests on the model's choices and readings of log entries 7, 31, 38, 59. -/
def Obligations.SiteMemoryCommandsTakeEffect : Prop :=
  (∀ (s : State) (c : Cmd), Served specSiteSave c s → s.dev.siteLicensed (c.p 0 == 1) = true → c.p 0 ≤ 1 →
    ((s.dev.pcl c.parcel).st = .loaded ∨ (s.dev.pcl c.parcel).st = .run) → (c.p 0 = 1 → s.dev.storageUp = true) → s.dev.siteJob c.parcel = none →
    (s.dev.sweeping c.parcel = true → Completes (.siteSave c) s (s.held c s.dev
      (.site { parcel := c.parcel, step := .sweeps, dest := c.p 0, ledgerOk := c.env.ledgerOk }))) ∧
    (s.dev.sweeping c.parcel = false →
      let r := s.dev.siteImage c.parcel
      (if c.p 0 = 0 then r.2.siteUsed + r.1.length ≤ siteArea else r.1.length ≤ siteSlot) →
      let j : SiteJob := { parcel := c.parcel, step := if c.p 0 = 0 then .ledger else .dirRead, dest := c.p 0, ledgerOk := c.env.ledgerOk,
                           image := r.1, ends := r.2.clk + (r.1.length * 5 + 1) / 2 }
      Completes (.siteSave c) s (s.held c (r.2.setDefer c.parcel 1) (.site j)))) ∧
  (∀ (d : Dev) (q : Fin 8) (j : SiteJob), d.siteJob q = some j → j.step = .ledger → j.ends ≤ d.clk → j.ledgerOk = true →
    d.ledgerWritten q = (((d.updLed (fun l => { l with sites := l.sites.set q (some { bytes := j.image }) })).endDefer q).release (Wait.isSite q) .ok 0 0 0)) ∧
  (∀ (s : State) (c : Cmd) (x : SiteImage), Served specSiteRestore c s → s.dev.siteLicensed false = true → c.p 0 = 0 →
    c.env.ledgerOk = true → s.dev.led.sites[c.parcel] = some x → (s.dev.pcl c.parcel).st = .loaded → s.dev.siteJob c.parcel = none →
    c.env.second = none →
    Completes (.siteRestore c) s (match s.dev.siteVerify c.parcel x.bytes with
      | .ok p => s.finished c (s.dev.restoreSite c.parcel p)
      | .error dt => { s with dev := s.dev.finish c.issuer (cplOf c .refused 0 0 dt) })) ∧
  (∀ (s : State) (c : Cmd), Served specSiteRestore c s → s.dev.siteLicensed true = true → c.p 0 = 1 → (s.dev.pcl c.parcel).st = .loaded →
    s.dev.siteJob c.parcel = none → s.dev.storageUp = true →
    Completes (.siteRestore c) s (s.held c s.dev (.site { parcel := c.parcel, step := .find, dest := 1 }))) ∧
  (∀ (s : State) (c : Cmd), Served (specOnParcel 0x0807) c s → c.env.ledgerOk = true →
    Completes (.siteDelete c) s (if s.dev.led.sites[c.parcel] = none then s.finished c s.dev
      else s.finished c { s.dev with led := { s.dev.led with sites := s.dev.led.sites.set c.parcel none } } 1))

/-- Served, for a created parcel: EXPERT_SET_BEARING of settings in range sets them for the next period end in every Compass unit and sends them to
the slice's other chips, with RESULT1 naming those that did not acknowledge; EXPERT_SET_BIAS of an expert of the pool and a bias between -64 and
64 writes the leader on this chip, which sends it out, or sends it to the leader's chip; EXPERT_CLEAR_COUNTERS clears the CMP counters; EXPERT_STATUS with DATA_LEN 0 answers from the
parcel's lowest Gallery. Rests on the model's choices and readings of log entries 28, 38. -/
def Obligations.ExpertCommandsTakeEffect : Prop :=
  (∀ (s : State) (c : Cmd), Served specSetBearing c s → 1 ≤ c.pn 0 2 → c.pn 0 2 ≤ 1000 → 1 ≤ c.p 2 → c.p 2 ≤ 15 → c.p 3 ≤ 15 → c.p 4 ≤ 15 →
    c.p 5 ≤ 1 → (s.dev.pcl c.parcel).st ≠ .free →
    let slice := s.dev.rf (R.PCL_BIND c.parcel) F.PCL_BIND_SLICE
    let chips := s.dev.groupChips.filter (fun x => (s.dev.slicesOf x).testBit slice)
    let left := chips.filter (fun x => !(c.env.peers.any (fun r => r.chip == x && r.answered)))
    let d := s.dev.forEach chips (fun x d => d.sendGrp x (.bearing (fin16 slice) (c.pn 0 2) (c.p 2) (c.p 3) (c.p 4) (c.p 5 == 1)))
    Completes (.expertSetBearing c) s (s.finished c (d.setBearing c.parcel (c.pn 0 2) (c.p 2) (c.p 3) (c.p 4) (c.p 5 == 1)) 0
      (BitVec.ofNat 64 (maskOf left)))) ∧
  (∀ (s : State) (c : Cmd) (g l : Fin 8), Served specSetBias c s → s.dev.firstGal c.parcel = some g →
    c.p 0 < s.dev.rf (R.CMP_POOL g) F.CMP_POOL_SIZE → -64 ≤ sext 8 (c.p 1) → sext 8 (c.p 1) ≤ 64 → (s.dev.pcl c.parcel).st ≠ .free →
    s.dev.leaderHere g = some l →
    Completes (.expertSetBias c) s (s.finished c (s.dev.onGal l (fun d =>
      (d.setBias l (c.p 0) (toTwos 8 (sext 8 (c.p 1)))).sendBias l (c.p 0) (sext 8 (c.p 1)))))) ∧
  (∀ (s : State) (c : Cmd) (g : Fin 8), Served specSetBias c s → s.dev.firstGal c.parcel = some g →
    c.p 0 < s.dev.rf (R.CMP_POOL g) F.CMP_POOL_SIZE → -64 ≤ sext 8 (c.p 1) → sext 8 (c.p 1) ≤ 64 → (s.dev.pcl c.parcel).st ≠ .free →
    s.dev.leaderHere g = none →
    Completes (.expertSetBias c) s (s.finished c (s.dev.sendGrp (s.dev.rf (R.CMP_BEAR_LEADER g) F.CMP_BEAR_LEADER_LCHIP)
      (.bias (fin16 (s.dev.rf (R.PCL_BIND c.parcel) F.PCL_BIND_SLICE)) (c.p 0) (sext 8 (c.p 1)))))) ∧
  (∀ (s : State) (c : Cmd), Served (specOnParcel 0x0903) c s →
    Completes (.expertClearCounters c) s (s.finished c (s.dev.setGals c.parcel (fun g d => d.clearCounters Blk.gal.base g.val 4)))) ∧
  (∀ (s : State) (c : Cmd) (g : Fin 8), Served (specOnParcel 0x0900 true) c s → c.dataLen = 0 → s.dev.firstGal c.parcel = some g →
    ∃ l, Completes (.expertStatus c) s (s.finished c { s.dev with lat := l }
      (BitVec.ofNat 64 (s.dev.rf (R.CMP_POOL g) F.CMP_POOL_SIZE + s.dev.rf (R.CMP_BEAR_LEADER g) F.CMP_BEAR_LEADER_LCHIP * 512
        + s.dev.rf (R.CMP_BEAR_LEADER g) F.CMP_BEAR_LEADER_LGAL * 32768 + s.dev.rf (R.CMP_CTL g) F.CMP_CTL_BEAR_EN * 262144
        + (s.dev.pcl c.parcel).bMs % 4096 * 1048576))))

/-- Served: FAULT_STATUS answers the latest sequence number and the entries stored; FAULT_LOG_READ writes the matching records of the Ledger log
into its buffer and answers their number; COUNTERS_READ with DATA_LEN 0 and COUNTERS_CLEAR (of a block that is no event engine) act on a
block instance that exists; FAULT_SET_BUDGET of fields in range writes every channel its mask names; MEM_STATUS with DATA_LEN 0 answers OK;
MEM_SET_BG sets the scratchpad's background test; MEM_TEST of a target that is free and not blocked starts the march engine and waits for
it; MEM_FILL of a valid region of a ready stack starts the fill engine and waits for it. Rests on the model's choices and readings of log
entries 36, 38, 41. -/
def Obligations.FaultAndMemoryCommandsTakeEffect : Prop :=
  (∀ (s : State) (c : Cmd), Served { op := 0x0D00, rights := .any } c s →
    Completes (.faultStatus c) s (s.finished c s.dev s.dev.lastSeq (BitVec.ofNat 64 s.dev.led.log.length))) ∧
  (∀ (s : State) (c : Cmd) (b : List Byte), Served specLogRead c s → inputOf c = some b → s.dev.actsFor c.issuer = pf →
    let l := (s.dev.led.log.filter (fun r => decide (c.pn 0 4 ≤ r.seq))).take (min (c.pn 4 2) (c.bufLen / 64))
    Completes (.faultLogRead c) s (s.finished c (s.dev.emit (.buffer c.tag (l.flatMap FltRec.bytes))) (BitVec.ofNat 64 l.length))) ∧
  (∀ (s : State) (c : Cmd), Served (specCounters 0x0D02 true) c s → c.dataLen = 0 → c.p 1 < counterInstances (c.p 0) →
    (c.p 0 = 5 ∨ c.p 0 = 6 ∨ c.p 0 = 8 ∨ c.p 0 = 11 ∨ c.p 0 = 12 ∨ c.p 0 = 13) →
    ∃ l, Completes (.countersRead c) s (s.finished c { s.dev with lat := l })) ∧
  (∀ (s : State) (c : Cmd), Served (specCounters 0x0D03 false) c s → c.p 1 < counterInstances (c.p 0) →
    (c.p 0 = 5 ∨ c.p 0 = 6 ∨ c.p 0 = 8 ∨ c.p 0 = 11 ∨ c.p 0 = 12 ∨ c.p 0 = 13) →
    Completes (.countersClear c) s (s.finished c (s.dev.forEach (counterBlocks (c.p 0) (c.p 1)) (fun x d => d.clearBlock x)))) ∧
  (∀ (s : State) (c : Cmd), Served specSetBudget c s → s.dev.budgetAbsent (c.p 0) (c.pn 8 2) = none → budgetBad c = none →
    Completes (.faultSetBudget c) s (s.finished c (s.dev.writeBudget c))) ∧
  (∀ (s : State) (c : Cmd), Served specMemStatus c s → c.dataLen = 0 →
    ∃ l, Completes (.memStatus c) s (s.finished c { s.dev with lat := l })) ∧
  (∀ (s : State) (c : Cmd), Served specMemSetBg c s → c.p 0 = 0 → c.p 1 ≤ 1 →
    Completes (.memSetBg c) s (s.finished c ((s.dev.setRf R.SCP_CTL F.SCP_CTL_BG_EN (c.p 1)).setRf R.SCP_BG_CFG F.SCP_BG_CFG_BG_INTERVAL (c.pn 2 2)))) ∧
  (∀ (s : State) (c : Cmd), Served specMemTest c s → marchTarget (c.p 0) = some .scratchpad → c.p 1 ≤ 1 →
    formAllowed .scratchpad (c.p 1 == 1) = true → s.dev.march = none → s.dev.marchBlocked .scratchpad (c.p 1 == 1) = none →
    Completes (.memTest c) s (s.held c (s.dev.startMarch (c.p 0) (c.p 1 == 1)) (.memTest (c.p 0)))) ∧
  (∀ (s : State) (c : Cmd), Served specMemFill c s → c.p 0 < 4 → bit s.dev.fus.stks (c.p 0) = true → c.p 1 < 16 →
    s.dev.rgnValid (c.p 0) (c.p 1) = true → c.pn 4 4 ≤ s.dev.rgnHi (c.p 0) (c.p 1) → (s.dev.needDom (31 + c.p 0)).stackReady (fin4 (c.p 0)) = true →
    Completes (.memFill c) s (s.held c (((s.dev.needDom (31 + c.p 0)).setRf (R.STK_RGN_FILL (c.p 0) (c.p 1)) F.STK_RGN_FILL_FILL_TO (c.pn 4 4)).startFill
      (fin4 (c.p 0)) (fin16 (c.p 1))) (.memFill (fin4 (c.p 0)) (c.p 1))))

/-- Served in lab mode, on a Gallery of the parcel: DIAG_TAP of a neuron range and at least one tick starts a tap and waits for it; DIAG_READ of
words that exist writes them into its buffer; DIAG_WRITE to a LOADED parcel of words that break no dark range check writes them. Rests on
the model's choices and readings of log entries 38, 41. -/
def Obligations.DiagnosticCommandsTakeEffect : Prop :=
  (∀ (s : State) (c : Cmd) (b : List Byte), Served (specDiag 0x0E00 (params 4 13)) c s → s.dev.boot.lab = true → c.p 0 < 8 →
    s.dev.parcelAt (c.p 0) = some c.parcel → c.pn 8 4 < 131072 → c.pn 4 4 ≤ c.pn 8 4 → inputOf c = some b → 8 ≤ c.bufLen → c.pn 12 2 ≠ 0 →
    let t : Tap := { issuer := c.issuer, idx := c.idx, tag := c.tag, gallery := (fin8 (c.p 0)).val, lo := c.pn 4 4, hi := c.pn 8 4,
                     left := c.pn 12 2, room := c.bufLen / 8 }
    Completes (.diagTap c) s (s.held c { s.dev with taps := s.dev.taps ++ [t] } (.tap c.issuer c.idx))) ∧
  (∀ (s : State) (c : Cmd) (b : List Byte), Served (specDiag 0x0E01 (params 1 1 ++ params 4 11)) c s → s.dev.boot.lab = true → c.p 0 < 8 →
    s.dev.parcelAt (c.p 0) = some c.parcel → diagBad c = none → inputOf c = some b →
    let r := (s.dev.needDom (4 + (fin8 (c.p 0)).val)).diagWords (fin8 (c.p 0)) (c.p 1)
      ((List.range (min (c.pn 8 4) (c.bufLen / diagWidth (c.p 1)))).map (fun k => c.pn 4 4 + k))
    Completes (.diagRead c) s (s.finished c (r.2.emit (.buffer c.tag r.1)))) ∧
  (∀ (s : State) (c : Cmd) (b : List Byte), Served (specDiag 0x0E02 (params 1 1 ++ params 4 11)) c s → s.dev.boot.lab = true → c.p 0 < 8 →
    s.dev.parcelAt (c.p 0) = some c.parcel → diagBad c = none → c.pn 8 4 * diagWidth (c.p 1) ≤ c.bufLen → (s.dev.pcl c.parcel).st = .loaded →
    inputOf c = some b →
    let g := fin8 (c.p 0)
    let ws := wordList b (diagWidth (c.p 1)) (c.pn 8 4)
    Mach.diagCheck { dev := s.dev.needDom (4 + g.val), mem := s.mem } g (c.p 1) (c.pn 4 4) ws = none →
    Completes (.diagWrite c) s (s.finished c ((s.dev.needDom (4 + g.val)).forEach ((List.range ws.length).zip ws)
      (fun x d => d.diagPut g (c.p 1) (c.pn 4 4 + x.1) x.2))))

/-- With no coalesced fault frame waiting: a filtered pulse counts in GLITCH; an edge of the source with a valid period in ACQUIRE extends the
run of periods; one in SLEW or LOCKED within BAND gives the mean of the last 8 periods; a loss of the Datum from SLEW or LOCKED, the
limit of DAT_TOL.LOSS past, enters HOLDOVER with reason MISSING, counts and is reported. A tick turn runs the Datum block, the Galleries, the ports, the pools and the taps in
the order of Table 1.3. A tick count that is a multiple of 128 makes a settling sweep due in each Gallery; a sweep's end records its count.
An epoch end latches the reward and freezes the candidates; the epoch-end sweep then runs, and a save that waits for it follows. Rests on the model's choices and readings of log
entries 3, 14, 19, 30. -/
def Obligations.TimeEventsTakeEffect : Prop :=
  (∀ (s : State) (dt : Nat), s.dev.flt.held = [] →
    Completes (.datumEdge dt .glitch) s (s.onDev (fun d => ({ d with clk := d.clk + dt }).bump R.DAT_GLITCH_CNT F.DAT_GLITCH_CNT_GLITCH))) ∧
  (∀ (s : State) (dt m : Nat) (i : DatumIn), s.dev.flt.held = [] → s.dev.follower = false → s.dev.isSource i = true →
    s.dev.dat.st = .acquire → s.dev.dat.lastMeasured = some m → periodOk s.dev.src (s.dev.clk + dt - m) s.dev.mul s.dev.div = true →
    let now := s.dev.clk + dt
    let e : Dev := { s.dev with clk := now, dat := { s.dev.dat with lastMeasured := some now, lastValid := some now, seen := ((now - m) :: s.dev.dat.seen).take 8 } }
    Completes (.datumEdge dt i) s { s with dev := e.acquireEdge (now - m) now }) ∧
  (∀ (s : State) (dt m : Nat) (i : DatumIn), s.dev.flt.held = [] → s.dev.follower = false → s.dev.isSource i = true →
    (s.dev.dat.st = .slew ∨ s.dev.dat.st = .locked) → s.dev.dat.lastMeasured = some m →
    periodOk s.dev.src (s.dev.clk + dt - m) s.dev.mul s.dev.div = true →
    differs (s.dev.clk + dt - m) s.dev.dat.period (s.dev.rf R.DAT_TOL F.DAT_TOL_BAND) = false → s.dev.dat.edges + 1 < s.dev.mul →
    s.dev.clk + dt ≤ s.dev.lossAt →
    let now := s.dev.clk + dt
    let r := ((now - m) :: s.dev.dat.recent).take 8
    Completes (.datumEdge dt i) s { s with dev := { s.dev with clk := now, dat := { s.dev.dat with
      lastMeasured := some now, lastValid := some now, seen := ((now - m) :: s.dev.dat.seen).take 8, recent := r, period := mean r,
      edges := s.dev.dat.edges + 1 } } }) ∧
  (∀ (s : State), (s.dev.dat.st = .slew ∨ s.dev.dat.st = .locked) → s.dev.follower = false → s.dev.lossAt ≤ s.dev.clk →
    Completes .datumLoss s (s.onDev (fun d => (({ d with dat := { d.dat with
      st := .holdover, reason := 1, entryQual := 1, held := some d.dat.period, run := [], err := 0, projected := d.dat.lastValid } }).bump R.DAT_LOSS_CNT F.DAT_LOSS_CNT_LOSS).datumFault))) ∧
  (∀ (s : State) (dt : Nat), s.dev.flt.held = [] →
    Completes (.tickTurn dt []) s (s.onDev (fun d =>
      let d := ({ d with clk := d.clk + dt }).datumTurn.adoptCount
      let d := d.forEach (List.finRange 8) (fun g d => d.galTurn g)
      let d := d.forEach (List.finRange 16) (fun p d => d.portTurn p)
      (d.forEach (List.finRange 8) (fun q d => d.poolTick q)).tapTick))) ∧
  (∀ (s : State), s.dev.dat.tick % 128 = 0 →
    Completes (.settlingSweep []) s (s.onDev (fun d => d.forEach (List.finRange 8) (fun g d => d.sweepDue g)))) ∧
  (∀ (s : State) (g : Fin 8), (s.dev.gal g).sweepBusy = true → (s.dev.gal g).sweepOverdue = false →
    Completes (.settlingSweepComplete g) s (s.onDev (fun d =>
      (d.setRf (R.GAL_SETTLE_LAST g) F.GAL_SETTLE_LAST_SETTLED (min 131071 (d.gal g).settled)).updGal g (fun x => { x with sweepBusy := false, sweepOverdue := false })))) ∧
  (∀ (s : State) (g : Fin 8), s.dev.domOn (4 + g.val) = true → s.dev.tick % s.dev.rf (R.LRN_EPOCH g) F.LRN_EPOCH_EPOCH = 0 →
    s.dev.learning g = true → s.dev.rf (R.LRN_STAT g) F.LRN_STAT_DEFER = 0 → (s.dev.gal g).lrn.running = none → (s.dev.gal g).lrn.waiting = [] →
    (s.dev.gal g).lrn.nextEpoch = none →
    let acc := s.dev.rf (R.LRN_REWARD g) F.LRN_REWARD_ACC
    Completes (.epochEnd g) s (s.onDev (fun d => (d.setReg (R.LRN_REWARD g) (BitVec.ofNat 32 (acc * 2 ^ 16))).updGal g (fun x => { x with
      lrn := { x.lrn with cands := [], running := some { reward := sext 16 acc, cands := x.lrn.cands, epochs := 1, mark := d.dat.tick } } })))) ∧
  (∀ (s : State) (g : Fin 8) (w : Sweep), s.dev.domOn (4 + g.val) = true → (s.dev.gal g).st ≠ .faulted → (s.dev.gal g).lrn.running = some w →
    let e := (s.dev.corrupt g []).sweep g w
    Completes (.epochSweepDone g []) s { s with dev := match e.parcelAt g.val with
      | some q => e.afterSweeps q
      | none => e })

/-- At a running Gallery whose domain is on: a flit of its parcel with no extra delay, a credit and HOPS below 31 joins MESH and raises the
high-water marks; the engine takes the head of the next sub-queue, counts it and treats it; the head emission entry leaves as one event per
descriptor once all can go; the scanner serves a pending neuron when its model's share has room, and the entry carries the effective
threshold; due events of the delay queue are released into REL; a cold unit that returns good fans out and its last one frees the slot; a
resume sweep visits every written neuron and then lets the wake slots' events in. Rests on the model's choices and readings of log entries
3, 17, 18, 19. -/
def Obligations.GalleryEventsTakeEffect : Prop :=
  (∀ (s : State) (g : Fin 8) (parcel : BitVec 3) (ev : BitVec 64), s.dev.halted (stNode g.val) = false → parcel.toNat = s.dev.flitParcel g.val →
    parcel ≠ 7#3 → s.dev.domSt (4 + g.val) = .on → (s.dev.gal g).resume = none → (s.dev.gal g).st = .run → (s.dev.gal g).sink = false →
    fget evAdly ev = 0 → fget evHops ev ≠ 31 →
    (s.dev.gal g).mesh.length < 2048 →
    Completes (.eventArrival g (.flit parcel ev)) s (s.onDev (fun d => (d.updGal g (fun x => { x with mesh := x.mesh ++ [ev] })).markWater g))) ∧
  (∀ (s : State) (g : Fin 8) (q : Nat) (ev : BitVec 64) (tl : List (BitVec 64)), s.dev.engineOn g = true → (s.dev.gal g).nextSub = some q →
    (s.dev.gal g).sub q = ev :: tl →
    Completes (.eventTake g []) s (s.onDev (fun d => ((d.updGal g (fun x => { x.setSub q tl with turn := (q + 1) % 4 })).bump
      (R.GAL_EVT_CNT g) F.GAL_EVT_CNT_EVT).treat g q ev))) ∧
  (∀ (s : State) (g : Fin 8) (x : EmEntry) (tl : List EmEntry) (e : Dev), (s.dev.gal g).fans = true → s.dev.domOn (4 + g.val) = true →
    (s.dev.gal g).emitToggle = false → (s.dev.gal g).emitQ = x :: tl →
    (s.dev.updGal g (fun y => { y with emitQ := tl, emitToggle := true })).sendAll g
      ((s.dev.descsFor g x.neuron).map (fun w => descEvent w s.dev.dat.tick x)) = some e →
    Completes (.emissionSend g) s { s with dev := e }) ∧
  (∀ (s : State) (g : Fin 8) (m : Fin 16) (n : Nat) (w : BitVec 64) (mo : Model) (e : Dev), (s.dev.gal g).fans = true → s.dev.domOn (4 + g.val) = true →
    (s.dev.gal g).shareUsed m < s.dev.rf (R.GAL_EMIT_SHARE g m) F.GAL_EMIT_SHARE_SHARE →
    (s.dev.gal g).nextPending m (s.dev.gal g).scanPos[m] = some n →
    (s.dev.updGal g (fun x => { x with scanPos := x.scanPos.set m n })).openState g n = (some (w, mo), e) → fget nsP w = 1 →
    let f := (e.putState g n (fput nsP w 0)).updGal g (fun x => { x with
      emitQ := x.emitQ ++ [{ neuron := n, model := m.val, payload := gradedPayload mo (threshold mo w) }] })
    Completes (.pendingEmit g m) s { s with dev := f.raiseTo (R.GAL_HIWATER g) F.GAL_HIWATER_EMIT (f.gal g).emitQ.length }) ∧
  (∀ (s : State) (g : Fin 8), (s.dev.gal g).st = .run → s.dev.domOn (4 + g.val) = true →
    let r := releaseDue s.dev.dat.tick (s.dev.grace g) (s.dev.gal g).delayQ (s.dev.gal g).rel
    Completes (.delayRelease g) s (s.onDev (fun d => (d.updGal g (fun x => { x with delayQ := r.1, rel := r.2 })).markWater g))) ∧
  (∀ (s : State) (g : Fin 8) (slot : Nat) (c : ColdFetch) (b : List Byte) (m : Mach), (s.dev.gal g).cold[slot]? = some c → (s.dev.gal g).fans = true →
    c.asked = true → Mach.galleryRead { dev := s.dev, mem := s.mem } g c.addr 1 [] = some (b, [], m) →
    c.left ≤ 16 → ((m.dev.fanUnit g c (unitWords b)).gal g).st ≠ .faulted →
    Completes (.coldFetchResponse g slot []) s { s with
      mem := m.mem
      dev := (m.dev.fanUnit g c (unitWords b)).freeCold g slot }) ∧
  (∀ (s : State) (g : Fin 8) (entry : Nat), s.dev.domOn (4 + g.val) = true → (s.dev.gal g).resume = some entry →
    let d := s.dev.forEach (s.dev.gal g).sweptNeurons (fun n d => d.resumeOne g entry n)
    let e := d.updGal g (fun x => { x with resume := none, wakeSlots := [] })
    Completes (.resumeSweep g) s { s with dev := e.forEach (d.gal g).wakeSlots (fun e d => d.accept g e.1 e.2) })

/-- A STOPPING Gallery that has drained becomes LOADED, and with its last one the parcel becomes LOADED and the stop that waits for it
completes; a finished configuration reset leaves the Gallery EMPTY with no words; a fault cause of Table 18.11 and a stall take a Gallery
into FAULTED; a write of the reward register adds its signed value, saturating at 16 bits. Rests on the model's choices and readings of log
entries 3, 19, 20. -/
def Obligations.GalleriesChangeState : Prop :=
  (∀ (s : State) (g : Fin 8), s.dev.drained g = true → s.dev.parcelAt g.val = none →
    Completes (.galleryDrained g) s (s.onDev (fun d => d.galLoaded g))) ∧
  (∀ (s : State) (g q : Fin 8), s.dev.drained g = true → (s.dev.galLoaded g).parcelAt g.val = some q → (s.dev.galLoaded g).parcelSettles q = true →
    s.dev.host.started.all (fun x => !Wait.isRecover q x.wait) = true →
    ∃ t, Completes (.galleryDrained g) s t ∧
      t.dev = ((s.dev.galLoaded g).settleParcel q).release (Wait.isStop q) .ok 1 0 0) ∧
  (∀ (s : State) (g : Fin 8), (s.dev.gal g).cfgBusy = true →
    ∃ t, Completes (.cfgResetDone g) s t ∧ t.dev = s.dev.cfgReset g ∧ (t.dev.gal g).st = .empty ∧ (t.dev.gal g).state = [] ∧
      (t.dev.gal g).axons = [] ∧ (t.dev.gal g).syn = [] ∧ (t.dev.gal g).cfgBusy = false) ∧
  (∀ (s : State) (g : Fin 8) (cause : Fin 16), 1 ≤ cause.val → cause.val ≤ 5 →
    Completes (.galleryFault g cause) s (s.onDev (fun d => d.enterFaulted g cause.val))) ∧
  (∀ (s : State) (g : Fin 8), Completes (.engineStall g) s (s.onDev (fun d => d.enterFaulted g 3))) ∧
  (∀ (s : State) (g : Fin 8) (v : BitVec 8), Completes (.lrnRewardAdd g v) s (s.onDev (fun d =>
    d.setRf (R.LRN_REWARD g) F.LRN_REWARD_ACC (toTwos 16 (clamp (-32768) 32767 (sext 16 (d.rf (R.LRN_REWARD g) F.LRN_REWARD_ACC) + v.toInt))))))

/-- With the Compass unit acting: the queue's head tally is scored and placed; an open batch is submitted; ACCEPT marks the staging slot
answered and counts the rows, any other answer passes its rows on; a staging timeout frees the slot; a submission unanswered for 10 µs is
abandoned and counted; a train's part 0 opens a context; a late train is discarded as INCOMPLETE; at a period end settings apply, the period
counts and loads are closed; the leader keeps one report for each expert; its step with no report counts the missing ones; a BIAS event
writes the bias of an expert of the pool. A submission that the port accepts is queued, counted as load and answered ACCEPT, and one that it
does not is answered with its code; an accepted one asks for its operands; the read at the Gallery's node gets its 16-byte chunk of a staged row;
a read unanswered for 10 µs abandons its job and is counted; a weight set loads into the free buffer with its tag; the head job starts when operands and weights are there and nothing
holds it; a completed job counts and performs its output action; FLUSH discards the queue and counts it. Rests on the model's choices and
readings of log entries 3, 27, 28. -/
def Obligations.CompassAndPlaneEventsTakeEffect : Prop :=
  (∀ (s : State) (g : Fin 8) (t : Tally) (q : List Tally), s.dev.cmpOn g = true → (s.dev.gal g).cmp.rows = [] → (s.dev.gal g).cmp.queue = t :: q →
    let d := s.dev.updCmp g (fun c => { c with queue := q })
    let r := d.scoreTally g t
    let row : ExpRow := { feats := t.feats, cands := r.1, port := some (keyPort t.key) }
    Completes (.tallyScore g) s { s with dev := (((d.bump (R.CMP_DROP_CNT g) F.CMP_DROP_CNT_UNREACH r.2).placeRow g row).flushBatches g) }) ∧
  (∀ (s : State) (g : Fin 8) (b : Fin 16) (x : Batch), s.dev.cmpOn g = true → (s.dev.gal g).cmp.batches[b.val]? = some x →
    Completes (.batchSubmit g b) s (s.onDev (fun d => d.submitBatch g x))) ∧
  (∀ (s : State) (g : Fin 8) (a : JobAnswer) (code : Fin 8) (x : Staging), s.dev.badParcel g a.parcel.toNat = false → s.dev.asleep g = false →
    (s.dev.gal g).cmp.staging.find? (fun y => y.tag == a.tag.toNat && y.ref == a.ref) = some x → x.answered = false → code = 0 →
    Completes (.jobResponse g a code) s (s.onDev (fun d => (d.updCmp g (fun c => { c with
      staging := mapFirst (fun y => y.tag == a.tag.toNat && y.ref == a.ref) (fun y => { y with answered := true }) c.staging })).bump
        (R.CMP_SUB_CNT g) F.CMP_SUB_CNT_SUB x.rows.length))) ∧
  (∀ (s : State) (g : Fin 8) (a : JobAnswer) (code : Fin 8) (x : Staging), s.dev.badParcel g a.parcel.toNat = false → s.dev.asleep g = false →
    (s.dev.gal g).cmp.staging.find? (fun y => y.tag == a.tag.toNat && y.ref == a.ref) = some x → x.answered = false → code ≠ 0 →
    Completes (.jobResponse g a code) s (s.onDev (fun d => (d.updCmp g (fun c => { c with
      staging := c.staging.filter (fun y => !(y.tag == a.tag.toNat && y.ref == a.ref)) })).forEach x.rows (fun r d => d.passRow g r)))) ∧
  (∀ (s : State) (g : Fin 8) (slot : Fin 32), Completes (.stagingTimeout g slot) s (s.onDev (fun d => d.updCmp g (fun c => { c with
    staging := c.staging.filter (fun y => y.tag != slot.val) })))) ∧
  (∀ (s : State) (g : Fin 8) (slot : Fin 32), (s.dev.gal g).cmp.staging.any (fun x => x.tag == slot.val && !x.answered) = true →
    Completes (.requestTimeout g (.submission slot)) s (s.onDev (fun d => (d.freeStaging g slot.val).requestLost g))) ∧
  (∀ (s : State) (g : Fin 8) (ev : BitVec 64), s.dev.cmpOn g = true → fget evAdly ev = 0 → some (fget evSlice ev) = s.dev.galSlice g → refPart ev = 0 →
    (s.dev.gal g).cmp.trains.find? (fun t => (t.chip, t.gallery) == (fget evAxon ev / 2 ^ 12, fget evAxon ev / 2 ^ 9 % 8)) = none →
    (s.dev.gal g).cmp.trains.length < 32 →
    Completes (.trainPart g ev) s (s.onDev (fun d => d.updCmp g (fun c => { c with
      refs := c.refs.erase ev
      dead := c.dead.erase (fget evAxon ev / 2 ^ 12, fget evAxon ev / 2 ^ 9 % 8)
      trains := c.trains ++ [{ chip := fget evAxon ev / 2 ^ 12, gallery := fget evAxon ev / 2 ^ 9 % 8, next := 1, rem := fget evPayload ev % 4,
                               cands := [fget evAxon ev % 256], feats := [] }] })))) ∧
  (∀ (s : State) (g : Fin 8) (ctx : Fin 32) (t : TrainCtx), (s.dev.gal g).cmp.trains[ctx.val]? = some t →
    Completes (.trainTimeout g ctx) s (s.onDev (fun d => (d.updCmp g (fun c => { c with
      dead := (t.chip, t.gallery) :: c.dead.erase (t.chip, t.gallery)
      trains := c.trains.filter (fun x => (x.chip, x.gallery) != (t.chip, t.gallery)) })).bump (R.CMP_TRAIN_ERR g) F.CMP_TRAIN_ERR_INCOMPLETE))) ∧
  (∀ (s : State) (g : Fin 8), s.dev.cmpOn g = true → s.dev.tick % s.dev.rf (R.CMP_BEAR_CFG g) F.CMP_BEAR_CFG_BT = 0 → (s.dev.gal g).cmp.nextCfg = none →
    s.dev.rf (R.CMP_CTL g) F.CMP_CTL_BEAR_EN = 0 → s.dev.rf (R.CMP_POOL g) F.CMP_POOL_SIZE = 0 →
    Completes (.bearingPeriodEnd g) s (s.onDev (fun d => d.bump (R.CMP_BEAR_CNT g) F.CMP_BEAR_CNT_PERIODS))) ∧
  (∀ (s : State) (g : Fin 8), s.dev.cmpOn g = true → s.dev.tick % s.dev.rf (R.CMP_BEAR_CFG g) F.CMP_BEAR_CFG_BT = 0 → (s.dev.gal g).cmp.nextCfg = none →
    let d := s.dev.bump (R.CMP_BEAR_CNT g) F.CMP_BEAR_CNT_PERIODS
    d.rf (R.CMP_CTL g) F.CMP_CTL_BEAR_EN = 1 → d.rf (R.CMP_BEAR_LEADER g) F.CMP_BEAR_LEADER_SELF = 1 →
    let e := d.updCmp g (fun c => { c with collecting := true, reports := [] })
    Completes (.bearingPeriodEnd g) s { s with dev := e.forEach (e.validExperts g) (fun x d => d.closeLoad g x) }) ∧
  (∀ (s : State) (g : Fin 8) (ev : BitVec 64), s.dev.cmpOn g = true → fget evAdly ev = 0 → some (fget evSlice ev) = s.dev.galSlice g → refPart ev = 62 →
    s.dev.rf (R.CMP_BEAR_LEADER g) F.CMP_BEAR_LEADER_SELF = 1 → (s.dev.gal g).cmp.collecting = true →
    Completes (.loadEvent g ev) s (s.onDev (fun d => d.updCmp g (fun c => { c with
      refs := c.refs.erase ev
      reports := c.reports.filter (fun r => r.1 != fget evAxon ev / 1024) ++ [(fget evAxon ev / 1024, fget evAxon ev % 1024)] })))) ∧
  (∀ (s : State) (g : Fin 8), s.dev.cmpOn g = true → (s.dev.gal g).cmp.collecting = true → (s.dev.gal g).cmp.reports = [] →
    Completes (.bearingStep g) s (s.onDev (fun d => (d.bump (R.CMP_BEAR_CNT g) F.CMP_BEAR_CNT_MISS (d.validExperts g).length).updCmp g (fun c => { c with
      collecting := false, reports := [] })))) ∧
  (∀ (s : State) (g : Fin 8) (ev : BitVec 64), s.dev.cmpOn g = true → fget evAdly ev = 0 → some (fget evSlice ev) = s.dev.galSlice g → refPart ev = 63 →
    fget evAxon ev / 1024 < s.dev.rf (R.CMP_POOL g) F.CMP_POOL_SIZE →
    Completes (.biasEvent g ev) s (s.onDev (fun d => (d.updCmp g (fun c => { c with refs := c.refs.erase ev })).setBias g
      (fget evAxon ev / 1024) (fget evAxon ev / 4 % 256)))) ∧
  (∀ (s : State) (p : Fin 8) (q : JobFlit), s.dev.badParcel p q.parcel.toNat = false → s.dev.asleep p = false → (s.dev.gal p).sink = false →
    s.dev.jobForm p.val q.word = true →
    s.dev.portAnswer p (jfJob q.word) (s.dev.galSlice (fin8 (if jfChip q.word = s.dev.selfChip then jfNode q.word else p.val))) = 0 →
    let n := jfRows q.word
    let job : Job := { desc := jfJob q.word, n := n, rows := List.replicate n [], reads := n * jdKt (s.dev.jdesc p (jfJob q.word)),
                       src := .remote (jfChip q.word) (jfNode q.word) (jfTag q.word) q.ref, chain := 0 }
    let d := ((s.dev.bump (R.CMP_LOAD_NOW p (jfJob q.word)) F.CMP_LOAD_NOW_NOW n).updPlane p (fun x => { x with
      queue := x.queue ++ [job] })).wakeEvent (12 + p.val)
    Completes (.jobSubmit p q) s { s with dev := (d.answerJob p q 0).askOperands p q }) ∧
  (∀ (s : State) (p : Fin 8) (q : JobFlit), s.dev.badParcel p q.parcel.toNat = false → s.dev.asleep p = false → (s.dev.gal p).sink = false →
    s.dev.jobForm p.val q.word = true →
    s.dev.portAnswer p (jfJob q.word) (s.dev.galSlice (fin8 (if jfChip q.word = s.dev.selfChip then jfNode q.word else p.val))) = 1 →
    Completes (.jobSubmit p q) s { s with dev := (s.dev.bump (R.DNS_RESP_CNT p) F.DNS_RESP_CNT_FULL).answerJob p q 1 }) ∧
  (∀ (s : State) (g : Fin 8) (port : Fin 4) (m : MeshMsg) (plane tag row chunk : Nat) (ref : BitVec 64) (sl : Staging),
    (s.dev.gal g).readHead g.val = some (port, m) → m.body = .read plane tag ref row chunk → s.dev.asleep g = false →
    let e := s.dev.popNode g port 2
    let here (x : Staging) : Bool := x.tag == tag && x.ref == ref
    e.badParcel g m.parcel = false → (e.gal g).cmp.staging.find? here = some sl →
    let st := if sl.reads ≤ 1 then (e.gal g).cmp.staging.filter (fun x => !here x)
      else mapFirst here (fun x => { x with reads := x.reads - 1 }) (e.gal g).cmp.staging
    let bytes := slice (chunk * 16) 16 (match sl.rows[row]? with | some r => r.feats | none => [])
    Completes (.operandRead g) s { s with dev := (e.updCmp g (fun c => { c with staging := st })).send g plane (.data g.val tag ref row bytes) }) ∧
  (∀ (s : State) (p j : Fin 8) (x : Job), (s.dev.plane p).queue[j.val]? = some x → x.reads ≠ 0 →
    Completes (.operandTimeout p j) s (s.onDev (fun d => ((d.updPlane p (fun y => { y with queue := y.queue.eraseIdx j.val })).bump
      (R.DNS_ERR_CNT p) F.DNS_ERR_CNT_OPTMO).requestLost p))) ∧
  (∀ (s : State) (p : Fin 8) (w : BitVec 128) (b : Fin 2), s.dev.domOn (12 + p.val) = true → (s.dev.gal p).st ≠ .faulted →
    s.dev.nextLoad p = some (w, b) → bits w 39 38 = 0 →
    let n := imageBytes w
    let img := (List.range ((n + 3) / 4)).flatMap (fun i => leBytes 4 ((s.dev.gal p).synWord (bits w 63 40 + i)).toNat)
    let r := s.dev.bankErrs p (bits w 63 40) ((n + 3) / 4)
    Completes (.weightLoad p []) s { s with dev := r.2.fillBuf p w b (errWords false r.1) (errWords true r.1) (img.take n) }) ∧
  (∀ (s : State) (p : Fin 8) (j : Job) (tl : List Job) (b : Fin 2), (s.dev.plane p).running = none → s.dev.domOn (12 + p.val) = true → s.dev.denseGated = false →
    s.dev.clks.holdJobs = false →
    s.dev.clks.fullOnly = false → s.dev.pwr.stopJobs = false → s.dev.pwr.secondSlot = false → s.dev.pwr.hotSlot = false → (s.dev.plane p).outEvents = [] →
    (s.dev.gal p).st ≠ .faulted → (s.dev.plane p).queue = j :: tl → j.reads = 0 → (s.dev.plane p).bufOf (jdTag (s.dev.jdesc p j.desc)) = some b →
    Completes (.jobStart p) s (s.onDev (fun d => ({ d with pwr := { d.pwr with slotSkip := 0 } }).updPlane p (fun x => { x with
      running := some j, queue := tl, lastBuf := b })))) ∧
  (∀ (s : State) (p : Fin 8) (j : Job) (b : Fin 2), s.dev.domOn (12 + p.val) = true → s.dev.denseGated = false → (s.dev.gal p).st ≠ .faulted → (s.dev.plane p).outEvents = [] →
    (s.dev.plane p).running = some j → (s.dev.plane p).bufOf (jdTag (s.dev.jdesc p j.desc)) = some b →
    Completes (.jobComplete p none) s (s.onDev (fun d => ((d.updPlane p (fun x => { x with lastBuf := b })).bump (R.DNS_JOB_CNT p) F.DNS_JOB_CNT_JOB).jobOutput p
      (s.dev.jdesc p j.desc) (s.dev.plane p).bufs[b].bytes j))) ∧
  (∀ (s : State) (p : Fin 8), Completes (.flush p) s (s.onDev (fun d => (d.bump (R.DNS_ERR_CNT p) F.DNS_ERR_CNT_DISC (d.plane p).queue.length).updPlane p
    (fun x => { x with queue := [] }))))

/-- On a port that takes its kind: a CSI-2 long packet of the accepted type is handled as RAW or IEF; a Frame Start takes START to RUN and
restarts the line count; a Seam packet that finds a free buffer takes it and a credit and is decoded, one that finds none
counts as NOCREDIT, and packets that leave the decoder return their credits. A window's end flags the bins of each tile and
restarts the counts; a loss of sync counts, is reported, and leads to RESTART; a restart's end leads to START or OFF; an erase request
raises the fence in the port's powered Galleries; a completed erasure clears the port's storage and its place in the queue; the pipeline's
clock switches. Rests on the model's choices and readings of log entries 3, 21, 22. -/
def Obligations.IntakeEventsTakeEffect : Prop :=
  (∀ (s : State) (p : Fin 16) (k : CsiLong), s.dev.portTakes p 0 = true → k.header = .good → k.vc.toNat = s.dev.rf (R.INT_CSI_CFG p) F.INT_CSI_CFG_VC →
    s.dev.convMode p = 0 → k.dt.toNat = (rawType (s.dev.rf (R.INT_CONV p) F.INT_CONV_RAWBITS)).1 →
    Completes (.csi2LongPacket p k) s (s.onDev (fun d => d.rawPacket p k (rawType (d.rf (R.INT_CONV p) F.INT_CONV_RAWBITS)).2))) ∧
  (∀ (s : State) (p : Fin 16) (k : CsiLong), s.dev.portTakes p 0 = true → k.header = .good → k.vc.toNat = s.dev.rf (R.INT_CSI_CFG p) F.INT_CSI_CFG_VC →
    s.dev.convMode p = 1 → 0x30 ≤ k.dt.toNat → k.dt.toNat ≤ 0x37 → (s.dev.rf (R.INT_CSI_CFG p) F.INT_CSI_CFG_DT_MASK).testBit (k.dt.toNat - 0x30) = true →
    Completes (.csi2LongPacket p k) s (s.onDev (fun d => d.iefPacket p k))) ∧
  (∀ (s : State) (p : Fin 16) (k : CsiShort), s.dev.portTakes p 0 = true → k.header = .good → k.vc = 1#2 → k.dt = 0#6 →
    s.dev.rf (R.INT_CSI_CFG p) F.INT_CSI_CFG_VC = 1 →
    Completes (.csi2ShortPacket p k) s (s.onDev (fun d => ((d.bump (R.INT_RX_CNT p) F.INT_RX_CNT_RX).firstValid p).updPort p (fun x => { x with line := 0 })))) ∧
  (∀ (s : State) (p : Fin 16) (k : SeamPkt), s.dev.portTakes p 1 = true →
    let e := if (s.dev.port p).lastByte + 20 ≤ s.dev.clk then s.dev.seamReturn p 8 else s.dev
    (e.port p).bufs < 8 →
    Completes (.seamPacket p k) s { s with dev := ((e.updPort p (fun x => { x with
      bufs := x.bufs + 1, credits := x.credits - 1, lastByte := e.clk })).seamBody p k.bytes).seamReturn p k.leave }) ∧
  (∀ (s : State) (p : Fin 16) (k : SeamPkt), s.dev.portTakes p 1 = true → s.dev.clk < (s.dev.port p).lastByte + 20 → 8 ≤ (s.dev.port p).bufs →
    Completes (.seamPacket p k) s (s.onDev (fun d => (d.bump (R.SEAM_ERR_CNT p) F.SEAM_ERR_CNT_NOCREDIT).seamReturn p k.leave))) ∧
  (∀ (s : State) (p : Fin 16), s.dev.rf (R.INT_FLK_CFG p) F.INT_FLK_CFG_EN = 1 → s.dev.hasPhase = true →
    Completes (.flickerWindowEnd p) s (s.onDev (fun d => d.updPort p (fun x => { x with
      hist := []
      flags := ((x.hist.map (fun e => e.1 / 16)).eraseDups).foldl (fun m t => SMap.set 0 m t (flagged x.hist t
        (d.rf (R.INT_FLK_CFG p) F.INT_FLK_CFG_FLK_RATIO) (d.rf (R.INT_FLK_CFG p) F.INT_FLK_CFG_FLK_MIN))) [] })))) ∧
  (∀ (s : State) (p : Fin 16), s.dev.boot.lab = false → ((s.dev.port p).st = .start ∨ (s.dev.port p).st = .run) →
    let times := s.dev.clk :: (s.dev.port p).restarts.filter (fun t => s.dev.clk < t + s.dev.rf (R.INT_RETRY_CFG p) F.INT_RETRY_CFG_WINDOW * 100000000)
    let d := (s.dev.updPort p (fun x => { x with restarts := times })).bump (R.INT_RESTART_CNT p) F.INT_RESTART_CNT_RESTART
    times.length < d.rf (R.INT_RETRY_CFG p) F.INT_RETRY_CFG_MAX_RESTART →
    Completes (.portSyncLoss p) s { s with dev := (d.setPort p .restart).raiseFrom (stPort p) (Flt.portRestart p (parcelByte (d.parcelOfPort p.val)) times.length) }) ∧
  (∀ (s : State) (p : Fin 16), (s.dev.port p).st = .restart → s.dev.rf (R.INT_CTL p) F.INT_CTL_EN = 1 → s.dev.portRuns p = true →
    Completes (.portRestartEnd p) s (s.onDev (fun d => d.setPort p .start))) ∧
  (∀ (s : State) (p : Fin 16), (s.dev.port p).stoppedAt.isSome = true →
    Completes (.eraseRequest p) s (s.onDev (fun d => (d.forEach (columnGals p) (fun g d =>
      if d.domOn (4 + g.val) then (d.updGal g (fun x => x.askErase p.val)).cmpErase g p.val else d)).portErased p))) ∧
  (∀ (s : State) (g : Fin 8) (p : Fin 16) (tl : List Nat), (s.dev.gal g).eraseQ = p.val :: tl →
    Completes (.eraseComplete g p) s (s.onDev (fun d => (((d.erasePort g p.val).updGal g (fun x => { x with eraseQ := tl })).eraseLate g p).portErased p))) ∧
  (∀ (s : State) (p : Fin 16) (b : Bool), Completes (.intakeClockFallback p b) s (s.onDev (fun d => d.updPort p (fun x => { x with fallback := b }))))

/-- With egress enabled: a request by a parcel's declared source whose payload stands and whose buckets hold 128 bits takes the bits, gets the
stream's sequence number and goes to the ring or backlog; one without the bits is dropped and counted; a source with no schema counts
SCHEMA; each refill adds the rate up to the depth; a running parcel's Heartbeat and a waiting LearningStatus become device records, and what
they reported starts anew; a waiting record moves to the ring when it has room; an aged one is discarded and counted. Rests on the model's
choices and readings of log entries 3, 24. -/
def Obligations.EgressEventsTakeEffect : Prop :=
  (∀ (s : State) (q : Fin 8) (src : BitVec 8) (v : BitVec 64) (e : Dev), s.dev.egressOn = true → (s.dev.pcl q).st ≠ .free →
    let x := SMap.get 0 (s.dev.pcl q).schema src.toNat
    x % 16 ≠ 0 → payloadBad (x % 16) v = false → ∀ h : x / 16 < 16,
    let seq := (s.dev.ports[x / 16]).recSeq
    let d := { s.dev with ports := s.dev.ports.set (x / 16) { s.dev.ports[x / 16] with recSeq := (seq + 1) % 256 } }
    d.meter (x / 16) = some e →
    Completes (.recordRequest q src v) s { s with dev := e.deliverRecord q (recEntry (d.recHeader (x % 16) (x / 16) q seq src.toNat false) v) }) ∧
  (∀ (s : State) (q : Fin 8) (src : BitVec 8) (v : BitVec 64), s.dev.egressOn = true → (s.dev.pcl q).st ≠ .free →
    SMap.get 0 (s.dev.pcl q).schema src.toNat = 0 →
    Completes (.recordRequest q src v) s (s.onDev (fun d => d.bump R.EGR_SCHEMA_ERR F.EGR_SCHEMA_ERR_SCHEMA))) ∧
  (∀ s : State, Completes .meterRefill s (s.onDev (fun d => d.forEach (List.range 16) (fun p d =>
    (d.setRf (R.EGR_MTR_LVL p) F.EGR_MTR_LVL_LVL (min (d.rf (R.EGR_MTR_LVL p) F.EGR_MTR_LVL_LVL + d.rf (R.EGR_MTR_CFG p) F.EGR_MTR_CFG_RATE_U)
        (d.rf (R.EGR_MTR_CFG p) F.EGR_MTR_CFG_BURST * 128))).setRf (R.EGR_MTR_LVL p) F.EGR_MTR_LVL_CEIL_LVL
      (min (d.rf (R.EGR_MTR_LVL p) F.EGR_MTR_LVL_CEIL_LVL + d.fus.ceilU) (d.fus.ceilBurst * 128)))))) ∧
  (∀ s : State, s.dev.egressOn = true → Completes .heartbeat s (s.onDev (fun d => d.forEach (List.finRange 8) (fun q d =>
    if (d.pcl q).st = .run then
      (d.deviceRecord q 5 (d.heartbeat q)).updPcl q (fun p => { p with hbMtr := 0, hbBl := 0, hbErased := false })
    else d)))) ∧
  (∀ (s : State) (q : Fin 8), s.dev.egressOn = true → (s.dev.pcl q).learn.ends ≠ [] →
    Completes (.learningStatus q) s (s.onDev (fun d => (d.deviceRecord q 6 (d.pcl q).learn.payload).updPcl q (fun p => { p with learn := {} })))) ∧
  (∀ (s : State) (q : Fin 8) (r : BackRec) (tl : List BackRec) (f : Func), (s.dev.pcl q).backlog = r :: tl → s.dev.funcOf q = some f → s.dev.resRoom f = true →
    Completes (.backlogWrite q) s (s.onDev (fun d => (d.writeRes f r.entry).updPcl q (fun p => { p with backlog := tl })))) ∧
  (∀ (s : State) (q : Fin 8) (r : BackRec) (tl : List BackRec), (s.dev.pcl q).backlog = r :: tl → s.dev.aged r = true →
    Completes (.backlogAge q) s (s.onDev (fun d => (d.updPcl q (fun p => { p with backlog := tl, hbBl := p.hbBl + 1 })).bump (R.EGR_BL_DROP q) F.EGR_BL_DROP_AGE)))

/-- Served: GROUP_STATUS and LINK_STATUS report; GROUP_SET_COORD of a chip in SINGLE records coordinate, sizes and mode; GROUP_FORM on chip 0
with every peer answering and no check failing forms the group; GROUP_DISSOLVE on the leader with nothing running dissolves it; GROUP_RESYNC
with a request standing sets the adoption of the next marker's count; LINK_ENABLE of a link whose role fits and whose domain comes up
records the role and enables it; LINK_RETRAIN sends an ACTIVE link to RETRAIN; LINK_CLEAR_COUNTERS clears the link's counters. A FORMING
chip that hears nothing, or is told to abort, returns to SINGLE; a chip back from a reset whose links and checks stand rejoins; a marker at
a FORMING or FOLLOWER chip is passed on and met, and one with 50 ns or more left fires no late turn; the leader sends its marker; a follower
that misses MISS_MAX markers enters HOLDOVER; ROUTE_REWRITE outside a recovery rewrites the routes and tells the chips it reaches; each group message has its
effect; a lock claim goes to the leader. Rests on the model's choices and readings of log entries 3, 33, 34, 38. -/
def Obligations.GroupsFormAndChange : Prop :=
  (∀ (s : State) (c : Cmd), Served specGroupStatus c s → c.dataLen = 0 →
    ∃ l, Completes (.groupStatus c) s (s.finished c { s.dev with lat := l } ((s.dev.peek R.TRV_GRP_STAT).setWidth 64))) ∧
  (∀ (s : State) (c : Cmd), Served specSetCoord c s → coordBad c = none → s.dev.grpSt = 0 → c.env.ledgerOk = true →
    let x : Coord := { x := c.p 0, y := c.p 1, z := c.p 2, sx := c.p 3, sy := c.p 4, sz := c.p 5, edge := c.p 6 == 1 }
    Completes (.groupSetCoord c) s (s.finished c ((s.dev.updLed (fun l => { l with coord := some x })).setCoord x))) ∧
  (∀ (s : State) (c : Cmd) (e : Dev), Served specGroupForm c s → s.dev.anyRun = false → s.dev.grpSt = 0 → s.dev.selfChip = 0 → s.dev.grp.coordSet = true →
    s.dev.others = [] → s.dev.formCheck = .ok e → Completes (.groupForm c) s (s.finished c e.formGroup)) ∧
  (∀ (s : State) (c : Cmd), Served specGroupForm c s → s.dev.anyRun = false → s.dev.grpSt = 0 → s.dev.selfChip = 0 → s.dev.grp.coordSet = true →
    s.dev.others ≠ [] →
    Completes (.groupForm c) s (s.held c (((s.dev.setGrpSt 1 0).askedOn.updGrp (fun g => { g with forming := 1, replies := [], accepts := [] })).tellAll
      .discover) .form)) ∧
  (∀ (s : State) (k : Fin 6) (m : LinkMsg) (r : PeerReply),
    let d := s.dev.takeMsg k m
    d.grpSt = 1 → d.grp.forming = 1 →
    let e := d.updGrp (fun g => { g with replies := g.replies.filter (fun x => x.chip != r.chip || x.devId != r.devId) ++ [r] })
    e.others.all (fun c => e.grp.replies.any (fun x => x.chip == c)) = true →
    Completes (.grp k m (.reply r)) s { s with dev := match e.formCheck with
      | .ok f => f
      | .error dt => e.formFails.release Wait.isForm .refused 0 0 dt }) ∧
  (∀ (s : State) (k : Fin 6) (m : LinkMsg),
    let d := s.dev.takeMsg k m
    d.grpSt = 1 → d.grp.forming = 2 →
    let e := d.updGrp (fun g => { g with accepts := if g.accepts.contains m.src.toNat then g.accepts else g.accepts ++ [m.src.toNat] })
    e.others.all (fun x => e.grp.accepts.contains x) = true →
    Completes (.grp k m .accept) s { s with dev := e.formGroup.release Wait.isForm .ok 0 0 0 }) ∧
  (∀ (s : State) (c : Cmd), Served specGroupDissolve c s → s.dev.anyRun = false → c.env.peers.any (·.running) = false → s.dev.grpSt = 2 →
    Completes (.groupDissolve c) s (s.finished c (s.dev.forEach s.dev.groupChips (fun x d => d.sendGrp x .dissolve)).dissolved)) ∧
  (∀ (s : State) (c : Cmd), Served specGroupResync c s → s.dev.anyRun = false → s.dev.rf R.TRV_SYNC_STAT F.TRV_SYNC_STAT_RESYNC_REQ = 1 →
    Completes (.groupResync c) s (s.finished c { s.dev with grp := { s.dev.grp with resync := true } } 1)) ∧
  (∀ (s : State) (c : Cmd), Served specLinkStatus c s → c.dataLen = 0 → c.p 0 < 6 → bit s.dev.fus.links (c.p 0) = true →
    ∃ l, Completes (.linkStatus c) s (s.finished c { s.dev with lat := l }
      (BitVec.ofNat 64 ((s.dev.peek (R.TRV_STAT (c.p 0))).toNat + (s.dev.peek (R.TRV_DELAY (c.p 0))).toNat % 65536 * 2 ^ 32)))) ∧
  (∀ (s : State) (c : Cmd) (k : Fin 6), Served specLinkEnable c s → c.p 0 = k.val → bit s.dev.fus.links k = true →
    (c.p 1 = 2 → s.dev.licensed 4 = true) → s.dev.zIdle k (s.dev.rf R.TRV_GRP_CTL F.TRV_GRP_CTL_MODE == 1) (c.p 1) = false → roleFits k (c.p 1) = true →
    (c.p 1 = s.dev.linkRole k ∨ (((s.dev.link k).st = .off ∨ (s.dev.link k).st = .retired) ∧ s.dev.rf R.TRV_GRP_CTL F.TRV_GRP_CTL_COMMIT = 0)) →
    c.env.ledgerOk = true → c.env.notReady = [] → (s.dev.needDom (24 + k.val)).domUp (24 + k.val) = true →
    Completes (.linkEnable c) s (s.finished c ((((s.dev.needDom (24 + k.val)).updLed (fun l => { l with
      linkRoles := l.linkRoles.set k (some (c.p 1)) })).setRf (R.TRV_CTL k) F.TRV_CTL_ROLE (c.p 1)).enableLink k))) ∧
  (∀ (s : State) (c : Cmd) (k : Fin 6), Served specLinkRetrain c s → c.p 0 = k.val → bit s.dev.fus.links k = true → (s.dev.link k).st = .active →
    Completes (.linkRetrain c) s (s.finished c (s.dev.enterRetrain k))) ∧
  (∀ (s : State) (c : Cmd) (k : Fin 6), Served specLinkClear c s → c.p 0 = k.val → bit s.dev.fus.links k = true →
    Completes (.linkClearCounters c) s (s.finished c (s.dev.clearCounters Blk.trv.base k.val 1))) ∧
  (∀ (s : State), s.dev.grpSt = 1 → s.dev.grp.deadline ≤ s.dev.clk →
    (s.dev.grp.forming = 0 → Completes .formingTimeout s (s.onDev (fun d => d.toSingle d.follows))) ∧
    (s.dev.grp.forming ≠ 0 → Completes .formingTimeout s (s.onDev (fun d => d.formFails.release Wait.isForm .timeout 0 0 0)))) ∧
  (∀ (s : State) (k : Fin 6) (m : LinkMsg), (s.dev.takeMsg k m).grpSt = 1 →
    Completes (.grpAbort k m) s (s.onDev (fun d => (d.takeMsg k m).toSingle (d.takeMsg k m).follows))) ∧
  (∀ (s : State) (x : RejoinIn), s.dev.led.coord.isSome = true → s.dev.grpSt = 0 →
    s.dev.checkOf (s.dev.ownReply s.dev.selfChip :: x.peers) (s.dev.ownReply s.dev.selfChip) = none →
    let d := s.dev.updGrp (fun g => { g with homes := x.peers.flatMap (fun r => r.slices.map (fun y => (r.chip, y.slice, y.gals.toNat))) })
    (d.selfChip ≠ 0 → Completes (.groupRejoin x) s { s with dev := (d.setGrpSt 3 0).commitGroup }) ∧
    (d.selfChip = 0 →
      let e := (d.setGrpSt 2 0).commitGroup
      Completes (.groupRejoin x) s { s with dev := match e.lowestFollower with
        | some c => (e.updGrp (fun g => { g with asking := true })).sendGrp c .askCount
        | none => e })) ∧
  (∀ (s : State) (k : Fin 6) (m : LinkMsg),
    let d := s.dev.takeMsg k m
    let left := leAt m.data 0 4 - d.rf (R.TRV_DELAY k) F.TRV_DELAY_D
    (d.grpSt = 1 ∨ d.grpSt = 3) → 400 ≤ left →
    let e := d.forEach d.fwdLinks (fun o d => d.sendMarker o (bits m.arg 47 0) (bits m.arg 49 48) (bits m.arg 63 56 + 1) left)
    Completes (.tmark k m) s { s with dev := e.meetMarker (bits m.arg 47 0) (bits m.arg 49 48) (e.clk + left / 80) }) ∧
  (∀ (s : State), s.dev.grpSt = 2 → s.dev.grp.asking = false → Completes .tmarkSend s (s.onDev (fun d => d.forEach d.fwdLinks (fun k d =>
    d.sendMarker k (d.dat.tick + 1) d.dat.quality 0 (d.rf R.TRV_SYNC_CFG F.TRV_SYNC_CFG_LEAD * 8))))) ∧
  (∀ (s : State), s.dev.grpSt = 3 → s.dev.dat.st = .follow →
    Completes .markersLost s (s.onDev (fun d =>
      (((d.bump R.TRV_SYNC_STAT F.TRV_SYNC_STAT_MISSED (d.rf R.TRV_SYNC_CFG F.TRV_SYNC_CFG_MISS_MAX)).updDat (fun t => { t with
        st := .holdover, reason := 4, err := 0 })).bump R.DAT_LOSS_CNT F.DAT_LOSS_CNT_LOSS).datumFault))) ∧
  (∀ (s : State), s.dev.mirState ≠ 3 → Completes .routeRewrite s (s.onDev (fun d => d.reroute.forEach (d.reroute.groupChips.filter (fun x => (d.reroute.outFor x).isSome))
    (fun x d => d.sendGrp x (.cuts d.ownCuts))))) ∧
  (∀ (s : State) (k : Fin 6) (m : LinkMsg),
    let d := s.dev.takeMsg k m
    ((d.grpSt = 0 ∨ (d.grpSt = 1 ∧ d.grp.forming = 0)) → Completes (.grp k m .discover) s { s with
      dev := (let e := (d.setGrpSt 1 0).formingOn; e.sendGrp m.src.toNat (.reply (d.ownReply m.dst.toNat))) }) ∧
    (d.grpSt = 1 → d.grp.forming = 0 →
      Completes (.grp k m .commit) s { s with dev := ((d.setGrpSt 3 0).setRf R.TRV_GRP_CTL F.TRV_GRP_CTL_COMMIT 1).renameLeaders }) ∧
    (d.grpSt = 3 → Completes (.grp k m .dissolve) s { s with dev := d.dissolved }) ∧
    (∀ c : Fin 64, Completes (.grp k m (.chipReset c)) s { s with dev := d.raiseLife (11 + c.val) })) ∧
  (∀ (s : State) (n : Fin 64) (k : Fin 6), s.dev.routeLink (s.dev.rf R.TRV_GRP_STAT F.TRV_GRP_STAT_LEADER) = some k →
    let m : LinkMsg := ⟨0x03, BitVec.ofNat 6 s.dev.selfChip, BitVec.ofNat 6 (s.dev.rf R.TRV_GRP_STAT F.TRV_GRP_STAT_LEADER),
      BitVec.ofNat 8 (s.dev.link k).freeTag, BitVec.ofNat 64 n.val, []⟩
    Completes (.lockClaimRetry n) s (s.onDev (fun d => d.sendReq k m)))

/-- A link that finds its partner trains on to IDENT, and one whose partner's key verifies becomes ACTIVE, and is retired with AUTH where it does not; on a link that carries flits, a good flit
with the expected SEQ is accepted, a good one out of sequence or a bad one asks for a replay; LCTL acknowledges and credits; LCTL_SEND
reports SEQ, NAK and freed counts; a replay timeout replays; a block's close sends its tag, and a good tag settles the received block; an
unanswered Q request is abandoned and counted, and a site memory job that waits for it ends; loss of block lock and a RETRAIN write start a retrain; ECHO is answered. Rests on the
model's choices and readings of log entries 3, 8, 32, 60. -/
def Obligations.LinkEventsTakeEffect : Prop :=
  (∀ (s : State) (k : Fin 6) (r : LinkStep), s.dev.mirState ≠ 3 → s.dev.domOn (24 + k.val) = true → (s.dev.link k).st = .detect → r.outcome = .ok →
    Completes (.linkTrainingStep k r) s (s.onDev (fun d => d.enterIdent k))) ∧
  (∀ (s : State) (k : Fin 6) (r : LinkStep), s.dev.mirState ≠ 3 → s.dev.domOn (24 + k.val) = true → (s.dev.link k).st = .keyx → r.outcome = .ok →
    Completes (.linkTrainingStep k r) s (s.onDev (fun d => match (d.link k).partner.bind (fun p => d.keyExchange k p r.key) with
      | some x => (d.updLink k (fun l => { l with keys := x })).linkActive k
      | none => d.retireLink k 1))) ∧
  (∀ (s : State) (k : Fin 6) (f : BitVec 160), (s.dev.link k).carries = true → flitGood f = true → flitVc f < 6 → flitSeq f = (s.dev.link k).rxSeq →
    Completes (.flitReceive k f) s (s.onDev (fun d => d.acceptFlit k f))) ∧
  (∀ (s : State) (k : Fin 6) (f : BitVec 160), (s.dev.link k).carries = true → flitGood f = true → flitVc f < 6 → flitSeq f ≠ (s.dev.link k).rxSeq →
    Completes (.flitReceive k f) s (s.onDev (fun d => d.updLink k (fun l => { l with nak := true })))) ∧
  (∀ (s : State) (k : Fin 6) (f : BitVec 160), (s.dev.link k).carries = true → flitGood f = false →
    Completes (.flitReceive k f) s (s.onDev (fun d => (d.bump (R.TRV_CRC_CNT k) F.TRV_CRC_CNT_CRC).updLink k (fun l => { l with nak := true })))) ∧
  (∀ (s : State) (k : Fin 6) (p : BitVec 128), (s.dev.link k).carries = true → bit p 8 = false →
    Completes (.lctl k p) s (s.onDev (fun d => (d.updLink k (fun l => { l with
      replay := ackUpTo (p.extractLsb' 0 8) l.replay
      got := #v[bits p 23 16, bits p 31 24, bits p 39 32, bits p 47 40, bits p 55 48] })).pump k window))) ∧
  (∀ (s : State) (k : Fin 6), (s.dev.link k).carries = true →
    let l := s.dev.link k
    let p := BitVec.ofNat 128 ((l.rxSeq - 1).toNat + b2n l.nak * 2 ^ 8 + l.freed[0] * 2 ^ 16 + l.freed[1] * 2 ^ 24
      + l.freed[2] * 2 ^ 32 + l.freed[3] * 2 ^ 40 + l.freed[4] * 2 ^ 48)
    Completes (.lctlSend k) s (s.onDev (fun d => d.putFlit k 6 (mkFlit 6 false false 0 p)))) ∧
  (∀ (s : State) (k : Fin 6), Completes (.replayTimeout k) s (s.onDev (fun d => d.doReplay k))) ∧
  (∀ (s : State) (k : Fin 6), Completes (.blockClose k) s (s.onDev (fun d => (d.closeBlock k).pump k window))) ∧
  (∀ (s : State) (k : Fin 6) (b : RxBlock) (tl : List RxBlock), (s.dev.link k).rxClosed = b :: tl →
    b.tag = tagOf (s.dev.link k).keys.rxKey (s.dev.link k).keys.rxNonce b.num b.flits →
    Completes (.tag k b.tag) s (s.onDev (fun d => d.updLink k (fun l => { l with rxClosed := tl })))) ∧
  (∀ (s : State) (k : Fin 6) (t : BitVec 8), (s.dev.link k).asked.any (fun q => q.tag == t.toNat) = true →
    let e := (s.dev.updLink k (fun l => { l with asked := l.asked.filter (fun q => q.tag != t.toNat) })).bump (R.TRV_Q_TMO k) F.TRV_Q_TMO_TMO
    (k ≠ storageLink → Completes (.linkQTimeout k t) s { s with dev := e }) ∧
    (k = storageLink → Completes (.linkQTimeout k t) s { s with dev := match e.jobOfTag t.toNat with
      | some j => e.siteLost j
      | none => e })) ∧
  (∀ (s : State) (k : Fin 6), Completes (.blockLockLoss k) s (s.onDev (fun d => d.enterRetrain k)) ∧
    Completes (.trvRetrainWrite k) s (s.onDev (fun d => d.enterRetrain k))) ∧
  (∀ (s : State) (k : Fin 6) (m : LinkMsg), Completes (.echo k m) s (s.onDev (fun d => (d.takeMsg k m).answer k m 0x42 m.arg m.data)))

/-- A remote read of registers returns their four words, and a remote write performs four register writes and answers OK; one of memory, which
nothing holds, returns the bytes or is done; a claim of a free
group-wide lock by the lowest claimant is granted, and its owner's release frees it; a command on the host-attach link with fewer than 8 in
progress is fetched in edge mode; storage requests go out on the storage link; a tunnelled frame for this chip counts and enters the ring; a response
ends its request, and one from the storage partner carries the site memory job on; a trunk event with no route is dropped and counted, and one routed to a link that takes it goes out with HOPS raised.
Rests on the model's choices and readings of log entries 26, 32, 35. -/
def Obligations.LinkMessagesTakeEffect : Prop :=
  (∀ (s : State) (k : Fin 6) (m : LinkMsg),
    let x : Mach := { dev := s.dev.takeMsg k m, mem := s.mem }
    linkAccess m.arg.toNat none [] x = none →
    let r := x.dev.readFour m.arg.toNat 4
    Completes (.regRead k m []) s { s with dev := r.2.answer k m 0x81 m.arg r.1 }) ∧
  (∀ (s : State) (k : Fin 6) (m : LinkMsg) (errs : List MemErr) (y : Mach) (q : Requester) (b : List Byte), s.dev.linkHeld m.arg.toNat false = false →
    let x : Mach := { dev := s.dev.takeMsg k m, mem := s.mem }
    linkAccess m.arg.toNat none errs x = some y → answered x y = some (.memData q b false) →
    Completes (.regRead k m errs) s { s with dev := y.dev.answer k m 0x81 m.arg b, mem := y.mem }) ∧
  (∀ (s : State) (k : Fin 6) (m : LinkMsg) (y : Mach) (q : Requester), s.dev.linkHeld m.arg.toNat true = false →
    let x : Mach := { dev := s.dev.takeMsg k m, mem := s.mem }
    linkAccess m.arg.toNat (some (slice 0 16 m.data)) [] x = some y → answered x y = some (.memDone q) →
    Completes (.regWrite k m) s { s with dev := y.dev.status k m .ok, mem := y.mem }) ∧
  (∀ (s : State) (k : Fin 6) (m : LinkMsg),
    let x : Mach := { dev := s.dev.takeMsg k m, mem := s.mem }
    linkAccess m.arg.toNat (some (slice 0 16 m.data)) [] x = none →
    let y := x.writeFour m.arg.toNat (slice 0 16 m.data) 4
    Completes (.regWrite k m) s { s with dev := y.dev.status k m .ok, mem := y.mem }) ∧
  (∀ (s : State) (k : Fin 6) (m : LinkMsg) (h : 48 ≤ m.arg.toNat ∧ m.arg.toNat < 64) (w : BitVec 32) (e : Dev),
    (s.dev.takeMsg k m).lowerClaim m = false →
    (s.dev.takeMsg k m).lockAcquire ⟨m.arg.toNat, h.2⟩ (0x40 + m.src.toNat) = (.acquired, w, e) →
    Completes (.lockClaim k m) s { s with dev := e.status k m .ok }) ∧
  (∀ (s : State) (k : Fin 6) (m : LinkMsg) (h : 48 ≤ m.arg.toNat ∧ m.arg.toNat < 64),
    ((s.dev.takeMsg k m).locks[m.arg.toNat]'h.2).owner = 0x40 + m.src.toNat →
    Completes (.lockRelease k m) s { s with dev := ((s.dev.takeMsg k m).lockRelease ⟨m.arg.toNat, h.2⟩ (0x40 + m.src.toNat) true).status k m .ok }) ∧
  (∀ (s : State) (k : Fin 6) (m : LinkMsg), s.dev.linkRole k = 1 → s.dev.rf R.TRV_GRP_CTL F.TRV_GRP_CTL_MODE = 1 → s.dev.attachBusy < 8 →
    let d := s.dev.takeMsg k m
    let f : Fetched := { idx := m.src.toNat * 256 + m.tag.toNat, desc := BitVec.ofNat 512 (ofLe (slice 0 64 m.data)), ord := d.host.fetches }
    Completes (.mbxCmd k m) s { s with dev := { d with host := { d.host with
      fetches := d.host.fetches + 1, attach := { d.host.attach with fetched := d.host.attach.fetched ++ [f] } } } }) ∧
  (∀ (s : State) (k : Fin 6) (m : LinkMsg), s.dev.linkRole k = 2 →
    Completes (.storeRead k m) s (s.onDev (fun d => d.sendReq k { m with typ := 0x06, data := [] })) ∧
    Completes (.storeWrite k m) s (s.onDev (fun d => d.sendReq k { m with typ := 0x07 }))) ∧
  (∀ (s : State) (k : Fin 6) (m : LinkMsg), leAt m.data 2 1 ≠ 0x07 →
    Completes (.gdl k m) s (s.onDev (fun d => ((d.takeMsg k m).bump R.GDL_TUNNEL_CNT F.GDL_TUNNEL_CNT_RX).emit (.gdlFrame
      { dst := leAt m.data 0 1, src := leAt m.data 1 1, op := leAt m.data 2 1, payload := slice 4 (leAt m.data 3 1) m.data })))) ∧
  (∀ (s : State) (k : Fin 6) (m : LinkMsg) (q : QReq), ((s.dev.takeMsg k m).link k).asked.find? (fun q => q.tag == m.tag.toNat) = some q → q.typ ≠ 0x03 →
    let e := (s.dev.takeMsg k m).updLink k (fun l => { l with asked := l.asked.erase q })
    (¬(k = storageLink ∧ (q.typ = 0x06 ∨ q.typ = 0x07)) → Completes (.linkResponse k m) s { s with dev := e }) ∧
    (k = storageLink ∧ (q.typ = 0x06 ∨ q.typ = 0x07) → Completes (.linkResponse k m) s { s with dev := match e.jobOfTag q.tag with
      | some j => e.siteReply { j with tag := none } m
      | none => e })) ∧
  (∀ (s : State) (k : Fin 6) (s1 : Bool) (ev : BitVec 64) (es : List (BitVec 64)) (l : List (List (BitVec 64))),
    let c : Fin 2 := if s1 then 1 else 0
    (s.dev.link k).rxS[c] = (ev :: es) :: l → (s.dev.routeOf ev).1 = 0 →
    Completes (.trunkEvent (.link k s1)) s (s.onDev (fun d => (d.popRx k c).bump (R.TRV_RT_DROP k) F.TRV_RT_DROP_DROP))) ∧
  (∀ (s : State) (k o : Fin 6) (ev : BitVec 64) (es : List (BitVec 64)) (l : List (List (BitVec 64))), k ≠ o →
    (s.dev.link k).rxS[0] = (ev :: es) :: l → s.dev.routeOf ev = (o.val + 2, true) → malformed ev = false → fget evHops ev ≠ 31 →
    s.dev.carries o = true →
    (s.dev.link o).takes (s.dev.chanOn o (some (k, false))) = true →
    Completes (.trunkEvent (.link k false)) s (s.onDev (fun d => (d.popRx k 0).toLink o (d.chanOn o (some (k, false))) (addHops ev 2))))

/-- Served: POWER_STATUS answers the domains on and in retention; POWER_SET_DOMAIN of a sleeping domain to on starts its wake and waits, and to
a deeper state with no hold starts a request set and waits; POWER_SET_POLICY of a fitted stack sets its policy; CLOCK_SET of the Dense clock
starts a change and waits, of CLKOUT sets source and divisor, of spread sets the PLLs named; TELEMETRY_READ reports; POWER_SET_CAP sets the
cap. Rests on the model's choices and readings of log entries 38, 45, 47. -/
def Obligations.PowerCommandsTakeEffect : Prop :=
  (∀ (s : State) (c : Cmd), Served specPowerStatus c s → c.dataLen = 0 →
    ∃ l, Completes (.powerStatus c) s (s.finished c { s.dev with lat := l }
      (BitVec.ofNat 64 (maskOf ((s.dev.seenDomains c).filter (fun i => s.dev.domSt i == .on))))
      (BitVec.ofNat 64 (maskOf ((s.dev.seenDomains c).filter (fun i => s.dev.domSt i == .retained)))))) ∧
  (∀ (s : State) (c : Cmd), Served specPowerSetDomain c s → c.p 0 < 36 → c.p 0 ≠ 1 → c.p 1 = 0 → s.dev.domBusy (c.p 0) = false →
    (s.dev.domSt (c.p 0) = .retained ∨ s.dev.domSt (c.p 0) = .off) →
    Completes (.powerSetDomain c) s (s.held c (s.dev.startWake (c.p 0)) (.power (c.p 0)))) ∧
  (∀ (s : State) (c : Cmd) (e : Dev), Served specPowerSetDomain c s → c.p 0 < 36 → c.p 0 ≠ 1 → (c.p 1 = 1 ∨ c.p 1 = 2) → s.dev.domBusy (c.p 0) = false →
    s.dev.domSt (c.p 0) = .on → onOnly (c.p 0) = false → s.dev.pwr.req = none → s.dev.startRequest (c.p 0) (c.p 1) .command = (e, none) →
    Completes (.powerSetDomain c) s (s.held c e (.power (c.p 0)))) ∧
  (∀ (s : State) (c : Cmd), Served specPowerSetPolicy c s → 31 ≤ c.p 0 → c.p 0 ≤ 34 → s.dev.fus.domFitted (c.p 0) = true → c.p 1 ≤ 1 →
    Completes (.powerSetPolicy c) s (s.finished c (s.dev.updDom (c.p 0) (fun x => { x with policy := c.p 1 == 1 })))) ∧
  (∀ (s : State) (c : Cmd), Served specClockSet c s → c.p 0 = 0 → c.pn 4 4 ≤ s.dev.fus.denseMhz → 400 ≤ c.pn 4 4 → c.pn 4 4 % 25 = 0 →
    (s.dev.fus.railMode = false ∨ c.pn 4 4 ≤ 1400 ∨ 880 ≤ s.dev.rf R.TEL_VCORE F.TEL_VCORE_MV) → s.dev.clks.change = none →
    Completes (.clockSetDense c) s (s.held c (s.dev.startDense (c.pn 4 4) true) .dense)) ∧
  (∀ (s : State) (c : Cmd), Served specClockSet c s → c.p 0 = 1 → c.pn 4 4 ≤ 25 →
    (9 ≤ c.pn 4 4 → c.pn 4 4 ≤ 24 → bit s.dev.fus.ports (c.pn 4 4 - 9) = true) → 1 ≤ c.pn 8 4 → c.pn 8 4 ≤ 65536 →
    s.dev.clkoutKhz (c.pn 4 4) ≤ 100000 * c.pn 8 4 →
    Completes (.clockSetClkout c) s (s.finished c (((s.dev.setRf R.CLKOUT_CFG F.CLKOUT_CFG_EN (b2n (c.pn 4 4 != 0))).setRf R.CLKOUT_CFG F.CLKOUT_CFG_SRC
      (c.pn 4 4)).setRf R.CLKOUT_CFG F.CLKOUT_CFG_DIV_M1 (c.pn 8 4 - 1)))) ∧
  (∀ (s : State) (c : Cmd), Served specClockSet c s → 2 ≤ c.p 0 → c.p 0 ≤ 8 →
    (∀ p ∈ spreadPlls (c.p 0), c.pn 12 2 ≤ (spreadLimit p).1 ∧ (spreadLimit p).2.1 ≤ c.pn 14 2 ∧ c.pn 14 2 ≤ (spreadLimit p).2.2) →
    Completes (.clockSetSpread c) s (s.finished c (s.dev.forEach (spreadPlls (c.p 0)) (fun p d => d.setSpread p (sscWord (c.pn 12 2) (c.pn 14 2)))))) ∧
  (∀ (s : State) (c : Cmd), Served specTelemetryRead c s → c.dataLen = 0 → c.pn 0 8 < 2 ^ 36 →
    ∃ l, Completes (.telemetryRead c) s (s.finished c { s.dev with lat := l })) ∧
  (∀ (s : State) (c : Cmd), Served specPowerSetCap c s → c.pn 0 2 ≤ s.dev.fus.capW →
    Completes (.powerSetCap c) s (s.finished c { s.dev with pwr := { s.dev.pwr with capSet := c.pn 0 2 } }))

/-- The head of a request set begins QUIESCE's next stage when quiet, and at the end of RESET reaches its state; a wake event reaches a domain
of the running set; an access on demand starts a wake; a waking domain whose dependencies are on, and whose regulator step from off has begun, becomes on; an
idle plane's retention timer, where it expires first, starts an entry to retention; the firmware takes an idle SURVEYOR to retention; PWR_REQ.GO asks for a domain; the limiter, the cap loop, temperature
samples, telemetry frames and supply events have their effects; a FAULTED Gallery whose erasure is late is held off with ABSENT, and one
without its discard sink gets DRAIN. Rests on the model's choices and readings of log entries 3, 7, 45. -/
def Obligations.PowerEventsTakeEffect : Prop :=
  (∀ (s : State) (i : Fin 36) (q : ReqSet) (tl : List Nat), s.dev.pwr.req = some q → q.refusal = none → q.todo = i.val :: tl →
    s.dev.domSt i = .entering → s.dev.domStage i = 1 → s.dev.quiet i = true →
    Completes (.domainEntryStage i false) s (s.onMach (fun m => Mach.drainStacks { m with dev := m.dev.toStage q i 2 } i))) ∧
  (∀ (s : State) (i : Fin 36) (q : ReqSet) (tl : List Nat), s.dev.pwr.req = some q → q.refusal = none → q.todo = i.val :: tl →
    s.dev.domSt i = .entering → s.dev.domStage i = 5 →
    Completes (.domainEntryStage i false) s (s.onMach (fun m => Mach.drainStacks { lowerDom i q.target m with
      dev := (lowerDom i q.target m).dev.nextDom q tl (i.val :: q.lowered) } i))) ∧
  (∀ (s : State) (i : Fin 36), s.dev.inEntry i = true → Completes (.wakeEvent i) s (s.onDev (fun d => d.updDom i (fun x => { x with wakeEvent := true })))) ∧
  (∀ (s : State) (i : Fin 36), s.dev.domSt i = .retained → s.dev.inEntry i = false → s.dev.domPolicy i = true →
    Completes (.domainWake i) s (s.onDev (fun d => d.startWake i))) ∧
  (∀ (s : State) (i : Fin 36), s.dev.domSt i = .waking → (domDeps i).all (fun j => s.dev.domSt j == .on) = true → s.dev.pwr.req = none →
    (s.dev.domPrior i = 2 → s.dev.grantRamps.pwr.ramps.contains i.val = true) →
    let d := s.dev.grantRamps.bump (R.PWR_DOM_CNT i) F.PWR_DOM_CNT_WAKES
    let e := ((((d.domTo i .on).grantRamps).domainUp i (s.dev.domPrior i)).release (Wait.isPower i) .ok 1 0 0).endUnwind
    Completes (.wakeReady i []) s (s.onMach (fun m => (Mach.drainStacks { m with dev := e } i).serveWrites))) ∧
  (∀ (s : State) (p : Fin 8), s.dev.domSt (12 + p.val) = .on → s.dev.rf (R.DNS_PWR_CFG p) F.DNS_PWR_CFG_IDLE_RET ≠ 0 → s.dev.planeIdle p = true →
    (s.dev.rf (R.DNS_PWR_CFG p) F.DNS_PWR_CFG_IDLE_OFF = 0 ∨
      s.dev.rf (R.DNS_PWR_CFG p) F.DNS_PWR_CFG_IDLE_RET ≤ s.dev.rf (R.DNS_PWR_CFG p) F.DNS_PWR_CFG_IDLE_OFF * 1000) → s.dev.pwr.req = none →
    Completes (.dnsIdleTimer p) s (s.onDev (fun d => (d.startRequest (12 + p.val) 1 .idleTimer).1))) ∧
  (∀ (s : State), s.dev.mirState = 2 → s.dev.domSt 1 = .on → s.dev.noCommand = true → s.dev.pwr.req = none →
    Completes .surveyorIdleEntry s (s.onDev (fun d => (d.startRequest 1 1 .firmware).1))) ∧
  (∀ (s : State) (i : Fin 64) (t : Fin 4), i.val < 36 → t.val ≤ 2 → Completes (.pwrReqGo i t) s (s.onDev (fun d => d.askPower i t .firmware))) ∧
  (∀ (s : State) (mean inst : Nat), s.dev.fus.iSus < mean → inst ≤ s.dev.fus.iPeak → s.dev.pwr.stopJobs = false →
    Completes (.currentLimit mean inst) s (s.onDev (fun d => d.updPwr (fun p => { p with secondSlot := true, stopJobs := false, throttledMs := true })))) ∧
  (∀ (s : State), s.dev.serving = true → mean s.dev.pwr.history ≤ s.dev.pwr.capSet * 10 → s.dev.pwr.capSet * 90 ≤ mean s.dev.pwr.history * 10 →
    Completes .capLoop s (s.onDev (fun d => d.updPwr (fun p => { p with below := 0 })))) ∧
  (∀ (s : State) (r : Fin 96) (t : BitVec 8), t.toNat < s.dev.rf R.PWR_CTL F.PWR_CTL_TJ_HI → t.toNat < 105 → s.dev.pwr.hotSlot = false →
    (List.range 4).any (fun k => (s.dev.setReg R.PWR_TJ (BitVec.ofNat 32 (r.val * 256 + t.toNat))).rf (R.STK_STAT k) F.STK_STAT_HOT == 1) = false →
    ∃ x, Completes (.tjSample r t) s x ∧ x.dev.regs = (s.dev.setReg R.PWR_TJ (BitVec.ofNat 32 (r.val * 256 + t.toNat))).regs ∧ x.mem = s.mem) ∧
  (∀ (s : State) (r : TelFrame), ∃ x, Completes (.telemetryFrame r) s x ∧ x.dev.pwr.history = (r.pkg % 65536 :: s.dev.pwr.history).take 10 ∧
    x.dev.pwr.throttledMs = false) ∧
  (∀ (s : State), Completes (.supplyUndervoltage true) s (s.onMach (fun m => coldReset m.dev.boot.coldPin true m))) ∧
  (∀ (s : State), Completes .supplyReturn s (s.onDev (fun d => { d with boot := { d.boot with coldInternal := false } }))) ∧
  (∀ (s : State) (g : Fin 8), (s.dev.gal g).st = .faulted → (s.dev.gal g).eraseQ ≠ [] →
    Completes (.faultedEraseTimeout g) s (s.onMach (fun m =>
      let x := holdOff 1 (4 + g.val) (holdOff 1 (12 + g.val) m)
      { x with dev := x.dev.forEach (m.dev.gal g).eraseQ (fun p d => d.portErased (fin16 p)) }))) ∧
  (∀ (s : State) (g : Fin 8), (s.dev.gal g).st = .faulted →
    Completes (.discardSinkTimeout g) s (s.onDev (fun d => (d.emit (.gdlFrame { dst := stNode g.val, src := 0, op := 5, payload := [1] })).updGal g
      (fun x => { x with sink := true }))))

/-- A window of a working monitor records its count, and four in band in a row make its clock stable; loss of the reference moves powered time
to RC and fails the device; a restarted resonator moves it back and a warm start follows; a Dense change whose planes have finished relocks
PLL-D, and one still busy after 50 µs ends with nothing changed; a good relock ungates its PLL, and at a Dense change gives the new
frequency. Rests on the model's choices and readings of log entries 3, 47. -/
def Obligations.ClockEventsTakeEffect : Prop :=
  (∀ (s : State) (m : Fin 30) (count : Nat), (s.dev.mon m).relock = false → s.dev.domOn (monDomain m) = true →
    let d := s.dev.setRf (R.CLK_MON_STAT m) F.CLK_MON_STAT_COUNT (count % 2 ^ 24)
    d.inBand m count = true → ((s.dev.mon m).good < 3 ∨ (s.dev.mon m).stable = true) →
    Completes (.monitorWindow m count true) s { s with dev := d.updMon m (fun y => { y with good := min 4 ((s.dev.mon m).good + 1), bad := 0 }) }) ∧
  (∀ (s : State) (m : Fin 30) (count : Nat), (s.dev.mon m).relock = false → s.dev.domOn (monDomain m) = true →
    let d := s.dev.setRf (R.CLK_MON_STAT m) F.CLK_MON_STAT_COUNT (count % 2 ^ 24)
    d.inBand m count = true → (s.dev.mon m).good = 3 → (s.dev.mon m).stable = false →
    Completes (.monitorWindow m count true) s { s with dev := d.clockStable m true }) ∧
  (∀ (s : State), s.dev.rf R.CLK_STAT F.CLK_STAT_PT_RC = 0 → s.dev.boot.inCold = false →
    Completes .referenceLoss s (s.onDev (fun d => ((d.clockStable 0 false).clockFault 0).referenceLoss))) ∧
  (∀ (s : State) (t : Nat), s.dev.clks.rcSince = some t →
    let d := (s.dev.setRf R.CLK_STAT F.CLK_STAT_PT_RC 0).updClk (fun c => { c with rcSince := none })
    let e := (d.clockStable 0 true).collect (Flt.refLoss (((d.clockStable 0 true).clk - t) / 100))
    e.boot.resume = none →
    Completes (.resonatorRestart true) s { s with dev := (warmHold { dev := e, mem := s.mem }).dev, mem := (warmHold { dev := e, mem := s.mem }).mem }) ∧
  (∀ (s : State) (c : DenseChg), s.dev.clks.change = some c → s.dev.denseStep = 3 → s.dev.planes.all Plane.still = true →
    Completes (.denseChangeDrain false) s (s.onDev (fun d => (((d.startRelock 2).clockStable 2 false).updMon 2 (fun x => { x with relock := true })).setRf
      R.CLK_DCHG_STAT F.CLK_DCHG_STAT_STEP 5))) ∧
  (∀ (s : State) (c : DenseChg), s.dev.clks.change = some c → s.dev.denseStep = 3 → s.dev.planes.all Plane.still = false →
    Completes (.denseChangeDrain true) s (s.onDev (fun d => (d.endDense.bump R.CLK_DCHG_CNT F.CLK_DCHG_CNT_BUSY).release Wait.isDense .busy 0 0 (detail .state 3)))) ∧
  (∀ (s : State) (c : DenseChg), (s.dev.mon 2).relock = true → s.dev.denseStep = 5 → s.dev.clks.change = some c →
    Completes (.relockDone 1 true) s (s.onDev (fun d => d.denseRelocked c true))) ∧
  (∀ (s : State), (s.dev.mon 1).relock = true → Completes (.relockDone 0 true) s (s.onDev (fun d => d.pllUp 1)))

/-- COLD_N and WARM_N held low for 10 µs reset the device; COLD_START with both sources released runs stages 0 to 10, WARM_START with WARM_N
held runs a warm start; the boot watchdog starts a device warm a second time; TRIAL_CONFIRM after 60 s of ONLINE makes the trial slot the confirmed
one; a Surveyor trigger outside a trial starts its recovery; the end of the reload returns the device to ONLINE; BEAT advances LNT_MIR_BEAT; a
hottest reading below 90 °C after a thermal trip starts the device warm. Rests on the model's choices and readings of log entries 3, 48, 49. -/
def Obligations.StartCommandsTakeEffect : Prop :=
  (∀ (s : State) (ns : Nat), 10000 ≤ ns →
    Completes (.coldN ns) s { s with mem := [], dev :=
      let d := Dev.cold s.dev.fus s.dev.led
      { d with freeCtr := s.dev.freeCtr, outbox := s.dev.outbox, boot := { coldPin := true, coldInternal := s.dev.boot.coldInternal } } }) ∧
  (∀ (s : State) (ns : Nat), 10000 ≤ ns → s.dev.boot.inCold = false → s.dev.boot.testMode = false → s.dev.boot.resume = none → s.dev.mirState ≠ 4 →
    Completes (.warmN ns) s (s.onMach warmHold)) ∧
  (∀ (s : State) (x : StartInputs), s.dev.boot.inCold = true → s.dev.boot.coldInternal = false →
    Completes (.coldStart x) s (s.onMach (fun m => runStages true x [0, 1, 2, 3, 4, 5, 6, 7, 8, 9, 10]
      { m with dev := m.dev.updBoot (fun b => { b with coldPin := false, inCold := false }) }))) ∧
  (∀ (s : State) (x : StartInputs), s.dev.boot.warmAt = none → s.dev.boot.inCold = false → s.dev.boot.warmHeld = true → s.dev.clks.rcSince = none →
    Completes (.warmStart x) s (s.onMach (runWarm x))) ∧
  (∀ (s : State), s.dev.mirState = 1 → 5 ≤ s.dev.rf R.LNT_MIR_STATE F.LNT_MIR_STATE_STAGE → s.dev.boot.warmHeld = false → s.dev.boot.inCold = false →
    s.dev.boot.trial = false → s.dev.boot.retried = false →
    Completes .bootWatchdog s (s.onMach (fun m => warmHold { m with dev := m.dev.updBoot (fun b => { b with retried := true }) }))) ∧
  (∀ (s : State), s.dev.mirState = 2 → s.dev.onlineLong = true → s.dev.boot.trial = true → s.dev.boot.secver ≤ s.dev.fus.secver →
    Completes .trialConfirm s (s.onDev (fun d => ((d.updLed (fun l => l.writeBoot d.boot.slot none)).setRf R.LNT_BOOT_STAT F.LNT_BOOT_STAT_TRIAL 0).updBoot
      (fun b => { b with trial := false })))) ∧
  (∀ (s : State) (r : Fin 5), 2 ≤ r.val → s.dev.mirState = 2 → s.dev.boot.trial = false →
    Completes (.surveyorRecovery r) s (s.onDev (fun d => d.recoverSurveyor r))) ∧
  (∀ (s : State), s.dev.mirState = 2 → s.dev.boot.trial = false → Completes .panic s (s.onDev (fun d => d.recoverSurveyor 4))) ∧
  (∀ (s : State), s.dev.mirState = 3 → Completes (.recoveryReturn 0) s (s.onDev (fun d =>
    let us := (d.clk - d.boot.recoverAt) / 100
    let e := ((d.domTo 1 .on).drain true).interruptAll
    let e := (e.setRf R.FLT_STAT F.FLT_STAT_RECOVERING 0).setRf R.FLT_RECOV F.FLT_RECOV_LAST_MS (min 0xFFFF (us / 1000))
    (e.setMirror 2 0).collect (Flt.ret us)))) ∧
  (∀ (s : State), s.dev.mirState = 2 → s.dev.domOn 1 = true →
    Completes .beat s (s.onDev (fun d => (d.wakeEvent 1).setReg R.LNT_MIR_BEAT (d.reg R.LNT_MIR_BEAT + 1)))) ∧
  (∀ (s : State) (t : Nat), s.dev.mirState = 4 → s.dev.mirReason = 5 → t < 90 → Completes (.thermalRecovery t) s (s.onMach warmHold))

/-- PE_RST_N and HOT_RESET quiesce every function's rings, break its locks, mask its vectors and clear VF Enable; FLR, a cleared VF Enable and D3hot
do their part of this; a BAR2 or BAR4 access within its BAR is the host master's access of the scratchpad or the stacks; a BAR0 access within the BAR
is served word by word, the lower first, and one of a wrong size or alignment counts, and as a read ends as an error; each doorbell's new value
latches within its ring; EN = 1 makes OFF rings ACTIVE, EN = 0 makes ACTIVE rings QUIESCING, and quiesced rings reach OFF with indices 0, when the
firmware gives a VF its master regions; a lock read answers the lock word, and its owner's release frees it; an interrupt timer signals what is
unsignalled. Rests on the model's choices and readings of log entries 37, 45, 58. -/
def Obligations.HostEventsTakeEffect : Prop :=
  (∀ s : State, Completes .peRstN s (s.onDev hotReset) ∧ Completes .hotReset s (s.onDev hotReset)) ∧
  (∀ (s : State) (f : Func), Completes (.flr f) s (s.onDev (fun d =>
    ((d.resetRings f).updRing f (fun r => { r with flr := r.resetOnOff })).raiseLife (lifeOfFunc f)))) ∧
  (∀ (s : State), Completes .vfEnableCleared s (s.onDev (fun d =>
    let e := d.forEach [0, 1, 2, 3, 4, 5, 6, 7] (fun f d => (d.resetRings f).raiseLife (lifeOfFunc f))
    { e with host := { e.host with vfEnable := false } }))) ∧
  (∀ (s : State) (f : Func), Completes (.d3hot f) s (s.onDev (fun d => (d.quiesce f).updRing f (fun r => { r with d3 := true })))) ∧
  (∀ (s : State) (a : BarAccess), a.bar4 = true → a.off + a.len ≤ 2 ^ 37 →
    let errs : List MemErr := a.errs.map (fun e => { addr := e.1, ue := e.2 })
    Completes (.barAccess a) s (s.onMach (stackAccess { req := .master 2 a.func, sa := a.off, len := a.len, write := a.write, errs := errs }))) ∧
  (∀ (s : State) (a : BarAccess), a.bar4 = false → a.off + a.len ≤ 0x1000000 →
    let errs : List MemErr := a.errs.map (fun e => { addr := e.1, ue := e.2 })
    Completes (.barAccess a) s (s.onMach (scpAccess { m := 2, func := a.func, off := a.off, len := a.len, write := a.write, errs := errs }))) ∧
  (∀ (s : State) (a : Bar0Access), s.dev.host.linkUp = true → s.dev.domOn 30 = true → a.off + a.size ≤ barSize a.func 0 → (a.size = 4 ∨ a.size = 8) →
    a.off % a.size = 0 → a.write = none →
    Completes (.bar0BadAccess a) s (s.onDev (fun d =>
      let r := d.bar0Reads a.func ((List.range (a.size / 4)).map (fun i => a.off + 4 * i))
      r.2.emit (.barData a.func r.1)))) ∧
  (∀ (s : State) (a : Bar0Access) (v : Nat), s.dev.host.linkUp = true → s.dev.domOn 30 = true → a.off + a.size ≤ barSize a.func 0 →
    (a.size = 4 ∨ a.size = 8) → a.off % a.size = 0 → a.write = some v →
    Completes (.bar0BadAccess a) s (s.onDev (fun d => d.forEach ((List.range (a.size / 4)).map (fun i => a.off + 4 * i))
      (fun off d => d.bar0Write a.func off (BitVec.ofNat 32 (v / 2 ^ (8 * (off - a.off)))))))) ∧
  (∀ (s : State) (a : Bar0Access), s.dev.host.linkUp = true → s.dev.domOn 30 = true → a.off + a.size ≤ barSize a.func 0 →
    ((a.size ≠ 4 ∧ a.size ≠ 8) ∨ a.off % a.size ≠ 0) → a.write = none →
    Completes (.bar0BadAccess a) s (s.onDev (fun d => (d.bump R.HST_BAR_ERR F.HST_BAR_ERR_ERR).emit (.barError a.func)))) ∧
  (∀ (s : State) (a : Bar0Access) (v : Nat), s.dev.host.linkUp = true → s.dev.domOn 30 = true → a.off + a.size ≤ barSize a.func 0 →
    ((a.size ≠ 4 ∧ a.size ≠ 8) ∨ a.off % a.size ≠ 0) → a.write = some v →
    Completes (.bar0BadAccess a) s (s.onDev (fun d => d.bump R.HST_BAR_ERR F.HST_BAR_ERR_ERR))) ∧
  (∀ (s : State) (f : Func) (v : BitVec 32), (s.dev.ring f).st ≠ .off → v ≠ (s.dev.ring f).cmdPi →
    (v - (s.dev.ring f).cmdPi).toNat ≤ s.dev.cmdSize f → (v - (s.dev.ring f).cmdCi).toNat ≤ s.dev.cmdSize f →
    Completes (.mbxCmdPiDb f v) s (s.onDev (fun d => (d.updRing f (fun r => { r with cmdPi := v })).wakeSurveyor))) ∧
  (∀ (s : State) (f : Func) (v : BitVec 32), (s.dev.ring f).st = .active → v ≠ (s.dev.ring f).cplCi →
    (v - (s.dev.ring f).cplCi).toNat ≤ s.dev.cplSize f → ((s.dev.ring f).cplPi - v).toNat ≤ s.dev.cplSize f →
    Completes (.mbxCplCiDb f v) s (s.onDev (fun d =>
      let e := (d.updRing f (fun r => { r with cplCi := v })).wakeSurveyor
      e.flushNotices f (e.ring f).notices))) ∧
  (∀ (s : State) (f : Func) (v : BitVec 32), (s.dev.ring f).st ≠ .off → v ≠ (s.dev.ring f).resCi →
    (v - (s.dev.ring f).resCi).toNat ≤ s.dev.resSize f → ((s.dev.ring f).resPi - v).toNat ≤ s.dev.resSize f →
    Completes (.mbxResCiDb f v) s (s.onDev (fun d => (d.updRing f (fun r => { r with resCi := v })).wakeSurveyor))) ∧
  (∀ (s : State) (f : Func), (s.dev.ring f).st = .off → (s.dev.setRf (R.MBX_RING_CTL f) F.MBX_RING_CTL_EN 1).ringCfgOk f = true →
    Completes (.ringEnable f) s (s.onDev (fun d => (d.setRf (R.MBX_RING_CTL f) F.MBX_RING_CTL_EN 1).updRing f
      (fun r => { r with st := .active, reason := 0, quiesced := false })))) ∧
  (∀ (s : State) (f : Func), (s.dev.ring f).st = .active →
    Completes (.ringDisable f) s (s.onDev (fun d => ((d.setRf (R.MBX_RING_CTL f) F.MBX_RING_CTL_EN 0).orphanAll f).updRing f
      (fun r => { r with st := .quiescing, reason := 0, quiesced := false })))) ∧
  (∀ (s : State) (f : Func), (s.dev.ring f).st = .quiescing → (s.dev.ring f).resetOnOff = false →
    Completes (.quiesceComplete f) s (s.onDev (fun d => ((d.updRing f (fun r => { r with
      st := .off, reason := 0, quiesced := true, flr := false, resetOnOff := false, cmdPi := 0, cmdCi := 0, cplPi := 0, cplCi := 0, resPi := 0,
      resCi := 0, notices := [], cplUnsignalled := 0, resUnsignalled := 0 })).vfEvent f).vfRegions f))) ∧
  (∀ (s : State) (f : Func), 0 < (s.dev.ring f).cplUnsignalled →
    Completes (.cplCoalesceTimer f) s (s.onDev (fun d => (d.updRing f (fun r => { r with cplUnsignalled := 0 })).interrupt f .cpl))) ∧
  (∀ (s : State) (f : Func), 0 < (s.dev.ring f).resUnsignalled →
    Completes (.resCoalesceTimer f) s (s.onDev (fun d => (d.updRing f (fun r => { r with resUnsignalled := 0 })).interrupt f .res))) ∧
  (∀ (s : State) (u : LockUser) (n : Fin 64), s.dev.granted n (ownerId u) = true → (s.dev.locks[n]).owner = 0 →
    let life := s.dev.rf (R.LCK_LIFE (lifeOfOwner (ownerId u))) F.LCK_LIFE_LIFE
    let broken := (s.dev.locks[n]).broken
    Completes (.lckAcq u n) s (s.onDev (fun d => { d with
      locks := d.locks.set n { owner := ownerId u, life := life, broken := false }
      outbox := Output.lockWord (ownerId u) (lockWord broken (if broken then 1 else 0) life (ownerId u)) :: d.outbox }))) ∧
  (∀ (s : State) (u : LockUser) (n : Fin 64) (v : BitVec 32), (s.dev.locks[n]).owner = ownerId u → bit v 0 = true →
    Completes (.lckRel u n v) s (s.onDev (fun d => { d with locks := d.locks.set n {} })))

/-- A descriptor fetched from an ACTIVE ring with room is staged and CMD_CI rises; a staged command that need not wait starts and is served by
its opcode; a finished command's completion is written at CPL_PI, and a notice is posted. Rests on the model's choices and readings of log
entries 37, 38. -/
def Obligations.CommandTransportTakesEffect : Prop :=
  (∀ (s : State) (f : Func) (desc : BitVec 512), (s.dev.ring f).st = .active → (s.dev.ring f).cmdCi ≠ (s.dev.ring f).cmdPi →
    s.dev.inProgress f < (if f = pf then 32 else 8) → 5 ≤ s.dev.cplFree f → s.dev.mayFetch (bits desc 15 0) = true →
    Completes (.commandFetch f (.got desc)) s (s.onDev (fun d =>
      let e := (d.emit (.cmdFetch f (d.cmdAddr f (d.ring f).cmdCi.toNat))).updRing f (fun r => { r with cmdCi := r.cmdCi + 1, fetched := r.fetched ++
        [{ idx := (d.ring f).cmdCi.toNat, desc := desc, ord := d.host.fetches }] })
      { e with host := { e.host with fetches := d.host.fetches + 1 } }.statusBlock f))) ∧
  (∀ (s : State) (f : Func) (x : Fetched) (t : List Fetched) (b : Buf) (env : CmdEnv) (o : Opcode), (s.dev.ring f).fetched = x :: t → x.orphan = false →
    let c : Cmd := { issuer := .fn f, idx := x.idx, desc := x.desc, buf := b, env := env }
    s.dev.mayFetch c.opcode = true → s.dev.mustWait c x = false → s.dev.domOn 1 = true → opcodeOf c.opcode = some o →
    Completes (.commandStart (.fn f) b env) s (s.onMach (fun m => o.serve c { m with dev := m.dev.updRing f (fun r => { r with fetched := r.fetched.drop 1 }) }))) ∧
  (∀ (s : State) (f : Func) (c : Cpl) (t : List Cpl), (s.dev.ring f).done = c :: t → c.orphan = false → (s.dev.ring f).st = .active →
    ((s.dev.ring f).cplPi - (s.dev.ring f).cplCi).toNat < s.dev.cplSize f →
    Completes (.completionWrite (.fn f)) s (s.onDev (fun d => (d.updRing f (fun r => { r with done := t })).writeCpl f c))) ∧
  (∀ (s : State) (f : Func) (k : Fin 7) (arg : BitVec 64), k ≠ 0 → Completes (.notice f k arg) s (s.onDev (fun d => d.notice f k.val arg)))

/-- An admitted stack read answers the units it spans and an admitted write below the watermark stores its bytes; a command whose retry fails
too ends in an error, and an admitted access to a held stack waits at its node; a fill of a valid region starts and, at FILL_TO, ends; a
READY stack is refreshed and its temperature kept; a passing background test moves on; an admitted
scratchpad write stores its bytes and a read answers them; a copied bank ends the copy; a march starts where its form and precondition hold,
and ends; each training state of a stack leads to the next. Rests on the model's choices and readings of log entries 3, 9, 36. -/
def Obligations.MemoryCommandsTakeEffect : Prop :=
  (∀ (s : State) (a : StackAccess) (k : Fin 4) (l : Nat) (r : Fin 16), stackPlace s.dev.fus.high a.sa = some (k, l) → s.dev.stackHeld k = false →
    s.dev.stackReady k = true → a.write = none → a.ca ≠ 2 → s.dev.admitStack a.req k a.sa a.len false = some r →
    Completes (.stackAccess a) s (s.onMach (fun m =>
      let m := if a.ca = 0 then m else { m with dev := m.dev.updStk k (fun y => { y with caErrs := y.caErrs + a.ca.val }) }
      let u0 := a.sa / 64
      let x := m.readUnits k r a.errs ((List.range ((a.sa + a.len + 63) / 64 - u0)).map (fun i => u0 + i))
      { x.2.2 with dev := x.2.2.dev.emit (.memData a.req (slice (a.sa % 64) a.len x.1) (!x.2.1.isEmpty)) }))) ∧
  (∀ (s : State) (a : StackAccess) (k : Fin 4) (l : Nat) (r : Fin 16) (b : List Byte), stackPlace s.dev.fus.high a.sa = some (k, l) →
    s.dev.stackHeld k = false → s.dev.stackReady k = true → a.write = some b → a.ca ≠ 2 → s.dev.admitStack a.req k a.sa b.length true = some r →
    (a.sa + b.length + 63) / 64 ≤ s.dev.rgnWm k r →
    Completes (.stackAccess a) s (s.onMach (fun m =>
      let m := if a.ca = 0 then m else { m with dev := m.dev.updStk k (fun y => { y with caErrs := y.caErrs + a.ca.val }) }
      let x := (m.fillTo k r (m.dev.rgnWm k r)).storeBytes k a.sa b
      { x with dev := x.dev.emit (.memDone a.req) }))) ∧
  (∀ (s : State) (a : StackAccess) (k : Fin 4) (l : Nat) (r : Fin 16), stackPlace s.dev.fus.high a.sa = some (k, l) → s.dev.stackHeld k = false →
    s.dev.stackReady k = true → a.write = none → a.ca = 2 → s.dev.admitStack a.req k a.sa a.len false = some r →
    Completes (.stackAccess a) s (s.onDev (fun d => (d.updStk k (fun y => { y with caErrs := y.caErrs + 2 })).emit (.memError a.req)))) ∧
  (∀ (s : State) (a : StackAccess) (k : Fin 4) (l : Nat) (r : Fin 16), stackPlace s.dev.fus.high a.sa = some (k, l) → s.dev.stackHeld k = true →
    a.write = none → s.dev.admitStack a.req k a.sa a.len false = some r →
    Completes (.stackAccess a) s (s.onDev (fun d => d.queueStack k r a))) ∧
  (∀ (s : State) (k : Fin 4) (r : Fin 16), s.dev.rgnValid k r = true → s.dev.stackReady k = true →
    Completes (.fill k r) s (s.onDev (fun d => (d.setWm k r (d.rgnWm k r)).setRf (R.STK_RGN_CTL k r) F.STK_RGN_CTL_FILLING 1))) ∧
  (∀ (s : State) (k : Fin 4) (r : Fin 16), s.dev.rf (R.STK_RGN_CTL k r) F.STK_RGN_CTL_FILLING = 1 →
    Completes (.fillComplete k r) s (s.onMach (fun m =>
      let x := m.fillTo k r (m.dev.rf (R.STK_RGN_FILL k r) F.STK_RGN_FILL_FILL_TO)
      { x with dev := (x.dev.setRf (R.STK_RGN_CTL k r) F.STK_RGN_CTL_FILLING 0).release (Wait.isFill k r.val) .ok 0 0 0 }))) ∧
  (∀ (s : State) (k : Fin 4), s.dev.stackReady k = true → Completes (.refresh k) s (s.onDev (fun d =>
    (d.emit (.refresh k (d.stk k).nextBank.val)).updStk k (fun x => { x with nextBank := x.nextBank + 1 })))) ∧
  (∀ (s : State) (k : Fin 4) (t : BitVec 8), (s.dev.stk k).st = .ready → t.toNat ≤ 95 →
    Completes (.stackTempRead k t) s (s.onDev (fun d => (((d.updStk k (fun x => { x with temp := t.toNat, double := decide (85 < t.toNat) })).setRf
      (R.STK_STAT k) F.STK_STAT_TEMP (min (t.toNat / 2) 63)).setRf (R.STK_STAT k) F.STK_STAT_HOT 0)))) ∧
  (∀ (s : State), s.dev.rf R.SCP_CTL F.SCP_CTL_BG_EN = 1 → Completes (.backgroundTestBlock 0 .pass) s (s.onDev (fun d =>
    { d with scp := { d.scp with bgPos := (d.scp.bgPos + 1) % 2048 } }))) ∧
  (∀ (s : State) (k : Fin 4), s.dev.rf (R.STK_CTL k) F.STK_CTL_BG_EN = 1 → s.dev.stackReady k = true →
    Completes (.backgroundTestBlock k.succ .pass) s (s.onDev (fun d =>
      d.updStk k (fun y => { y with bgPos := (d.blockAt k (d.stk k).bgPos + 1) % (d.stackCap / 4096) })))) ∧
  (∀ (s : State) (a : ScpAccess) (b : List Byte), a.write = some b → a.off + b.length ≤ scpBytes →
    s.dev.masterAdmits a.m a.func (scpWindow + a.off) (scpWindow + a.off + b.length) true = true → s.dev.scp.copying = none → s.dev.march = none →
    s.dev.rf R.SCP_STAT F.SCP_STAT_DEGRADED = 0 →
    Completes (.scratchpadAccess a) s (s.onMach (fun m => { m.scpWrite a.off b with dev := (m.scpWrite a.off b).dev.emit (.memDone (.master a.m a.func)) }))) ∧
  (∀ (s : State) (a : ScpAccess), a.write = none → a.off + a.len ≤ scpBytes →
    s.dev.masterAdmits a.m a.func (scpWindow + a.off) (scpWindow + a.off + a.len) false = true → s.dev.scp.copying = none → s.dev.march = none →
    s.dev.rf R.SCP_STAT F.SCP_STAT_DEGRADED = 0 →
    let d := s.dev.scpReadLines a.errs (scpLines a.off a.len)
    let bytes : List Byte := (List.range a.len).map (fun i =>
      if SMap.get false d.scp.written ((a.off + i) / 64) then Memory.readByte s.mem (scpWindow + a.off + i) else 0)
    Completes (.scratchpadAccess a) s { s with dev := d.emit (.memData (.master a.m a.func) bytes
      (d.scp.poison.any (fun p => decide (p < a.off + a.len) && decide (a.off < p + 8)))) }) ∧
  (∀ (s : State) (b : Nat), s.dev.scp.copying = some b → Completes .scpBankCopyDone s (s.onMach (fun m =>
    let d := { m.dev with scp := { m.dev.scp with copying := none } }.setRf R.SCP_STAT F.SCP_STAT_SPARE_USED 1
    d.scp.waiting.foldl (fun m a => m.takeScp a) { m with dev := { d with scp := { d.scp with waiting := [] } } }))) ∧
  (∀ (s : State) (t : BitVec 5) (p : Bool) (x : MarchTarget), marchTarget t.toNat = some x → s.dev.march = none → formAllowed x p = true →
    s.dev.marchBlocked x p = none → Completes (.marchGo t p) s (s.onDev (fun d => d.startMarch t.toNat p))) ∧
  (∀ (s : State) (r : MarchResult) (x : March), s.dev.march = some x → r.mems = 0 → x.preserve = true →
    let m : Mach := { dev := ({ s.dev with march := none }.setReg R.SCP_MT_STAT 0).setReg R.SCP_MT_FAIL 0, mem := s.mem }
    let e := match marchTarget x.target with
      | some .scratchpad => m.resumeScp
      | some (.stack k) => m.drainStack k
      | _ => m
    let d := e.dev.release (Wait.isMarch x.target) .ok ((e.dev.reg R.SCP_MT_STAT).setWidth 64) ((e.dev.reg R.SCP_MT_FAIL).setWidth 64) 0
    Completes (.marchDone r) s { s with dev := d, mem := e.mem }) ∧
  (∀ (s : State) (k : Fin 4) (r : TrainResult), (s.dev.stk k).st = .phyinit → r.failed = false →
    Completes (.stackTrainStep k r) s (s.onDev (fun d => d.updStk k (fun x => { x with st := .ident, again := false })))) ∧
  (∀ (s : State) (k : Fin 4) (r : TrainResult), (s.dev.stk k).st = .lane →
    Completes (.stackTrainStep k r) s (s.onDev (fun d => (d.retirePcs k r.badPcs).updStk k (fun x => { x with st := .cal, repairs := r.repairs })))) ∧
  (∀ (s : State) (k : Fin 4) (r : TrainResult), (s.dev.stk k).st = .cal → ((s.dev.stk k).fast = false ∨ r.badPcs = 0) →
    let saved := ((s.dev.led.stackRecs[k]).map (·.settings)).getD []
    Completes (.stackTrainStep k r) s (s.onDev (fun d => (d.retirePcs k r.badPcs).updStk k (fun x =>
      { x with st := .verify, settings := if x.fast then saved else r.settings }))))

/-- A fault of the firmware and a FAULT frame of a station on the ring reach the collector; the collector drains into the Ledger's log; a
station reads and writes a register of its block and answers; a RESP is held in GDL_RX; a mesh node's DRAIN sets its discard sink; HALT
takes a Gallery to FAULTED and gates another block; PING is answered; a reset note raises its chip's life count; a time out counts; a
Surveyor frame of an allowed op leaves and waits for its RESP; FLT_DRAIN frees records. Rests on the model's choices and readings of log
entries 41, 51. -/
def Obligations.FaultCommandsTakeEffect : Prop :=
  (∀ (s : State) (x : FaultIn), Completes (.faultRecord x) s (s.onDev (fun d => d.faultIn x))) ∧
  (∀ (s : State) (h : GdlHead) (x : FaultIn), h.crcOk = true → s.dev.stationOn h.station.val = true →
    Completes (.guidelineFault h x) s (s.onDev (fun d => d.faultIn x))) ∧
  (∀ (s : State), s.dev.drains = true → s.dev.flt.recs ≠ [] →
    Completes (.collectorDrain true) s (s.onDev (fun d => { d with flt := { d.flt with recs := [] }, led := { d.led with
      log := logTail (d.led.log ++ d.flt.recs), nextSeq := d.rf R.FLT_SEQ F.FLT_SEQ_SEQ } }))) ∧
  (∀ (s : State) (n : BitVec 9), Completes (.fltDrain n) s (s.onDev (fun d => { d with flt := { d.flt with recs := d.flt.recs.drop n.toNat } }))) ∧
  (∀ (s : State) (h : GdlHead) (off : BitVec 32) (a : Nat) (r : RegAt), h.crcOk = true → s.dev.stationOn h.station.val = true →
    stationReg h.station.val off.toNat = some (a, r) →
    Completes (.guidelineRead h off) s (s.onDev (fun d => (d.readReg a).2.respond h 0 (leBytes 4 (d.readReg a).1.toNat)))) ∧
  (∀ (s : State) (h : GdlHead) (off v : BitVec 32) (a : Nat) (r : RegAt), h.crcOk = true → s.dev.stationOn h.station.val = true →
    stationReg h.station.val off.toNat = some (a, r) →
    Completes (.guidelineWrite h off v) s (s.onMach (fun m => { writeNow a r v m with dev := (writeNow a r v m).dev.respond h 0 }))) ∧
  (∀ (s : State) (h : GdlHead) (st : BitVec 8), h.crcOk = true → h.surveyor = true →
    ∃ t, Completes (.guidelineResp h st none) s t ∧ t.dev.rf R.GDL_STAT F.GDL_STAT_RX_VALID = 1 ∧
      t.dev.reg (R.GDL_RX 0) = BitVec.ofNat 32 (leAt [0x01, BitVec.ofNat 8 h.station.val, 0x03, 1] 0 4) ∧
      t.dev.reg (R.GDL_RX 1) = BitVec.ofNat 32 st.toNat ∧ t.dev.gdl.reqs = dropReq h.station.val s.dev.gdl.reqs ∧ t.mem = s.mem) ∧
  (∀ (s : State) (h : GdlHead) (b : Bool), h.crcOk = true → s.dev.stationOn h.station.val = true → 0x08 ≤ h.station.val → h.station.val ≤ 0x0F →
    Completes (.guidelineDrain h b) s (s.onDev (fun d => (d.updGal (fin8 (h.station.val - 8)) (fun x => { x with sink := b })).respond h 0))) ∧
  (∀ (s : State) (h : GdlHead), h.crcOk = true → s.dev.stationOn h.station.val = true → 0x10 ≤ h.station.val → h.station.val ≤ 0x17 →
    Completes (.halt h) s (s.onDev (fun d => (d.enterFaulted (fin8 (h.station.val - 0x10)) 5).respond h 0))) ∧
  (∀ (s : State) (h : GdlHead), h.crcOk = true → s.dev.stationOn h.station.val = true → (h.station.val < 0x10 ∨ 0x17 < h.station.val) →
    s.dev.halted h.station.val = false →
    Completes (.halt h) s (s.onDev (fun d => { d with gdl := { d.gdl with halted := h.station.val :: d.gdl.halted } }.respond h 0))) ∧
  (∀ (s : State) (h : GdlHead), h.crcOk = true → h.station.val ≠ 0x3F → s.dev.stationOn h.station.val = true →
    Completes (.ping h) s (s.onDev (fun d => d.respond h 0))) ∧
  (∀ (s : State) (c : Fin 64), Completes (.resetNote c) s (s.onDev (fun d =>
    (d.bump R.GDL_TUNNEL_CNT F.GDL_TUNNEL_CNT_RX).raiseLife (11 + c.val)))) ∧
  (∀ (s : State) (dst : Fin 64), Completes (.guidelineTimeout false dst) s (s.onDev (fun d => d.bump R.GDL_ERR_CNT F.GDL_ERR_CNT_TMO))) ∧
  (∀ (s : State), let bytes := (List.range 7).flatMap (fun i => leBytes 4 (s.dev.reg (R.GDL_TX i)).toNat)
    leAt bytes 3 1 ≤ 24 → [0x01, 0x02, 0x05, 0x06, 0x08].contains (leAt bytes 2 1) = true →
    Completes .gdlGo s (s.onDev (fun d => { d with
      outbox := Output.gdlFrame { dst := leAt bytes 0 1, src := leAt bytes 1 1, op := leAt bytes 2 1, payload := slice 4 (leAt bytes 3 1) bytes } :: d.outbox
      gdl := { d.gdl with reqs := d.gdl.reqs ++ [{ by_ := 1, dst := leAt bytes 0 1 }] } })))

/-- A write to a mapped register acts on it by its fields' access codes, or waits for the wake of its domain; RUN_EN of a Gallery in its powered domain starts or stops it, and
CFG_RESET of one in EMPTY, LOADED or FAULTED begins its configuration reset; each CLR_CNT returns its group of counters to their reset
values. Out of cold reset each SMBus read answers its bytes, a good write changes the alert status, the alert mask or the slew settings, the
alert address is answered while an alert is asserted, and a time out counts; with TRST_N high IDCODE, BYPASS and SAMPLE_PRELOAD take their
instruction, and EXTEST out of cold reset takes the device to test mode. Rests on the model's choices and readings of log entries 13, 45, 52. -/
def Obligations.RegisterAndPinCommandsTakeEffect : Prop :=
  (∀ (s : State) (a : BitVec 40) (v : BitVec 32) (r : RegAt), regAt a.toNat = some r → Completes (.registerWrite a v) s (s.onMach (writeReg a.toNat r v))) ∧
  (∀ (s : State) (g : Fin 8) (b : Bool), s.dev.domOn (4 + g.val) = true →
    Completes (.runEn g b) s (s.onDev (fun d =>
      let e := d.setRf (R.GAL_EVT_CTL g) F.GAL_EVT_CTL_RUN_EN (b2n b)
      if b then e.startGallery g else e.stopGallery g))) ∧
  (∀ (s : State) (g : Fin 8), s.dev.domOn (4 + g.val) = true → (s.dev.gal g).st ≠ .run → (s.dev.gal g).st ≠ .stopping →
    Completes (.cfgReset g) s (s.onDev (fun d => d.updGal g (fun x => { x with cfgBusy := true })))) ∧
  (∀ (s : State) (g : Fin 8), s.dev.domOn (4 + g.val) = true →
    Completes (.galEvtClrCnt g) s (s.onDev (fun d => d.clearCounters Blk.gal.base g.val 1)) ∧
    Completes (.galStateClrCnt g) s (s.onDev (fun d => d.clearCounters Blk.gal.base g.val 2)) ∧
    Completes (.cmpClrCnt g) s (s.onDev (fun d => d.clearCounters Blk.gal.base g.val 4)) ∧
    Completes (.lrnClrCnt g) s (s.onDev (fun d => d.clearCounters Blk.gal.base g.val 5)) ∧
    Completes (.dnsClrCnt g) s (s.onDev (fun d => d.clearCounters Blk.dns.base g.val 1))) ∧
  (∀ (s : State), s.dev.domOn 3 = true → Completes .mshClrCnt s (s.onDev (fun d => d.clearCounters Blk.msh.base 0 1))) ∧
  (∀ (s : State) (k : Fin 6), s.dev.domOn (24 + k.val) = true → Completes (.trvClrCnt k) s (s.onDev (fun d => d.clearCounters Blk.trv.base k.val 1))) ∧
  (∀ (s : State) (k : Fin 4), s.dev.domOn (31 + k.val) = true → Completes (.stkClrCnt k) s (s.onDev (fun d => d.clearCounters Blk.stk.base k.val 1))) ∧
  (∀ (s : State), s.dev.domOn 2 = true → Completes .scpClrCnt s (s.onDev (fun d => d.clearCounters Blk.scp.base 0 1))) ∧
  (∀ (s : State), s.dev.domOn 35 = true → Completes .clkClrCnt s (s.onDev (fun d => d.clearCounters Blk.clk.base 0 1))) ∧
  (∀ (s : State), Completes .pwrClrCnt s (s.onDev (fun d => d.clearCounters Blk.pwr.base 0 1)) ∧
    Completes .fltClrCnt s (s.onDev (fun d => d.clearCounters Blk.flt.base 0 1)) ∧ Completes .gdlClrCnt s (s.onDev (fun d => d.clearCounters Blk.gdl.base 0 1))) ∧
  (∀ (s : State), s.dev.boot.inCold = false →
    Completes .smbusReadId s (s.onDev (fun d => d.emit (.smbus (d.regBytes R.LNT_MIR_ID 4 ++ (List.range 4).flatMap (fun j => d.regBytes (R.LNT_MIR_DEVID j) 4))))) ∧
    Completes .smbusReadState s (s.onDev (fun d => d.emit (.smbus (d.regBytes R.LNT_MIR_STATE 4)))) ∧
    Completes .smbusReadTj s (s.onDev (fun d => d.emit (.smbus (d.regBytes R.PWR_TJ 2)))) ∧
    Completes .smbusReadPkg s (s.onDev (fun d => d.emit (.smbus (d.regBytes R.TEL_PKG 4)))) ∧
    Completes .smbusReadPtime s (s.onDev (fun d => d.emit (.smbus (leBytes 8 (d.clk / 100))))) ∧
    Completes (.smbusAlertStat none) s (s.onDev (fun d => d.emit (.smbus (leBytes 1 (d.rf R.LNT_SMB_ALERT F.LNT_SMB_ALERT_STAT))))) ∧
    Completes (.smbusAlertMask none) s (s.onDev (fun d => d.emit (.smbus (leBytes 1 (d.rf R.LNT_SMB_ALERT F.LNT_SMB_ALERT_MASK))))) ∧
    Completes (.smbusIoSlew none) s (s.onDev (fun d => d.emit (.smbus (d.regBytes R.LNT_IO_SLEW 2)))) ∧
    Completes .smbusTimeout s (s.onDev (fun d => d.bump R.LNT_SMB_ERR F.LNT_SMB_ERR_TMO))) ∧
  (∀ (s : State) (v : BitVec 8) (pec : Option Bool), s.dev.boot.inCold = false →
    (pec = some true ∨ (pec = none ∧ s.dev.rf R.LNT_SMB_CFG F.LNT_SMB_CFG_PEC_REQ = 0)) →
    Completes (.smbusAlertStat (some (v, pec))) s (s.onDev (fun d => d.setRf R.LNT_SMB_ALERT F.LNT_SMB_ALERT_STAT
      (Nat.land (d.rf R.LNT_SMB_ALERT F.LNT_SMB_ALERT_STAT) (15 - v.toNat % 16)))) ∧
    Completes (.smbusAlertMask (some (v, pec))) s (s.onDev (fun d => d.setRf R.LNT_SMB_ALERT F.LNT_SMB_ALERT_MASK (v.toNat % 16)))) ∧
  (∀ (s : State) (v : BitVec 16), s.dev.boot.inCold = false →
    Completes (.smbusIoSlew (some (v, some true))) s (s.onDev (fun d =>
      (d.setRf R.LNT_IO_SLEW F.LNT_IO_SLEW_TDO (v.toNat / 256 % 4)).setRf R.LNT_IO_SLEW F.LNT_IO_SLEW_CLKOUT (v.toNat / 16 % 4)))) ∧
  (∀ (s : State), s.dev.boot.inCold = false → s.dev.alertAsserted = true →
    Completes .smbusAlertResponse s (s.onDev (fun d => d.emit (.smbus [BitVec.ofNat 8 (2 * (0x64 + d.pins.straps.toNat))])))) ∧
  (∀ (s : State), s.dev.pins.trst = false →
    Completes .idcode s (s.onDev (fun d => { d.emit (.tdo (scanBits d.idcode)) with pins := { d.pins with ir := .idcode } })) ∧
    Completes (.bypass false) s (s.onDev (fun d => { d.emit (.tdo [false]) with pins := { d.pins with ir := .bypass } }))) ∧
  (∀ (s : State) (levels pre : List Bool), s.dev.pins.trst = false →
    Completes (.samplePreload levels pre) s (s.onDev (fun d => { d.emit (.tdo levels) with pins := { d.pins with ir := .sample, boundary := pre } }))) ∧
  (∀ (s : State), s.dev.pins.trst = false → s.dev.boot.inCold = false →
    Completes .extest s (s.onMach (fun m => testMode { m with dev :=
      { m.dev.emit (.tdo m.dev.pins.boundary) with pins := { m.dev.pins with ir := .extest } } }))) ∧
  (∀ (s : State), Completes (.trst true) s (s.onDev (fun d => { d with pins := { d.pins with trst := true, ir := .idcode } })) ∧
    Completes (.trst false) s (s.onDev (fun d => { d with pins := { d.pins with trst := false } })))
end

