-- ==== Sys2Proof/Laws/Ops.lean ====
section
/-!
SUPPORT. What each shared operation can change, said once: the device after it is the device before with the named fields replaced.
-/
namespace Sys2Proof.Machine

/-- Only the host interface and the outbox differ. -/
def HostOnly (d e : Dev) : Prop := ∃ h o, e = { d with host := h, outbox := o }

/-- Only the register bank, the host interface and the outbox differ. -/
def RegsHost (d e : Dev) : Prop := ∃ r h o, e = { d with regs := r, host := h, outbox := o }

/-- Only the power state differs. -/
def PwrOnly (d e : Dev) : Prop := ∃ p, e = { d with pwr := p }

/-- Only the host interface, the outbox and the power state differ: a notice wakes the SURVEYOR domain (R440). -/
def NoticeOnly (d e : Dev) : Prop := ∃ h o p, e = { d with host := h, outbox := o, pwr := p }

/-- Only the register bank, the host interface, the outbox, the collector and the power state differ. -/
def FaultOnly (d e : Dev) : Prop := ∃ r h o f p, e = { d with regs := r, host := h, outbox := o, flt := f, pwr := p }

theorem HostOnly.refl (d : Dev) : HostOnly d d := ⟨d.host, d.outbox, rfl⟩

theorem HostOnly.trans {a b c : Dev} (x : HostOnly a b) (y : HostOnly b c) : HostOnly a c := by
  obtain ⟨h, o, rfl⟩ := x
  obtain ⟨h', o', rfl⟩ := y
  exact ⟨h', o', rfl⟩

theorem RegsHost.refl (d : Dev) : RegsHost d d := ⟨d.regs, d.host, d.outbox, rfl⟩

theorem RegsHost.trans {a b c : Dev} (x : RegsHost a b) (y : RegsHost b c) : RegsHost a c := by
  obtain ⟨r, h, o, rfl⟩ := x
  obtain ⟨r', h', o', rfl⟩ := y
  exact ⟨r', h', o', rfl⟩

theorem HostOnly.regsHost {a b : Dev} (x : HostOnly a b) : RegsHost a b := by
  obtain ⟨h, o, rfl⟩ := x
  exact ⟨a.regs, h, o, rfl⟩

theorem NoticeOnly.refl (d : Dev) : NoticeOnly d d := ⟨d.host, d.outbox, d.pwr, rfl⟩

theorem NoticeOnly.trans {a b c : Dev} (x : NoticeOnly a b) (y : NoticeOnly b c) : NoticeOnly a c := by
  obtain ⟨h, o, p, rfl⟩ := x
  obtain ⟨h', o', p', rfl⟩ := y
  exact ⟨h', o', p', rfl⟩

theorem HostOnly.noticeOnly {a b : Dev} (x : HostOnly a b) : NoticeOnly a b := by
  obtain ⟨h, o, rfl⟩ := x
  exact ⟨h, o, a.pwr, rfl⟩

theorem PwrOnly.noticeOnly {a b : Dev} (x : PwrOnly a b) : NoticeOnly a b := by
  obtain ⟨p, rfl⟩ := x
  exact ⟨a.host, a.outbox, p, rfl⟩

theorem FaultOnly.refl (d : Dev) : FaultOnly d d := ⟨d.regs, d.host, d.outbox, d.flt, d.pwr, rfl⟩

theorem FaultOnly.trans {a b c : Dev} (x : FaultOnly a b) (y : FaultOnly b c) : FaultOnly a c := by
  obtain ⟨r, h, o, f, p, rfl⟩ := x
  obtain ⟨r', h', o', f', p', rfl⟩ := y
  exact ⟨r', h', o', f', p', rfl⟩

theorem RegsHost.faultOnly {a b : Dev} (x : RegsHost a b) : FaultOnly a b := by
  obtain ⟨r, h, o, rfl⟩ := x
  exact ⟨r, h, o, a.flt, a.pwr, rfl⟩

theorem NoticeOnly.faultOnly {a b : Dev} (x : NoticeOnly a b) : FaultOnly a b := by
  obtain ⟨h, o, p, rfl⟩ := x
  exact ⟨a.regs, h, o, a.flt, p, rfl⟩

/-- A relation that every step of a loop keeps holds across the loop. -/
theorem Dev.forEach_rel {α : Type} {P : Dev → Dev → Prop} (refl : ∀ d, P d d) (trans : ∀ {a b c}, P a b → P b c → P a c)
    {f : α → Dev → Dev} (step : ∀ x d, P d (f x d)) : ∀ (l : List α) (d : Dev), P d (d.forEach l f)
  | [], d => refl d
  | x :: t, d => trans (step x d) (Dev.forEach_rel refl trans step t (f x d))

/-! ### The register bank -/

theorem Dev.setRf_shape (d : Dev) (a : Nat) (f : Fld) (v : Nat) : RegsHost d (d.setRf a f v) := ⟨_, _, _, rfl⟩

theorem Dev.setReg_shape (d : Dev) (a : Nat) (v : Word) : RegsHost d (d.setReg a v) := ⟨_, _, _, rfl⟩

theorem Dev.bump_shape (d : Dev) (a : Nat) (f : Fld) (n : Nat) : RegsHost d (d.bump a f n) := by
  unfold Dev.bump
  split
  · exact RegsHost.refl d
  · exact Dev.setRf_shape d _ _ _

/-! ### Power -/

/-- Waking a domain changes the power state alone. -/
theorem Dev.updDom_shape (d : Dev) (i : Nat) (f : Dom → Dom) : ∃ p, d.updDom i f = { d with pwr := p } := by
  unfold Dev.updDom
  split
  · exact ⟨_, rfl⟩
  · exact ⟨d.pwr, rfl⟩

theorem Dev.beginWake_shape (d : Dev) (i : Nat) : ∃ p, d.beginWake i = { d with pwr := p } := by
  unfold Dev.beginWake
  split
  · exact Dev.updDom_shape d _ _
  · obtain ⟨p, h⟩ := Dev.updDom_shape d i (fun x => { x with st := .waking, prior := 2, stage := 0, wakeEvent := false })
    rw [h]
    exact ⟨_, rfl⟩
  · exact Dev.updDom_shape d _ _
  · exact ⟨d.pwr, rfl⟩

theorem Dev.startWake_shape (d : Dev) (i : Nat) : ∃ p, d.startWake i = { d with pwr := p } := by
  obtain ⟨p, h⟩ := Dev.forEach_rel (P := fun d e => ∃ p, e = { d with pwr := p }) (fun d => ⟨d.pwr, rfl⟩)
    (fun ⟨_, h⟩ ⟨q, k⟩ => ⟨q, by subst h; exact k⟩) (fun j e => Dev.beginWake_shape e j) (domDeps i ++ [i]) d
  unfold Dev.startWake Dev.grantRamps
  rw [h]
  exact ⟨_, rfl⟩

theorem Dev.wakeEvent_shape (d : Dev) (i : Nat) : ∃ p, d.wakeEvent i = { d with pwr := p } := by
  unfold Dev.wakeEvent
  split
  · exact ⟨d.pwr, rfl⟩
  split
  · exact Dev.updDom_shape d _ _
  · unfold Dev.demandWake
    split
    · exact ⟨d.pwr, rfl⟩
    · exact Dev.startWake_shape d i

/-- Waking the SURVEYOR domain changes the power state alone. -/
theorem Dev.wakeSurveyor_shape (d : Dev) : PwrOnly d d.wakeSurveyor := by
  unfold Dev.wakeSurveyor
  split
  · exact ⟨d.pwr, rfl⟩
  · exact Dev.wakeEvent_shape d 1

/-! ### The ring engine -/

theorem Dev.emit_shape (d : Dev) (o : Output) : HostOnly d (d.emit o) := ⟨_, _, rfl⟩

theorem Dev.updRing_shape (d : Dev) (f : Func) (g : Rings → Rings) : HostOnly d (d.updRing f g) := ⟨_, _, rfl⟩

theorem Dev.statusBlock_shape (d : Dev) (f : Func) : HostOnly d (d.statusBlock f) := ⟨_, _, rfl⟩

theorem Dev.signal_shape (d : Dev) (f : Func) (v : Nat) : HostOnly d (d.signal f v) := by
  unfold Dev.signal
  split
  · exact HostOnly.refl d
  split
  · exact ⟨_, _, rfl⟩
  · exact Dev.emit_shape d _

theorem Dev.interrupt_shape (d : Dev) (f : Func) (s : IntSource) : HostOnly d (d.interrupt f s) :=
  (Dev.statusBlock_shape d f).trans (Dev.signal_shape _ f _)

theorem Dev.vfEvent_shape (d : Dev) (f : Func) : HostOnly d (d.vfEvent f) := by
  unfold Dev.vfEvent
  split
  · exact (Dev.statusBlock_shape d _).trans (Dev.signal_shape _ _ _)
  · exact HostOnly.refl d

theorem Dev.writeNotice_shape (d : Dev) (f : Func) (n : Notice) : HostOnly d (d.writeNotice f n) := by
  unfold Dev.writeNotice
  exact ((Dev.emit_shape d _).trans (Dev.updRing_shape _ _ _)).trans (Dev.interrupt_shape _ _ _)

theorem Dev.notice_shape (d : Dev) (f : Func) (k : Nat) (a : BitVec 64) : NoticeOnly d (d.notice f k a) := by
  unfold Dev.notice
  split
  · exact NoticeOnly.refl d
  split
  · exact (Dev.writeNotice_shape d _ _).noticeOnly.trans (Dev.wakeSurveyor_shape _).noticeOnly
  · exact (Dev.updRing_shape d _ _).noticeOnly.trans (Dev.wakeSurveyor_shape _).noticeOnly

theorem Dev.flushNotices_shape (f : Func) : ∀ (l : List Notice) (d : Dev), HostOnly d (d.flushNotices f l)
  | [], d => Dev.updRing_shape d _ _
  | n :: t, d => by
    unfold Dev.flushNotices
    split
    · exact (Dev.writeNotice_shape d f n).trans (Dev.flushNotices_shape f t _)
    · exact Dev.updRing_shape d _ _

theorem Dev.noticeAll_shape (d : Dev) (k : Nat) (a : BitVec 64) : NoticeOnly d (d.noticeAll k a) :=
  Dev.forEach_rel NoticeOnly.refl NoticeOnly.trans (fun f e => Dev.notice_shape e f k a) _ d

theorem Dev.noticeParcel_shape (d : Dev) (q : Option Nat) (k : Nat) (a : BitVec 64) : NoticeOnly d (d.noticeParcel q k a) := by
  unfold Dev.noticeParcel
  dsimp only
  refine NoticeOnly.trans (Dev.notice_shape d pf k a) ?_
  split
  · split
    · exact NoticeOnly.refl _
    · exact Dev.notice_shape _ _ _ _
  · exact NoticeOnly.refl _

theorem Dev.finish_shape (d : Dev) (i : Issuer) (c : Cpl) : HostOnly d (d.finish i c) := by
  cases i with
  | fn f => exact Dev.updRing_shape d f (fun r => { r with done := r.done ++ [c] })
  | attach => exact ⟨_, _, rfl⟩

theorem Dev.orphanAll_shape (d : Dev) (f : Func) : HostOnly d (d.orphanAll f) := by
  unfold Dev.orphanAll
  exact HostOnly.trans (Dev.updRing_shape d _ _) ⟨_, _, rfl⟩

theorem Dev.quiesce_shape (d : Dev) (f : Func) : RegsHost d (d.quiesce f) := by
  unfold Dev.quiesce
  dsimp only
  split
  · exact ((Dev.setRf_shape d _ _ _).trans (Dev.orphanAll_shape _ f).regsHost).trans (Dev.updRing_shape _ _ _).regsHost
  · exact Dev.setRf_shape d _ _ _

theorem Dev.ringError_shape (d : Dev) (f : Func) (r : Nat) : HostOnly d (d.ringError f r) :=
  (Dev.updRing_shape d _ _).trans (Dev.vfEvent_shape _ _)

theorem Dev.clearRingRegs_shape (d : Dev) (f : Func) : RegsHost d (d.clearRingRegs f) := ⟨_, _, _, rfl⟩

theorem Dev.resetRings_shape (d : Dev) (f : Func) : RegsHost d (d.resetRings f) := by
  unfold Dev.resetRings
  dsimp only
  split
  · exact (Dev.quiesce_shape d f).trans (Dev.clearRingRegs_shape _ f)
  · exact (Dev.quiesce_shape d f).trans (Dev.updRing_shape _ _ _).regsHost

theorem Dev.writeCpl_shape (d : Dev) (f : Func) (c : Cpl) : HostOnly d (d.writeCpl f c) := by
  unfold Dev.writeCpl
  have h := (Dev.emit_shape d (.cplEntry f (d.ring f).cplPi.toNat (d.cplAddr f (d.ring f).cplPi.toNat) (cplEntry c.opcode c.tag c.status.code c.idx c.result0 c.result1 c.detail 0
    (phaseOf (d.ring f).cplPi.toNat (d.cplSize f))))).trans (Dev.updRing_shape _ f (fun r => { r with cplPi := r.cplPi + 1 }))
  dsimp only
  split
  · exact h.trans (Dev.statusBlock_shape _ _)
  split
  · exact h.trans (Dev.interrupt_shape _ _ _)
  · exact (h.trans (Dev.updRing_shape _ _ _)).trans (Dev.statusBlock_shape _ _)

/-- A rise of a life count changes the register bank and the locks alone. -/
theorem Dev.raiseLife_shape (d : Dev) (o : Nat) : ∃ r l, d.raiseLife o = { d with regs := r, locks := l } := ⟨_, _, rfl⟩

/-- The locks after a rise of a life count (R390). -/
theorem Dev.raiseLife_lock (d : Dev) (o : Nat) (n : Fin 64) : (d.raiseLife o).locks[n] =
    if (d.locks[n]).owner = ownerOfLife o then { owner := 0, life := 0, broken := true } else d.locks[n] := by
  simp [Dev.raiseLife, Dev.setRf, Dev.setReg]

/-! ### Faults -/

theorem Dev.smbAlert_shape (d : Dev) (b : Nat) : RegsHost d (d.smbAlert b) := ⟨_, _, _, rfl⟩

theorem Dev.faultNotice_shape (d : Dev) (p s : Nat) : NoticeOnly d (d.faultNotice p s) := Dev.noticeParcel_shape d _ _ _

theorem Dev.collect_shape (d : Dev) (r : Raise) : FaultOnly d (d.collect r) := by
  unfold Dev.collect
  refine FaultOnly.trans (Dev.wakeSurveyor_shape d).noticeOnly.faultOnly ?_
  dsimp only
  generalize d.wakeSurveyor = d
  split
  · have h1 : FaultOnly d { d with flt := { d.flt with recs := d.flt.recs ++ [d.record r], afterLost := false } } := ⟨_, _, _, _, _, rfl⟩
    have key : ∀ e, FaultOnly d e → FaultOnly d (if e.flt.numbered then ((e.setRf R.FLT_SEQ F.FLT_SEQ_SEQ ((d.record r).seq + 1)).setReg
        R.LNT_MIR_FLTSEQ (BitVec.ofNat 32 (d.record r).seq)).faultNotice r.parcel (d.record r).seq else e) := by
      intro e he
      split
      · exact ((he.trans (Dev.setRf_shape _ _ _ _).faultOnly).trans (Dev.setReg_shape _ _ _).faultOnly).trans (Dev.faultNotice_shape _ _ _).faultOnly
      · exact he
    apply key
    split
    · exact h1.trans (Dev.smbAlert_shape _ _).faultOnly
    · exact h1
  · cases d.flt.recs.find? (fun x => x.sameAs r) with
    | some x =>
      have h : FaultOnly d { d with flt := { d.flt with recs := mergeRec r d.flt.recs } } := ⟨_, _, _, _, _, rfl⟩
      exact h.trans (Dev.faultNotice_shape _ _ _).faultOnly
    | none => exact (Dev.bump_shape d _ _ _).faultOnly.trans ⟨_, _, _, _, _, rfl⟩

theorem Dev.raiseFrom_shape (d : Dev) (st : Nat) (r : Raise) : FaultOnly d (d.raiseFrom st r) := by
  unfold Dev.raiseFrom
  split
  · exact FaultOnly.refl d
  split
  · exact ⟨_, _, _, _, _, rfl⟩
  · have h : FaultOnly d { d with flt := { d.flt with
        sent := (st, r.code, d.clk) :: d.flt.sent.filter (fun e => !(e.1 == st && e.2.1 == r.code)) } } := ⟨_, _, _, _, _, rfl⟩
    exact h.trans (Dev.collect_shape _ r)

theorem Dev.flushHeld_shape (d : Dev) : FaultOnly d d.flushHeld := by
  unfold Dev.flushHeld
  dsimp only
  refine FaultOnly.trans ?_ (Dev.forEach_rel FaultOnly.refl FaultOnly.trans (fun e d => Dev.raiseFrom_shape d _ _) _ _)
  exact ⟨_, _, _, _, _, rfl⟩

/-- Time that passes changes powered time, and what frames held back for it come to. -/
theorem Dev.advance_shape (d : Dev) (n : Nat) : ∃ r h o f p, d.advance n = { d with clk := d.clk + n, regs := r, host := h, outbox := o, flt := f, pwr := p } :=
  Dev.flushHeld_shape { d with clk := d.clk + n }

/-- With no frame held back, time that passes changes powered time alone. -/
theorem Dev.advance_idle (d : Dev) (n : Nat) (h : d.flt.held = []) : d.advance n = { d with clk := d.clk + n } := by
  simp [Dev.advance, Dev.flushHeld, Dev.forEach, h]
  rw [← h]

theorem Dev.setMirror_shape (d : Dev) (s r : Nat) : FaultOnly d (d.setMirror s r) := by
  unfold Dev.setMirror
  dsimp only
  have h : FaultOnly d ((d.setRf R.LNT_MIR_STATE F.LNT_MIR_STATE_STATE s).setRf R.LNT_MIR_STATE F.LNT_MIR_STATE_REASON r) :=
    ((Dev.setRf_shape d _ _ _).trans (Dev.setRf_shape _ _ _ _)).faultOnly
  have key : ∀ e, FaultOnly d e → FaultOnly d (if d.mirState = s then e else e.noticeAll 1 ((e.reg R.LNT_MIR_STATE).setWidth 64)) := by
    intro e he
    split
    · exact he
    · exact he.trans (Dev.noticeAll_shape _ _ _).faultOnly
  apply key
  split
  · exact h.trans (Dev.smbAlert_shape _ _).faultOnly
  split
  · exact h.trans (Dev.smbAlert_shape _ _).faultOnly
  · exact h

end Sys2Proof.Machine
end

