-- ==== Sys2Proof/Laws/Serve.lean ====
section
/-!
SUPPORT. What serving a firmware command comes to, said once; what reading registers may change.
-/
namespace Sys2Proof.Machine

/-- A served command whose handler finishes with OK completes with its results. -/
theorem cmdStep_finish {sp : CmdSpec} {h : Cmd → Dev → Reply Dev} {c : Cmd} {s : State} {d : Dev} {r0 r1 : BitVec 64}
    (hs : Served sp c s) (hh : h c s.dev = .finish d .ok r0 r1 0) : cmdStep sp h c s = .next (s.finished c d r0 r1) := by
  obtain ⟨h1, h2, h3⟩ := hs
  simp [cmdStep, serveDev, h1, h2, h3, hh, State.finished]

/-- A served command whose handler waits is held with its wait. -/
theorem cmdStep_hold {sp : CmdSpec} {h : Cmd → Dev → Reply Dev} {c : Cmd} {s : State} {d : Dev} {w : Wait}
    (hs : Served sp c s) (hh : h c s.dev = .hold d w) : cmdStep sp h c s = .next (s.held c d w) := by
  obtain ⟨h1, h2, h3⟩ := hs
  simp [cmdStep, serveDev, h1, h2, h3, hh, State.held]

/-- A served command whose handler refuses changes nothing but the completion (R393). -/
theorem cmdStep_refuse {sp : CmdSpec} {h : Cmd → Dev → Reply Dev} {c : Cmd} {s : State} {st : Status} {dt : BitVec 32}
    (hs : Served sp c s) (hh : h c s.dev = .refuse st dt) :
    cmdStep sp h c s = .next { s with dev := s.dev.finish c.issuer (cplOf c st 0 0 dt) } := by
  obtain ⟨h1, h2, h3⟩ := hs
  simp [cmdStep, serveDev, h1, h2, h3, hh]

/-- A served command that acts on memory too. -/
theorem machStep_finish {sp : CmdSpec} {h : Cmd → Mach → Reply Mach} {c : Cmd} {s : State} {m : Mach} {r0 r1 : BitVec 64}
    (hs : Served sp c s) (hh : h c { dev := s.dev, mem := s.mem } = .finish m .ok r0 r1 0) :
    machStep sp h c s = .next ({ s with mem := m.mem }.finished c m.dev r0 r1) := by
  obtain ⟨h1, h2, h3⟩ := hs
  simp [machStep, serveMach, h1, h2, h3, hh, State.finished]

/-- Reading a register changes nothing but what the read latches. -/
theorem readReg_lat (d : Dev) (a : Nat) : ∃ l, (d.readReg a).2 = { d with lat := l } := by
  simp only [Dev.readReg, Dev.latch]
  split
  · exact ⟨_, rfl⟩
  split
  · exact ⟨_, rfl⟩
  split
  · exact ⟨_, rfl⟩
  split
  · exact ⟨d.lat, rfl⟩
  split
  · exact ⟨_, rfl⟩
  split
  · split
    · exact ⟨_, rfl⟩
    · exact ⟨d.lat, rfl⟩
  · exact ⟨d.lat, rfl⟩

/-- Reading registers changes nothing but what the reads latch. -/
theorem readRegs_lat (l : List Nat) : ∀ d : Dev, ∃ x, (d.readRegs l).2 = { d with lat := x } := by
  induction l with
  | nil => exact fun d => ⟨d.lat, rfl⟩
  | cons a t ih =>
    intro d
    obtain ⟨x, hx⟩ := readReg_lat d a
    obtain ⟨y, hy⟩ := ih { d with lat := x }
    refine ⟨y, ?_⟩
    simp only [Dev.readRegs]
    rw [hx, hy]

/-- A report with DATA_LEN 0 answers RESULT0 alone (R397). -/
theorem report_empty (c : Cmd) (d : Dev) (r0 : BitVec 64) (es : List (Nat × Word)) (h : c.dataLen = 0) :
    report c d r0 es = .finish d .ok r0 0 0 := by
  simp [report, h, done]

/-- A row that acts on the device alone answers a next state, with memory and the queue as they were. -/
theorem answers_of_devStep {s : State} {o : Host.Outcome State Fault Refusal} (g : Dev → Dev) (h : o = devStep s g) :
    ∃ t, o = .next t ∧ t.pending = s.pending ∧ t.mem = s.mem := ⟨_, h, rfl, rfl⟩

/-- A firmware command that acts on the device alone answers a next state, with memory and the queue as they were. -/
theorem answers_of_cmdStep {s : State} {o : Host.Outcome State Fault Refusal} {sp : CmdSpec} {h : Cmd → Dev → Reply Dev} {c : Cmd}
    (e : o = cmdStep sp h c s) : ∃ t, o = .next t ∧ t.pending = s.pending ∧ t.mem = s.mem := ⟨_, e, rfl, rfl⟩

/-- A row that acts on memory too answers a next state, with the queue as it was. -/
theorem answers_of_memStep {s : State} {o : Host.Outcome State Fault Refusal} (g : Mach → Mach) (h : o = memStep s g) :
    ∃ t, o = .next t ∧ t.pending = s.pending := ⟨_, h, rfl⟩

/-- A firmware command that acts on memory too answers a next state, with the queue as it was. -/
theorem answers_of_machStep {s : State} {o : Host.Outcome State Fault Refusal} {sp : CmdSpec} {h : Cmd → Mach → Reply Mach} {c : Cmd}
    (e : o = machStep sp h c s) : ∃ t, o = .next t ∧ t.pending = s.pending := ⟨_, e, rfl⟩

end Sys2Proof.Machine
end

