-- ==== Sys2Proof/Laws/Sparse.lean ====
section
/-!
SUPPORT. Laws of the sparse maps, of memory and of bit fields: a read after a write, what a write leaves, and that every operation keeps
the canonical form.
-/
namespace Sys2Proof.Machine

theorem SMap.find_insert_same {β : Type} (k : Nat) (v : β) : ∀ m : SMap β, SMap.find? k (SMap.insert k v m) = some v
  | [] => by simp [SMap.insert, SMap.find?]
  | (j, w) :: t => by
    simp only [SMap.insert]
    split
    · simp [SMap.find?]
    split
    · simp [SMap.find?]
    · rename_i h
      simp [SMap.find?, h, SMap.find_insert_same k v t]

theorem SMap.find_insert_ne {β : Type} {k i : Nat} (h : i ≠ k) (v : β) : ∀ m : SMap β, SMap.find? i (SMap.insert k v m) = SMap.find? i m
  | [] => by simp [SMap.insert, SMap.find?, Ne.symm h]
  | (j, w) :: t => by
    simp only [SMap.insert]
    split
    · simp [SMap.find?, Ne.symm h]
    split
    · rename_i hj; subst hj; simp [SMap.find?, Ne.symm h]
    · simp [SMap.find?, SMap.find_insert_ne h v t]

theorem SMap.find_erase_same {β : Type} (k : Nat) (m : SMap β) : SMap.find? k (SMap.erase k m) = none := by
  induction m with
  | nil => rfl
  | cons e t ih =>
    obtain ⟨j, w⟩ := e
    by_cases h : j = k
    · subst h; simpa [SMap.erase] using ih
    · simpa [SMap.erase, h, SMap.find?] using ih

theorem SMap.find_erase_ne {β : Type} {k i : Nat} (h : i ≠ k) (m : SMap β) : SMap.find? i (SMap.erase k m) = SMap.find? i m := by
  induction m with
  | nil => rfl
  | cons e t ih =>
    obtain ⟨j, w⟩ := e
    by_cases hj : j = k
    · subst hj; simpa [SMap.erase, SMap.find?, Ne.symm h] using ih
    · simp only [SMap.erase, ne_eq] at ih
      simp only [SMap.erase, List.filter_cons, ne_eq, hj, not_false_eq_true, decide_true, if_true, SMap.find?, ih]

/-- A read after a write to the same key gives the value written. -/
@[simp] theorem SMap.get_set_same {β : Type} [DecidableEq β] (d : β) (m : SMap β) (k : Nat) (v : β) : SMap.get d (SMap.set d m k v) k = v := by
  unfold SMap.get SMap.set
  split
  · rename_i h; simp [SMap.find_erase_same, h]
  · simp [SMap.find_insert_same]

/-- A write leaves every other key. -/
theorem SMap.get_set_ne {β : Type} [DecidableEq β] (d d' : β) (m : SMap β) {k i : Nat} (h : i ≠ k) (v : β) :
    SMap.get d' (SMap.set d m k v) i = SMap.get d' m i := by
  unfold SMap.get SMap.set
  split
  · simp [SMap.find_erase_ne h]
  · simp [SMap.find_insert_ne h]

/-- Keys that rise from a bound rise from a lower one. -/
theorem SMap.risesFrom_le {β : Type} {a b : Nat} (h : a ≤ b) : ∀ {m : SMap β}, SMap.risesFrom b m = true → SMap.risesFrom a m = true
  | [], _ => rfl
  | (j, _) :: t, hm => by
    simp only [SMap.risesFrom, Bool.and_eq_true, decide_eq_true_eq] at hm ⊢
    exact ⟨by omega, hm.2⟩

/-- Keeping some entries keeps the order. -/
theorem SMap.risesFrom_filter {β : Type} (p : Nat × β → Bool) : ∀ {b : Nat} {m : SMap β}, SMap.risesFrom b m = true →
    SMap.risesFrom b (m.filter p) = true
  | _, [], _ => rfl
  | b, (j, w) :: t, hm => by
    simp only [SMap.risesFrom, Bool.and_eq_true, decide_eq_true_eq] at hm
    have ih := SMap.risesFrom_filter p hm.2
    by_cases h : p (j, w) = true
    · simp [h, SMap.risesFrom, hm.1, ih]
    · simp only [List.filter_cons, h]
      exact SMap.risesFrom_le (by omega) ih

/-- Listing a value at a key keeps the order. -/
theorem SMap.risesFrom_insert {β : Type} {k : Nat} (v : β) : ∀ {b : Nat} {m : SMap β}, b ≤ k → SMap.risesFrom b m = true →
    SMap.risesFrom b (SMap.insert k v m) = true
  | b, [], hk, _ => by simp [SMap.insert, SMap.risesFrom, hk]
  | b, (j, w) :: t, hk, hm => by
    have hm' := hm
    simp only [SMap.risesFrom, Bool.and_eq_true, decide_eq_true_eq] at hm'
    simp only [SMap.insert]
    split
    · simp only [SMap.risesFrom, Bool.and_eq_true, decide_eq_true_eq]
      exact ⟨hk, by omega, hm'.2⟩
    split
    · rename_i h; subst h
      simp only [SMap.risesFrom, Bool.and_eq_true, decide_eq_true_eq]
      exact hm'
    · simp only [SMap.risesFrom, Bool.and_eq_true, decide_eq_true_eq]
      exact ⟨hm'.1, SMap.risesFrom_insert v (by omega) hm'.2⟩

theorem SMap.mem_insert {β : Type} {k : Nat} {v : β} {e : Nat × β} : ∀ {m : SMap β}, e ∈ SMap.insert k v m → e = (k, v) ∨ e ∈ m
  | [], h => by simpa [SMap.insert] using h
  | (j, w) :: t, h => by
    simp only [SMap.insert] at h
    split at h
    · simpa using h
    split at h
    · rcases List.mem_cons.1 h with h | h
      · exact .inl h
      · exact .inr (List.mem_cons_of_mem _ h)
    · rcases List.mem_cons.1 h with h | h
      · exact .inr (h ▸ List.mem_cons_self)
      · rcases SMap.mem_insert h with h | h
        · exact .inl h
        · exact .inr (List.mem_cons_of_mem _ h)

/-- Keeping some entries keeps the canonical form. -/
theorem SMap.wf_filter {β : Type} [DecidableEq β] {d : β} (p : Nat × β → Bool) {m : SMap β} (h : SMap.wf d m = true) :
    SMap.wf d (m.filter p) = true := by
  simp only [SMap.wf, Bool.and_eq_true, List.all_eq_true] at h ⊢
  exact ⟨SMap.risesFrom_filter p h.1, fun e he => h.2 e (List.mem_filter.1 he).1⟩

/-- A write keeps the canonical form. -/
theorem SMap.wf_set {β : Type} [DecidableEq β] {d : β} {m : SMap β} (k : Nat) (v : β) (h : SMap.wf d m = true) :
    SMap.wf d (SMap.set d m k v) = true := by
  unfold SMap.set
  split
  · exact SMap.wf_filter _ h
  · rename_i hv
    simp only [SMap.wf, Bool.and_eq_true, List.all_eq_true, decide_eq_true_eq] at h ⊢
    refine ⟨SMap.risesFrom_insert v (Nat.zero_le k) h.1, fun e he => ?_⟩
    rcases SMap.mem_insert he with rfl | he
    · exact hv
    · exact h.2 e he

/-! ### Memory -/

/-- A byte read after it is written is the byte written. -/
@[simp] theorem Memory.readByte_writeByte_same (m : Mem) (a : Nat) (b : Byte) : Memory.readByte (Memory.writeByte m a b) a = b :=
  SMap.get_set_same 0 m a b

/-- A write of a byte leaves every other byte. -/
theorem Memory.readByte_writeByte_ne (m : Mem) {a i : Nat} (h : i ≠ a) (b : Byte) :
    Memory.readByte (Memory.writeByte m a b) i = Memory.readByte m i :=
  SMap.get_set_ne 0 0 m h b

/-- A write leaves every byte outside the bytes it stores to. -/
theorem Memory.readByte_write_outside {i : Nat} : ∀ (l : List Byte) (m : Mem) (a : Nat), (i < a ∨ a + l.length ≤ i) →
    Memory.readByte (Memory.write m a l) i = Memory.readByte m i
  | [], _, _, _ => rfl
  | b :: t, m, a, h => by
    simp only [List.length_cons] at h
    rw [Memory.write, Memory.readByte_write_outside t _ _ (by omega), Memory.readByte_writeByte_ne m (by omega) b]

/-- A write stores each of its bytes. -/
theorem Memory.readByte_write_inside {j : Nat} : ∀ (l : List Byte) (m : Mem) (a : Nat) (h : j < l.length),
    Memory.readByte (Memory.write m a l) (a + j) = l[j]
  | [], _, _, h => absurd h (Nat.not_lt_zero _)
  | b :: t, m, a, h => by
    cases j with
    | zero =>
      rw [Memory.write, Memory.readByte_write_outside t _ _ (by omega)]
      simp
    | succ n =>
      have := Memory.readByte_write_inside (j := n) t (Memory.writeByte m a b) (a + 1) (by simpa using h)
      rw [Memory.write]
      rw [show a + (n + 1) = a + 1 + n by omega, this]
      simp

theorem Memory.find_filter {β : Type} (p : Nat → Bool) (i : Nat) (m : SMap β) :
    SMap.find? i (m.filter (fun e => p e.1)) = if p i then SMap.find? i m else none := by
  induction m with
  | nil => simp [SMap.find?]
  | cons e t ih =>
    obtain ⟨j, w⟩ := e
    by_cases hp : p j = true
    · simp only [List.filter_cons, hp, if_true, SMap.find?]
      by_cases hj : j = i
      · subst hj; simp [hp]
      · simp [hj, ih]
    · simp only [List.filter_cons, hp]
      by_cases hj : j = i
      · subst hj; simpa [hp] using ih
      · simpa [SMap.find?, hj] using ih

/-- A zeroed byte reads as zero; every other byte is as before. -/
theorem Memory.readByte_zero (m : Mem) (lo hi i : Nat) :
    Memory.readByte (Memory.zero m lo hi) i = if lo ≤ i ∧ i < hi then 0 else Memory.readByte m i := by
  unfold Memory.readByte Memory.zero SMap.clearRange SMap.get
  rw [Memory.find_filter (fun k => decide (k < lo) || decide (hi ≤ k))]
  by_cases h : lo ≤ i ∧ i < hi
  · have : (decide (i < lo) || decide (hi ≤ i)) = false := by
      simp only [Bool.or_eq_false_iff, decide_eq_false_iff_not]; omega
    simp [h, this]
  · have : (decide (i < lo) || decide (hi ≤ i)) = true := by
      simp only [Bool.or_eq_true, decide_eq_true_eq]; omega
    simp [h, this]

/-- Empty memory is canonical. -/
@[simp] theorem Memory.wf_nil : Memory.wf [] = true := rfl

/-- Writing a byte keeps the canonical form. -/
theorem Memory.wf_writeByte {m : Mem} (a : Nat) (b : Byte) (h : Memory.wf m = true) : Memory.wf (Memory.writeByte m a b) = true :=
  SMap.wf_set a b h

/-- Writing bytes keeps the canonical form. -/
theorem Memory.wf_write : ∀ (l : List Byte) {m : Mem} (a : Nat), Memory.wf m = true → Memory.wf (Memory.write m a l) = true
  | [], _, _, h => h
  | b :: t, _, a, h => Memory.wf_write t (a + 1) (Memory.wf_writeByte a b h)

/-- Zeroing keeps the canonical form. -/
theorem Memory.wf_zero {m : Mem} (lo hi : Nat) (h : Memory.wf m = true) : Memory.wf (Memory.zero m lo hi) = true := SMap.wf_filter _ h

/-- Keeping some bytes keeps the canonical form. -/
theorem Memory.wf_filter {m : Mem} (p : Host.Cell → Bool) (h : Memory.wf m = true) : Memory.wf (m.filter p) = true := SMap.wf_filter p h

/-! ### Bit fields -/

/-- A field that lies in a word reads back what was put into it, cut to its width. -/
theorem fget_fput_same {n : Nat} {f : Fld} (w : BitVec n) (v : Nat) (h : f.lo + f.width ≤ n) : fget f (fput f w v) = v % 2 ^ f.width := by
  have key : (fput f w v).extractLsb' f.lo f.width = BitVec.ofNat f.width v := by
    apply BitVec.eq_of_getLsbD_eq
    intro i hi
    simp [fput, hi, show f.lo + i < n by omega]
  simp [fget, key, BitVec.toNat_ofNat]

/-- Putting a field leaves a field that shares no bit with it. -/
theorem fget_fput_ne {n : Nat} {f g : Fld} (w : BitVec n) (v : Nat) (h : f.lo + f.width ≤ g.lo ∨ g.lo + g.width ≤ f.lo) :
    fget g (fput f w v) = fget g w := by
  have key : (fput f w v).extractLsb' g.lo g.width = w.extractLsb' g.lo g.width := by
    apply BitVec.eq_of_getLsbD_eq
    intro i hi
    simp only [fput, BitVec.getLsbD_extractLsb', BitVec.getLsbD_or, BitVec.getLsbD_and, BitVec.getLsbD_not, BitVec.getLsbD_shiftLeft,
      BitVec.getLsbD_setWidth, BitVec.getLsbD_allOnes, hi, decide_true, Bool.true_and]
    by_cases hn : g.lo + i < n
    · by_cases hl : g.lo + i < f.lo
      · simp [hn, hl]
      · have : ¬ (g.lo + i - f.lo < f.width) := by omega
        simp [hn, hl, this]
    · have hw : w.getLsbD (g.lo + i) = false := BitVec.getLsbD_of_ge _ _ (by omega)
      simp [hn, hw]
  simp [fget, key]

end Sys2Proof.Machine
end

