-- ==== Sys2Proof/Laws/State.lean ====
section
/-!
SUPPORT. What each named update of the device leaves: one lemma per field per update, and the reads of the field it changes.
-/
namespace Sys2Proof.Machine

/-! ### The register bank -/

/-- A register reads back the word written. -/
@[simp] theorem Dev.reg_setReg_same (d : Dev) (a : Nat) (v : Word) : (d.setReg a v).reg a = v := SMap.get_set_same _ _ _ _

/-- A register write leaves every other register. -/
theorem Dev.reg_setReg_ne (d : Dev) {a b : Nat} (h : b ≠ a) (v : Word) : (d.setReg a v).reg b = d.reg b := SMap.get_set_ne _ _ _ h _

/-- A field reads back what was put into it, cut to its width. -/
theorem Dev.rf_setRf_same (d : Dev) (a : Nat) (f : Fld) (v : Nat) (h : f.lo + f.width ≤ 32) : (d.setRf a f v).rf a f = v % 2 ^ f.width := by
  simp [Dev.rf, Dev.setRf, fget_fput_same _ _ h]

/-- Putting a field leaves the register's other fields. -/
theorem Dev.rf_setRf_field (d : Dev) (a : Nat) {f g : Fld} (v : Nat) (h : f.lo + f.width ≤ g.lo ∨ g.lo + g.width ≤ f.lo) :
    (d.setRf a f v).rf a g = d.rf a g := by
  simp [Dev.rf, Dev.setRf, fget_fput_ne _ _ h]

/-- Putting a field leaves every other register. -/
theorem Dev.reg_setRf_ne (d : Dev) {a b : Nat} (h : b ≠ a) (f : Fld) (v : Nat) : (d.setRf a f v).reg b = d.reg b := Dev.reg_setReg_ne d h _

/-- Putting a field leaves the fields of every other register. -/
theorem Dev.rf_setRf_ne (d : Dev) {a b : Nat} (h : b ≠ a) (f g : Fld) (v : Nat) : (d.setRf a f v).rf b g = d.rf b g := by
  simp [Dev.rf, Dev.reg_setRf_ne d h]

/-- A count leaves every other register. -/
theorem Dev.reg_bump_ne (d : Dev) {a b : Nat} (h : b ≠ a) (f : Fld) (n : Nat) : (d.bump a f n).reg b = d.reg b := by
  unfold Dev.bump
  split
  · rfl
  · exact Dev.reg_setRf_ne d h _ _

/-- A count leaves the fields of every other register. -/
theorem Dev.rf_bump_ne (d : Dev) {a b : Nat} (h : b ≠ a) (f g : Fld) (n : Nat) : (d.bump a f n).rf b g = d.rf b g := by
  simp [Dev.rf, Dev.reg_bump_ne d h]

/-! ### Every update, every field -/

@[simp] theorem Dev.setReg_clk (d : Dev) (a : Nat) (v : Word) : (d.setReg a v).clk = d.clk := rfl
@[simp] theorem Dev.setReg_freeCtr (d : Dev) (a : Nat) (v : Word) : (d.setReg a v).freeCtr = d.freeCtr := rfl
@[simp] theorem Dev.setReg_outbox (d : Dev) (a : Nat) (v : Word) : (d.setReg a v).outbox = d.outbox := rfl
@[simp] theorem Dev.setReg_fus (d : Dev) (a : Nat) (v : Word) : (d.setReg a v).fus = d.fus := rfl
@[simp] theorem Dev.setReg_led (d : Dev) (a : Nat) (v : Word) : (d.setReg a v).led = d.led := rfl
@[simp] theorem Dev.setReg_boot (d : Dev) (a : Nat) (v : Word) : (d.setReg a v).boot = d.boot := rfl
@[simp] theorem Dev.setReg_lat (d : Dev) (a : Nat) (v : Word) : (d.setReg a v).lat = d.lat := rfl
@[simp] theorem Dev.setReg_host (d : Dev) (a : Nat) (v : Word) : (d.setReg a v).host = d.host := rfl
@[simp] theorem Dev.setReg_locks (d : Dev) (a : Nat) (v : Word) : (d.setReg a v).locks = d.locks := rfl
@[simp] theorem Dev.setReg_flt (d : Dev) (a : Nat) (v : Word) : (d.setReg a v).flt = d.flt := rfl
@[simp] theorem Dev.setReg_gdl (d : Dev) (a : Nat) (v : Word) : (d.setReg a v).gdl = d.gdl := rfl
@[simp] theorem Dev.setReg_dat (d : Dev) (a : Nat) (v : Word) : (d.setReg a v).dat = d.dat := rfl
@[simp] theorem Dev.setReg_gals (d : Dev) (a : Nat) (v : Word) : (d.setReg a v).gals = d.gals := rfl
@[simp] theorem Dev.setReg_planes (d : Dev) (a : Nat) (v : Word) : (d.setReg a v).planes = d.planes := rfl
@[simp] theorem Dev.setReg_pcls (d : Dev) (a : Nat) (v : Word) : (d.setReg a v).pcls = d.pcls := rfl
@[simp] theorem Dev.setReg_links (d : Dev) (a : Nat) (v : Word) : (d.setReg a v).links = d.links := rfl
@[simp] theorem Dev.setReg_grp (d : Dev) (a : Nat) (v : Word) : (d.setReg a v).grp = d.grp := rfl
@[simp] theorem Dev.setReg_hubs (d : Dev) (a : Nat) (v : Word) : (d.setReg a v).hubs = d.hubs := rfl
@[simp] theorem Dev.setReg_ports (d : Dev) (a : Nat) (v : Word) : (d.setReg a v).ports = d.ports := rfl
@[simp] theorem Dev.setReg_taps (d : Dev) (a : Nat) (v : Word) : (d.setReg a v).taps = d.taps := rfl
@[simp] theorem Dev.setReg_stks (d : Dev) (a : Nat) (v : Word) : (d.setReg a v).stks = d.stks := rfl
@[simp] theorem Dev.setReg_scp (d : Dev) (a : Nat) (v : Word) : (d.setReg a v).scp = d.scp := rfl
@[simp] theorem Dev.setReg_march (d : Dev) (a : Nat) (v : Word) : (d.setReg a v).march = d.march := rfl
@[simp] theorem Dev.setReg_pwr (d : Dev) (a : Nat) (v : Word) : (d.setReg a v).pwr = d.pwr := rfl
@[simp] theorem Dev.setReg_clks (d : Dev) (a : Nat) (v : Word) : (d.setReg a v).clks = d.clks := rfl
@[simp] theorem Dev.setReg_pins (d : Dev) (a : Nat) (v : Word) : (d.setReg a v).pins = d.pins := rfl
@[simp] theorem Dev.setReg_gal (d : Dev) (a : Nat) (v : Word) (i_ : Fin 8) : (d.setReg a v).gal i_ = d.gal i_ := rfl
@[simp] theorem Dev.setReg_plane (d : Dev) (a : Nat) (v : Word) (i_ : Fin 8) : (d.setReg a v).plane i_ = d.plane i_ := rfl
@[simp] theorem Dev.setReg_pcl (d : Dev) (a : Nat) (v : Word) (i_ : Fin 8) : (d.setReg a v).pcl i_ = d.pcl i_ := rfl
@[simp] theorem Dev.setReg_stk (d : Dev) (a : Nat) (v : Word) (i_ : Fin 4) : (d.setReg a v).stk i_ = d.stk i_ := rfl
@[simp] theorem Dev.setReg_link (d : Dev) (a : Nat) (v : Word) (i_ : Fin 6) : (d.setReg a v).link i_ = d.link i_ := rfl
@[simp] theorem Dev.setReg_ring (d : Dev) (a : Nat) (v : Word) (i_ : Func) : (d.setReg a v).ring i_ = d.ring i_ := rfl
@[simp] theorem Dev.setReg_domSt (d : Dev) (a : Nat) (v : Word) (i_ : Nat) : (d.setReg a v).domSt i_ = d.domSt i_ := rfl
@[simp] theorem Dev.setRf_clk (d : Dev) (a : Nat) (f : Fld) (v : Nat) : (d.setRf a f v).clk = d.clk := rfl
@[simp] theorem Dev.setRf_freeCtr (d : Dev) (a : Nat) (f : Fld) (v : Nat) : (d.setRf a f v).freeCtr = d.freeCtr := rfl
@[simp] theorem Dev.setRf_outbox (d : Dev) (a : Nat) (f : Fld) (v : Nat) : (d.setRf a f v).outbox = d.outbox := rfl
@[simp] theorem Dev.setRf_fus (d : Dev) (a : Nat) (f : Fld) (v : Nat) : (d.setRf a f v).fus = d.fus := rfl
@[simp] theorem Dev.setRf_led (d : Dev) (a : Nat) (f : Fld) (v : Nat) : (d.setRf a f v).led = d.led := rfl
@[simp] theorem Dev.setRf_boot (d : Dev) (a : Nat) (f : Fld) (v : Nat) : (d.setRf a f v).boot = d.boot := rfl
@[simp] theorem Dev.setRf_lat (d : Dev) (a : Nat) (f : Fld) (v : Nat) : (d.setRf a f v).lat = d.lat := rfl
@[simp] theorem Dev.setRf_host (d : Dev) (a : Nat) (f : Fld) (v : Nat) : (d.setRf a f v).host = d.host := rfl
@[simp] theorem Dev.setRf_locks (d : Dev) (a : Nat) (f : Fld) (v : Nat) : (d.setRf a f v).locks = d.locks := rfl
@[simp] theorem Dev.setRf_flt (d : Dev) (a : Nat) (f : Fld) (v : Nat) : (d.setRf a f v).flt = d.flt := rfl
@[simp] theorem Dev.setRf_gdl (d : Dev) (a : Nat) (f : Fld) (v : Nat) : (d.setRf a f v).gdl = d.gdl := rfl
@[simp] theorem Dev.setRf_dat (d : Dev) (a : Nat) (f : Fld) (v : Nat) : (d.setRf a f v).dat = d.dat := rfl
@[simp] theorem Dev.setRf_gals (d : Dev) (a : Nat) (f : Fld) (v : Nat) : (d.setRf a f v).gals = d.gals := rfl
@[simp] theorem Dev.setRf_planes (d : Dev) (a : Nat) (f : Fld) (v : Nat) : (d.setRf a f v).planes = d.planes := rfl
@[simp] theorem Dev.setRf_pcls (d : Dev) (a : Nat) (f : Fld) (v : Nat) : (d.setRf a f v).pcls = d.pcls := rfl
@[simp] theorem Dev.setRf_links (d : Dev) (a : Nat) (f : Fld) (v : Nat) : (d.setRf a f v).links = d.links := rfl
@[simp] theorem Dev.setRf_grp (d : Dev) (a : Nat) (f : Fld) (v : Nat) : (d.setRf a f v).grp = d.grp := rfl
@[simp] theorem Dev.setRf_hubs (d : Dev) (a : Nat) (f : Fld) (v : Nat) : (d.setRf a f v).hubs = d.hubs := rfl
@[simp] theorem Dev.setRf_ports (d : Dev) (a : Nat) (f : Fld) (v : Nat) : (d.setRf a f v).ports = d.ports := rfl
@[simp] theorem Dev.setRf_taps (d : Dev) (a : Nat) (f : Fld) (v : Nat) : (d.setRf a f v).taps = d.taps := rfl
@[simp] theorem Dev.setRf_stks (d : Dev) (a : Nat) (f : Fld) (v : Nat) : (d.setRf a f v).stks = d.stks := rfl
@[simp] theorem Dev.setRf_scp (d : Dev) (a : Nat) (f : Fld) (v : Nat) : (d.setRf a f v).scp = d.scp := rfl
@[simp] theorem Dev.setRf_march (d : Dev) (a : Nat) (f : Fld) (v : Nat) : (d.setRf a f v).march = d.march := rfl
@[simp] theorem Dev.setRf_pwr (d : Dev) (a : Nat) (f : Fld) (v : Nat) : (d.setRf a f v).pwr = d.pwr := rfl
@[simp] theorem Dev.setRf_clks (d : Dev) (a : Nat) (f : Fld) (v : Nat) : (d.setRf a f v).clks = d.clks := rfl
@[simp] theorem Dev.setRf_pins (d : Dev) (a : Nat) (f : Fld) (v : Nat) : (d.setRf a f v).pins = d.pins := rfl
@[simp] theorem Dev.setRf_gal (d : Dev) (a : Nat) (f : Fld) (v : Nat) (i_ : Fin 8) : (d.setRf a f v).gal i_ = d.gal i_ := rfl
@[simp] theorem Dev.setRf_plane (d : Dev) (a : Nat) (f : Fld) (v : Nat) (i_ : Fin 8) : (d.setRf a f v).plane i_ = d.plane i_ := rfl
@[simp] theorem Dev.setRf_pcl (d : Dev) (a : Nat) (f : Fld) (v : Nat) (i_ : Fin 8) : (d.setRf a f v).pcl i_ = d.pcl i_ := rfl
@[simp] theorem Dev.setRf_stk (d : Dev) (a : Nat) (f : Fld) (v : Nat) (i_ : Fin 4) : (d.setRf a f v).stk i_ = d.stk i_ := rfl
@[simp] theorem Dev.setRf_link (d : Dev) (a : Nat) (f : Fld) (v : Nat) (i_ : Fin 6) : (d.setRf a f v).link i_ = d.link i_ := rfl
@[simp] theorem Dev.setRf_ring (d : Dev) (a : Nat) (f : Fld) (v : Nat) (i_ : Func) : (d.setRf a f v).ring i_ = d.ring i_ := rfl
@[simp] theorem Dev.setRf_domSt (d : Dev) (a : Nat) (f : Fld) (v : Nat) (i_ : Nat) : (d.setRf a f v).domSt i_ = d.domSt i_ := rfl
@[simp] theorem Dev.bump_clk (d : Dev) (a : Nat) (f : Fld) (n : Nat) : (d.bump a f n).clk = d.clk := by unfold Dev.bump; split <;> rfl
@[simp] theorem Dev.bump_freeCtr (d : Dev) (a : Nat) (f : Fld) (n : Nat) : (d.bump a f n).freeCtr = d.freeCtr := by unfold Dev.bump; split <;> rfl
@[simp] theorem Dev.bump_outbox (d : Dev) (a : Nat) (f : Fld) (n : Nat) : (d.bump a f n).outbox = d.outbox := by unfold Dev.bump; split <;> rfl
@[simp] theorem Dev.bump_fus (d : Dev) (a : Nat) (f : Fld) (n : Nat) : (d.bump a f n).fus = d.fus := by unfold Dev.bump; split <;> rfl
@[simp] theorem Dev.bump_led (d : Dev) (a : Nat) (f : Fld) (n : Nat) : (d.bump a f n).led = d.led := by unfold Dev.bump; split <;> rfl
@[simp] theorem Dev.bump_boot (d : Dev) (a : Nat) (f : Fld) (n : Nat) : (d.bump a f n).boot = d.boot := by unfold Dev.bump; split <;> rfl
@[simp] theorem Dev.bump_lat (d : Dev) (a : Nat) (f : Fld) (n : Nat) : (d.bump a f n).lat = d.lat := by unfold Dev.bump; split <;> rfl
@[simp] theorem Dev.bump_host (d : Dev) (a : Nat) (f : Fld) (n : Nat) : (d.bump a f n).host = d.host := by unfold Dev.bump; split <;> rfl
@[simp] theorem Dev.bump_locks (d : Dev) (a : Nat) (f : Fld) (n : Nat) : (d.bump a f n).locks = d.locks := by unfold Dev.bump; split <;> rfl
@[simp] theorem Dev.bump_flt (d : Dev) (a : Nat) (f : Fld) (n : Nat) : (d.bump a f n).flt = d.flt := by unfold Dev.bump; split <;> rfl
@[simp] theorem Dev.bump_gdl (d : Dev) (a : Nat) (f : Fld) (n : Nat) : (d.bump a f n).gdl = d.gdl := by unfold Dev.bump; split <;> rfl
@[simp] theorem Dev.bump_dat (d : Dev) (a : Nat) (f : Fld) (n : Nat) : (d.bump a f n).dat = d.dat := by unfold Dev.bump; split <;> rfl
@[simp] theorem Dev.bump_gals (d : Dev) (a : Nat) (f : Fld) (n : Nat) : (d.bump a f n).gals = d.gals := by unfold Dev.bump; split <;> rfl
@[simp] theorem Dev.bump_planes (d : Dev) (a : Nat) (f : Fld) (n : Nat) : (d.bump a f n).planes = d.planes := by unfold Dev.bump; split <;> rfl
@[simp] theorem Dev.bump_pcls (d : Dev) (a : Nat) (f : Fld) (n : Nat) : (d.bump a f n).pcls = d.pcls := by unfold Dev.bump; split <;> rfl
@[simp] theorem Dev.bump_links (d : Dev) (a : Nat) (f : Fld) (n : Nat) : (d.bump a f n).links = d.links := by unfold Dev.bump; split <;> rfl
@[simp] theorem Dev.bump_grp (d : Dev) (a : Nat) (f : Fld) (n : Nat) : (d.bump a f n).grp = d.grp := by unfold Dev.bump; split <;> rfl
@[simp] theorem Dev.bump_hubs (d : Dev) (a : Nat) (f : Fld) (n : Nat) : (d.bump a f n).hubs = d.hubs := by unfold Dev.bump; split <;> rfl
@[simp] theorem Dev.bump_ports (d : Dev) (a : Nat) (f : Fld) (n : Nat) : (d.bump a f n).ports = d.ports := by unfold Dev.bump; split <;> rfl
@[simp] theorem Dev.bump_taps (d : Dev) (a : Nat) (f : Fld) (n : Nat) : (d.bump a f n).taps = d.taps := by unfold Dev.bump; split <;> rfl
@[simp] theorem Dev.bump_stks (d : Dev) (a : Nat) (f : Fld) (n : Nat) : (d.bump a f n).stks = d.stks := by unfold Dev.bump; split <;> rfl
@[simp] theorem Dev.bump_scp (d : Dev) (a : Nat) (f : Fld) (n : Nat) : (d.bump a f n).scp = d.scp := by unfold Dev.bump; split <;> rfl
@[simp] theorem Dev.bump_march (d : Dev) (a : Nat) (f : Fld) (n : Nat) : (d.bump a f n).march = d.march := by unfold Dev.bump; split <;> rfl
@[simp] theorem Dev.bump_pwr (d : Dev) (a : Nat) (f : Fld) (n : Nat) : (d.bump a f n).pwr = d.pwr := by unfold Dev.bump; split <;> rfl
@[simp] theorem Dev.bump_clks (d : Dev) (a : Nat) (f : Fld) (n : Nat) : (d.bump a f n).clks = d.clks := by unfold Dev.bump; split <;> rfl
@[simp] theorem Dev.bump_pins (d : Dev) (a : Nat) (f : Fld) (n : Nat) : (d.bump a f n).pins = d.pins := by unfold Dev.bump; split <;> rfl
@[simp] theorem Dev.bump_gal (d : Dev) (a : Nat) (f : Fld) (n : Nat) (i_ : Fin 8) : (d.bump a f n).gal i_ = d.gal i_ := by unfold Dev.bump; split <;> rfl
@[simp] theorem Dev.bump_plane (d : Dev) (a : Nat) (f : Fld) (n : Nat) (i_ : Fin 8) : (d.bump a f n).plane i_ = d.plane i_ := by unfold Dev.bump; split <;> rfl
@[simp] theorem Dev.bump_pcl (d : Dev) (a : Nat) (f : Fld) (n : Nat) (i_ : Fin 8) : (d.bump a f n).pcl i_ = d.pcl i_ := by unfold Dev.bump; split <;> rfl
@[simp] theorem Dev.bump_stk (d : Dev) (a : Nat) (f : Fld) (n : Nat) (i_ : Fin 4) : (d.bump a f n).stk i_ = d.stk i_ := by unfold Dev.bump; split <;> rfl
@[simp] theorem Dev.bump_link (d : Dev) (a : Nat) (f : Fld) (n : Nat) (i_ : Fin 6) : (d.bump a f n).link i_ = d.link i_ := by unfold Dev.bump; split <;> rfl
@[simp] theorem Dev.bump_ring (d : Dev) (a : Nat) (f : Fld) (n : Nat) (i_ : Func) : (d.bump a f n).ring i_ = d.ring i_ := by unfold Dev.bump; split <;> rfl
@[simp] theorem Dev.bump_domSt (d : Dev) (a : Nat) (f : Fld) (n : Nat) (i_ : Nat) : (d.bump a f n).domSt i_ = d.domSt i_ := by unfold Dev.bump; split <;> rfl
@[simp] theorem Dev.raiseTo_clk (d : Dev) (a : Nat) (f : Fld) (n : Nat) : (d.raiseTo a f n).clk = d.clk := by unfold Dev.raiseTo; split <;> rfl
@[simp] theorem Dev.raiseTo_freeCtr (d : Dev) (a : Nat) (f : Fld) (n : Nat) : (d.raiseTo a f n).freeCtr = d.freeCtr := by unfold Dev.raiseTo; split <;> rfl
@[simp] theorem Dev.raiseTo_outbox (d : Dev) (a : Nat) (f : Fld) (n : Nat) : (d.raiseTo a f n).outbox = d.outbox := by unfold Dev.raiseTo; split <;> rfl
@[simp] theorem Dev.raiseTo_fus (d : Dev) (a : Nat) (f : Fld) (n : Nat) : (d.raiseTo a f n).fus = d.fus := by unfold Dev.raiseTo; split <;> rfl
@[simp] theorem Dev.raiseTo_led (d : Dev) (a : Nat) (f : Fld) (n : Nat) : (d.raiseTo a f n).led = d.led := by unfold Dev.raiseTo; split <;> rfl
@[simp] theorem Dev.raiseTo_boot (d : Dev) (a : Nat) (f : Fld) (n : Nat) : (d.raiseTo a f n).boot = d.boot := by unfold Dev.raiseTo; split <;> rfl
@[simp] theorem Dev.raiseTo_lat (d : Dev) (a : Nat) (f : Fld) (n : Nat) : (d.raiseTo a f n).lat = d.lat := by unfold Dev.raiseTo; split <;> rfl
@[simp] theorem Dev.raiseTo_host (d : Dev) (a : Nat) (f : Fld) (n : Nat) : (d.raiseTo a f n).host = d.host := by unfold Dev.raiseTo; split <;> rfl
@[simp] theorem Dev.raiseTo_locks (d : Dev) (a : Nat) (f : Fld) (n : Nat) : (d.raiseTo a f n).locks = d.locks := by unfold Dev.raiseTo; split <;> rfl
@[simp] theorem Dev.raiseTo_flt (d : Dev) (a : Nat) (f : Fld) (n : Nat) : (d.raiseTo a f n).flt = d.flt := by unfold Dev.raiseTo; split <;> rfl
@[simp] theorem Dev.raiseTo_gdl (d : Dev) (a : Nat) (f : Fld) (n : Nat) : (d.raiseTo a f n).gdl = d.gdl := by unfold Dev.raiseTo; split <;> rfl
@[simp] theorem Dev.raiseTo_dat (d : Dev) (a : Nat) (f : Fld) (n : Nat) : (d.raiseTo a f n).dat = d.dat := by unfold Dev.raiseTo; split <;> rfl
@[simp] theorem Dev.raiseTo_gals (d : Dev) (a : Nat) (f : Fld) (n : Nat) : (d.raiseTo a f n).gals = d.gals := by unfold Dev.raiseTo; split <;> rfl
@[simp] theorem Dev.raiseTo_planes (d : Dev) (a : Nat) (f : Fld) (n : Nat) : (d.raiseTo a f n).planes = d.planes := by unfold Dev.raiseTo; split <;> rfl
@[simp] theorem Dev.raiseTo_pcls (d : Dev) (a : Nat) (f : Fld) (n : Nat) : (d.raiseTo a f n).pcls = d.pcls := by unfold Dev.raiseTo; split <;> rfl
@[simp] theorem Dev.raiseTo_links (d : Dev) (a : Nat) (f : Fld) (n : Nat) : (d.raiseTo a f n).links = d.links := by unfold Dev.raiseTo; split <;> rfl
@[simp] theorem Dev.raiseTo_grp (d : Dev) (a : Nat) (f : Fld) (n : Nat) : (d.raiseTo a f n).grp = d.grp := by unfold Dev.raiseTo; split <;> rfl
@[simp] theorem Dev.raiseTo_hubs (d : Dev) (a : Nat) (f : Fld) (n : Nat) : (d.raiseTo a f n).hubs = d.hubs := by unfold Dev.raiseTo; split <;> rfl
@[simp] theorem Dev.raiseTo_ports (d : Dev) (a : Nat) (f : Fld) (n : Nat) : (d.raiseTo a f n).ports = d.ports := by unfold Dev.raiseTo; split <;> rfl
@[simp] theorem Dev.raiseTo_taps (d : Dev) (a : Nat) (f : Fld) (n : Nat) : (d.raiseTo a f n).taps = d.taps := by unfold Dev.raiseTo; split <;> rfl
@[simp] theorem Dev.raiseTo_stks (d : Dev) (a : Nat) (f : Fld) (n : Nat) : (d.raiseTo a f n).stks = d.stks := by unfold Dev.raiseTo; split <;> rfl
@[simp] theorem Dev.raiseTo_scp (d : Dev) (a : Nat) (f : Fld) (n : Nat) : (d.raiseTo a f n).scp = d.scp := by unfold Dev.raiseTo; split <;> rfl
@[simp] theorem Dev.raiseTo_march (d : Dev) (a : Nat) (f : Fld) (n : Nat) : (d.raiseTo a f n).march = d.march := by unfold Dev.raiseTo; split <;> rfl
@[simp] theorem Dev.raiseTo_pwr (d : Dev) (a : Nat) (f : Fld) (n : Nat) : (d.raiseTo a f n).pwr = d.pwr := by unfold Dev.raiseTo; split <;> rfl
@[simp] theorem Dev.raiseTo_clks (d : Dev) (a : Nat) (f : Fld) (n : Nat) : (d.raiseTo a f n).clks = d.clks := by unfold Dev.raiseTo; split <;> rfl
@[simp] theorem Dev.raiseTo_pins (d : Dev) (a : Nat) (f : Fld) (n : Nat) : (d.raiseTo a f n).pins = d.pins := by unfold Dev.raiseTo; split <;> rfl
@[simp] theorem Dev.raiseTo_gal (d : Dev) (a : Nat) (f : Fld) (n : Nat) (i_ : Fin 8) : (d.raiseTo a f n).gal i_ = d.gal i_ := by unfold Dev.raiseTo; split <;> rfl
@[simp] theorem Dev.raiseTo_plane (d : Dev) (a : Nat) (f : Fld) (n : Nat) (i_ : Fin 8) : (d.raiseTo a f n).plane i_ = d.plane i_ := by unfold Dev.raiseTo; split <;> rfl
@[simp] theorem Dev.raiseTo_pcl (d : Dev) (a : Nat) (f : Fld) (n : Nat) (i_ : Fin 8) : (d.raiseTo a f n).pcl i_ = d.pcl i_ := by unfold Dev.raiseTo; split <;> rfl
@[simp] theorem Dev.raiseTo_stk (d : Dev) (a : Nat) (f : Fld) (n : Nat) (i_ : Fin 4) : (d.raiseTo a f n).stk i_ = d.stk i_ := by unfold Dev.raiseTo; split <;> rfl
@[simp] theorem Dev.raiseTo_link (d : Dev) (a : Nat) (f : Fld) (n : Nat) (i_ : Fin 6) : (d.raiseTo a f n).link i_ = d.link i_ := by unfold Dev.raiseTo; split <;> rfl
@[simp] theorem Dev.raiseTo_ring (d : Dev) (a : Nat) (f : Fld) (n : Nat) (i_ : Func) : (d.raiseTo a f n).ring i_ = d.ring i_ := by unfold Dev.raiseTo; split <;> rfl
@[simp] theorem Dev.raiseTo_domSt (d : Dev) (a : Nat) (f : Fld) (n : Nat) (i_ : Nat) : (d.raiseTo a f n).domSt i_ = d.domSt i_ := by unfold Dev.raiseTo; split <;> rfl
@[simp] theorem Dev.clearRegs_clk (d : Dev) (p : RegAt → Bool) : (d.clearRegs p).clk = d.clk := rfl
@[simp] theorem Dev.clearRegs_freeCtr (d : Dev) (p : RegAt → Bool) : (d.clearRegs p).freeCtr = d.freeCtr := rfl
@[simp] theorem Dev.clearRegs_outbox (d : Dev) (p : RegAt → Bool) : (d.clearRegs p).outbox = d.outbox := rfl
@[simp] theorem Dev.clearRegs_fus (d : Dev) (p : RegAt → Bool) : (d.clearRegs p).fus = d.fus := rfl
@[simp] theorem Dev.clearRegs_led (d : Dev) (p : RegAt → Bool) : (d.clearRegs p).led = d.led := rfl
@[simp] theorem Dev.clearRegs_boot (d : Dev) (p : RegAt → Bool) : (d.clearRegs p).boot = d.boot := rfl
@[simp] theorem Dev.clearRegs_lat (d : Dev) (p : RegAt → Bool) : (d.clearRegs p).lat = d.lat := rfl
@[simp] theorem Dev.clearRegs_host (d : Dev) (p : RegAt → Bool) : (d.clearRegs p).host = d.host := rfl
@[simp] theorem Dev.clearRegs_locks (d : Dev) (p : RegAt → Bool) : (d.clearRegs p).locks = d.locks := rfl
@[simp] theorem Dev.clearRegs_flt (d : Dev) (p : RegAt → Bool) : (d.clearRegs p).flt = d.flt := rfl
@[simp] theorem Dev.clearRegs_gdl (d : Dev) (p : RegAt → Bool) : (d.clearRegs p).gdl = d.gdl := rfl
@[simp] theorem Dev.clearRegs_dat (d : Dev) (p : RegAt → Bool) : (d.clearRegs p).dat = d.dat := rfl
@[simp] theorem Dev.clearRegs_gals (d : Dev) (p : RegAt → Bool) : (d.clearRegs p).gals = d.gals := rfl
@[simp] theorem Dev.clearRegs_planes (d : Dev) (p : RegAt → Bool) : (d.clearRegs p).planes = d.planes := rfl
@[simp] theorem Dev.clearRegs_pcls (d : Dev) (p : RegAt → Bool) : (d.clearRegs p).pcls = d.pcls := rfl
@[simp] theorem Dev.clearRegs_links (d : Dev) (p : RegAt → Bool) : (d.clearRegs p).links = d.links := rfl
@[simp] theorem Dev.clearRegs_grp (d : Dev) (p : RegAt → Bool) : (d.clearRegs p).grp = d.grp := rfl
@[simp] theorem Dev.clearRegs_hubs (d : Dev) (p : RegAt → Bool) : (d.clearRegs p).hubs = d.hubs := rfl
@[simp] theorem Dev.clearRegs_ports (d : Dev) (p : RegAt → Bool) : (d.clearRegs p).ports = d.ports := rfl
@[simp] theorem Dev.clearRegs_taps (d : Dev) (p : RegAt → Bool) : (d.clearRegs p).taps = d.taps := rfl
@[simp] theorem Dev.clearRegs_stks (d : Dev) (p : RegAt → Bool) : (d.clearRegs p).stks = d.stks := rfl
@[simp] theorem Dev.clearRegs_scp (d : Dev) (p : RegAt → Bool) : (d.clearRegs p).scp = d.scp := rfl
@[simp] theorem Dev.clearRegs_march (d : Dev) (p : RegAt → Bool) : (d.clearRegs p).march = d.march := rfl
@[simp] theorem Dev.clearRegs_pwr (d : Dev) (p : RegAt → Bool) : (d.clearRegs p).pwr = d.pwr := rfl
@[simp] theorem Dev.clearRegs_clks (d : Dev) (p : RegAt → Bool) : (d.clearRegs p).clks = d.clks := rfl
@[simp] theorem Dev.clearRegs_pins (d : Dev) (p : RegAt → Bool) : (d.clearRegs p).pins = d.pins := rfl
@[simp] theorem Dev.clearRegs_gal (d : Dev) (p : RegAt → Bool) (i_ : Fin 8) : (d.clearRegs p).gal i_ = d.gal i_ := rfl
@[simp] theorem Dev.clearRegs_plane (d : Dev) (p : RegAt → Bool) (i_ : Fin 8) : (d.clearRegs p).plane i_ = d.plane i_ := rfl
@[simp] theorem Dev.clearRegs_pcl (d : Dev) (p : RegAt → Bool) (i_ : Fin 8) : (d.clearRegs p).pcl i_ = d.pcl i_ := rfl
@[simp] theorem Dev.clearRegs_stk (d : Dev) (p : RegAt → Bool) (i_ : Fin 4) : (d.clearRegs p).stk i_ = d.stk i_ := rfl
@[simp] theorem Dev.clearRegs_link (d : Dev) (p : RegAt → Bool) (i_ : Fin 6) : (d.clearRegs p).link i_ = d.link i_ := rfl
@[simp] theorem Dev.clearRegs_ring (d : Dev) (p : RegAt → Bool) (i_ : Func) : (d.clearRegs p).ring i_ = d.ring i_ := rfl
@[simp] theorem Dev.clearRegs_domSt (d : Dev) (p : RegAt → Bool) (i_ : Nat) : (d.clearRegs p).domSt i_ = d.domSt i_ := rfl
@[simp] theorem Dev.emit_regs (d : Dev) (o : Output) : (d.emit o).regs = d.regs := rfl
@[simp] theorem Dev.emit_clk (d : Dev) (o : Output) : (d.emit o).clk = d.clk := rfl
@[simp] theorem Dev.emit_freeCtr (d : Dev) (o : Output) : (d.emit o).freeCtr = d.freeCtr := rfl
@[simp] theorem Dev.emit_fus (d : Dev) (o : Output) : (d.emit o).fus = d.fus := rfl
@[simp] theorem Dev.emit_led (d : Dev) (o : Output) : (d.emit o).led = d.led := rfl
@[simp] theorem Dev.emit_boot (d : Dev) (o : Output) : (d.emit o).boot = d.boot := rfl
@[simp] theorem Dev.emit_lat (d : Dev) (o : Output) : (d.emit o).lat = d.lat := rfl
@[simp] theorem Dev.emit_host (d : Dev) (o : Output) : (d.emit o).host = d.host := rfl
@[simp] theorem Dev.emit_locks (d : Dev) (o : Output) : (d.emit o).locks = d.locks := rfl
@[simp] theorem Dev.emit_flt (d : Dev) (o : Output) : (d.emit o).flt = d.flt := rfl
@[simp] theorem Dev.emit_gdl (d : Dev) (o : Output) : (d.emit o).gdl = d.gdl := rfl
@[simp] theorem Dev.emit_dat (d : Dev) (o : Output) : (d.emit o).dat = d.dat := rfl
@[simp] theorem Dev.emit_gals (d : Dev) (o : Output) : (d.emit o).gals = d.gals := rfl
@[simp] theorem Dev.emit_planes (d : Dev) (o : Output) : (d.emit o).planes = d.planes := rfl
@[simp] theorem Dev.emit_pcls (d : Dev) (o : Output) : (d.emit o).pcls = d.pcls := rfl
@[simp] theorem Dev.emit_links (d : Dev) (o : Output) : (d.emit o).links = d.links := rfl
@[simp] theorem Dev.emit_grp (d : Dev) (o : Output) : (d.emit o).grp = d.grp := rfl
@[simp] theorem Dev.emit_hubs (d : Dev) (o : Output) : (d.emit o).hubs = d.hubs := rfl
@[simp] theorem Dev.emit_ports (d : Dev) (o : Output) : (d.emit o).ports = d.ports := rfl
@[simp] theorem Dev.emit_taps (d : Dev) (o : Output) : (d.emit o).taps = d.taps := rfl
@[simp] theorem Dev.emit_stks (d : Dev) (o : Output) : (d.emit o).stks = d.stks := rfl
@[simp] theorem Dev.emit_scp (d : Dev) (o : Output) : (d.emit o).scp = d.scp := rfl
@[simp] theorem Dev.emit_march (d : Dev) (o : Output) : (d.emit o).march = d.march := rfl
@[simp] theorem Dev.emit_pwr (d : Dev) (o : Output) : (d.emit o).pwr = d.pwr := rfl
@[simp] theorem Dev.emit_clks (d : Dev) (o : Output) : (d.emit o).clks = d.clks := rfl
@[simp] theorem Dev.emit_pins (d : Dev) (o : Output) : (d.emit o).pins = d.pins := rfl
@[simp] theorem Dev.emit_reg (d : Dev) (o : Output) (b_ : Nat) : (d.emit o).reg b_ = d.reg b_ := rfl
@[simp] theorem Dev.emit_rf (d : Dev) (o : Output) (b_ : Nat) (e_ : Fld) : (d.emit o).rf b_ e_ = d.rf b_ e_ := rfl
@[simp] theorem Dev.emit_gal (d : Dev) (o : Output) (i_ : Fin 8) : (d.emit o).gal i_ = d.gal i_ := rfl
@[simp] theorem Dev.emit_plane (d : Dev) (o : Output) (i_ : Fin 8) : (d.emit o).plane i_ = d.plane i_ := rfl
@[simp] theorem Dev.emit_pcl (d : Dev) (o : Output) (i_ : Fin 8) : (d.emit o).pcl i_ = d.pcl i_ := rfl
@[simp] theorem Dev.emit_stk (d : Dev) (o : Output) (i_ : Fin 4) : (d.emit o).stk i_ = d.stk i_ := rfl
@[simp] theorem Dev.emit_link (d : Dev) (o : Output) (i_ : Fin 6) : (d.emit o).link i_ = d.link i_ := rfl
@[simp] theorem Dev.emit_ring (d : Dev) (o : Output) (i_ : Func) : (d.emit o).ring i_ = d.ring i_ := rfl
@[simp] theorem Dev.emit_domSt (d : Dev) (o : Output) (i_ : Nat) : (d.emit o).domSt i_ = d.domSt i_ := rfl
@[simp] theorem Dev.emit_mirState (d : Dev) (o : Output)  : (d.emit o).mirState = d.mirState := rfl
@[simp] theorem Dev.updGal_regs (d : Dev) (g : Fin 8) (f : Gal → Gal) : (d.updGal g f).regs = d.regs := rfl
@[simp] theorem Dev.updGal_clk (d : Dev) (g : Fin 8) (f : Gal → Gal) : (d.updGal g f).clk = d.clk := rfl
@[simp] theorem Dev.updGal_freeCtr (d : Dev) (g : Fin 8) (f : Gal → Gal) : (d.updGal g f).freeCtr = d.freeCtr := rfl
@[simp] theorem Dev.updGal_outbox (d : Dev) (g : Fin 8) (f : Gal → Gal) : (d.updGal g f).outbox = d.outbox := rfl
@[simp] theorem Dev.updGal_fus (d : Dev) (g : Fin 8) (f : Gal → Gal) : (d.updGal g f).fus = d.fus := rfl
@[simp] theorem Dev.updGal_led (d : Dev) (g : Fin 8) (f : Gal → Gal) : (d.updGal g f).led = d.led := rfl
@[simp] theorem Dev.updGal_boot (d : Dev) (g : Fin 8) (f : Gal → Gal) : (d.updGal g f).boot = d.boot := rfl
@[simp] theorem Dev.updGal_lat (d : Dev) (g : Fin 8) (f : Gal → Gal) : (d.updGal g f).lat = d.lat := rfl
@[simp] theorem Dev.updGal_host (d : Dev) (g : Fin 8) (f : Gal → Gal) : (d.updGal g f).host = d.host := rfl
@[simp] theorem Dev.updGal_locks (d : Dev) (g : Fin 8) (f : Gal → Gal) : (d.updGal g f).locks = d.locks := rfl
@[simp] theorem Dev.updGal_flt (d : Dev) (g : Fin 8) (f : Gal → Gal) : (d.updGal g f).flt = d.flt := rfl
@[simp] theorem Dev.updGal_gdl (d : Dev) (g : Fin 8) (f : Gal → Gal) : (d.updGal g f).gdl = d.gdl := rfl
@[simp] theorem Dev.updGal_dat (d : Dev) (g : Fin 8) (f : Gal → Gal) : (d.updGal g f).dat = d.dat := rfl
@[simp] theorem Dev.updGal_planes (d : Dev) (g : Fin 8) (f : Gal → Gal) : (d.updGal g f).planes = d.planes := rfl
@[simp] theorem Dev.updGal_pcls (d : Dev) (g : Fin 8) (f : Gal → Gal) : (d.updGal g f).pcls = d.pcls := rfl
@[simp] theorem Dev.updGal_links (d : Dev) (g : Fin 8) (f : Gal → Gal) : (d.updGal g f).links = d.links := rfl
@[simp] theorem Dev.updGal_grp (d : Dev) (g : Fin 8) (f : Gal → Gal) : (d.updGal g f).grp = d.grp := rfl
@[simp] theorem Dev.updGal_hubs (d : Dev) (g : Fin 8) (f : Gal → Gal) : (d.updGal g f).hubs = d.hubs := rfl
@[simp] theorem Dev.updGal_ports (d : Dev) (g : Fin 8) (f : Gal → Gal) : (d.updGal g f).ports = d.ports := rfl
@[simp] theorem Dev.updGal_taps (d : Dev) (g : Fin 8) (f : Gal → Gal) : (d.updGal g f).taps = d.taps := rfl
@[simp] theorem Dev.updGal_stks (d : Dev) (g : Fin 8) (f : Gal → Gal) : (d.updGal g f).stks = d.stks := rfl
@[simp] theorem Dev.updGal_scp (d : Dev) (g : Fin 8) (f : Gal → Gal) : (d.updGal g f).scp = d.scp := rfl
@[simp] theorem Dev.updGal_march (d : Dev) (g : Fin 8) (f : Gal → Gal) : (d.updGal g f).march = d.march := rfl
@[simp] theorem Dev.updGal_pwr (d : Dev) (g : Fin 8) (f : Gal → Gal) : (d.updGal g f).pwr = d.pwr := rfl
@[simp] theorem Dev.updGal_clks (d : Dev) (g : Fin 8) (f : Gal → Gal) : (d.updGal g f).clks = d.clks := rfl
@[simp] theorem Dev.updGal_pins (d : Dev) (g : Fin 8) (f : Gal → Gal) : (d.updGal g f).pins = d.pins := rfl
@[simp] theorem Dev.updGal_reg (d : Dev) (g : Fin 8) (f : Gal → Gal) (b_ : Nat) : (d.updGal g f).reg b_ = d.reg b_ := rfl
@[simp] theorem Dev.updGal_rf (d : Dev) (g : Fin 8) (f : Gal → Gal) (b_ : Nat) (e_ : Fld) : (d.updGal g f).rf b_ e_ = d.rf b_ e_ := rfl
@[simp] theorem Dev.updGal_plane (d : Dev) (g : Fin 8) (f : Gal → Gal) (i_ : Fin 8) : (d.updGal g f).plane i_ = d.plane i_ := rfl
@[simp] theorem Dev.updGal_pcl (d : Dev) (g : Fin 8) (f : Gal → Gal) (i_ : Fin 8) : (d.updGal g f).pcl i_ = d.pcl i_ := rfl
@[simp] theorem Dev.updGal_stk (d : Dev) (g : Fin 8) (f : Gal → Gal) (i_ : Fin 4) : (d.updGal g f).stk i_ = d.stk i_ := rfl
@[simp] theorem Dev.updGal_link (d : Dev) (g : Fin 8) (f : Gal → Gal) (i_ : Fin 6) : (d.updGal g f).link i_ = d.link i_ := rfl
@[simp] theorem Dev.updGal_ring (d : Dev) (g : Fin 8) (f : Gal → Gal) (i_ : Func) : (d.updGal g f).ring i_ = d.ring i_ := rfl
@[simp] theorem Dev.updGal_domSt (d : Dev) (g : Fin 8) (f : Gal → Gal) (i_ : Nat) : (d.updGal g f).domSt i_ = d.domSt i_ := rfl
@[simp] theorem Dev.updGal_mirState (d : Dev) (g : Fin 8) (f : Gal → Gal)  : (d.updGal g f).mirState = d.mirState := rfl
@[simp] theorem Dev.updPlane_regs (d : Dev) (p : Fin 8) (f : Plane → Plane) : (d.updPlane p f).regs = d.regs := rfl
@[simp] theorem Dev.updPlane_clk (d : Dev) (p : Fin 8) (f : Plane → Plane) : (d.updPlane p f).clk = d.clk := rfl
@[simp] theorem Dev.updPlane_freeCtr (d : Dev) (p : Fin 8) (f : Plane → Plane) : (d.updPlane p f).freeCtr = d.freeCtr := rfl
@[simp] theorem Dev.updPlane_outbox (d : Dev) (p : Fin 8) (f : Plane → Plane) : (d.updPlane p f).outbox = d.outbox := rfl
@[simp] theorem Dev.updPlane_fus (d : Dev) (p : Fin 8) (f : Plane → Plane) : (d.updPlane p f).fus = d.fus := rfl
@[simp] theorem Dev.updPlane_led (d : Dev) (p : Fin 8) (f : Plane → Plane) : (d.updPlane p f).led = d.led := rfl
@[simp] theorem Dev.updPlane_boot (d : Dev) (p : Fin 8) (f : Plane → Plane) : (d.updPlane p f).boot = d.boot := rfl
@[simp] theorem Dev.updPlane_lat (d : Dev) (p : Fin 8) (f : Plane → Plane) : (d.updPlane p f).lat = d.lat := rfl
@[simp] theorem Dev.updPlane_host (d : Dev) (p : Fin 8) (f : Plane → Plane) : (d.updPlane p f).host = d.host := rfl
@[simp] theorem Dev.updPlane_locks (d : Dev) (p : Fin 8) (f : Plane → Plane) : (d.updPlane p f).locks = d.locks := rfl
@[simp] theorem Dev.updPlane_flt (d : Dev) (p : Fin 8) (f : Plane → Plane) : (d.updPlane p f).flt = d.flt := rfl
@[simp] theorem Dev.updPlane_gdl (d : Dev) (p : Fin 8) (f : Plane → Plane) : (d.updPlane p f).gdl = d.gdl := rfl
@[simp] theorem Dev.updPlane_dat (d : Dev) (p : Fin 8) (f : Plane → Plane) : (d.updPlane p f).dat = d.dat := rfl
@[simp] theorem Dev.updPlane_gals (d : Dev) (p : Fin 8) (f : Plane → Plane) : (d.updPlane p f).gals = d.gals := rfl
@[simp] theorem Dev.updPlane_pcls (d : Dev) (p : Fin 8) (f : Plane → Plane) : (d.updPlane p f).pcls = d.pcls := rfl
@[simp] theorem Dev.updPlane_links (d : Dev) (p : Fin 8) (f : Plane → Plane) : (d.updPlane p f).links = d.links := rfl
@[simp] theorem Dev.updPlane_grp (d : Dev) (p : Fin 8) (f : Plane → Plane) : (d.updPlane p f).grp = d.grp := rfl
@[simp] theorem Dev.updPlane_hubs (d : Dev) (p : Fin 8) (f : Plane → Plane) : (d.updPlane p f).hubs = d.hubs := rfl
@[simp] theorem Dev.updPlane_ports (d : Dev) (p : Fin 8) (f : Plane → Plane) : (d.updPlane p f).ports = d.ports := rfl
@[simp] theorem Dev.updPlane_taps (d : Dev) (p : Fin 8) (f : Plane → Plane) : (d.updPlane p f).taps = d.taps := rfl
@[simp] theorem Dev.updPlane_stks (d : Dev) (p : Fin 8) (f : Plane → Plane) : (d.updPlane p f).stks = d.stks := rfl
@[simp] theorem Dev.updPlane_scp (d : Dev) (p : Fin 8) (f : Plane → Plane) : (d.updPlane p f).scp = d.scp := rfl
@[simp] theorem Dev.updPlane_march (d : Dev) (p : Fin 8) (f : Plane → Plane) : (d.updPlane p f).march = d.march := rfl
@[simp] theorem Dev.updPlane_pwr (d : Dev) (p : Fin 8) (f : Plane → Plane) : (d.updPlane p f).pwr = d.pwr := rfl
@[simp] theorem Dev.updPlane_clks (d : Dev) (p : Fin 8) (f : Plane → Plane) : (d.updPlane p f).clks = d.clks := rfl
@[simp] theorem Dev.updPlane_pins (d : Dev) (p : Fin 8) (f : Plane → Plane) : (d.updPlane p f).pins = d.pins := rfl
@[simp] theorem Dev.updPlane_reg (d : Dev) (p : Fin 8) (f : Plane → Plane) (b_ : Nat) : (d.updPlane p f).reg b_ = d.reg b_ := rfl
@[simp] theorem Dev.updPlane_rf (d : Dev) (p : Fin 8) (f : Plane → Plane) (b_ : Nat) (e_ : Fld) : (d.updPlane p f).rf b_ e_ = d.rf b_ e_ := rfl
@[simp] theorem Dev.updPlane_gal (d : Dev) (p : Fin 8) (f : Plane → Plane) (i_ : Fin 8) : (d.updPlane p f).gal i_ = d.gal i_ := rfl
@[simp] theorem Dev.updPlane_pcl (d : Dev) (p : Fin 8) (f : Plane → Plane) (i_ : Fin 8) : (d.updPlane p f).pcl i_ = d.pcl i_ := rfl
@[simp] theorem Dev.updPlane_stk (d : Dev) (p : Fin 8) (f : Plane → Plane) (i_ : Fin 4) : (d.updPlane p f).stk i_ = d.stk i_ := rfl
@[simp] theorem Dev.updPlane_link (d : Dev) (p : Fin 8) (f : Plane → Plane) (i_ : Fin 6) : (d.updPlane p f).link i_ = d.link i_ := rfl
@[simp] theorem Dev.updPlane_ring (d : Dev) (p : Fin 8) (f : Plane → Plane) (i_ : Func) : (d.updPlane p f).ring i_ = d.ring i_ := rfl
@[simp] theorem Dev.updPlane_domSt (d : Dev) (p : Fin 8) (f : Plane → Plane) (i_ : Nat) : (d.updPlane p f).domSt i_ = d.domSt i_ := rfl
@[simp] theorem Dev.updPlane_mirState (d : Dev) (p : Fin 8) (f : Plane → Plane)  : (d.updPlane p f).mirState = d.mirState := rfl
@[simp] theorem Dev.updPcl_regs (d : Dev) (q : Fin 8) (f : Parcel → Parcel) : (d.updPcl q f).regs = d.regs := rfl
@[simp] theorem Dev.updPcl_clk (d : Dev) (q : Fin 8) (f : Parcel → Parcel) : (d.updPcl q f).clk = d.clk := rfl
@[simp] theorem Dev.updPcl_freeCtr (d : Dev) (q : Fin 8) (f : Parcel → Parcel) : (d.updPcl q f).freeCtr = d.freeCtr := rfl
@[simp] theorem Dev.updPcl_outbox (d : Dev) (q : Fin 8) (f : Parcel → Parcel) : (d.updPcl q f).outbox = d.outbox := rfl
@[simp] theorem Dev.updPcl_fus (d : Dev) (q : Fin 8) (f : Parcel → Parcel) : (d.updPcl q f).fus = d.fus := rfl
@[simp] theorem Dev.updPcl_led (d : Dev) (q : Fin 8) (f : Parcel → Parcel) : (d.updPcl q f).led = d.led := rfl
@[simp] theorem Dev.updPcl_boot (d : Dev) (q : Fin 8) (f : Parcel → Parcel) : (d.updPcl q f).boot = d.boot := rfl
@[simp] theorem Dev.updPcl_lat (d : Dev) (q : Fin 8) (f : Parcel → Parcel) : (d.updPcl q f).lat = d.lat := rfl
@[simp] theorem Dev.updPcl_host (d : Dev) (q : Fin 8) (f : Parcel → Parcel) : (d.updPcl q f).host = d.host := rfl
@[simp] theorem Dev.updPcl_locks (d : Dev) (q : Fin 8) (f : Parcel → Parcel) : (d.updPcl q f).locks = d.locks := rfl
@[simp] theorem Dev.updPcl_flt (d : Dev) (q : Fin 8) (f : Parcel → Parcel) : (d.updPcl q f).flt = d.flt := rfl
@[simp] theorem Dev.updPcl_gdl (d : Dev) (q : Fin 8) (f : Parcel → Parcel) : (d.updPcl q f).gdl = d.gdl := rfl
@[simp] theorem Dev.updPcl_dat (d : Dev) (q : Fin 8) (f : Parcel → Parcel) : (d.updPcl q f).dat = d.dat := rfl
@[simp] theorem Dev.updPcl_gals (d : Dev) (q : Fin 8) (f : Parcel → Parcel) : (d.updPcl q f).gals = d.gals := rfl
@[simp] theorem Dev.updPcl_planes (d : Dev) (q : Fin 8) (f : Parcel → Parcel) : (d.updPcl q f).planes = d.planes := rfl
@[simp] theorem Dev.updPcl_links (d : Dev) (q : Fin 8) (f : Parcel → Parcel) : (d.updPcl q f).links = d.links := rfl
@[simp] theorem Dev.updPcl_grp (d : Dev) (q : Fin 8) (f : Parcel → Parcel) : (d.updPcl q f).grp = d.grp := rfl
@[simp] theorem Dev.updPcl_hubs (d : Dev) (q : Fin 8) (f : Parcel → Parcel) : (d.updPcl q f).hubs = d.hubs := rfl
@[simp] theorem Dev.updPcl_ports (d : Dev) (q : Fin 8) (f : Parcel → Parcel) : (d.updPcl q f).ports = d.ports := rfl
@[simp] theorem Dev.updPcl_taps (d : Dev) (q : Fin 8) (f : Parcel → Parcel) : (d.updPcl q f).taps = d.taps := rfl
@[simp] theorem Dev.updPcl_stks (d : Dev) (q : Fin 8) (f : Parcel → Parcel) : (d.updPcl q f).stks = d.stks := rfl
@[simp] theorem Dev.updPcl_scp (d : Dev) (q : Fin 8) (f : Parcel → Parcel) : (d.updPcl q f).scp = d.scp := rfl
@[simp] theorem Dev.updPcl_march (d : Dev) (q : Fin 8) (f : Parcel → Parcel) : (d.updPcl q f).march = d.march := rfl
@[simp] theorem Dev.updPcl_pwr (d : Dev) (q : Fin 8) (f : Parcel → Parcel) : (d.updPcl q f).pwr = d.pwr := rfl
@[simp] theorem Dev.updPcl_clks (d : Dev) (q : Fin 8) (f : Parcel → Parcel) : (d.updPcl q f).clks = d.clks := rfl
@[simp] theorem Dev.updPcl_pins (d : Dev) (q : Fin 8) (f : Parcel → Parcel) : (d.updPcl q f).pins = d.pins := rfl
@[simp] theorem Dev.updPcl_reg (d : Dev) (q : Fin 8) (f : Parcel → Parcel) (b_ : Nat) : (d.updPcl q f).reg b_ = d.reg b_ := rfl
@[simp] theorem Dev.updPcl_rf (d : Dev) (q : Fin 8) (f : Parcel → Parcel) (b_ : Nat) (e_ : Fld) : (d.updPcl q f).rf b_ e_ = d.rf b_ e_ := rfl
@[simp] theorem Dev.updPcl_gal (d : Dev) (q : Fin 8) (f : Parcel → Parcel) (i_ : Fin 8) : (d.updPcl q f).gal i_ = d.gal i_ := rfl
@[simp] theorem Dev.updPcl_plane (d : Dev) (q : Fin 8) (f : Parcel → Parcel) (i_ : Fin 8) : (d.updPcl q f).plane i_ = d.plane i_ := rfl
@[simp] theorem Dev.updPcl_stk (d : Dev) (q : Fin 8) (f : Parcel → Parcel) (i_ : Fin 4) : (d.updPcl q f).stk i_ = d.stk i_ := rfl
@[simp] theorem Dev.updPcl_link (d : Dev) (q : Fin 8) (f : Parcel → Parcel) (i_ : Fin 6) : (d.updPcl q f).link i_ = d.link i_ := rfl
@[simp] theorem Dev.updPcl_ring (d : Dev) (q : Fin 8) (f : Parcel → Parcel) (i_ : Func) : (d.updPcl q f).ring i_ = d.ring i_ := rfl
@[simp] theorem Dev.updPcl_domSt (d : Dev) (q : Fin 8) (f : Parcel → Parcel) (i_ : Nat) : (d.updPcl q f).domSt i_ = d.domSt i_ := rfl
@[simp] theorem Dev.updPcl_mirState (d : Dev) (q : Fin 8) (f : Parcel → Parcel)  : (d.updPcl q f).mirState = d.mirState := rfl
@[simp] theorem Dev.updStk_regs (d : Dev) (k : Fin 4) (f : Stack → Stack) : (d.updStk k f).regs = d.regs := rfl
@[simp] theorem Dev.updStk_clk (d : Dev) (k : Fin 4) (f : Stack → Stack) : (d.updStk k f).clk = d.clk := rfl
@[simp] theorem Dev.updStk_freeCtr (d : Dev) (k : Fin 4) (f : Stack → Stack) : (d.updStk k f).freeCtr = d.freeCtr := rfl
@[simp] theorem Dev.updStk_outbox (d : Dev) (k : Fin 4) (f : Stack → Stack) : (d.updStk k f).outbox = d.outbox := rfl
@[simp] theorem Dev.updStk_fus (d : Dev) (k : Fin 4) (f : Stack → Stack) : (d.updStk k f).fus = d.fus := rfl
@[simp] theorem Dev.updStk_led (d : Dev) (k : Fin 4) (f : Stack → Stack) : (d.updStk k f).led = d.led := rfl
@[simp] theorem Dev.updStk_boot (d : Dev) (k : Fin 4) (f : Stack → Stack) : (d.updStk k f).boot = d.boot := rfl
@[simp] theorem Dev.updStk_lat (d : Dev) (k : Fin 4) (f : Stack → Stack) : (d.updStk k f).lat = d.lat := rfl
@[simp] theorem Dev.updStk_host (d : Dev) (k : Fin 4) (f : Stack → Stack) : (d.updStk k f).host = d.host := rfl
@[simp] theorem Dev.updStk_locks (d : Dev) (k : Fin 4) (f : Stack → Stack) : (d.updStk k f).locks = d.locks := rfl
@[simp] theorem Dev.updStk_flt (d : Dev) (k : Fin 4) (f : Stack → Stack) : (d.updStk k f).flt = d.flt := rfl
@[simp] theorem Dev.updStk_gdl (d : Dev) (k : Fin 4) (f : Stack → Stack) : (d.updStk k f).gdl = d.gdl := rfl
@[simp] theorem Dev.updStk_dat (d : Dev) (k : Fin 4) (f : Stack → Stack) : (d.updStk k f).dat = d.dat := rfl
@[simp] theorem Dev.updStk_gals (d : Dev) (k : Fin 4) (f : Stack → Stack) : (d.updStk k f).gals = d.gals := rfl
@[simp] theorem Dev.updStk_planes (d : Dev) (k : Fin 4) (f : Stack → Stack) : (d.updStk k f).planes = d.planes := rfl
@[simp] theorem Dev.updStk_pcls (d : Dev) (k : Fin 4) (f : Stack → Stack) : (d.updStk k f).pcls = d.pcls := rfl
@[simp] theorem Dev.updStk_links (d : Dev) (k : Fin 4) (f : Stack → Stack) : (d.updStk k f).links = d.links := rfl
@[simp] theorem Dev.updStk_grp (d : Dev) (k : Fin 4) (f : Stack → Stack) : (d.updStk k f).grp = d.grp := rfl
@[simp] theorem Dev.updStk_hubs (d : Dev) (k : Fin 4) (f : Stack → Stack) : (d.updStk k f).hubs = d.hubs := rfl
@[simp] theorem Dev.updStk_ports (d : Dev) (k : Fin 4) (f : Stack → Stack) : (d.updStk k f).ports = d.ports := rfl
@[simp] theorem Dev.updStk_taps (d : Dev) (k : Fin 4) (f : Stack → Stack) : (d.updStk k f).taps = d.taps := rfl
@[simp] theorem Dev.updStk_scp (d : Dev) (k : Fin 4) (f : Stack → Stack) : (d.updStk k f).scp = d.scp := rfl
@[simp] theorem Dev.updStk_march (d : Dev) (k : Fin 4) (f : Stack → Stack) : (d.updStk k f).march = d.march := rfl
@[simp] theorem Dev.updStk_pwr (d : Dev) (k : Fin 4) (f : Stack → Stack) : (d.updStk k f).pwr = d.pwr := rfl
@[simp] theorem Dev.updStk_clks (d : Dev) (k : Fin 4) (f : Stack → Stack) : (d.updStk k f).clks = d.clks := rfl
@[simp] theorem Dev.updStk_pins (d : Dev) (k : Fin 4) (f : Stack → Stack) : (d.updStk k f).pins = d.pins := rfl
@[simp] theorem Dev.updStk_reg (d : Dev) (k : Fin 4) (f : Stack → Stack) (b_ : Nat) : (d.updStk k f).reg b_ = d.reg b_ := rfl
@[simp] theorem Dev.updStk_rf (d : Dev) (k : Fin 4) (f : Stack → Stack) (b_ : Nat) (e_ : Fld) : (d.updStk k f).rf b_ e_ = d.rf b_ e_ := rfl
@[simp] theorem Dev.updStk_gal (d : Dev) (k : Fin 4) (f : Stack → Stack) (i_ : Fin 8) : (d.updStk k f).gal i_ = d.gal i_ := rfl
@[simp] theorem Dev.updStk_plane (d : Dev) (k : Fin 4) (f : Stack → Stack) (i_ : Fin 8) : (d.updStk k f).plane i_ = d.plane i_ := rfl
@[simp] theorem Dev.updStk_pcl (d : Dev) (k : Fin 4) (f : Stack → Stack) (i_ : Fin 8) : (d.updStk k f).pcl i_ = d.pcl i_ := rfl
@[simp] theorem Dev.updStk_link (d : Dev) (k : Fin 4) (f : Stack → Stack) (i_ : Fin 6) : (d.updStk k f).link i_ = d.link i_ := rfl
@[simp] theorem Dev.updStk_ring (d : Dev) (k : Fin 4) (f : Stack → Stack) (i_ : Func) : (d.updStk k f).ring i_ = d.ring i_ := rfl
@[simp] theorem Dev.updStk_domSt (d : Dev) (k : Fin 4) (f : Stack → Stack) (i_ : Nat) : (d.updStk k f).domSt i_ = d.domSt i_ := rfl
@[simp] theorem Dev.updStk_mirState (d : Dev) (k : Fin 4) (f : Stack → Stack)  : (d.updStk k f).mirState = d.mirState := rfl
@[simp] theorem Dev.updLink_regs (d : Dev) (k : Fin 6) (f : Link → Link) : (d.updLink k f).regs = d.regs := rfl
@[simp] theorem Dev.updLink_clk (d : Dev) (k : Fin 6) (f : Link → Link) : (d.updLink k f).clk = d.clk := rfl
@[simp] theorem Dev.updLink_freeCtr (d : Dev) (k : Fin 6) (f : Link → Link) : (d.updLink k f).freeCtr = d.freeCtr := rfl
@[simp] theorem Dev.updLink_outbox (d : Dev) (k : Fin 6) (f : Link → Link) : (d.updLink k f).outbox = d.outbox := rfl
@[simp] theorem Dev.updLink_fus (d : Dev) (k : Fin 6) (f : Link → Link) : (d.updLink k f).fus = d.fus := rfl
@[simp] theorem Dev.updLink_led (d : Dev) (k : Fin 6) (f : Link → Link) : (d.updLink k f).led = d.led := rfl
@[simp] theorem Dev.updLink_boot (d : Dev) (k : Fin 6) (f : Link → Link) : (d.updLink k f).boot = d.boot := rfl
@[simp] theorem Dev.updLink_lat (d : Dev) (k : Fin 6) (f : Link → Link) : (d.updLink k f).lat = d.lat := rfl
@[simp] theorem Dev.updLink_host (d : Dev) (k : Fin 6) (f : Link → Link) : (d.updLink k f).host = d.host := rfl
@[simp] theorem Dev.updLink_locks (d : Dev) (k : Fin 6) (f : Link → Link) : (d.updLink k f).locks = d.locks := rfl
@[simp] theorem Dev.updLink_flt (d : Dev) (k : Fin 6) (f : Link → Link) : (d.updLink k f).flt = d.flt := rfl
@[simp] theorem Dev.updLink_gdl (d : Dev) (k : Fin 6) (f : Link → Link) : (d.updLink k f).gdl = d.gdl := rfl
@[simp] theorem Dev.updLink_dat (d : Dev) (k : Fin 6) (f : Link → Link) : (d.updLink k f).dat = d.dat := rfl
@[simp] theorem Dev.updLink_gals (d : Dev) (k : Fin 6) (f : Link → Link) : (d.updLink k f).gals = d.gals := rfl
@[simp] theorem Dev.updLink_planes (d : Dev) (k : Fin 6) (f : Link → Link) : (d.updLink k f).planes = d.planes := rfl
@[simp] theorem Dev.updLink_pcls (d : Dev) (k : Fin 6) (f : Link → Link) : (d.updLink k f).pcls = d.pcls := rfl
@[simp] theorem Dev.updLink_grp (d : Dev) (k : Fin 6) (f : Link → Link) : (d.updLink k f).grp = d.grp := rfl
@[simp] theorem Dev.updLink_hubs (d : Dev) (k : Fin 6) (f : Link → Link) : (d.updLink k f).hubs = d.hubs := rfl
@[simp] theorem Dev.updLink_ports (d : Dev) (k : Fin 6) (f : Link → Link) : (d.updLink k f).ports = d.ports := rfl
@[simp] theorem Dev.updLink_taps (d : Dev) (k : Fin 6) (f : Link → Link) : (d.updLink k f).taps = d.taps := rfl
@[simp] theorem Dev.updLink_stks (d : Dev) (k : Fin 6) (f : Link → Link) : (d.updLink k f).stks = d.stks := rfl
@[simp] theorem Dev.updLink_scp (d : Dev) (k : Fin 6) (f : Link → Link) : (d.updLink k f).scp = d.scp := rfl
@[simp] theorem Dev.updLink_march (d : Dev) (k : Fin 6) (f : Link → Link) : (d.updLink k f).march = d.march := rfl
@[simp] theorem Dev.updLink_pwr (d : Dev) (k : Fin 6) (f : Link → Link) : (d.updLink k f).pwr = d.pwr := rfl
@[simp] theorem Dev.updLink_clks (d : Dev) (k : Fin 6) (f : Link → Link) : (d.updLink k f).clks = d.clks := rfl
@[simp] theorem Dev.updLink_pins (d : Dev) (k : Fin 6) (f : Link → Link) : (d.updLink k f).pins = d.pins := rfl
@[simp] theorem Dev.updLink_reg (d : Dev) (k : Fin 6) (f : Link → Link) (b_ : Nat) : (d.updLink k f).reg b_ = d.reg b_ := rfl
@[simp] theorem Dev.updLink_rf (d : Dev) (k : Fin 6) (f : Link → Link) (b_ : Nat) (e_ : Fld) : (d.updLink k f).rf b_ e_ = d.rf b_ e_ := rfl
@[simp] theorem Dev.updLink_gal (d : Dev) (k : Fin 6) (f : Link → Link) (i_ : Fin 8) : (d.updLink k f).gal i_ = d.gal i_ := rfl
@[simp] theorem Dev.updLink_plane (d : Dev) (k : Fin 6) (f : Link → Link) (i_ : Fin 8) : (d.updLink k f).plane i_ = d.plane i_ := rfl
@[simp] theorem Dev.updLink_pcl (d : Dev) (k : Fin 6) (f : Link → Link) (i_ : Fin 8) : (d.updLink k f).pcl i_ = d.pcl i_ := rfl
@[simp] theorem Dev.updLink_stk (d : Dev) (k : Fin 6) (f : Link → Link) (i_ : Fin 4) : (d.updLink k f).stk i_ = d.stk i_ := rfl
@[simp] theorem Dev.updLink_ring (d : Dev) (k : Fin 6) (f : Link → Link) (i_ : Func) : (d.updLink k f).ring i_ = d.ring i_ := rfl
@[simp] theorem Dev.updLink_domSt (d : Dev) (k : Fin 6) (f : Link → Link) (i_ : Nat) : (d.updLink k f).domSt i_ = d.domSt i_ := rfl
@[simp] theorem Dev.updLink_mirState (d : Dev) (k : Fin 6) (f : Link → Link)  : (d.updLink k f).mirState = d.mirState := rfl
@[simp] theorem Dev.updRing_regs (d : Dev) (x : Func) (f : Rings → Rings) : (d.updRing x f).regs = d.regs := rfl
@[simp] theorem Dev.updRing_clk (d : Dev) (x : Func) (f : Rings → Rings) : (d.updRing x f).clk = d.clk := rfl
@[simp] theorem Dev.updRing_freeCtr (d : Dev) (x : Func) (f : Rings → Rings) : (d.updRing x f).freeCtr = d.freeCtr := rfl
@[simp] theorem Dev.updRing_outbox (d : Dev) (x : Func) (f : Rings → Rings) : (d.updRing x f).outbox = d.outbox := rfl
@[simp] theorem Dev.updRing_fus (d : Dev) (x : Func) (f : Rings → Rings) : (d.updRing x f).fus = d.fus := rfl
@[simp] theorem Dev.updRing_led (d : Dev) (x : Func) (f : Rings → Rings) : (d.updRing x f).led = d.led := rfl
@[simp] theorem Dev.updRing_boot (d : Dev) (x : Func) (f : Rings → Rings) : (d.updRing x f).boot = d.boot := rfl
@[simp] theorem Dev.updRing_lat (d : Dev) (x : Func) (f : Rings → Rings) : (d.updRing x f).lat = d.lat := rfl
@[simp] theorem Dev.updRing_locks (d : Dev) (x : Func) (f : Rings → Rings) : (d.updRing x f).locks = d.locks := rfl
@[simp] theorem Dev.updRing_flt (d : Dev) (x : Func) (f : Rings → Rings) : (d.updRing x f).flt = d.flt := rfl
@[simp] theorem Dev.updRing_gdl (d : Dev) (x : Func) (f : Rings → Rings) : (d.updRing x f).gdl = d.gdl := rfl
@[simp] theorem Dev.updRing_dat (d : Dev) (x : Func) (f : Rings → Rings) : (d.updRing x f).dat = d.dat := rfl
@[simp] theorem Dev.updRing_gals (d : Dev) (x : Func) (f : Rings → Rings) : (d.updRing x f).gals = d.gals := rfl
@[simp] theorem Dev.updRing_planes (d : Dev) (x : Func) (f : Rings → Rings) : (d.updRing x f).planes = d.planes := rfl
@[simp] theorem Dev.updRing_pcls (d : Dev) (x : Func) (f : Rings → Rings) : (d.updRing x f).pcls = d.pcls := rfl
@[simp] theorem Dev.updRing_links (d : Dev) (x : Func) (f : Rings → Rings) : (d.updRing x f).links = d.links := rfl
@[simp] theorem Dev.updRing_grp (d : Dev) (x : Func) (f : Rings → Rings) : (d.updRing x f).grp = d.grp := rfl
@[simp] theorem Dev.updRing_hubs (d : Dev) (x : Func) (f : Rings → Rings) : (d.updRing x f).hubs = d.hubs := rfl
@[simp] theorem Dev.updRing_ports (d : Dev) (x : Func) (f : Rings → Rings) : (d.updRing x f).ports = d.ports := rfl
@[simp] theorem Dev.updRing_taps (d : Dev) (x : Func) (f : Rings → Rings) : (d.updRing x f).taps = d.taps := rfl
@[simp] theorem Dev.updRing_stks (d : Dev) (x : Func) (f : Rings → Rings) : (d.updRing x f).stks = d.stks := rfl
@[simp] theorem Dev.updRing_scp (d : Dev) (x : Func) (f : Rings → Rings) : (d.updRing x f).scp = d.scp := rfl
@[simp] theorem Dev.updRing_march (d : Dev) (x : Func) (f : Rings → Rings) : (d.updRing x f).march = d.march := rfl
@[simp] theorem Dev.updRing_pwr (d : Dev) (x : Func) (f : Rings → Rings) : (d.updRing x f).pwr = d.pwr := rfl
@[simp] theorem Dev.updRing_clks (d : Dev) (x : Func) (f : Rings → Rings) : (d.updRing x f).clks = d.clks := rfl
@[simp] theorem Dev.updRing_pins (d : Dev) (x : Func) (f : Rings → Rings) : (d.updRing x f).pins = d.pins := rfl
@[simp] theorem Dev.updRing_reg (d : Dev) (x : Func) (f : Rings → Rings) (b_ : Nat) : (d.updRing x f).reg b_ = d.reg b_ := rfl
@[simp] theorem Dev.updRing_rf (d : Dev) (x : Func) (f : Rings → Rings) (b_ : Nat) (e_ : Fld) : (d.updRing x f).rf b_ e_ = d.rf b_ e_ := rfl
@[simp] theorem Dev.updRing_gal (d : Dev) (x : Func) (f : Rings → Rings) (i_ : Fin 8) : (d.updRing x f).gal i_ = d.gal i_ := rfl
@[simp] theorem Dev.updRing_plane (d : Dev) (x : Func) (f : Rings → Rings) (i_ : Fin 8) : (d.updRing x f).plane i_ = d.plane i_ := rfl
@[simp] theorem Dev.updRing_pcl (d : Dev) (x : Func) (f : Rings → Rings) (i_ : Fin 8) : (d.updRing x f).pcl i_ = d.pcl i_ := rfl
@[simp] theorem Dev.updRing_stk (d : Dev) (x : Func) (f : Rings → Rings) (i_ : Fin 4) : (d.updRing x f).stk i_ = d.stk i_ := rfl
@[simp] theorem Dev.updRing_link (d : Dev) (x : Func) (f : Rings → Rings) (i_ : Fin 6) : (d.updRing x f).link i_ = d.link i_ := rfl
@[simp] theorem Dev.updRing_domSt (d : Dev) (x : Func) (f : Rings → Rings) (i_ : Nat) : (d.updRing x f).domSt i_ = d.domSt i_ := rfl
@[simp] theorem Dev.updRing_mirState (d : Dev) (x : Func) (f : Rings → Rings)  : (d.updRing x f).mirState = d.mirState := rfl
@[simp] theorem Dev.updDom_regs (d : Dev) (i : Nat) (f : Dom → Dom) : (d.updDom i f).regs = d.regs := by unfold Dev.updDom; split <;> rfl
@[simp] theorem Dev.updDom_clk (d : Dev) (i : Nat) (f : Dom → Dom) : (d.updDom i f).clk = d.clk := by unfold Dev.updDom; split <;> rfl
@[simp] theorem Dev.updDom_freeCtr (d : Dev) (i : Nat) (f : Dom → Dom) : (d.updDom i f).freeCtr = d.freeCtr := by unfold Dev.updDom; split <;> rfl
@[simp] theorem Dev.updDom_outbox (d : Dev) (i : Nat) (f : Dom → Dom) : (d.updDom i f).outbox = d.outbox := by unfold Dev.updDom; split <;> rfl
@[simp] theorem Dev.updDom_fus (d : Dev) (i : Nat) (f : Dom → Dom) : (d.updDom i f).fus = d.fus := by unfold Dev.updDom; split <;> rfl
@[simp] theorem Dev.updDom_led (d : Dev) (i : Nat) (f : Dom → Dom) : (d.updDom i f).led = d.led := by unfold Dev.updDom; split <;> rfl
@[simp] theorem Dev.updDom_boot (d : Dev) (i : Nat) (f : Dom → Dom) : (d.updDom i f).boot = d.boot := by unfold Dev.updDom; split <;> rfl
@[simp] theorem Dev.updDom_lat (d : Dev) (i : Nat) (f : Dom → Dom) : (d.updDom i f).lat = d.lat := by unfold Dev.updDom; split <;> rfl
@[simp] theorem Dev.updDom_host (d : Dev) (i : Nat) (f : Dom → Dom) : (d.updDom i f).host = d.host := by unfold Dev.updDom; split <;> rfl
@[simp] theorem Dev.updDom_locks (d : Dev) (i : Nat) (f : Dom → Dom) : (d.updDom i f).locks = d.locks := by unfold Dev.updDom; split <;> rfl
@[simp] theorem Dev.updDom_flt (d : Dev) (i : Nat) (f : Dom → Dom) : (d.updDom i f).flt = d.flt := by unfold Dev.updDom; split <;> rfl
@[simp] theorem Dev.updDom_gdl (d : Dev) (i : Nat) (f : Dom → Dom) : (d.updDom i f).gdl = d.gdl := by unfold Dev.updDom; split <;> rfl
@[simp] theorem Dev.updDom_dat (d : Dev) (i : Nat) (f : Dom → Dom) : (d.updDom i f).dat = d.dat := by unfold Dev.updDom; split <;> rfl
@[simp] theorem Dev.updDom_gals (d : Dev) (i : Nat) (f : Dom → Dom) : (d.updDom i f).gals = d.gals := by unfold Dev.updDom; split <;> rfl
@[simp] theorem Dev.updDom_planes (d : Dev) (i : Nat) (f : Dom → Dom) : (d.updDom i f).planes = d.planes := by unfold Dev.updDom; split <;> rfl
@[simp] theorem Dev.updDom_pcls (d : Dev) (i : Nat) (f : Dom → Dom) : (d.updDom i f).pcls = d.pcls := by unfold Dev.updDom; split <;> rfl
@[simp] theorem Dev.updDom_links (d : Dev) (i : Nat) (f : Dom → Dom) : (d.updDom i f).links = d.links := by unfold Dev.updDom; split <;> rfl
@[simp] theorem Dev.updDom_grp (d : Dev) (i : Nat) (f : Dom → Dom) : (d.updDom i f).grp = d.grp := by unfold Dev.updDom; split <;> rfl
@[simp] theorem Dev.updDom_hubs (d : Dev) (i : Nat) (f : Dom → Dom) : (d.updDom i f).hubs = d.hubs := by unfold Dev.updDom; split <;> rfl
@[simp] theorem Dev.updDom_ports (d : Dev) (i : Nat) (f : Dom → Dom) : (d.updDom i f).ports = d.ports := by unfold Dev.updDom; split <;> rfl
@[simp] theorem Dev.updDom_taps (d : Dev) (i : Nat) (f : Dom → Dom) : (d.updDom i f).taps = d.taps := by unfold Dev.updDom; split <;> rfl
@[simp] theorem Dev.updDom_stks (d : Dev) (i : Nat) (f : Dom → Dom) : (d.updDom i f).stks = d.stks := by unfold Dev.updDom; split <;> rfl
@[simp] theorem Dev.updDom_scp (d : Dev) (i : Nat) (f : Dom → Dom) : (d.updDom i f).scp = d.scp := by unfold Dev.updDom; split <;> rfl
@[simp] theorem Dev.updDom_march (d : Dev) (i : Nat) (f : Dom → Dom) : (d.updDom i f).march = d.march := by unfold Dev.updDom; split <;> rfl
@[simp] theorem Dev.updDom_clks (d : Dev) (i : Nat) (f : Dom → Dom) : (d.updDom i f).clks = d.clks := by unfold Dev.updDom; split <;> rfl
@[simp] theorem Dev.updDom_pins (d : Dev) (i : Nat) (f : Dom → Dom) : (d.updDom i f).pins = d.pins := by unfold Dev.updDom; split <;> rfl
@[simp] theorem Dev.updDom_reg (d : Dev) (i : Nat) (f : Dom → Dom) (b_ : Nat) : (d.updDom i f).reg b_ = d.reg b_ := by unfold Dev.updDom; split <;> rfl
@[simp] theorem Dev.updDom_rf (d : Dev) (i : Nat) (f : Dom → Dom) (b_ : Nat) (e_ : Fld) : (d.updDom i f).rf b_ e_ = d.rf b_ e_ := by unfold Dev.updDom; split <;> rfl
@[simp] theorem Dev.updDom_gal (d : Dev) (i : Nat) (f : Dom → Dom) (i_ : Fin 8) : (d.updDom i f).gal i_ = d.gal i_ := by unfold Dev.updDom; split <;> rfl
@[simp] theorem Dev.updDom_plane (d : Dev) (i : Nat) (f : Dom → Dom) (i_ : Fin 8) : (d.updDom i f).plane i_ = d.plane i_ := by unfold Dev.updDom; split <;> rfl
@[simp] theorem Dev.updDom_pcl (d : Dev) (i : Nat) (f : Dom → Dom) (i_ : Fin 8) : (d.updDom i f).pcl i_ = d.pcl i_ := by unfold Dev.updDom; split <;> rfl
@[simp] theorem Dev.updDom_stk (d : Dev) (i : Nat) (f : Dom → Dom) (i_ : Fin 4) : (d.updDom i f).stk i_ = d.stk i_ := by unfold Dev.updDom; split <;> rfl
@[simp] theorem Dev.updDom_link (d : Dev) (i : Nat) (f : Dom → Dom) (i_ : Fin 6) : (d.updDom i f).link i_ = d.link i_ := by unfold Dev.updDom; split <;> rfl
@[simp] theorem Dev.updDom_ring (d : Dev) (i : Nat) (f : Dom → Dom) (i_ : Func) : (d.updDom i f).ring i_ = d.ring i_ := by unfold Dev.updDom; split <;> rfl
@[simp] theorem Dev.updDom_mirState (d : Dev) (i : Nat) (f : Dom → Dom)  : (d.updDom i f).mirState = d.mirState := by unfold Dev.updDom; split <;> rfl
@[simp] theorem Dev.updBoot_regs (d : Dev) (f : Boot → Boot) : (d.updBoot f).regs = d.regs := rfl
@[simp] theorem Dev.updBoot_clk (d : Dev) (f : Boot → Boot) : (d.updBoot f).clk = d.clk := rfl
@[simp] theorem Dev.updBoot_freeCtr (d : Dev) (f : Boot → Boot) : (d.updBoot f).freeCtr = d.freeCtr := rfl
@[simp] theorem Dev.updBoot_outbox (d : Dev) (f : Boot → Boot) : (d.updBoot f).outbox = d.outbox := rfl
@[simp] theorem Dev.updBoot_fus (d : Dev) (f : Boot → Boot) : (d.updBoot f).fus = d.fus := rfl
@[simp] theorem Dev.updBoot_led (d : Dev) (f : Boot → Boot) : (d.updBoot f).led = d.led := rfl
@[simp] theorem Dev.updBoot_lat (d : Dev) (f : Boot → Boot) : (d.updBoot f).lat = d.lat := rfl
@[simp] theorem Dev.updBoot_host (d : Dev) (f : Boot → Boot) : (d.updBoot f).host = d.host := rfl
@[simp] theorem Dev.updBoot_locks (d : Dev) (f : Boot → Boot) : (d.updBoot f).locks = d.locks := rfl
@[simp] theorem Dev.updBoot_flt (d : Dev) (f : Boot → Boot) : (d.updBoot f).flt = d.flt := rfl
@[simp] theorem Dev.updBoot_gdl (d : Dev) (f : Boot → Boot) : (d.updBoot f).gdl = d.gdl := rfl
@[simp] theorem Dev.updBoot_dat (d : Dev) (f : Boot → Boot) : (d.updBoot f).dat = d.dat := rfl
@[simp] theorem Dev.updBoot_gals (d : Dev) (f : Boot → Boot) : (d.updBoot f).gals = d.gals := rfl
@[simp] theorem Dev.updBoot_planes (d : Dev) (f : Boot → Boot) : (d.updBoot f).planes = d.planes := rfl
@[simp] theorem Dev.updBoot_pcls (d : Dev) (f : Boot → Boot) : (d.updBoot f).pcls = d.pcls := rfl
@[simp] theorem Dev.updBoot_links (d : Dev) (f : Boot → Boot) : (d.updBoot f).links = d.links := rfl
@[simp] theorem Dev.updBoot_grp (d : Dev) (f : Boot → Boot) : (d.updBoot f).grp = d.grp := rfl
@[simp] theorem Dev.updBoot_hubs (d : Dev) (f : Boot → Boot) : (d.updBoot f).hubs = d.hubs := rfl
@[simp] theorem Dev.updBoot_ports (d : Dev) (f : Boot → Boot) : (d.updBoot f).ports = d.ports := rfl
@[simp] theorem Dev.updBoot_taps (d : Dev) (f : Boot → Boot) : (d.updBoot f).taps = d.taps := rfl
@[simp] theorem Dev.updBoot_stks (d : Dev) (f : Boot → Boot) : (d.updBoot f).stks = d.stks := rfl
@[simp] theorem Dev.updBoot_scp (d : Dev) (f : Boot → Boot) : (d.updBoot f).scp = d.scp := rfl
@[simp] theorem Dev.updBoot_march (d : Dev) (f : Boot → Boot) : (d.updBoot f).march = d.march := rfl
@[simp] theorem Dev.updBoot_pwr (d : Dev) (f : Boot → Boot) : (d.updBoot f).pwr = d.pwr := rfl
@[simp] theorem Dev.updBoot_clks (d : Dev) (f : Boot → Boot) : (d.updBoot f).clks = d.clks := rfl
@[simp] theorem Dev.updBoot_pins (d : Dev) (f : Boot → Boot) : (d.updBoot f).pins = d.pins := rfl
@[simp] theorem Dev.updBoot_reg (d : Dev) (f : Boot → Boot) (b_ : Nat) : (d.updBoot f).reg b_ = d.reg b_ := rfl
@[simp] theorem Dev.updBoot_rf (d : Dev) (f : Boot → Boot) (b_ : Nat) (e_ : Fld) : (d.updBoot f).rf b_ e_ = d.rf b_ e_ := rfl
@[simp] theorem Dev.updBoot_gal (d : Dev) (f : Boot → Boot) (i_ : Fin 8) : (d.updBoot f).gal i_ = d.gal i_ := rfl
@[simp] theorem Dev.updBoot_plane (d : Dev) (f : Boot → Boot) (i_ : Fin 8) : (d.updBoot f).plane i_ = d.plane i_ := rfl
@[simp] theorem Dev.updBoot_pcl (d : Dev) (f : Boot → Boot) (i_ : Fin 8) : (d.updBoot f).pcl i_ = d.pcl i_ := rfl
@[simp] theorem Dev.updBoot_stk (d : Dev) (f : Boot → Boot) (i_ : Fin 4) : (d.updBoot f).stk i_ = d.stk i_ := rfl
@[simp] theorem Dev.updBoot_link (d : Dev) (f : Boot → Boot) (i_ : Fin 6) : (d.updBoot f).link i_ = d.link i_ := rfl
@[simp] theorem Dev.updBoot_ring (d : Dev) (f : Boot → Boot) (i_ : Func) : (d.updBoot f).ring i_ = d.ring i_ := rfl
@[simp] theorem Dev.updBoot_domSt (d : Dev) (f : Boot → Boot) (i_ : Nat) : (d.updBoot f).domSt i_ = d.domSt i_ := rfl
@[simp] theorem Dev.updBoot_mirState (d : Dev) (f : Boot → Boot)  : (d.updBoot f).mirState = d.mirState := rfl
@[simp] theorem Dev.updLed_regs (d : Dev) (f : Ledger → Ledger) : (d.updLed f).regs = d.regs := rfl
@[simp] theorem Dev.updLed_clk (d : Dev) (f : Ledger → Ledger) : (d.updLed f).clk = d.clk := rfl
@[simp] theorem Dev.updLed_freeCtr (d : Dev) (f : Ledger → Ledger) : (d.updLed f).freeCtr = d.freeCtr := rfl
@[simp] theorem Dev.updLed_outbox (d : Dev) (f : Ledger → Ledger) : (d.updLed f).outbox = d.outbox := rfl
@[simp] theorem Dev.updLed_fus (d : Dev) (f : Ledger → Ledger) : (d.updLed f).fus = d.fus := rfl
@[simp] theorem Dev.updLed_boot (d : Dev) (f : Ledger → Ledger) : (d.updLed f).boot = d.boot := rfl
@[simp] theorem Dev.updLed_lat (d : Dev) (f : Ledger → Ledger) : (d.updLed f).lat = d.lat := rfl
@[simp] theorem Dev.updLed_host (d : Dev) (f : Ledger → Ledger) : (d.updLed f).host = d.host := rfl
@[simp] theorem Dev.updLed_locks (d : Dev) (f : Ledger → Ledger) : (d.updLed f).locks = d.locks := rfl
@[simp] theorem Dev.updLed_flt (d : Dev) (f : Ledger → Ledger) : (d.updLed f).flt = d.flt := rfl
@[simp] theorem Dev.updLed_gdl (d : Dev) (f : Ledger → Ledger) : (d.updLed f).gdl = d.gdl := rfl
@[simp] theorem Dev.updLed_dat (d : Dev) (f : Ledger → Ledger) : (d.updLed f).dat = d.dat := rfl
@[simp] theorem Dev.updLed_gals (d : Dev) (f : Ledger → Ledger) : (d.updLed f).gals = d.gals := rfl
@[simp] theorem Dev.updLed_planes (d : Dev) (f : Ledger → Ledger) : (d.updLed f).planes = d.planes := rfl
@[simp] theorem Dev.updLed_pcls (d : Dev) (f : Ledger → Ledger) : (d.updLed f).pcls = d.pcls := rfl
@[simp] theorem Dev.updLed_links (d : Dev) (f : Ledger → Ledger) : (d.updLed f).links = d.links := rfl
@[simp] theorem Dev.updLed_grp (d : Dev) (f : Ledger → Ledger) : (d.updLed f).grp = d.grp := rfl
@[simp] theorem Dev.updLed_hubs (d : Dev) (f : Ledger → Ledger) : (d.updLed f).hubs = d.hubs := rfl
@[simp] theorem Dev.updLed_ports (d : Dev) (f : Ledger → Ledger) : (d.updLed f).ports = d.ports := rfl
@[simp] theorem Dev.updLed_taps (d : Dev) (f : Ledger → Ledger) : (d.updLed f).taps = d.taps := rfl
@[simp] theorem Dev.updLed_stks (d : Dev) (f : Ledger → Ledger) : (d.updLed f).stks = d.stks := rfl
@[simp] theorem Dev.updLed_scp (d : Dev) (f : Ledger → Ledger) : (d.updLed f).scp = d.scp := rfl
@[simp] theorem Dev.updLed_march (d : Dev) (f : Ledger → Ledger) : (d.updLed f).march = d.march := rfl
@[simp] theorem Dev.updLed_pwr (d : Dev) (f : Ledger → Ledger) : (d.updLed f).pwr = d.pwr := rfl
@[simp] theorem Dev.updLed_clks (d : Dev) (f : Ledger → Ledger) : (d.updLed f).clks = d.clks := rfl
@[simp] theorem Dev.updLed_pins (d : Dev) (f : Ledger → Ledger) : (d.updLed f).pins = d.pins := rfl
@[simp] theorem Dev.updLed_reg (d : Dev) (f : Ledger → Ledger) (b_ : Nat) : (d.updLed f).reg b_ = d.reg b_ := rfl
@[simp] theorem Dev.updLed_rf (d : Dev) (f : Ledger → Ledger) (b_ : Nat) (e_ : Fld) : (d.updLed f).rf b_ e_ = d.rf b_ e_ := rfl
@[simp] theorem Dev.updLed_gal (d : Dev) (f : Ledger → Ledger) (i_ : Fin 8) : (d.updLed f).gal i_ = d.gal i_ := rfl
@[simp] theorem Dev.updLed_plane (d : Dev) (f : Ledger → Ledger) (i_ : Fin 8) : (d.updLed f).plane i_ = d.plane i_ := rfl
@[simp] theorem Dev.updLed_pcl (d : Dev) (f : Ledger → Ledger) (i_ : Fin 8) : (d.updLed f).pcl i_ = d.pcl i_ := rfl
@[simp] theorem Dev.updLed_stk (d : Dev) (f : Ledger → Ledger) (i_ : Fin 4) : (d.updLed f).stk i_ = d.stk i_ := rfl
@[simp] theorem Dev.updLed_link (d : Dev) (f : Ledger → Ledger) (i_ : Fin 6) : (d.updLed f).link i_ = d.link i_ := rfl
@[simp] theorem Dev.updLed_ring (d : Dev) (f : Ledger → Ledger) (i_ : Func) : (d.updLed f).ring i_ = d.ring i_ := rfl
@[simp] theorem Dev.updLed_domSt (d : Dev) (f : Ledger → Ledger) (i_ : Nat) : (d.updLed f).domSt i_ = d.domSt i_ := rfl
@[simp] theorem Dev.updLed_mirState (d : Dev) (f : Ledger → Ledger)  : (d.updLed f).mirState = d.mirState := rfl
@[simp] theorem Dev.updPort_regs (d : Dev) (p : Fin 16) (f : Port → Port) : (d.updPort p f).regs = d.regs := rfl
@[simp] theorem Dev.updPort_clk (d : Dev) (p : Fin 16) (f : Port → Port) : (d.updPort p f).clk = d.clk := rfl
@[simp] theorem Dev.updPort_freeCtr (d : Dev) (p : Fin 16) (f : Port → Port) : (d.updPort p f).freeCtr = d.freeCtr := rfl
@[simp] theorem Dev.updPort_outbox (d : Dev) (p : Fin 16) (f : Port → Port) : (d.updPort p f).outbox = d.outbox := rfl
@[simp] theorem Dev.updPort_fus (d : Dev) (p : Fin 16) (f : Port → Port) : (d.updPort p f).fus = d.fus := rfl
@[simp] theorem Dev.updPort_led (d : Dev) (p : Fin 16) (f : Port → Port) : (d.updPort p f).led = d.led := rfl
@[simp] theorem Dev.updPort_boot (d : Dev) (p : Fin 16) (f : Port → Port) : (d.updPort p f).boot = d.boot := rfl
@[simp] theorem Dev.updPort_lat (d : Dev) (p : Fin 16) (f : Port → Port) : (d.updPort p f).lat = d.lat := rfl
@[simp] theorem Dev.updPort_host (d : Dev) (p : Fin 16) (f : Port → Port) : (d.updPort p f).host = d.host := rfl
@[simp] theorem Dev.updPort_locks (d : Dev) (p : Fin 16) (f : Port → Port) : (d.updPort p f).locks = d.locks := rfl
@[simp] theorem Dev.updPort_flt (d : Dev) (p : Fin 16) (f : Port → Port) : (d.updPort p f).flt = d.flt := rfl
@[simp] theorem Dev.updPort_gdl (d : Dev) (p : Fin 16) (f : Port → Port) : (d.updPort p f).gdl = d.gdl := rfl
@[simp] theorem Dev.updPort_dat (d : Dev) (p : Fin 16) (f : Port → Port) : (d.updPort p f).dat = d.dat := rfl
@[simp] theorem Dev.updPort_gals (d : Dev) (p : Fin 16) (f : Port → Port) : (d.updPort p f).gals = d.gals := rfl
@[simp] theorem Dev.updPort_planes (d : Dev) (p : Fin 16) (f : Port → Port) : (d.updPort p f).planes = d.planes := rfl
@[simp] theorem Dev.updPort_pcls (d : Dev) (p : Fin 16) (f : Port → Port) : (d.updPort p f).pcls = d.pcls := rfl
@[simp] theorem Dev.updPort_links (d : Dev) (p : Fin 16) (f : Port → Port) : (d.updPort p f).links = d.links := rfl
@[simp] theorem Dev.updPort_grp (d : Dev) (p : Fin 16) (f : Port → Port) : (d.updPort p f).grp = d.grp := rfl
@[simp] theorem Dev.updPort_hubs (d : Dev) (p : Fin 16) (f : Port → Port) : (d.updPort p f).hubs = d.hubs := rfl
@[simp] theorem Dev.updPort_taps (d : Dev) (p : Fin 16) (f : Port → Port) : (d.updPort p f).taps = d.taps := rfl
@[simp] theorem Dev.updPort_stks (d : Dev) (p : Fin 16) (f : Port → Port) : (d.updPort p f).stks = d.stks := rfl
@[simp] theorem Dev.updPort_scp (d : Dev) (p : Fin 16) (f : Port → Port) : (d.updPort p f).scp = d.scp := rfl
@[simp] theorem Dev.updPort_march (d : Dev) (p : Fin 16) (f : Port → Port) : (d.updPort p f).march = d.march := rfl
@[simp] theorem Dev.updPort_pwr (d : Dev) (p : Fin 16) (f : Port → Port) : (d.updPort p f).pwr = d.pwr := rfl
@[simp] theorem Dev.updPort_clks (d : Dev) (p : Fin 16) (f : Port → Port) : (d.updPort p f).clks = d.clks := rfl
@[simp] theorem Dev.updPort_pins (d : Dev) (p : Fin 16) (f : Port → Port) : (d.updPort p f).pins = d.pins := rfl
@[simp] theorem Dev.updPort_reg (d : Dev) (p : Fin 16) (f : Port → Port) (b_ : Nat) : (d.updPort p f).reg b_ = d.reg b_ := rfl
@[simp] theorem Dev.updPort_rf (d : Dev) (p : Fin 16) (f : Port → Port) (b_ : Nat) (e_ : Fld) : (d.updPort p f).rf b_ e_ = d.rf b_ e_ := rfl
@[simp] theorem Dev.updPort_gal (d : Dev) (p : Fin 16) (f : Port → Port) (i_ : Fin 8) : (d.updPort p f).gal i_ = d.gal i_ := rfl
@[simp] theorem Dev.updPort_plane (d : Dev) (p : Fin 16) (f : Port → Port) (i_ : Fin 8) : (d.updPort p f).plane i_ = d.plane i_ := rfl
@[simp] theorem Dev.updPort_pcl (d : Dev) (p : Fin 16) (f : Port → Port) (i_ : Fin 8) : (d.updPort p f).pcl i_ = d.pcl i_ := rfl
@[simp] theorem Dev.updPort_stk (d : Dev) (p : Fin 16) (f : Port → Port) (i_ : Fin 4) : (d.updPort p f).stk i_ = d.stk i_ := rfl
@[simp] theorem Dev.updPort_link (d : Dev) (p : Fin 16) (f : Port → Port) (i_ : Fin 6) : (d.updPort p f).link i_ = d.link i_ := rfl
@[simp] theorem Dev.updPort_ring (d : Dev) (p : Fin 16) (f : Port → Port) (i_ : Func) : (d.updPort p f).ring i_ = d.ring i_ := rfl
@[simp] theorem Dev.updPort_domSt (d : Dev) (p : Fin 16) (f : Port → Port) (i_ : Nat) : (d.updPort p f).domSt i_ = d.domSt i_ := rfl
@[simp] theorem Dev.updPort_mirState (d : Dev) (p : Fin 16) (f : Port → Port)  : (d.updPort p f).mirState = d.mirState := rfl
@[simp] theorem Dev.updHub_regs (d : Dev) (c : Fin 4) (f : Hub → Hub) : (d.updHub c f).regs = d.regs := rfl
@[simp] theorem Dev.updHub_clk (d : Dev) (c : Fin 4) (f : Hub → Hub) : (d.updHub c f).clk = d.clk := rfl
@[simp] theorem Dev.updHub_freeCtr (d : Dev) (c : Fin 4) (f : Hub → Hub) : (d.updHub c f).freeCtr = d.freeCtr := rfl
@[simp] theorem Dev.updHub_outbox (d : Dev) (c : Fin 4) (f : Hub → Hub) : (d.updHub c f).outbox = d.outbox := rfl
@[simp] theorem Dev.updHub_fus (d : Dev) (c : Fin 4) (f : Hub → Hub) : (d.updHub c f).fus = d.fus := rfl
@[simp] theorem Dev.updHub_led (d : Dev) (c : Fin 4) (f : Hub → Hub) : (d.updHub c f).led = d.led := rfl
@[simp] theorem Dev.updHub_boot (d : Dev) (c : Fin 4) (f : Hub → Hub) : (d.updHub c f).boot = d.boot := rfl
@[simp] theorem Dev.updHub_lat (d : Dev) (c : Fin 4) (f : Hub → Hub) : (d.updHub c f).lat = d.lat := rfl
@[simp] theorem Dev.updHub_host (d : Dev) (c : Fin 4) (f : Hub → Hub) : (d.updHub c f).host = d.host := rfl
@[simp] theorem Dev.updHub_locks (d : Dev) (c : Fin 4) (f : Hub → Hub) : (d.updHub c f).locks = d.locks := rfl
@[simp] theorem Dev.updHub_flt (d : Dev) (c : Fin 4) (f : Hub → Hub) : (d.updHub c f).flt = d.flt := rfl
@[simp] theorem Dev.updHub_gdl (d : Dev) (c : Fin 4) (f : Hub → Hub) : (d.updHub c f).gdl = d.gdl := rfl
@[simp] theorem Dev.updHub_dat (d : Dev) (c : Fin 4) (f : Hub → Hub) : (d.updHub c f).dat = d.dat := rfl
@[simp] theorem Dev.updHub_gals (d : Dev) (c : Fin 4) (f : Hub → Hub) : (d.updHub c f).gals = d.gals := rfl
@[simp] theorem Dev.updHub_planes (d : Dev) (c : Fin 4) (f : Hub → Hub) : (d.updHub c f).planes = d.planes := rfl
@[simp] theorem Dev.updHub_pcls (d : Dev) (c : Fin 4) (f : Hub → Hub) : (d.updHub c f).pcls = d.pcls := rfl
@[simp] theorem Dev.updHub_links (d : Dev) (c : Fin 4) (f : Hub → Hub) : (d.updHub c f).links = d.links := rfl
@[simp] theorem Dev.updHub_grp (d : Dev) (c : Fin 4) (f : Hub → Hub) : (d.updHub c f).grp = d.grp := rfl
@[simp] theorem Dev.updHub_ports (d : Dev) (c : Fin 4) (f : Hub → Hub) : (d.updHub c f).ports = d.ports := rfl
@[simp] theorem Dev.updHub_taps (d : Dev) (c : Fin 4) (f : Hub → Hub) : (d.updHub c f).taps = d.taps := rfl
@[simp] theorem Dev.updHub_stks (d : Dev) (c : Fin 4) (f : Hub → Hub) : (d.updHub c f).stks = d.stks := rfl
@[simp] theorem Dev.updHub_scp (d : Dev) (c : Fin 4) (f : Hub → Hub) : (d.updHub c f).scp = d.scp := rfl
@[simp] theorem Dev.updHub_march (d : Dev) (c : Fin 4) (f : Hub → Hub) : (d.updHub c f).march = d.march := rfl
@[simp] theorem Dev.updHub_pwr (d : Dev) (c : Fin 4) (f : Hub → Hub) : (d.updHub c f).pwr = d.pwr := rfl
@[simp] theorem Dev.updHub_clks (d : Dev) (c : Fin 4) (f : Hub → Hub) : (d.updHub c f).clks = d.clks := rfl
@[simp] theorem Dev.updHub_pins (d : Dev) (c : Fin 4) (f : Hub → Hub) : (d.updHub c f).pins = d.pins := rfl
@[simp] theorem Dev.updHub_reg (d : Dev) (c : Fin 4) (f : Hub → Hub) (b_ : Nat) : (d.updHub c f).reg b_ = d.reg b_ := rfl
@[simp] theorem Dev.updHub_rf (d : Dev) (c : Fin 4) (f : Hub → Hub) (b_ : Nat) (e_ : Fld) : (d.updHub c f).rf b_ e_ = d.rf b_ e_ := rfl
@[simp] theorem Dev.updHub_gal (d : Dev) (c : Fin 4) (f : Hub → Hub) (i_ : Fin 8) : (d.updHub c f).gal i_ = d.gal i_ := rfl
@[simp] theorem Dev.updHub_plane (d : Dev) (c : Fin 4) (f : Hub → Hub) (i_ : Fin 8) : (d.updHub c f).plane i_ = d.plane i_ := rfl
@[simp] theorem Dev.updHub_pcl (d : Dev) (c : Fin 4) (f : Hub → Hub) (i_ : Fin 8) : (d.updHub c f).pcl i_ = d.pcl i_ := rfl
@[simp] theorem Dev.updHub_stk (d : Dev) (c : Fin 4) (f : Hub → Hub) (i_ : Fin 4) : (d.updHub c f).stk i_ = d.stk i_ := rfl
@[simp] theorem Dev.updHub_link (d : Dev) (c : Fin 4) (f : Hub → Hub) (i_ : Fin 6) : (d.updHub c f).link i_ = d.link i_ := rfl
@[simp] theorem Dev.updHub_ring (d : Dev) (c : Fin 4) (f : Hub → Hub) (i_ : Func) : (d.updHub c f).ring i_ = d.ring i_ := rfl
@[simp] theorem Dev.updHub_domSt (d : Dev) (c : Fin 4) (f : Hub → Hub) (i_ : Nat) : (d.updHub c f).domSt i_ = d.domSt i_ := rfl
@[simp] theorem Dev.updHub_mirState (d : Dev) (c : Fin 4) (f : Hub → Hub)  : (d.updHub c f).mirState = d.mirState := rfl
@[simp] theorem Dev.updDat_regs (d : Dev) (f : Datum → Datum) : (d.updDat f).regs = d.regs := rfl
@[simp] theorem Dev.updDat_clk (d : Dev) (f : Datum → Datum) : (d.updDat f).clk = d.clk := rfl
@[simp] theorem Dev.updDat_freeCtr (d : Dev) (f : Datum → Datum) : (d.updDat f).freeCtr = d.freeCtr := rfl
@[simp] theorem Dev.updDat_outbox (d : Dev) (f : Datum → Datum) : (d.updDat f).outbox = d.outbox := rfl
@[simp] theorem Dev.updDat_fus (d : Dev) (f : Datum → Datum) : (d.updDat f).fus = d.fus := rfl
@[simp] theorem Dev.updDat_led (d : Dev) (f : Datum → Datum) : (d.updDat f).led = d.led := rfl
@[simp] theorem Dev.updDat_boot (d : Dev) (f : Datum → Datum) : (d.updDat f).boot = d.boot := rfl
@[simp] theorem Dev.updDat_lat (d : Dev) (f : Datum → Datum) : (d.updDat f).lat = d.lat := rfl
@[simp] theorem Dev.updDat_host (d : Dev) (f : Datum → Datum) : (d.updDat f).host = d.host := rfl
@[simp] theorem Dev.updDat_locks (d : Dev) (f : Datum → Datum) : (d.updDat f).locks = d.locks := rfl
@[simp] theorem Dev.updDat_flt (d : Dev) (f : Datum → Datum) : (d.updDat f).flt = d.flt := rfl
@[simp] theorem Dev.updDat_gdl (d : Dev) (f : Datum → Datum) : (d.updDat f).gdl = d.gdl := rfl
@[simp] theorem Dev.updDat_gals (d : Dev) (f : Datum → Datum) : (d.updDat f).gals = d.gals := rfl
@[simp] theorem Dev.updDat_planes (d : Dev) (f : Datum → Datum) : (d.updDat f).planes = d.planes := rfl
@[simp] theorem Dev.updDat_pcls (d : Dev) (f : Datum → Datum) : (d.updDat f).pcls = d.pcls := rfl
@[simp] theorem Dev.updDat_links (d : Dev) (f : Datum → Datum) : (d.updDat f).links = d.links := rfl
@[simp] theorem Dev.updDat_grp (d : Dev) (f : Datum → Datum) : (d.updDat f).grp = d.grp := rfl
@[simp] theorem Dev.updDat_hubs (d : Dev) (f : Datum → Datum) : (d.updDat f).hubs = d.hubs := rfl
@[simp] theorem Dev.updDat_ports (d : Dev) (f : Datum → Datum) : (d.updDat f).ports = d.ports := rfl
@[simp] theorem Dev.updDat_taps (d : Dev) (f : Datum → Datum) : (d.updDat f).taps = d.taps := rfl
@[simp] theorem Dev.updDat_stks (d : Dev) (f : Datum → Datum) : (d.updDat f).stks = d.stks := rfl
@[simp] theorem Dev.updDat_scp (d : Dev) (f : Datum → Datum) : (d.updDat f).scp = d.scp := rfl
@[simp] theorem Dev.updDat_march (d : Dev) (f : Datum → Datum) : (d.updDat f).march = d.march := rfl
@[simp] theorem Dev.updDat_pwr (d : Dev) (f : Datum → Datum) : (d.updDat f).pwr = d.pwr := rfl
@[simp] theorem Dev.updDat_clks (d : Dev) (f : Datum → Datum) : (d.updDat f).clks = d.clks := rfl
@[simp] theorem Dev.updDat_pins (d : Dev) (f : Datum → Datum) : (d.updDat f).pins = d.pins := rfl
@[simp] theorem Dev.updDat_reg (d : Dev) (f : Datum → Datum) (b_ : Nat) : (d.updDat f).reg b_ = d.reg b_ := rfl
@[simp] theorem Dev.updDat_rf (d : Dev) (f : Datum → Datum) (b_ : Nat) (e_ : Fld) : (d.updDat f).rf b_ e_ = d.rf b_ e_ := rfl
@[simp] theorem Dev.updDat_gal (d : Dev) (f : Datum → Datum) (i_ : Fin 8) : (d.updDat f).gal i_ = d.gal i_ := rfl
@[simp] theorem Dev.updDat_plane (d : Dev) (f : Datum → Datum) (i_ : Fin 8) : (d.updDat f).plane i_ = d.plane i_ := rfl
@[simp] theorem Dev.updDat_pcl (d : Dev) (f : Datum → Datum) (i_ : Fin 8) : (d.updDat f).pcl i_ = d.pcl i_ := rfl
@[simp] theorem Dev.updDat_stk (d : Dev) (f : Datum → Datum) (i_ : Fin 4) : (d.updDat f).stk i_ = d.stk i_ := rfl
@[simp] theorem Dev.updDat_link (d : Dev) (f : Datum → Datum) (i_ : Fin 6) : (d.updDat f).link i_ = d.link i_ := rfl
@[simp] theorem Dev.updDat_ring (d : Dev) (f : Datum → Datum) (i_ : Func) : (d.updDat f).ring i_ = d.ring i_ := rfl
@[simp] theorem Dev.updDat_domSt (d : Dev) (f : Datum → Datum) (i_ : Nat) : (d.updDat f).domSt i_ = d.domSt i_ := rfl
@[simp] theorem Dev.updDat_mirState (d : Dev) (f : Datum → Datum)  : (d.updDat f).mirState = d.mirState := rfl
@[simp] theorem Dev.updGrp_regs (d : Dev) (f : Group → Group) : (d.updGrp f).regs = d.regs := rfl
@[simp] theorem Dev.updGrp_clk (d : Dev) (f : Group → Group) : (d.updGrp f).clk = d.clk := rfl
@[simp] theorem Dev.updGrp_freeCtr (d : Dev) (f : Group → Group) : (d.updGrp f).freeCtr = d.freeCtr := rfl
@[simp] theorem Dev.updGrp_outbox (d : Dev) (f : Group → Group) : (d.updGrp f).outbox = d.outbox := rfl
@[simp] theorem Dev.updGrp_fus (d : Dev) (f : Group → Group) : (d.updGrp f).fus = d.fus := rfl
@[simp] theorem Dev.updGrp_led (d : Dev) (f : Group → Group) : (d.updGrp f).led = d.led := rfl
@[simp] theorem Dev.updGrp_boot (d : Dev) (f : Group → Group) : (d.updGrp f).boot = d.boot := rfl
@[simp] theorem Dev.updGrp_lat (d : Dev) (f : Group → Group) : (d.updGrp f).lat = d.lat := rfl
@[simp] theorem Dev.updGrp_host (d : Dev) (f : Group → Group) : (d.updGrp f).host = d.host := rfl
@[simp] theorem Dev.updGrp_locks (d : Dev) (f : Group → Group) : (d.updGrp f).locks = d.locks := rfl
@[simp] theorem Dev.updGrp_flt (d : Dev) (f : Group → Group) : (d.updGrp f).flt = d.flt := rfl
@[simp] theorem Dev.updGrp_gdl (d : Dev) (f : Group → Group) : (d.updGrp f).gdl = d.gdl := rfl
@[simp] theorem Dev.updGrp_dat (d : Dev) (f : Group → Group) : (d.updGrp f).dat = d.dat := rfl
@[simp] theorem Dev.updGrp_gals (d : Dev) (f : Group → Group) : (d.updGrp f).gals = d.gals := rfl
@[simp] theorem Dev.updGrp_planes (d : Dev) (f : Group → Group) : (d.updGrp f).planes = d.planes := rfl
@[simp] theorem Dev.updGrp_pcls (d : Dev) (f : Group → Group) : (d.updGrp f).pcls = d.pcls := rfl
@[simp] theorem Dev.updGrp_links (d : Dev) (f : Group → Group) : (d.updGrp f).links = d.links := rfl
@[simp] theorem Dev.updGrp_hubs (d : Dev) (f : Group → Group) : (d.updGrp f).hubs = d.hubs := rfl
@[simp] theorem Dev.updGrp_ports (d : Dev) (f : Group → Group) : (d.updGrp f).ports = d.ports := rfl
@[simp] theorem Dev.updGrp_taps (d : Dev) (f : Group → Group) : (d.updGrp f).taps = d.taps := rfl
@[simp] theorem Dev.updGrp_stks (d : Dev) (f : Group → Group) : (d.updGrp f).stks = d.stks := rfl
@[simp] theorem Dev.updGrp_scp (d : Dev) (f : Group → Group) : (d.updGrp f).scp = d.scp := rfl
@[simp] theorem Dev.updGrp_march (d : Dev) (f : Group → Group) : (d.updGrp f).march = d.march := rfl
@[simp] theorem Dev.updGrp_pwr (d : Dev) (f : Group → Group) : (d.updGrp f).pwr = d.pwr := rfl
@[simp] theorem Dev.updGrp_clks (d : Dev) (f : Group → Group) : (d.updGrp f).clks = d.clks := rfl
@[simp] theorem Dev.updGrp_pins (d : Dev) (f : Group → Group) : (d.updGrp f).pins = d.pins := rfl
@[simp] theorem Dev.updGrp_reg (d : Dev) (f : Group → Group) (b_ : Nat) : (d.updGrp f).reg b_ = d.reg b_ := rfl
@[simp] theorem Dev.updGrp_rf (d : Dev) (f : Group → Group) (b_ : Nat) (e_ : Fld) : (d.updGrp f).rf b_ e_ = d.rf b_ e_ := rfl
@[simp] theorem Dev.updGrp_gal (d : Dev) (f : Group → Group) (i_ : Fin 8) : (d.updGrp f).gal i_ = d.gal i_ := rfl
@[simp] theorem Dev.updGrp_plane (d : Dev) (f : Group → Group) (i_ : Fin 8) : (d.updGrp f).plane i_ = d.plane i_ := rfl
@[simp] theorem Dev.updGrp_pcl (d : Dev) (f : Group → Group) (i_ : Fin 8) : (d.updGrp f).pcl i_ = d.pcl i_ := rfl
@[simp] theorem Dev.updGrp_stk (d : Dev) (f : Group → Group) (i_ : Fin 4) : (d.updGrp f).stk i_ = d.stk i_ := rfl
@[simp] theorem Dev.updGrp_link (d : Dev) (f : Group → Group) (i_ : Fin 6) : (d.updGrp f).link i_ = d.link i_ := rfl
@[simp] theorem Dev.updGrp_ring (d : Dev) (f : Group → Group) (i_ : Func) : (d.updGrp f).ring i_ = d.ring i_ := rfl
@[simp] theorem Dev.updGrp_domSt (d : Dev) (f : Group → Group) (i_ : Nat) : (d.updGrp f).domSt i_ = d.domSt i_ := rfl
@[simp] theorem Dev.updGrp_mirState (d : Dev) (f : Group → Group)  : (d.updGrp f).mirState = d.mirState := rfl
@[simp] theorem Dev.updPwr_regs (d : Dev) (f : Power → Power) : (d.updPwr f).regs = d.regs := rfl
@[simp] theorem Dev.updPwr_clk (d : Dev) (f : Power → Power) : (d.updPwr f).clk = d.clk := rfl
@[simp] theorem Dev.updPwr_freeCtr (d : Dev) (f : Power → Power) : (d.updPwr f).freeCtr = d.freeCtr := rfl
@[simp] theorem Dev.updPwr_outbox (d : Dev) (f : Power → Power) : (d.updPwr f).outbox = d.outbox := rfl
@[simp] theorem Dev.updPwr_fus (d : Dev) (f : Power → Power) : (d.updPwr f).fus = d.fus := rfl
@[simp] theorem Dev.updPwr_led (d : Dev) (f : Power → Power) : (d.updPwr f).led = d.led := rfl
@[simp] theorem Dev.updPwr_boot (d : Dev) (f : Power → Power) : (d.updPwr f).boot = d.boot := rfl
@[simp] theorem Dev.updPwr_lat (d : Dev) (f : Power → Power) : (d.updPwr f).lat = d.lat := rfl
@[simp] theorem Dev.updPwr_host (d : Dev) (f : Power → Power) : (d.updPwr f).host = d.host := rfl
@[simp] theorem Dev.updPwr_locks (d : Dev) (f : Power → Power) : (d.updPwr f).locks = d.locks := rfl
@[simp] theorem Dev.updPwr_flt (d : Dev) (f : Power → Power) : (d.updPwr f).flt = d.flt := rfl
@[simp] theorem Dev.updPwr_gdl (d : Dev) (f : Power → Power) : (d.updPwr f).gdl = d.gdl := rfl
@[simp] theorem Dev.updPwr_dat (d : Dev) (f : Power → Power) : (d.updPwr f).dat = d.dat := rfl
@[simp] theorem Dev.updPwr_gals (d : Dev) (f : Power → Power) : (d.updPwr f).gals = d.gals := rfl
@[simp] theorem Dev.updPwr_planes (d : Dev) (f : Power → Power) : (d.updPwr f).planes = d.planes := rfl
@[simp] theorem Dev.updPwr_pcls (d : Dev) (f : Power → Power) : (d.updPwr f).pcls = d.pcls := rfl
@[simp] theorem Dev.updPwr_links (d : Dev) (f : Power → Power) : (d.updPwr f).links = d.links := rfl
@[simp] theorem Dev.updPwr_grp (d : Dev) (f : Power → Power) : (d.updPwr f).grp = d.grp := rfl
@[simp] theorem Dev.updPwr_hubs (d : Dev) (f : Power → Power) : (d.updPwr f).hubs = d.hubs := rfl
@[simp] theorem Dev.updPwr_ports (d : Dev) (f : Power → Power) : (d.updPwr f).ports = d.ports := rfl
@[simp] theorem Dev.updPwr_taps (d : Dev) (f : Power → Power) : (d.updPwr f).taps = d.taps := rfl
@[simp] theorem Dev.updPwr_stks (d : Dev) (f : Power → Power) : (d.updPwr f).stks = d.stks := rfl
@[simp] theorem Dev.updPwr_scp (d : Dev) (f : Power → Power) : (d.updPwr f).scp = d.scp := rfl
@[simp] theorem Dev.updPwr_march (d : Dev) (f : Power → Power) : (d.updPwr f).march = d.march := rfl
@[simp] theorem Dev.updPwr_clks (d : Dev) (f : Power → Power) : (d.updPwr f).clks = d.clks := rfl
@[simp] theorem Dev.updPwr_pins (d : Dev) (f : Power → Power) : (d.updPwr f).pins = d.pins := rfl
@[simp] theorem Dev.updPwr_reg (d : Dev) (f : Power → Power) (b_ : Nat) : (d.updPwr f).reg b_ = d.reg b_ := rfl
@[simp] theorem Dev.updPwr_rf (d : Dev) (f : Power → Power) (b_ : Nat) (e_ : Fld) : (d.updPwr f).rf b_ e_ = d.rf b_ e_ := rfl
@[simp] theorem Dev.updPwr_gal (d : Dev) (f : Power → Power) (i_ : Fin 8) : (d.updPwr f).gal i_ = d.gal i_ := rfl
@[simp] theorem Dev.updPwr_plane (d : Dev) (f : Power → Power) (i_ : Fin 8) : (d.updPwr f).plane i_ = d.plane i_ := rfl
@[simp] theorem Dev.updPwr_pcl (d : Dev) (f : Power → Power) (i_ : Fin 8) : (d.updPwr f).pcl i_ = d.pcl i_ := rfl
@[simp] theorem Dev.updPwr_stk (d : Dev) (f : Power → Power) (i_ : Fin 4) : (d.updPwr f).stk i_ = d.stk i_ := rfl
@[simp] theorem Dev.updPwr_link (d : Dev) (f : Power → Power) (i_ : Fin 6) : (d.updPwr f).link i_ = d.link i_ := rfl
@[simp] theorem Dev.updPwr_ring (d : Dev) (f : Power → Power) (i_ : Func) : (d.updPwr f).ring i_ = d.ring i_ := rfl
@[simp] theorem Dev.updPwr_mirState (d : Dev) (f : Power → Power)  : (d.updPwr f).mirState = d.mirState := rfl
@[simp] theorem Dev.updClk_regs (d : Dev) (f : Clocks → Clocks) : (d.updClk f).regs = d.regs := rfl
@[simp] theorem Dev.updClk_clk (d : Dev) (f : Clocks → Clocks) : (d.updClk f).clk = d.clk := rfl
@[simp] theorem Dev.updClk_freeCtr (d : Dev) (f : Clocks → Clocks) : (d.updClk f).freeCtr = d.freeCtr := rfl
@[simp] theorem Dev.updClk_outbox (d : Dev) (f : Clocks → Clocks) : (d.updClk f).outbox = d.outbox := rfl
@[simp] theorem Dev.updClk_fus (d : Dev) (f : Clocks → Clocks) : (d.updClk f).fus = d.fus := rfl
@[simp] theorem Dev.updClk_led (d : Dev) (f : Clocks → Clocks) : (d.updClk f).led = d.led := rfl
@[simp] theorem Dev.updClk_boot (d : Dev) (f : Clocks → Clocks) : (d.updClk f).boot = d.boot := rfl
@[simp] theorem Dev.updClk_lat (d : Dev) (f : Clocks → Clocks) : (d.updClk f).lat = d.lat := rfl
@[simp] theorem Dev.updClk_host (d : Dev) (f : Clocks → Clocks) : (d.updClk f).host = d.host := rfl
@[simp] theorem Dev.updClk_locks (d : Dev) (f : Clocks → Clocks) : (d.updClk f).locks = d.locks := rfl
@[simp] theorem Dev.updClk_flt (d : Dev) (f : Clocks → Clocks) : (d.updClk f).flt = d.flt := rfl
@[simp] theorem Dev.updClk_gdl (d : Dev) (f : Clocks → Clocks) : (d.updClk f).gdl = d.gdl := rfl
@[simp] theorem Dev.updClk_dat (d : Dev) (f : Clocks → Clocks) : (d.updClk f).dat = d.dat := rfl
@[simp] theorem Dev.updClk_gals (d : Dev) (f : Clocks → Clocks) : (d.updClk f).gals = d.gals := rfl
@[simp] theorem Dev.updClk_planes (d : Dev) (f : Clocks → Clocks) : (d.updClk f).planes = d.planes := rfl
@[simp] theorem Dev.updClk_pcls (d : Dev) (f : Clocks → Clocks) : (d.updClk f).pcls = d.pcls := rfl
@[simp] theorem Dev.updClk_links (d : Dev) (f : Clocks → Clocks) : (d.updClk f).links = d.links := rfl
@[simp] theorem Dev.updClk_grp (d : Dev) (f : Clocks → Clocks) : (d.updClk f).grp = d.grp := rfl
@[simp] theorem Dev.updClk_hubs (d : Dev) (f : Clocks → Clocks) : (d.updClk f).hubs = d.hubs := rfl
@[simp] theorem Dev.updClk_ports (d : Dev) (f : Clocks → Clocks) : (d.updClk f).ports = d.ports := rfl
@[simp] theorem Dev.updClk_taps (d : Dev) (f : Clocks → Clocks) : (d.updClk f).taps = d.taps := rfl
@[simp] theorem Dev.updClk_stks (d : Dev) (f : Clocks → Clocks) : (d.updClk f).stks = d.stks := rfl
@[simp] theorem Dev.updClk_scp (d : Dev) (f : Clocks → Clocks) : (d.updClk f).scp = d.scp := rfl
@[simp] theorem Dev.updClk_march (d : Dev) (f : Clocks → Clocks) : (d.updClk f).march = d.march := rfl
@[simp] theorem Dev.updClk_pwr (d : Dev) (f : Clocks → Clocks) : (d.updClk f).pwr = d.pwr := rfl
@[simp] theorem Dev.updClk_pins (d : Dev) (f : Clocks → Clocks) : (d.updClk f).pins = d.pins := rfl
@[simp] theorem Dev.updClk_reg (d : Dev) (f : Clocks → Clocks) (b_ : Nat) : (d.updClk f).reg b_ = d.reg b_ := rfl
@[simp] theorem Dev.updClk_rf (d : Dev) (f : Clocks → Clocks) (b_ : Nat) (e_ : Fld) : (d.updClk f).rf b_ e_ = d.rf b_ e_ := rfl
@[simp] theorem Dev.updClk_gal (d : Dev) (f : Clocks → Clocks) (i_ : Fin 8) : (d.updClk f).gal i_ = d.gal i_ := rfl
@[simp] theorem Dev.updClk_plane (d : Dev) (f : Clocks → Clocks) (i_ : Fin 8) : (d.updClk f).plane i_ = d.plane i_ := rfl
@[simp] theorem Dev.updClk_pcl (d : Dev) (f : Clocks → Clocks) (i_ : Fin 8) : (d.updClk f).pcl i_ = d.pcl i_ := rfl
@[simp] theorem Dev.updClk_stk (d : Dev) (f : Clocks → Clocks) (i_ : Fin 4) : (d.updClk f).stk i_ = d.stk i_ := rfl
@[simp] theorem Dev.updClk_link (d : Dev) (f : Clocks → Clocks) (i_ : Fin 6) : (d.updClk f).link i_ = d.link i_ := rfl
@[simp] theorem Dev.updClk_ring (d : Dev) (f : Clocks → Clocks) (i_ : Func) : (d.updClk f).ring i_ = d.ring i_ := rfl
@[simp] theorem Dev.updClk_domSt (d : Dev) (f : Clocks → Clocks) (i_ : Nat) : (d.updClk f).domSt i_ = d.domSt i_ := rfl
@[simp] theorem Dev.updClk_mirState (d : Dev) (f : Clocks → Clocks)  : (d.updClk f).mirState = d.mirState := rfl
@[simp] theorem Dev.gal_upd_same (d : Dev) (g : Fin 8) (f : Gal → Gal) : (d.updGal g f).gal g = f (d.gal g) := by
  simp [Dev.gal, Dev.updGal]
theorem Dev.gal_upd_ne (d : Dev) {g i : Fin 8} (h : i ≠ g) (f : Gal → Gal) : (d.updGal g f).gal i = d.gal i := by
  have h' : g.val ≠ i.val := fun e => h (Fin.ext e.symm)
  simp [Dev.gal, Dev.updGal, h']
@[simp] theorem Dev.plane_upd_same (d : Dev) (p : Fin 8) (f : Plane → Plane) : (d.updPlane p f).plane p = f (d.plane p) := by
  simp [Dev.plane, Dev.updPlane]
theorem Dev.plane_upd_ne (d : Dev) {p i : Fin 8} (h : i ≠ p) (f : Plane → Plane) : (d.updPlane p f).plane i = d.plane i := by
  have h' : p.val ≠ i.val := fun e => h (Fin.ext e.symm)
  simp [Dev.plane, Dev.updPlane, h']
@[simp] theorem Dev.pcl_upd_same (d : Dev) (q : Fin 8) (f : Parcel → Parcel) : (d.updPcl q f).pcl q = f (d.pcl q) := by
  simp [Dev.pcl, Dev.updPcl]
theorem Dev.pcl_upd_ne (d : Dev) {q i : Fin 8} (h : i ≠ q) (f : Parcel → Parcel) : (d.updPcl q f).pcl i = d.pcl i := by
  have h' : q.val ≠ i.val := fun e => h (Fin.ext e.symm)
  simp [Dev.pcl, Dev.updPcl, h']
@[simp] theorem Dev.stk_upd_same (d : Dev) (k : Fin 4) (f : Stack → Stack) : (d.updStk k f).stk k = f (d.stk k) := by
  simp [Dev.stk, Dev.updStk]
theorem Dev.stk_upd_ne (d : Dev) {k i : Fin 4} (h : i ≠ k) (f : Stack → Stack) : (d.updStk k f).stk i = d.stk i := by
  have h' : k.val ≠ i.val := fun e => h (Fin.ext e.symm)
  simp [Dev.stk, Dev.updStk, h']
@[simp] theorem Dev.link_upd_same (d : Dev) (k : Fin 6) (f : Link → Link) : (d.updLink k f).link k = f (d.link k) := by
  simp [Dev.link, Dev.updLink]
theorem Dev.link_upd_ne (d : Dev) {k i : Fin 6} (h : i ≠ k) (f : Link → Link) : (d.updLink k f).link i = d.link i := by
  have h' : k.val ≠ i.val := fun e => h (Fin.ext e.symm)
  simp [Dev.link, Dev.updLink, h']
@[simp] theorem Dev.ring_upd_same (d : Dev) (x : Func) (f : Rings → Rings) : (d.updRing x f).ring x = f (d.ring x) := by
  simp [Dev.ring, Dev.updRing]
theorem Dev.ring_upd_ne (d : Dev) {x i : Func} (h : i ≠ x) (f : Rings → Rings) : (d.updRing x f).ring i = d.ring i := by
  have h' : x.val ≠ i.val := fun e => h (Fin.ext e.symm)
  simp [Dev.ring, Dev.updRing, h']

end Sys2Proof.Machine
end

