-- ==== Sys2Proof/WellFormed.lean ====
section
/-!
DEFINITION. When a command is well formed: its descriptor spells the opcode of its row (Tables 13.5 to 13.18), a message has the TYPE of its row
and a length that a link carries (Tables 10.6, 10.7), an error lies in a word that exists, a packet has a length that its header can give.
-/
namespace Sys2Proof

/-- Whether an error lies in a word that a Gallery has (Tables 2.3 to 2.5, R67). -/
def EccErr.inRange (e : EccErr) : Bool := match e.kind with
  | .state => decide (e.idx < 131072)
  | .axon => decide (e.idx < 262144)
  | .syn => decide (e.idx < 12582912)
  | .ring => decide (e.idx < 524288)
  | .bmap => decide (e.idx < 32768)

/-- Whether a message's data fit its LEN: at most 16 flits of 16 bytes (Table 10.6). -/
def LinkMsg.sized (m : LinkMsg) : Bool := decide (m.data.length ≤ 256)

/-- Whether a descriptor spells an opcode, and its buffer holds DATA_LEN bytes unless a scatter list gives it (Table 12.9). -/
def Cmd.spells (c : Cmd) (op : Nat) : Bool := c.opcode == op && (match c.buf with
  | .bytes b => b.length == c.dataLen
  | .scattered l _ => c.sgl && c.dataLen == 16 * l.length
  | .failed => true)

/-- Whether a command is well formed. -/
def Instr.wf (i : Instr) : Bool := match i with
  | .timeStatus c => c.spells 0x0500
  | .timeSetSource c => c.spells 0x0501
  | .timeSetRatio c => c.spells 0x0502
  | .timeSetPhase c => c.spells 0x0503
  | .timeAcceptPeriod c => c.spells 0x0504
  | .timeSetLabel c => c.spells 0x0505
  | .datumEdge _ _ => true
  | .datumLoss => true
  | .tickTurn _ errs => errs.all (fun e => e.2.inRange)
  | .settlingSweep errs => errs.all (fun e => e.2.inRange)
  | .epochEnd _ => true
  | .epochSweepDone _ errs => errs.all EccErr.inRange
  | .eventArrival _ _ => true
  | .eventTake _ errs => errs.all EccErr.inRange
  | .emissionSend _ => true
  | .pendingEmit _ _ => true
  | .delayRelease _ => true
  | .coldFetchResponse _ _ _ => true
  | .galleryDrained _ => true
  | .cfgResetDone _ => true
  | .resumeSweep _ => true
  | .galleryFault _ _ => true
  | .engineStall _ => true
  | .tallyScore _ => true
  | .batchSubmit _ _ => true
  | .jobSubmit _ _ => true
  | .jobResponse _ _ _ => true
  | .operandRead _ => true
  | .operandTimeout _ _ => true
  | .stagingTimeout _ _ => true
  | .weightLoad _ _ => true
  | .jobStart _ => true
  | .jobComplete _ _ => true
  | .trainPart _ _ => true
  | .trainTimeout _ _ => true
  | .bearingPeriodEnd _ => true
  | .loadEvent _ _ => true
  | .bearingStep _ => true
  | .biasEvent _ _ => true
  | .requestTimeout _ _ => true
  | .trunkEvent _ => true
  | .csi2LongPacket _ k => decide (k.payload.length < 65536)
  | .csi2ShortPacket _ _ => true
  | .seamPacket _ k => decide (k.bytes.length ≤ 65551)
  | .flickerWindowEnd _ => true
  | .portSyncLoss _ => true
  | .portRestartEnd _ => true
  | .eraseRequest _ => true
  | .eraseComplete _ _ => true
  | .intakeClockFallback _ _ => true
  | .recordRequest _ _ _ => true
  | .meterRefill => true
  | .heartbeat => true
  | .learningStatus _ => true
  | .backlogWrite _ => true
  | .backlogAge _ => true
  | .parcelStatus c => c.spells 0x0200
  | .parcelCreate c => c.spells 0x0201
  | .parcelDestroy c => c.spells 0x0202
  | .parcelSetPools c => c.spells 0x0203
  | .parcelClearCounters c => c.spells 0x0204
  | .atlasStatus c => c.spells 0x0300
  | .atlasLoad c => c.spells 0x0301
  | .atlasUnload c => c.spells 0x0302
  | .intakeStatus c => c.spells 0x0400
  | .intakeEnable c => c.spells 0x0401
  | .intakeDisable c => c.spells 0x0402
  | .intakeSetShed c => c.spells 0x0403
  | .intakeInject c => c.spells 0x0404
  | .intakeClearCounters c => c.spells 0x0405
  | .runStatus c => c.spells 0x0600
  | .runStart c => c.spells 0x0601
  | .runStop c => c.spells 0x0602
  | .egressStatus c => c.spells 0x0700
  | .egressSetMeter c => c.spells 0x0701
  | .egressSetHeartbeat c => c.spells 0x0702
  | .egressSetBacklog c => c.spells 0x0703
  | .egressClearCounters c => c.spells 0x0704
  | .darkStatus c => c.spells 0x0705
  | .learnStatus c => c.spells 0x0800
  | .learnEnable c => c.spells 0x0801
  | .learnDisable c => c.spells 0x0802
  | .learnSetEpoch c => c.spells 0x0803
  | .learnReward c => c.spells 0x0804
  | .siteSave c => c.spells 0x0805
  | .siteRestore c => c.spells 0x0806
  | .siteDelete c => c.spells 0x0807
  | .learnClearCounters c => c.spells 0x0808
  | .expertStatus c => c.spells 0x0900
  | .expertSetBearing c => c.spells 0x0901
  | .expertSetBias c => c.spells 0x0902
  | .expertClearCounters c => c.spells 0x0903
  | .groupStatus c => c.spells 0x0A00
  | .groupSetCoord c => c.spells 0x0A01
  | .groupForm c => c.spells 0x0A02
  | .formingTimeout => true
  | .grpAbort _ m => [0x44].contains m.typ && m.sized
  | .groupDissolve c => c.spells 0x0A03
  | .groupResync c => c.spells 0x0A04
  | .groupRejoin _ => true
  | .linkStatus c => c.spells 0x0A05
  | .linkEnable c => c.spells 0x0A06
  | .linkRetrain c => c.spells 0x0A07
  | .linkClearCounters c => c.spells 0x0A08
  | .linkTrainingStep _ _ => true
  | .flitReceive _ _ => true
  | .lctl _ _ => true
  | .lctlSend _ => true
  | .replayTimeout _ => true
  | .blockClose _ => true
  | .tag _ _ => true
  | .linkQTimeout _ _ => true
  | .routeRewrite => true
  | .regRead _ m _ => [0x01].contains m.typ && m.sized
  | .regWrite _ m => [0x02].contains m.typ && m.sized
  | .lockClaim _ m => [0x03].contains m.typ && m.sized
  | .lockRelease _ m => [0x04].contains m.typ && m.sized
  | .mbxCmd _ m => [0x05].contains m.typ && m.sized
  | .storeRead _ m => [0x06].contains m.typ && m.sized
  | .storeWrite _ m => [0x07].contains m.typ && m.sized
  | .tmark _ m => [0x40].contains m.typ && m.sized
  | .tmarkSend => true
  | .markersLost => true
  | .echo _ m => [0x41, 0x42].contains m.typ && m.sized
  | .grp _ m _ => [0x44].contains m.typ && m.sized
  | .gdl _ m => [0x43].contains m.typ && m.sized
  | .powerStatus c => c.spells 0x0B00
  | .powerSetDomain c => c.spells 0x0B01
  | .powerSetPolicy c => c.spells 0x0B02
  | .clockSetDense c => c.spells 0x0B03 && c.p 0 == 0
  | .clockSetClkout c => c.spells 0x0B03 && c.p 0 == 1
  | .clockSetSpread c => c.spells 0x0B03 && decide (2 ≤ c.p 0)
  | .telemetryRead c => c.spells 0x0B04
  | .powerSetCap c => c.spells 0x0B05
  | .domainEntryStage _ _ => true
  | .wakeEvent _ => true
  | .domainWake _ => true
  | .wakeReady _ _ => true
  | .dnsIdleTimer _ => true
  | .capLoop => true
  | .tjSample _ _ => true
  | .thermalRecovery _ => true
  | .currentLimit _ _ => true
  | .telemetryFrame r => r.amps.length == 36
  | .supplyUndervoltage _ => true
  | .supplyReturn => true
  | .monitorWindow _ _ _ => true
  | .relockDone _ _ => true
  | .referenceLoss => true
  | .resonatorRestart _ => true
  | .denseChangeDrain _ => true
  | .coldN _ => true
  | .coldStart _ => true
  | .warmN _ => true
  | .warmStart _ => true
  | .bootWatchdog => true
  | .trialConfirm => true
  | .peRstN => true
  | .flr _ => true
  | .hotReset => true
  | .vfEnableCleared => true
  | .d3hot _ => true
  | .barAccess a => a.len == 4 || a.len == 8 || a.write.isSome
  | .bar0BadAccess a => decide (a.size ≤ 64)
  | .mbxCmdPiDb _ _ => true
  | .mbxCplCiDb _ _ => true
  | .mbxResCiDb _ _ => true
  | .ringEnable _ => true
  | .ringDisable _ => true
  | .quiesceComplete _ => true
  | .commandFetch _ _ => true
  | .commandStart _ _ _ => true
  | .completionWrite _ => true
  | .notice _ _ _ => true
  | .cplCoalesceTimer _ => true
  | .resCoalesceTimer _ => true
  | .lckAcq _ _ => true
  | .lckRel _ _ _ => true
  | .deviceInfo c => c.spells 0x0100
  | .deviceStatus c => c.spells 0x0101
  | .deviceNop c => c.spells 0x0102
  | .deviceWarmReset c => c.spells 0x0103
  | .fwWrite c => c.spells 0x0104
  | .fwCommit c => c.spells 0x0105
  | .fwAbort c => c.spells 0x0106
  | .secStatus c => c.spells 0x0C00
  | .licenceInstall c => c.spells 0x0C01
  | .licenceRemove c => c.spells 0x0C02
  | .ownerEnrol c => c.spells 0x0C03
  | .ownerLockSet c => c.spells 0x0C04 && c.p 0 == 1
  | .ownerLockClear c => c.spells 0x0C04 && c.p 0 == 0
  | .secGetCert c => c.spells 0x0C05
  | .faultStatus c => c.spells 0x0D00
  | .faultLogRead c => c.spells 0x0D01
  | .countersRead c => c.spells 0x0D02
  | .countersClear c => c.spells 0x0D03
  | .faultSetBudget c => c.spells 0x0D04
  | .faultRecover c => c.spells 0x0D05
  | .memStatus c => c.spells 0x0D20
  | .memTest c => c.spells 0x0D21
  | .memFill c => c.spells 0x0D22
  | .memSetBg c => c.spells 0x0D23
  | .diagTap c => c.spells 0x0E00
  | .diagRead c => c.spells 0x0E01
  | .diagWrite c => c.spells 0x0E02
  | .stackAccess a => decide (0 < a.len)
  | .fillComplete _ _ => true
  | .refresh _ => true
  | .stackTempRead _ _ => true
  | .backgroundTestBlock _ _ => true
  | .scratchpadAccess a => decide (0 < a.len)
  | .scpBankCopyDone => true
  | .marchDone _ => true
  | .faultRecord _ => true
  | .collectorDrain _ => true
  | .surveyorRecovery _ => true
  | .recoveryReturn _ => true
  | .beat => true
  | .guidelineRead _ _ => true
  | .guidelineWrite _ _ _ => true
  | .guidelineResp _ _ _ => true
  | .guidelineFault _ _ => true
  | .guidelineDrain _ _ => true
  | .halt _ => true
  | .resetNote _ => true
  | .ping _ => true
  | .guidelineTimeout _ _ => true
  | .gdlGo => true
  | .panic => true
  | .fltDrain _ => true
  | .cfgReset _ => true
  | .runEn _ _ => true
  | .flush _ => true
  | .fill _ _ => true
  | .marchGo _ _ => true
  | .pwrReqGo _ _ => true
  | .trvRetrainWrite _ => true
  | .lrnRewardAdd _ _ => true
  | .galEvtClrCnt _ => true
  | .galStateClrCnt _ => true
  | .mshClrCnt => true
  | .dnsClrCnt _ => true
  | .cmpClrCnt _ => true
  | .lrnClrCnt _ => true
  | .trvClrCnt _ => true
  | .stkClrCnt _ => true
  | .scpClrCnt => true
  | .pwrClrCnt => true
  | .clkClrCnt => true
  | .fltClrCnt => true
  | .gdlClrCnt => true
  | .registerWrite _ _ => true
  | .smbusReadId => true
  | .smbusReadState => true
  | .smbusReadTj => true
  | .smbusReadPkg => true
  | .smbusReadPtime => true
  | .smbusAlertStat _ => true
  | .smbusIoSlew _ => true
  | .smbusAlertMask _ => true
  | .smbusAlertResponse => true
  | .smbusTimeout => true
  | .extest => true
  | .idcode => true
  | .bypass _ => true
  | .samplePreload _ _ => true
  | .trst _ => true
  | .blockLockLoss _ => true
  | .stackTrainStep _ _ => true
  | .settlingSweepComplete _ => true
  | .surveyorIdleEntry => true
  | .faultedEraseTimeout _ => true
  | .discardSinkTimeout _ => true
  | .linkResponse _ m => [0x81, 0x82, 0x86].contains m.typ && m.sized
  | .lockClaimRetry _ => true

/-- A well-formed command. -/
abbrev WellFormed (i : Instr) : Prop := i.wf = true

end Sys2Proof
end

