-- ==== Sys2Proof/Tests/Slice0.lean ====
section
/-!
SUPPORT. The model's own tests: ill-formed commands that WellFormed refuses, single commands against numbers printed in the spec, and for each
obligation with hypotheses a concrete state and operands that meet them together.
-/
namespace Sys2Proof.Tests
set_option Elab.async false
open Sys2Proof.Machine

/-- A GN16-4R that is ONLINE with its SURVEYOR domain on, and nothing else changed from reset. -/
def onDev : Dev := (State.reset.dev.setRf R.LNT_MIR_STATE F.LNT_MIR_STATE_STATE 2).updDom 1 (fun x => { x with st := .on })

/-- The state around a device. -/
def around (d : Dev) : State := { dev := d, mem := [], pending := [] }

/-- The ONLINE state. -/
def on : State := around onDev

/-- A command of the PF: opcode, the P bytes as one number, TARGET, DATA_LEN, buffer. -/
def cmd (op : Nat) (p : Nat := 0) (target : Nat := 0) (len : Nat := 0) (buf : Buf := .bytes []) : Cmd :=
  { issuer := .fn pf, idx := 0, desc := BitVec.ofNat 512 (op + target * 2 ^ 32 + len * 2 ^ 128 + p * 2 ^ 192), buf := buf }

/-- A buffer of zero bytes. -/
def zeros (n : Nat) : Buf := .bytes (List.replicate n 0)

/-- A device whose parcel 0 holds every Gallery and every port, in a state. -/
def held (d : Dev) (st : PclSt) : Dev :=
  (((((d.setRf (R.PCL_RECT 0) F.PCL_RECT_VALID 1).setRf (R.PCL_RECT 0) F.PCL_RECT_X1 3).setRf (R.PCL_RECT 0) F.PCL_RECT_Y1 1).setRf
    (R.PCL_PORTMASK 0) F.PCL_PORTMASK_MASK 0xFFFF).updPcl 0 (fun x => { x with st := st }))

/-- The ONLINE state with parcel 0 in a state. -/
def onPcl (st : PclSt) : State := around (held onDev st)

/-- A licence record of 256 bytes for LRN-STRUCT, bound to device ID 1 (R488). -/
def licence : List Byte := leBytes 256 (0x434C4E47 + 2 ^ 32 + 2 ^ 128)

/-- An owner key record with SERIAL 1 whose key is the base point of P-384 (R415). -/
def ownerRecord : List Byte := leBytes 256 (0x4B4F4E47 + 2 ^ 32 + 2 ^ 64 + g384.1 * 2 ^ 256 + g384.2 * 2 ^ 640)

/-- A device with every domain on, every Gallery in Run in parcel 0, every link ACTIVE, every stack READY and every port in RUN. -/
def live : Dev :=
  let d := held onDev .run
  { d with pwr := { d.pwr with doms := d.pwr.doms.map (fun x => { x with st := .on }) },
           gals := d.gals.map (fun x => { x with st := .run }),
           links := d.links.map (fun x => { x with st := .active }),
           stks := d.stks.map (fun x => { x with st := .ready }),
           ports := d.ports.map (fun x => { x with st := .run }) }

/-- The digest of `tinyImage` as a number. -/
def tinyDigest : Nat := 0x60b2049c733893ed0e52d5be9a35ac50d6168978fbf6322b638ca71f594af2d36b1b7f0b6df8bfcda43b884c9461b088

/-- The smallest image for a parcel of Gallery 0: header, section table, one GALLERY section with THETA 1 in model entry 0 and SIG_ACT 1 (R407 to R410), and a
SIGNATURE section (Table 14.4). Its key was chosen so that the verification's two factors are both 1. -/
def tinyImage : List Byte :=
  leBytes 128 (0x54414E47 + 1 * 2 ^ 32 + 2 * 2 ^ 48 + 768 * 2 ^ 64 + 1000000 * 2 ^ 96 + 2 * 2 ^ 176 )
    ++ leBytes 16 (1 + 192 * 2 ^ 32 + 312 * 2 ^ 64) ++ leBytes 16 (0xFFFF + 512 * 2 ^ 32 + 256 * 2 ^ 64) ++ leBytes 32 0
    ++ leBytes 320 (1 + 2 ^ 2440) ++ leBytes 8 1
    ++ leBytes 48 0x62186136c196d0e20f14b375ffd161d4436b50124c9cefe2508a05514647da89b8b402d1c684a42c05f07d9b294f321
    ++ leBytes 48 0x917cd5ebdfaf0d5bd7c282b14a707cb1759f2fab8d69736ce5b4e21dd2f57c1d3a0f465f086c9a617b8be5682cea8039
    ++ leBytes 96 (tinyDigest * (1 + 2 ^ 384)) ++ leBytes 56 0

/-- A device whose parcel 0 holds Gallery 0 alone, in a state. -/
def small (d : Dev) (st : PclSt) : Dev := (d.setRf (R.PCL_RECT 0) F.PCL_RECT_VALID 1).updPcl 0 (fun x => { x with st := st })

/-- ATLAS_LOAD of the image into parcel 0. -/
def loadTiny : Cmd := cmd 0x0301 0 0 768 (.bytes tinyImage)

/-- Pass 1 accepts the image: its digest and signature come from outside the model (FIPS 180-4, FIPS 186-5). -/
theorem tinyImage_passes : (small onDev .created).pass1 0 tinyImage 768 [] = .ok (imageOf tinyImage (rectOf (ihRect tinyImage)).gals) := by
  have h : (if !headerReadable tinyImage 768 then chk 1
      else firstOf [(small onDev .created).checkAbsent tinyImage, (small onDev .created).checkNeed tinyImage,
        checkContainer tinyImage (imageOf tinyImage (rectOf (ihRect tinyImage)).gals),
        (small onDev .created).checkSignature (imageOf tinyImage (rectOf (ihRect tinyImage)).gals),
        (small onDev .created).checkContent 0 (imageOf tinyImage (rectOf (ihRect tinyImage)).gals) []]) = none := by decide +kernel
  unfold Dev.pass1
  dsimp only
  rw [h]

/-- The command's operands read as written. -/
theorem loadTiny_operands : loadTiny.parcel = 0 ∧ loadLen loadTiny tinyImage = 768 := by decide +kernel

/-- The running device with Gallery 0's Compass unit, Leveler and plane enabled, and expert job 0: KT 2, K 32, weights in the banks (Table 7.4). -/
def wired : Dev :=
  ((((live.setRf (R.CMP_CTL 0) F.CMP_CTL_EN 1).setRf (R.DNS_CTL 0) F.DNS_CTL_EN 1).setRf (R.DNS_CTL 0) F.DNS_CTL_COMMIT 1).setReg
    (R.DNS_JDESC 0 0) 0xF11).setRf (R.LRN_CTL 0) F.LRN_CTL_EN 1

/-- A job of the wired plane whose operands stand. -/
def oneJob : Job := { desc := 0, n := 1, rows := [List.replicate 32 0], reads := 0, src := .remote 0 0 0 0, chain := 0 }

/-- A submission of 8 rows to job 0 of Gallery 0 by its own Compass unit (Table 7.7). -/
def submission : JobFlit := { word := jobFlit 0 8 255 0 0 0 0, ref := 0, parcel := 0 }

/-- A read of the staged row's second chunk, for Gallery 0. -/
def operandAsk : MeshMsg := { parcel := 0, dst := 0, body := .read 0 0 0 0 1 }

/-- Its staging slot. -/
def oneSlot : Staging := { tag := 0, rows := [{ feats := List.replicate 32 0, cands := [0], port := none }], plane := 0, job := 0, answered := false, reads := 2 }

/-- A reference event's word by PART (Table 8.3). -/
def refEvent (axon part : Nat) : BitVec 64 := mkEvent 0 0 axon 0 0 0 3 (part * 4)

/-- A read that succeeds without poison, its poisoned units none, taken apart. -/
theorem good_parts {α β γ : Type} {x : Option (α × List γ × β)} (h : x.isSome = true) (hb : (x.get h).2.1 = []) :
    x = some ((x.get h).1, [], (x.get h).2.2) := by
  rw [← hb]; exact (Option.some_get h).symm

/-- A read that succeeds without poison, taken apart. -/
theorem read_parts {α β : Type} {x : Option (α × Bool × β)} (h : x.isSome = true) (hb : (x.get h).2.1 = false) :
    x = some ((x.get h).1, false, (x.get h).2.2) := by
  rw [← hb]; exact (Option.some_get h).symm

/-- Region 0 of stack 0: 1 MiB from SA 0, of parcel 0, wholly written. -/
def regioned (d : Dev) : Dev := (d.setReg (R.STK_RGN_BASE 0 0) 0x80000000).setReg (R.STK_RGN_WM 0 0) 16384

/-- An outcome with its first part known, taken apart. -/
theorem triple_parts {α β γ : Type} {x : α × β × γ} {a : α} (h : x.1 = a) : x = (a, x.2.1, x.2.2) := by
  rw [← h]

/-- Chip 0 of a group of two on the X axis, both X links ACTIVE to chip 1 (Table 10.9), still SINGLE. -/
def paired : Dev :=
  let partner (port : Fin 6) : IdentRec := { devId := 7, port := port, part := 1, lab := false, role := 0, coord := none }
  { (onDev.setReg R.TRV_GRP_STAT 0x100) with
    links := (onDev.links.set 0 { st := .active, partner := some (partner 1) }).set 1 { st := .active, partner := some (partner 0) }
    grp := { onDev.grp with coordSet := true } }

/-- Chip 1's answer, all checks passed. -/
def peer : PeerReply :=
  { chip := 1, coord := some (1, 0, 0), sizes := (2, 1, 1), devId := 7, part := 1, links := [(0, onDev.fus.devid, 1), (1, onDev.fus.devid, 0)] }

/-- Chip 1 of the same group, back from a reset, and chip 0's answer to it. -/
def follower : Dev :=
  let l (p : Fin 6) : Link := { st := .active, partner := some { devId := 7, port := p, part := 1, lab := false, role := 0, coord := none } }
  (({ onDev with links := (onDev.links.set 0 (l 1)).set 1 (l 0), grp := { onDev.grp with coordSet := true } }).setReg R.TRV_GRP_STAT 0x1010100).updLed
    (fun l => { l with coord := some { x := 1, y := 0, z := 0, sx := 2, sy := 1, sz := 1, edge := false } })

/-- Chip 0's answer to the follower. -/
def leaderOfTwo : PeerReply :=
  { chip := 0, coord := some (0, 0, 0), sizes := (2, 1, 1), devId := 7, part := 1, links := [(0, onDev.fus.devid, 1), (1, onDev.fus.devid, 0)] }

/-- A chip that is a group of its own. -/
def alone : Dev := onDev.updGrp (fun g => { g with coordSet := true })

/-- A success, taken apart. -/
theorem ok_parts {ε α : Type} {x : Except ε α} (h : x.toOption.isSome = true) : x = .ok (x.toOption.get h) := by
  cases x with
  | error e => cases h
  | ok a => rfl

/-- A block of one flit, sealed by the key of zeros that a link holds before its first KEYX. -/
def goodBlock : RxBlock :=
  { tag := tagOf 0 0 0 [mkFlit 0 true true 0 5], num := 0, flits := [mkFlit 0 true true 0 5], events := [] }

/-- A link message with an argument and data. -/
def msg (typ : Nat) (arg : Nat) (data : List Byte := []) : LinkMsg :=
  { typ := BitVec.ofNat 8 typ, src := 1, dst := 0, tag := 5, arg := BitVec.ofNat 64 arg, data := data }

/-- A device in a group state (TRV_GRP_STAT.STATE: 1 FORMING, 2 LEADER, 3 FOLLOWER). -/
def grouped (d : Dev) (st : Nat) : Dev := d.setRf R.TRV_GRP_STAT F.TRV_GRP_STAT_STATE st

/-- An outcome with its second part known, taken apart. -/
theorem pair_parts {α β : Type} {x : α × β} {b : β} (h : x.2 = b) : x = (x.1, b) := by
  rw [← h]

/-- A device in a mirror state, with its reason. -/
def mirrored (d : Dev) (st : Nat) (reason : Nat := 0) : Dev :=
  (d.setRf R.LNT_MIR_STATE F.LNT_MIR_STATE_STATE st).setRf R.LNT_MIR_STATE F.LNT_MIR_STATE_REASON reason

/-- A device out of cold reset. -/
def started (d : Dev) : Dev := { d with boot := { d.boot with coldPin := false, inCold := false } }

/-- A device with the running request set of STACK3 to retention, at a stage of its entry. -/
def lowering (stage : Nat) : Dev :=
  ({ live with pwr := { live.pwr with req := some { named := 34, target := 1, by_ := .firmware, todo := [34], lowered := [] } } }).updDom 34
    (fun x => { x with st := .entering, stage := stage, prior := 0 })

/-- A running device whose PF has rings of 16, 16 and 64 entries, ACTIVE, with a command posted. -/
def ringed : Dev :=
  (((onDev.setRf (R.MBX_RING_CFG 8) F.MBX_RING_CFG_CMD_LOG2 4).setRf (R.MBX_RING_CFG 8) F.MBX_RING_CFG_CPL_LOG2 4).setRf
    (R.MBX_RING_CFG 8) F.MBX_RING_CFG_RES_LOG2 6).updRing 8 (fun r => { r with st := .active, cmdPi := 1, quiesced := false })

/-- A finished DEVICE_NOP. -/
def oneCpl : Cpl :=
  { opcode := 0x0102, tag := 0xABCD, idx := 3, notify := false, status := .ok, result0 := 1, result1 := 2, detail := 0 }

/-- A fetched DEVICE_NOP. -/
def oneFetched : Fetched := { idx := 0, desc := 0x0102 }

/-- A lookup that succeeds, taken apart. -/
theorem some_parts {α β : Type} {x : Option (α × β)} (h : x.isSome = true) : x = some ((x.get h).1, (x.get h).2) := by
  exact (Option.some_get h).symm

/-- The running device whose master 0 may read and write everything (R354). -/
def mastered : Dev :=
  (((live.setRf (R.SCP_MRG_ATTR 0) F.SCP_MRG_ATTR_VALID 1).setRf (R.SCP_MRG_ATTR 0) F.SCP_MRG_ATTR_R 1).setRf (R.SCP_MRG_ATTR 0) F.SCP_MRG_ATTR_W 1).setRf
    (R.SCP_MRG_LIM 0) F.SCP_MRG_LIM_LIMIT 0xFFFFFF

/-- The running device whose link master may read and write everything (R354). -/
def mastered5 : Dev :=
  (((live.setRf (R.SCP_MRG_ATTR 80) F.SCP_MRG_ATTR_VALID 1).setRf (R.SCP_MRG_ATTR 80) F.SCP_MRG_ATTR_R 1).setRf (R.SCP_MRG_ATTR 80) F.SCP_MRG_ATTR_W 1).setRf
    (R.SCP_MRG_LIM 80) F.SCP_MRG_LIM_LIMIT 0xFFFFFF

/-- The running device with the host link up. -/
def hostUp : Dev := { live with host := { live.host with linkUp := true } }

/-! ### What WellFormed refuses -/

/-- A message of TYPE REG_READ with more data than 16 flits of 16 bytes. -/
def longMsg : LinkMsg := msg 0x01 0 (List.replicate 257 0)

/-- The wrong opcode. -/
theorem test_wf_opcode : Instr.wf (.timeStatus (cmd 0x0501)) = false ∧ Instr.wf (.timeStatus (cmd 0x0500)) = true := by decide +kernel

/-- A buffer that does not hold DATA_LEN bytes. -/
theorem test_wf_buffer : Instr.wf (.fwWrite (cmd 0x0104 0 0 4096 (zeros 4095))) = false ∧
    Instr.wf (.fwWrite (cmd 0x0104 0 0 4096 (zeros 4096))) = true := by decide +kernel

/-- Errors in words that do not exist. -/
theorem test_wf_errors : Instr.wf (.tickTurn 0 [(0, ⟨.state, 131072, true⟩)]) = false ∧ Instr.wf (.tickTurn 0 [(0, ⟨.ring, 524287, true⟩)]) = true ∧
    Instr.wf (.settlingSweep [(0, ⟨.axon, 262144, true⟩)]) = false ∧ Instr.wf (.epochSweepDone 0 [⟨.syn, 12582912, true⟩]) = false ∧
    Instr.wf (.eventTake 0 [⟨.ring, 524288, true⟩]) = false := by decide +kernel

/-- Packets longer than their header can say. -/
theorem test_wf_packets : Instr.wf (.csi2LongPacket 0 { header := .good, vc := 0, dt := 0x2A, payload := List.replicate 65536 0, crcOk := true }) = false ∧
    Instr.wf (.seamPacket 0 { bytes := List.replicate 65552 0, leave := 1 }) = false := by
  simp only [Instr.wf, List.length_replicate]
  decide

/-- A message of another row's TYPE. -/
theorem test_wf_types : Instr.wf (.grpAbort 0 (msg 0x43 0)) = false ∧ Instr.wf (.regWrite 0 (msg 0x01 0)) = false ∧
    Instr.wf (.lockClaim 0 (msg 0x04 0)) = false ∧ Instr.wf (.lockRelease 0 (msg 0x03 0)) = false ∧ Instr.wf (.mbxCmd 0 (msg 0x06 0)) = false ∧
    Instr.wf (.storeRead 0 (msg 0x07 0)) = false ∧ Instr.wf (.storeWrite 0 (msg 0x06 0)) = false ∧ Instr.wf (.tmark 0 (msg 0x41 0)) = false ∧
    Instr.wf (.echo 0 (msg 0x40 0)) = false ∧ Instr.wf (.gdl 0 (msg 0x44 0)) = false ∧ Instr.wf (.linkResponse 0 (msg 0x83 0)) = false := by decide +kernel

/-- A message longer than 16 flits. -/
theorem test_wf_sizes : Instr.wf (.linkResponse 0 { longMsg with typ := 0x81 }) = false ∧
    Instr.wf (.linkResponse 0 (msg 0x81 0)) = true := by decide +kernel

/-- A clock command whose P byte 0 names another clock, an owner lock command with the other LOCK. -/
theorem test_wf_selects : Instr.wf (.clockSetDense (cmd 0x0B03 1)) = false ∧ Instr.wf (.clockSetClkout (cmd 0x0B03 0)) = false ∧
    Instr.wf (.clockSetSpread (cmd 0x0B03 1)) = false ∧ Instr.wf (.ownerLockSet (cmd 0x0C04 0)) = false ∧
    Instr.wf (.ownerLockClear (cmd 0x0C04 1)) = false := by decide +kernel

/-- A telemetry frame for another number of domains, accesses of no length. -/
theorem test_wf_shapes : Instr.wf (.telemetryFrame { amps := List.replicate 35 0, pkg := 0, vin := 0, vcore := 0 }) = false ∧
    Instr.wf (.stackAccess { req := .gallery 0, sa := 0, len := 0, write := none, errs := [] }) = false ∧
    Instr.wf (.scratchpadAccess { m := 0, func := pf, off := 0, len := 0, write := none, errs := [] }) = false ∧
    Instr.wf (.barAccess { func := pf, bar4 := false, off := 0, write := none, len := 3 }) = false ∧
    Instr.wf (.bar0BadAccess { func := pf, off := 0, size := 65, write := none }) = false := by decide +kernel

/-! ### Numbers that the spec prints -/

/-- No word spells a command: the table gives no row bits. -/
theorem test_no_words : decodeTableWord 32 0 = none := rfl

/-- The model of 02's worked case: THETA 2,000, LEAK 0.875, WSHIFT 4, REFRAC 2, TRACE_INC 64, TRACE_DECAY 0.75. -/
def leaky : Model :=
  { ashift := 0, refrac := 2, wshift := 4, expo := true, subtract := false, theta := 2000, traceInc := 64, vreset := 0, traceDecay := 0xC000,
    leak := 0xE000, adaptInc := 0, adaptDecay := 0 }

/-- pow_q16(0xE000, 3) is 43,904 (02, worked case), pow_q16(0xC000, 8) is 6,561 (09, worked case). -/
theorem test_pow_q16 : powQ16 0xE000 3 = 43904 ∧ powQ16 0xE000 1 = 57344 ∧ powQ16 0xC000 2 = 36864 ∧ powQ16 0xC000 8 = 6561 := by decide +kernel

/-- V of 800 leaks to 535 over three ticks, and the contribution of weight 30 takes it to 1,015 (02, worked case, tick 103). -/
theorem test_leak_and_integrate :
    leakV leaky 3 800 = 535 ∧ contribution 4 30 none = 480 ∧ leakV leaky 1 1015 = 888 ∧ contribution 4 80 none = 1280 := by decide +kernel

/-- At tick 104 the neuron fires from V 888, and its word reads 0x8C00_0068_0840_0000 (02, worked case). -/
theorem test_fire_word : (integrate leaky 1280 (fput nsLast (putV (fput nsModel (fput nsW 0 1) 3) 888) 0x68)).word = 0x8C00006808400000#64 := by
  decide +kernel

/-- The hash of key 0x0280_9400 under salt 0x5A3C_71E6 is 0xA87D_0D60, and its candidates of 64 experts are 32, 29, 26 and 23 (08, worked case). -/
theorem test_candidates : cmpHash 0x02809400#32 0x5A3C71E6#32 = 0xA87D0D60#32 ∧ candidates 0x02809400#32 0x5A3C71E6#32 64 = [32, 29, 26, 23] := by
  decide +kernel

/-- Scores of the tally 0x003C_00FF: 248 for SIG 0x003C_01FF, 240 for its own signature with BIAS −16 (08, worked case). -/
theorem test_score : score 0x003C00FF#32 0x003C01FF#64 = 248 ∧ score 0x003C00FF#32 (0x003C00FF#64 + 0xF0#64 <<< 32) = 240 := by decide +kernel

/-- The Bearing step of 08's worked case: mean 400, band 100, step 4. -/
theorem test_bearing_step : bearBias 400 100 4 720 0 = -4 ∧ bearBias 400 100 4 540 (-16) = -20 ∧ bearBias 400 100 4 330 8 = 8 ∧
    bearBias 400 100 4 240 0 = 4 := by decide +kernel

/-- Pass A of 09's worked case: profile 3, PRE 64, T 6, shadow −3, weight 40: weight 43 and shadow 3. -/
theorem test_pass_a :
    let r := learnSynapse 0x0C60C811#32 0x00007F00#32 0x00001404#32 false false 0 64 6 0x280A0000#32 0xFD 0
    fget syWeight r.word = 43 ∧ r.shadow = 3 ∧ r.age = 0 ∧ r.pruned = false := by decide +kernel

/-- Normalisation of 09's worked case: a fan-in of 720 against 600 takes code 6, and weight 43 becomes 36. -/
theorem test_norm : normCode 720 600 16 2 = 6 ∧ ({ word := 0, weight := 43, code := 6, lo := 0, hi := 127 } : Scale).scaled = 36 := by decide +kernel

/-- Job word 0x0D37_8F11 reads K 32, N 48, RQ_SHIFT 6; its image is 2,048 bytes (07, worked case). -/
theorem test_job_word : jdK 0x0D378F11#128 = 32 ∧ jdN 0x0D378F11#128 = 48 ∧ jdOut 0x0D378F11#128 = 1 ∧ imageBytes 0x0D378F11#128 = 2048 := by
  decide +kernel

/-- A sum of 55 with RQ_SHIFT 2 gives 14 (07, worked case of the spike-count readout). -/
theorem test_requant : requant (0x04000000#128) 55 = 14 := by decide +kernel

/-- The CRC-8 of Seam bytes 0x91, 0x40, 0x65 is 0xA5 (03, worked case). -/
theorem test_seam_header : crc8 [0x91, 0x40, 0x65] = 0xA5 ∧ seamHeaderOk [0x91, 0x40, 0x65, 0xA5] = true ∧ seamHeaderOk [0x91, 0x40, 0x65, 0xA4] = false := by
  decide +kernel

/-- The shed governor of 03's worked case: SMAX 3, LOW 8, BUDGET 20,000, DECAY 16. -/
theorem test_shed : nextShedLevel 0 0 14000 34000 20000 8 16 3 = (1, 0) ∧ nextShedLevel 3 0 2500 22500 20000 8 16 3 = (3, 0) ∧
    nextShedLevel 3 15 0 7500 20000 8 16 3 = (2, 0) ∧ nextShedLevel 1 0 0 15000 20000 8 16 3 = (1, 0) := by decide +kernel

/-- VF1 with life 5 on its first lock: reads 0x0000_0512; after its function is reset, life 6 and 0x9000_0612 (12, worked case). -/
theorem test_lock_words :
    let d := (onDev.setRf (R.LCK_LIFE 4) F.LCK_LIFE_LIFE 5).setRf (R.LCK_GRANT 27) F.LCK_GRANT_VF 2
    let a := d.lockAcquire 27 0x12
    let b := (a.2.2.raiseLife 4).lockAcquire 27 0x12
    (a.2.1, b.2.1) = (0x00000512#32, 0x90000612#32) := by decide +kernel

/-- The completion of index 130 on a ring of 64 carries PHASE 1 (12, worked case). -/
theorem test_phase : phaseOf 130 64 = 1 ∧ phaseOf 70 64 = 0 := by decide +kernel

/-- DETAIL 0x0001_000A: REASON 0x0A, INDEX 0, SUB 1 (14, worked case). -/
theorem test_detail : detail .check 0 1 = 0x0001000A#32 := by decide +kernel

/-- The rectangle X0 0, X1 1, Y0 0, Y1 1 is byte 0x24 and holds Galleries 0 to 3 (06 Table 6.8; 14, worked case). -/
theorem test_rect : (rectOf 0x24).gals = [0, 1, 2, 3] ∧ (rectOf 0x2E).gals = [4, 5, 6, 7] := by decide +kernel

/-- SHA-384 of the three bytes "abc", as FIPS 180-4's own example prints it (first and last byte). -/
theorem test_sha384 : (sha384 [0x61, 0x62, 0x63]).head? = some 0xCB ∧ (sha384 [0x61, 0x62, 0x63]).getLast? = some 0xA7 := by decide +kernel

/-! ### What meets the hypotheses of the obligations -/

theorem witness_OnlyMemoryRowsTouchMemory :
    (∃ (c : Instr) (s t : State), touchesMemory c = false ∧ exec c s = .next t) :=
  ⟨.meterRefill, on, _, by decide +kernel, rfl⟩

theorem witness_MemoryStaysSound :
    (∃ (s t : State), Memory.sound s.mem = true ∧ step s = .next t) :=
  ⟨{ on with pending := [.meterRefill] }, _, by decide +kernel, rfl⟩

theorem witness_RegisterBankReadsBack :
    (∃ (d : Dev) (a b : Nat) (f g : Fld) (v : Nat), f.lo + f.width ≤ 32) :=
  ⟨onDev, R.DAT_CTL, R.DAT_CTL, F.DAT_CTL_SRC, F.DAT_CTL_EDGE, 3, by decide +kernel⟩

theorem witness_FieldsFollowTheirCodes :
    (∃ (a : Nat) (r : RegAt), regAt a = some r) :=
  ⟨R.DAT_CTL, _, (Option.some_get (by decide +kernel)).symm⟩

theorem witness_LockAcquisition :
    (on.dev.granted 63 (ownerId (.fn 8)) = false) ∧
    (∃ (s : State) (u : LockUser) (n : Fin 64), s.dev.granted n (ownerId u) = true ∧ s.dev.locks[n].owner = 0 ∧ s.dev.locks[n].broken = false) ∧
    (∃ (s : State) (u : LockUser) (n : Fin 64), s.dev.granted n (ownerId u) = true ∧ s.dev.locks[n].owner = 0 ∧ s.dev.locks[n].broken = true) ∧
    (∃ (s : State) (u : LockUser) (n : Fin 64), s.dev.granted n (ownerId u) = true ∧ s.dev.locks[n].owner ≠ 0 ∧ s.dev.locks[n].owner ≠ ownerId u) ∧
    (∃ (s : State) (u : LockUser) (n : Fin 64), s.dev.granted n (ownerId u) = true ∧ s.dev.locks[n].owner = ownerId u) :=
  ⟨by decide +kernel,
    ⟨around { onDev.setRf (R.LCK_GRANT 63) F.LCK_GRANT_PF 1 with locks := onDev.locks.set 63 { owner := 0, broken := false } }, .fn 8, 63, by decide +kernel⟩,
    ⟨around { onDev.setRf (R.LCK_GRANT 63) F.LCK_GRANT_PF 1 with locks := onDev.locks.set 63 { owner := 0, broken := true } }, .fn 8, 63, by decide +kernel⟩,
    ⟨around { onDev.setRf (R.LCK_GRANT 63) F.LCK_GRANT_PF 1 with locks := onDev.locks.set 63 { owner := 1, broken := false } }, .fn 8, 63, by decide +kernel⟩,
    ⟨around { onDev.setRf (R.LCK_GRANT 63) F.LCK_GRANT_PF 1 with locks := onDev.locks.set 63 { owner := 16, broken := false } }, .fn 8, 63, by decide +kernel⟩⟩

theorem witness_LockRelease :
    (∃ (s : State) (u : LockUser) (n : Fin 64) (v : BitVec 32), s.dev.locks[n].owner = ownerId u ∧ bit v 0 = true) ∧
    (∃ (s : State) (u : LockUser) (n : Fin 64) (v : BitVec 32), ¬(s.dev.locks[n].owner = ownerId u ∧ bit v 0 = true)) :=
  ⟨⟨around { onDev.setRf (R.LCK_GRANT 63) F.LCK_GRANT_PF 1 with locks := onDev.locks.set 63 { owner := 16, broken := false } }, .fn 8, 63, 1, by decide +kernel⟩,
    ⟨around { onDev.setRf (R.LCK_GRANT 63) F.LCK_GRANT_PF 1 with locks := onDev.locks.set 63 { owner := 16, broken := false } }, .fn 8, 63, 0, by decide +kernel⟩⟩

theorem witness_ResetsBreakLocks :
    (∃ (d : Dev) (o : Nat) (n : Fin 64), o < 75) ∧
    (∃ (s t : State) (f : Func) (n : Fin 64), exec (.flr f) s = .next t) ∧
    (∃ (s t : State) (c n : Fin 64), exec (.resetNote c) s = .next t) ∧
    (∃ (s : State) (u : LockUser) (n : Fin 64), s.dev.granted n (ownerId u) = true ∧ s.dev.locks[n] = { owner := 0, life := 0, broken := true }) :=
  ⟨⟨onDev, 74, 0, by decide +kernel⟩,
    ⟨on, _, 8, 0, rfl⟩,
    ⟨on, _, 63, 0, rfl⟩,
    ⟨around { onDev.setRf (R.LCK_GRANT 63) F.LCK_GRANT_PF 1 with locks := onDev.locks.set 63 { owner := 0, life := 0, broken := true } }, .fn 8, 63, by decide +kernel⟩⟩

theorem witness_DoorbellsLatchWithinTheRing :
    (∃ (s : State) (f : Func) (v : BitVec 32), (s.dev.ring f).st = .active) :=
  ⟨around ringed, 8, 1, by decide +kernel⟩

theorem witness_RingStatesMoveByTheTable :
    (∃ (c : Instr) (s t : State) (f : Func), ringRow c = true ∧ exec c s = .next t) :=
  ⟨.ringDisable 8, around ringed, _, 8, by decide +kernel, rfl⟩

theorem witness_FunctionsAreIsolated :
    (∃ (c : Instr) (s t : State) (f g : Func) (n : Fin 64), functionOf c = some f ∧ exec c s = .next t) :=
  ⟨.flr 8, around ringed, _, 8, 0, 0, by decide +kernel, rfl⟩

theorem witness_HostRowsLeaveTheFabric :
    (∃ (c : Instr) (s t : State), ringRow c = true ∧ exec c s = .next t) :=
  ⟨.flr 8, around ringed, _, by decide +kernel, rfl⟩

theorem witness_CompletionEntryLayout :
    (∃ (s t : State) (f : Func) (c : Cpl) (l : List Cpl), (s.dev.ring f).done = c :: l ∧ c.orphan = false ∧ ((s.dev.ring f).st = .active ∨ (s.dev.ring f).st = .error) ∧ ((s.dev.ring f).cplPi - (s.dev.ring f).cplCi).toNat < s.dev.cplSize f ∧ exec (.completionWrite (.fn f)) s = .next t) ∧
    (∃ (s t : State) (f : Func) (k : Fin 7) (arg : BitVec 64), k ≠ 0 ∧ (s.dev.ring f).st = .active ∧ 0 < s.dev.cplFree f ∧ exec (.notice f k arg) s = .next t) :=
  ⟨⟨around (ringed.updRing 8 (fun r => { r with done := [oneCpl], cplPi := 15 })), _, 8, oneCpl, [], by decide +kernel, by decide +kernel, by decide +kernel, by decide +kernel, rfl⟩,
    ⟨around ringed, _, 8, 6, 7, by decide +kernel, by decide +kernel, by decide +kernel, rfl⟩⟩

theorem witness_CommandsWaitForTheFirmware :
    (∃ (i : Instr) (sp : CmdSpec) (c : Cmd) (s : State), commandOf i = some (sp, c) ∧ s.dev.mirState ≠ 2 ∧ (s.dev.mirState = 5 → sp.op / 256 ≠ 0x01 ∧ sp.op / 256 ≠ 0x0C)) :=
  ⟨.deviceNop (cmd 0x0102), specDeviceNop, cmd 0x0102, State.reset, rfl, by decide +kernel, by decide +kernel⟩

theorem witness_RefusedAtAdmissionChangesNothing :
    (∃ (i : Instr) (sp : CmdSpec) (c : Cmd) (s : State) (st : Status) (dt : BitVec 32), commandOf i = some (sp, c) ∧ s.dev.mayFetch sp.op = true ∧ s.dev.domOn 1 = true ∧ s.dev.admission c sp = some (st, dt)) :=
  ⟨.deviceNop (cmd 0x0102 (2 ^ 128)), specDeviceNop, cmd 0x0102 (2 ^ 128), on, .refused, detail .field 16, rfl, by decide +kernel, by decide +kernel, by decide +kernel⟩

theorem witness_HaltedGalleryHoldsNothing :
    (∃ (s t : State) (h : GdlHead) (g k : Fin 8), h.crcOk = true ∧ h.station.val = 0x10 + g.val ∧ s.dev.stationOn h.station.val = true ∧ (s.dev.gal g).st ≠ .faulted ∧ exec (.halt h) s = .next t) :=
  ⟨around live, _, { surveyor := true, station := 0x17, crcOk := true }, 7, 0, by decide +kernel, by decide +kernel, by decide +kernel, by decide +kernel, rfl⟩

theorem witness_LazyUpdateFields :
    ((5 % 256 + 256 - fget nsLast (0 : BitVec 64)) % 256 ≠ 0 ∧ (modelOf 0 0 0 0).expo = false ∧ (modelOf 0x80000 0 0 0).expo = true) :=
  by decide +kernel

theorem witness_IntegrationAndFire :
    (fget nsRefr (fput nsRefr (0 : BitVec 64) 63) ≠ 0) ∧
    (fget nsRefr (0 : BitVec 64) = 0) :=
  ⟨by decide +kernel,
    by decide +kernel⟩

theorem witness_EventWordFields :
    (∃ (chip gallery axon adly stamp slice kind payload : Nat), chip < 64 ∧ gallery < 8 ∧ axon < 2 ^ 18 ∧ adly < 1024 ∧ stamp < 256 ∧ slice < 16 ∧ kind < 4 ∧ payload < 256) ∧
    (∃ (t : Nat) (e : BitVec 64), (t + 256 - fget evStamp e) % 256 ≤ t) :=
  ⟨⟨63, 7, 2 ^ 18 - 1, 1023, 255, 15, 3, 255, by decide +kernel⟩,
    ⟨256, 0, by decide +kernel⟩⟩

theorem witness_ErasureLeavesNoDarkState :
    (∃ (s t : State) (g : Fin 8) (p : Fin 16) (rest : List Nat) (n k : Nat), (s.dev.gal g).eraseQ = p.val :: rest ∧ (s.dev.gal g).bad = [] ∧ s.dev.taggedWith g p n = true ∧ k % 131072 = n ∧ exec (.eraseComplete g p) s = .next t) :=
  ⟨around ((live.setReg (R.GAL_DARK_LO 7 0) 0x8F000000).updGal 7 (fun x => { x with eraseQ := [15], state := [(0, 0x8000000000000000)] })), _, 7, 15, [], 0, 131072, by decide +kernel, by decide +kernel, by decide +kernel, by decide +kernel, rfl⟩

theorem witness_UnwrittenStackUnits :
    (∃ (m : Mach) (k : Fin 4) (r : Fin 16) (u : Nat) (errs : List MemErr), m.dev.rgnWm k r ≤ u) :=
  ⟨{ dev := onDev, mem := [] }, 0, 0, 0, [], by decide +kernel⟩

theorem witness_ScratchpadLines :
    (∃ (d : Dev) (l : Nat) (errs : List MemErr), SMap.get false d.scp.written l = false) ∧
    (∃ (s t : State) (a : ScpAccess), a.write = none ∧ a.off + a.len ≤ scpBytes ∧ 0 < a.len ∧ s.dev.masterAdmits a.m a.func (scpWindow + a.off) (scpWindow + a.off + a.len) false = true ∧ s.dev.scp.copying = none ∧ s.dev.march = none ∧ s.dev.rf R.SCP_STAT F.SCP_STAT_DEGRADED = 0 ∧ (∀ l, SMap.get false s.dev.scp.written l = false) ∧ exec (.scratchpadAccess a) s = .next t) ∧
    (∃ (s t : State) (a : ScpAccess) (b : List Byte) (x : Nat), a.write = some b ∧ a.off + b.length ≤ scpBytes ∧ b ≠ [] ∧ s.dev.masterAdmits a.m a.func (scpWindow + a.off) (scpWindow + a.off + b.length) true = true ∧ s.dev.scp.copying = none ∧ s.dev.march = none ∧ s.dev.rf R.SCP_STAT F.SCP_STAT_DEGRADED = 0 ∧ exec (.scratchpadAccess a) s = .next t) ∧
    (∃ (s t : State) (ns l : Nat), 10000 ≤ ns ∧ exec (.coldN ns) s = .next t) ∧
    (∃ (s t : State) (ns x : Nat), exec (.warmN ns) s = .next t) :=
  ⟨⟨onDev, 131071, [], by decide +kernel⟩,
    ⟨around mastered, _, { m := 0, func := 8, off := 0x7FFFFE, len := 2, write := none, errs := [] }, by decide +kernel, by decide +kernel, by decide +kernel, by decide +kernel, by decide +kernel, by decide +kernel, by decide +kernel, (fun _ => rfl), rfl⟩,
    ⟨around mastered, _, { m := 0, func := 8, off := 0x7FFFFE, len := 2, write := some [1, 2], errs := [] }, [1, 2], 0, by decide +kernel, by decide +kernel, by decide +kernel, by decide +kernel, by decide +kernel, by decide +kernel, by decide +kernel, rfl⟩,
    ⟨State.reset, _, 10000, 0, by decide +kernel, rfl⟩,
    ⟨on, _, 10000, 0, rfl⟩⟩

theorem witness_StackWriteFrame :
    (∃ (s t : State) (a : StackAccess) (k : Fin 4) (l : Nat) (r : Fin 16) (b : List Byte) (x : Nat), stackPlace s.dev.fus.high a.sa = some (k, l) ∧ s.dev.stackHeld k = false ∧ s.dev.stackReady k = true ∧ a.ca ≠ 2 ∧ a.write = some b ∧ s.dev.admitStack a.req k a.sa b.length true = some r ∧ (a.sa + b.length + 63) / 64 ≤ s.dev.rgnWm k r ∧ exec (.stackAccess a) s = .next t) :=
  ⟨around (regioned live), _, { req := .gallery 0, sa := 1048512, len := 64, write := some (List.replicate 64 7), errs := [], ca := 1 }, 0, 1048512, 0, List.replicate 64 7, 0, by decide +kernel, by decide +kernel, by decide +kernel, by decide +kernel, by decide +kernel, by decide +kernel, by decide +kernel, rfl⟩

theorem witness_DeniedAccessTouchesNothing :
    (∃ (s t : State) (a : ScpAccess) (len : Nat), len = (match a.write with | some b => b.length | none => a.len) ∧ s.dev.masterAdmits a.m a.func (scpWindow + a.off) (scpWindow + a.off + len) a.write.isSome = false ∧ exec (.scratchpadAccess a) s = .next t) ∧
    (∃ (s t : State) (a : StackAccess) (k : Fin 4) (l : Nat), stackPlace s.dev.fus.high a.sa = some (k, l) ∧ s.dev.stackReady k = true ∧ s.dev.stackSleeps k = false ∧ s.dev.admitStack a.req k a.sa (match a.write with | some b => b.length | none => a.len) a.write.isSome = none ∧ exec (.stackAccess a) s = .next t) :=
  ⟨⟨on, _, { m := 0, func := 8, off := 0x7FFFFE, len := 2, write := none, errs := [] }, 2, by decide +kernel, by decide +kernel, rfl⟩,
    ⟨around live, _, { req := .gallery 0, sa := 0, len := 64, write := none, errs := [] }, 0, 0, by decide +kernel, by decide +kernel, by decide +kernel, by decide +kernel, rfl⟩⟩

theorem witness_CollectorTakesARecord :
    (∃ (s t : State) (x : FaultIn), s.dev.flt.recs.length < 256 ∧ s.dev.flt.numbered = true ∧ exec (.faultRecord x) s = .next t) ∧
    (∃ (s t : State) (x : FaultIn), s.dev.flt.recs.length ≤ 256 ∧ exec (.faultRecord x) s = .next t) :=
  ⟨⟨around { onDev with flt := { onDev.flt with numbered := true } }, _, { cls := 1, code := 1, unit := 0, parcel := 0xFF, count := 1, index := 0, arg0 := 0 }, by decide +kernel, by decide +kernel, rfl⟩,
    ⟨on, _, { cls := 1, code := 1, unit := 0, parcel := 0xFF, count := 1, index := 0, arg0 := 0 }, by decide +kernel, rfl⟩⟩

theorem witness_ColdResetState :
    (∃ (s t : State) (ns a : Nat), 10000 ≤ ns ∧ exec (.coldN ns) s = .next t) ∧
    (∃ ns, 10000 ≤ ns) :=
  ⟨⟨on, _, 10000, 0, by decide +kernel, rfl⟩,
    ⟨10000, by decide +kernel⟩⟩

theorem witness_MeterRefill :
    (∃ (s t : State) (p : Fin 16) (a : Nat), s.dev.fus.ceilBurst ≤ 64 ∧ exec .meterRefill s = .next t) :=
  ⟨on, _, 15, 0, by decide +kernel, rfl⟩

theorem witness_DeviceCommandsTakeEffect :
    (∃ (s : State) (c : Cmd), Served specTimeStatus c s ∧ c.dataLen = 0) ∧
    (∃ (s : State) (c : Cmd), Served specDeviceStatus c s ∧ c.dataLen = 0) ∧
    (∃ (s : State) (c : Cmd), Served specIntakeStatus c s ∧ c.dataLen = 0 ∧ c.p 0 < 16 ∧ bit s.dev.fus.ports (c.p 0) = true) ∧
    (∃ (s : State) (c : Cmd), Served (specOnParcel 0x0700 true) c s ∧ c.dataLen = 0) ∧
    (∃ (s : State) (c : Cmd), Served (specOnParcel 0x0705 true) c s ∧ c.dataLen = 0) ∧
    (∃ (s : State) (c : Cmd) (g : Fin 8), Served (specOnParcel 0x0800 true) c s ∧ c.dataLen = 0 ∧ s.dev.firstGal c.parcel = some g) ∧
    (∃ (s : State) (c : Cmd), Served (specPlain 0x0100 .any) c s) ∧
    (∃ (s : State) (c : Cmd), Served specDeviceNop c s) ∧
    (∃ (s : State) (c : Cmd), Served specWarmReset c s ∧ (s.dev.anyRun = false ∨ c.p 0 = 1)) ∧
    (∃ (s : State) (c : Cmd) (b : List Byte), Served specFwWrite c s ∧ inputOf c = some b ∧ c.env.ledgerOk = true ∧ c.pn 0 4 % 4096 = 0 ∧ 4096 ≤ c.bufLen ∧ c.bufLen ≤ 0x100000 ∧ c.pn 0 4 + c.bufLen ≤ fwSlotBytes ∧ s.dev.led.bootRec.trial = none) ∧
    (∃ (s : State) (c : Cmd), Served specFwCommit c s ∧ c.env.ledgerOk = true) ∧
    (∃ (s : State) (c : Cmd), Served (specPlain 0x0106 .pf) c s ∧ s.dev.led.fwPartial = true) :=
  ⟨⟨on, (cmd 0x0500), by unfold Served; decide +kernel⟩,
    ⟨on, (cmd 0x0101), by unfold Served; decide +kernel⟩,
    ⟨on, (cmd 0x0400 15), by unfold Served; decide +kernel⟩,
    ⟨on, (cmd 0x0700 0 7), by unfold Served; decide +kernel⟩,
    ⟨on, (cmd 0x0705), by unfold Served; decide +kernel⟩,
    ⟨onPcl .loaded, (cmd 0x0800), 0, by unfold Served; decide +kernel⟩,
    ⟨on, (cmd 0x0100), by unfold Served; decide +kernel⟩,
    ⟨on, (cmd 0x0102 5), by unfold Served; decide +kernel⟩,
    ⟨onPcl .run, (cmd 0x0103 1), by unfold Served; decide +kernel⟩,
    ⟨on, (cmd 0x0104 0 0 4096 (zeros 4096)), List.replicate 4096 0, by unfold Served; decide +kernel, rfl, by decide +kernel, by decide +kernel, by decide +kernel, by decide +kernel, by decide +kernel, by decide +kernel⟩,
    ⟨on, (cmd 0x0105 4096), by unfold Served; decide +kernel⟩,
    ⟨around (onDev.updLed (fun l => { l with fwPartial := true })), (cmd 0x0106), by unfold Served; decide +kernel⟩⟩

theorem witness_SecurityCommandsAnswer :
    (∃ (s : State) (c : Cmd), Served (specPlain 0x0C00 .any) c s) ∧
    (∃ (s : State) (c : Cmd) (b : List Byte), Served (specRecord 0x0C01) c s ∧ inputOf c = some b ∧ licenceFormed b = true ∧ licenceBound s.dev.fus b = true ∧ c.env.ledgerOk = true ∧ licFeature b ≠ 5) ∧
    (∃ (s : State) (c : Cmd), Served specLicenceRemove c s ∧ c.p 0 ≤ 5 ∧ c.env.ledgerOk = true) ∧
    (∃ (s : State) (c : Cmd) (b : List Byte), Served (specRecord 0x0C03) c s ∧ inputOf c = some b ∧ ownerFormed b = true ∧ s.dev.led.serial < leAt b 8 4 ∧ (leAt b 16 16 = 0 ∨ leAt b 16 16 = s.dev.fus.devid.toNat) ∧ ownerKeyOk b = true ∧ (s.dev.led.ownerLock = false ∨ (leAt b 128 2 = 1 ∧ s.dev.ownerSigned (b.take 128) (sigAt b 160) = true)) ∧ (s.dev.led.ownerKey = none → ownerRemoves b = false) ∧ c.env.ledgerOk = true) ∧
    (∃ (s : State) (c : Cmd), Served specOwnerLock c s ∧ c.p 0 = 1 ∧ c.dataLen = 0 ∧ s.dev.led.ownerKey ≠ none ∧ c.env.ledgerOk = true) ∧
    (∃ (s : State) (c : Cmd) (b : List Byte), Served specOwnerLock c s ∧ c.p 0 = 0 ∧ inputOf c = some b ∧ c.env.ledgerOk = true) ∧
    (∃ (s : State) (c : Cmd) (b : List Byte), Served specGetCert c s ∧ 4096 ≤ c.bufLen ∧ inputOf c = some b) :=
  ⟨⟨on, (cmd 0x0C00), by unfold Served; decide +kernel⟩,
    ⟨on, (cmd 0x0C01 0 0 256 (.bytes licence)), licence, by unfold Served; decide +kernel, rfl, by decide +kernel, by decide +kernel, by decide +kernel, by decide +kernel⟩,
    ⟨on, (cmd 0x0C02 5), by unfold Served; decide +kernel⟩,
    ⟨on, (cmd 0x0C03 0 0 256 (.bytes ownerRecord)), ownerRecord, by unfold Served; decide +kernel, rfl, by decide +kernel, by decide +kernel, by decide +kernel, by decide +kernel, by decide +kernel, by decide +kernel, by decide +kernel⟩,
    ⟨around (onDev.updLed (fun l => { l with ownerKey := some g384 })), (cmd 0x0C04 1), by unfold Served; decide +kernel⟩,
    ⟨on, (cmd 0x0C04 0 0 256 (zeros 256)), List.replicate 256 0, by unfold Served; decide +kernel, by decide +kernel, rfl, by decide +kernel⟩,
    ⟨on, (cmd 0x0C05 0 0 4096 (zeros 4096)), List.replicate 4096 0, by unfold Served; decide +kernel, by decide +kernel, rfl⟩⟩

theorem witness_TimeSettingsTakeEffect :
    (∃ (s : State) (c : Cmd), Served specTimeSetSource c s ∧ c.p 0 = 0 ∧ c.p 1 < 2 ∧ c.p 2 < 2 ∧ c.p 3 < 16 ∧
    (let w : Word := BitVec.ofNat 32 (c.p 0 + c.p 3 * 16 + c.p 1 * 256 + c.p 2 * 512)
    (s.dev.setReg R.DAT_CTL w).follower = false ∧ s.dev.reg R.DAT_CTL ≠ w)) ∧
    (∃ (s : State) (c : Cmd), Served specTimeSetSource c s ∧ (c.p 0 = 1 ∨ c.p 0 = 3) ∧ c.p 1 < 2 ∧ c.p 2 < 2 ∧ c.p 3 < 16 ∧ sourceUsable (c.p 0) s.dev.mul s.dev.div = true ∧
    (let w : Word := BitVec.ofNat 32 (c.p 0 + c.p 3 * 16 + c.p 1 * 256 + c.p 2 * 512)
    s.dev.follower = false ∧ s.dev.reg R.DAT_CTL ≠ w)) ∧
    (∃ (s : State) (c : Cmd), Served specTimeSetRatio c s ∧ c.p 0 ≠ 0 ∧ 1 ≤ c.pn 2 2 ∧ c.pn 2 2 ≤ 4095 ∧ 2000 ≤ c.pn 4 4 ∧ c.pn 4 4 ≤ 2000000 ∧ (s.dev.src = 0 ∨ sourceUsable s.dev.src (c.p 0) (c.pn 2 2) = true) ∧ s.dev.anyRun = false) ∧
    (∃ (s : State) (c : Cmd), Served specTimeSetRatio c s ∧ c.p 0 ≠ 0 ∧ 1 ≤ c.pn 2 2 ∧ c.pn 2 2 ≤ 4095 ∧ c.pn 4 4 = 0 ∧ (s.dev.src = 0 ∨ sourceUsable s.dev.src (c.p 0) (c.pn 2 2) = true) ∧ s.dev.anyRun = false) ∧
    (∃ (s : State) (c : Cmd), Served specTimeSetPhase c s) ∧
    (∃ (s : State) (c : Cmd), Served specTimeAcceptPeriod c s) ∧
    (∃ (s : State) (c : Cmd), Served specTimeSetLabel c s) :=
  ⟨⟨around (onDev.setReg R.DAT_CTL 0x100), (cmd 0x0501), by unfold Served; decide +kernel, by decide +kernel, by decide +kernel, by decide +kernel, by decide +kernel, by decide +kernel, by decide +kernel⟩,
    ⟨on, (cmd 0x0501 0x0F010103), by unfold Served; decide +kernel, by decide +kernel, by decide +kernel, by decide +kernel, by decide +kernel, by decide +kernel, by decide +kernel, by decide +kernel⟩,
    ⟨on, (cmd 0x0502 (1 + 4095 * 2 ^ 16 + 2000000 * 2 ^ 32)), by unfold Served; decide +kernel⟩,
    ⟨on, (cmd 0x0502 (255 + 1 * 2 ^ 16)), by unfold Served; decide +kernel⟩,
    ⟨on, (cmd 0x0503 255), by unfold Served; decide +kernel⟩,
    ⟨on, (cmd 0x0504), by unfold Served; decide +kernel⟩,
    ⟨on, (cmd 0x0505 7), by unfold Served; decide +kernel⟩⟩

theorem witness_ParcelCommandsTakeEffect :
    (∃ (s : State) (c : Cmd), Served specParcelCreate c s ∧ s.dev.createAbsent c (rectOf (c.p 0)) = none ∧ s.dev.createRange c (rectOf (c.p 0)) = none ∧ (s.dev.pcl c.parcel).st = .free ∧ c.pn 12 4 = 0) ∧
    (∃ (s : State) (c : Cmd), Served specParcelDestroy c s ∧ (s.dev.pcl c.parcel).st = .created) ∧
    (∃ (s : State) (c : Cmd), Served specParcelSetPools c s ∧ s.dev.poolsBad c.parcel (s.dev.parcelCols c.parcel) (c.pn 6 2) (c.p 8) = none ∧ (s.dev.pcl c.parcel).st = .created) ∧
    (∃ (s : State) (c : Cmd), Served specParcelClear c s) ∧
    (∃ (s : State) (c : Cmd), Served specParcelStatus c s ∧ c.dataLen = 0) :=
  ⟨⟨on, (cmd 0x0201 (0x2C + 15 * 2 ^ 8 + 8 * 2 ^ 16 + 0xFFFF * 2 ^ 32 + 256 * 2 ^ 48 + 128 * 2 ^ 64) 7), by unfold Served; decide +kernel⟩,
    ⟨onPcl .created, (cmd 0x0202), by unfold Served; decide +kernel⟩,
    ⟨onPcl .created, (cmd 0x0203 (256 * 2 ^ 48 + 128 * 2 ^ 64)), by unfold Served; decide +kernel⟩,
    ⟨onPcl .run, (cmd 0x0204), by unfold Served; decide +kernel⟩,
    ⟨onPcl .run, (cmd 0x0200), by unfold Served; decide +kernel⟩⟩

theorem witness_ImageCommandsTakeEffect :
    (∃ (s : State) (c : Cmd) (b : List Byte) (m : Image), Served (specOnParcel 0x0301 true) c s ∧ inputOf c = some b ∧ s.dev.pass1 c.parcel b (loadLen c b) c.env.peers = .ok m ∧ ((s.dev.pcl c.parcel).st = .created ∨ (s.dev.pcl c.parcel).st = .loaded) ∧ (c.env.second = none ∨ c.env.second = some (.bytes b)) ∧ m.domains.any ((((s.dev.resetParcel c.parcel).toCreated c.parcel).forEach m.domains (fun i d => d.needDom i)).notReady c.env) = false) ∧
    (∃ (s : State) (c : Cmd), Served (specOnParcel 0x0302) c s ∧ (s.dev.pcl c.parcel).st = .loaded) ∧
    (∃ (s : State) (c : Cmd), Served (specOnParcel 0x0302) c s ∧ (s.dev.pcl c.parcel).st = .created) ∧
    (∃ (s : State) (c : Cmd), Served (specOnParcel 0x0300 true) c s ∧ c.dataLen = 0) ∧
    (∃ (s : State) (c : Cmd) (b : List Byte), Served (specOnParcel 0x0300 true) c s ∧ c.dataLen ≠ 0 ∧ inputOf c = some b ∧ 16 ≤ b.length) :=
  ⟨⟨around (small onDev .created), loadTiny, tinyImage, imageOf tinyImage (rectOf (ihRect tinyImage)).gals, by unfold Served; decide +kernel, rfl, by show (small onDev .created).pass1 loadTiny.parcel tinyImage (loadLen loadTiny tinyImage) [] = _; rw [loadTiny_operands.1, loadTiny_operands.2]; exact tinyImage_passes, by decide +kernel, .inl (by decide +kernel), by decide +kernel⟩,
    ⟨onPcl .loaded, (cmd 0x0302), by unfold Served; decide +kernel⟩,
    ⟨onPcl .created, (cmd 0x0302), by unfold Served; decide +kernel⟩,
    ⟨on, (cmd 0x0300), by unfold Served; decide +kernel⟩,
    ⟨on, (cmd 0x0300 0 0 16 (zeros 16)), List.replicate 16 0, by unfold Served; decide +kernel, by decide +kernel, rfl, by decide +kernel⟩⟩

theorem witness_RunCommandsTakeEffect :
    (∃ (s : State) (c : Cmd), Served specRunStatus c s) ∧
    (∃ (s : State) (c : Cmd), Served specRunStart c s ∧ (s.dev.pcl c.parcel).st = .loaded ∧ s.dev.sleepingHubs c.parcel = []) ∧
    (∃ (s : State) (c : Cmd), Served specRunStop c s ∧ (s.dev.pcl c.parcel).st = .run) ∧
    (∃ (s : State) (c : Cmd) (g : Fin 8), Served specFaultRecover c s ∧ ((s.dev.pcl c.parcel).st = .created ∨ (s.dev.pcl c.parcel).st = .loaded) ∧ g ∈ s.dev.parcelGals c.parcel ∧ (s.dev.gal g).st = .faulted) :=
  ⟨⟨on, (cmd 0x0600), by unfold Served; decide +kernel⟩,
    ⟨onPcl .loaded, (cmd 0x0601), by unfold Served; decide +kernel⟩,
    ⟨around live, (cmd 0x0602), by unfold Served; decide +kernel⟩,
    ⟨around ((held onDev .loaded).updGal 7 (fun x => { x with st := .faulted })), (cmd 0x0D05), 7, by unfold Served; decide +kernel⟩⟩

theorem witness_IntakeCommandsTakeEffect :
    (∃ (s : State) (c : Cmd), Served (specIntake 0x0401) c s ∧ c.p 0 < 16 ∧ bit s.dev.fus.ports (c.p 0) = true ∧ (s.dev.parcelOfPort (fin16 (c.p 0)).val).isSome = true) ∧
    (∃ (s : State) (c : Cmd), Served (specIntake 0x0402) c s ∧ c.p 0 < 16 ∧ bit s.dev.fus.ports (c.p 0) = true ∧ (s.dev.parcelOfPort (fin16 (c.p 0)).val).isSome = true) ∧
    (∃ (s : State) (c : Cmd), Served specIntakeSetShed c s ∧ c.p 0 < 16 ∧ bit s.dev.fus.ports (c.p 0) = true ∧ 1 ≤ c.pn 4 4 ∧ c.pn 4 4 ≤ 1048575 ∧ c.pn 8 4 < c.pn 4 4 ∧ c.p 12 ≤ 15 ∧ c.p 14 ≤ 15 ∧ s.dev.overRail (fin16 (c.p 0)) (c.pn 4 4) = false ∧ (s.dev.parcelOfPort (fin16 (c.p 0)).val).isSome = true) ∧
    (∃ (s : State) (c : Cmd), Served (specIntake 0x0405) c s ∧ c.p 0 < 16 ∧ bit s.dev.fus.ports (c.p 0) = true) ∧
    (∃ (s : State) (c : Cmd) (b : List Byte), Served specIntakeInject c s ∧ c.p 0 < 16 ∧ bit s.dev.fus.ports (c.p 0) = true ∧ s.dev.boot.lab = true ∧ 4 ≤ c.bufLen ∧ c.bufLen ≤ 4096 ∧ c.bufLen % 4 = 0 ∧ inputOf c = some b ∧ ((s.dev.port (fin16 (c.p 0))).st = .start ∨ (s.dev.port (fin16 (c.p 0))).st = .run)) :=
  ⟨⟨onPcl .run, (cmd 0x0401 15), by unfold Served; decide +kernel⟩,
    ⟨onPcl .run, (cmd 0x0402 15), by unfold Served; decide +kernel⟩,
    ⟨onPcl .run, (cmd 0x0403 (15 + 2 ^ 32 + 15 * 2 ^ 96 + 255 * 2 ^ 104 + 15 * 2 ^ 112)), by unfold Served; decide +kernel⟩,
    ⟨on, (cmd 0x0405 15), by unfold Served; decide +kernel⟩,
    ⟨around { live with boot := { live.boot with lab := true } }, (cmd 0x0404 15 0 4096 (zeros 4096)), List.replicate 4096 0, by unfold Served; decide +kernel, by decide +kernel, by decide +kernel, by decide +kernel, by decide +kernel, by decide +kernel, by decide +kernel, rfl, by decide +kernel⟩⟩

theorem witness_EgressAndLearningCommandsTakeEffect :
    (∃ (s : State) (c : Cmd), Served specEgressSetMeter c s ∧ s.dev.actsFor c.issuer = pf ∧ c.p 0 < 16 ∧ bit s.dev.fus.ports (c.p 0) = true ∧ 1 ≤ c.pn 2 2 ∧ c.pn 2 2 ≤ s.dev.fus.ceilU ∧ 1 ≤ c.p 4 ∧ c.p 4 ≤ 64 ∧ (s.dev.pcl c.parcel).st ≠ .free) ∧
    (∃ (s : State) (c : Cmd), Served specSetHeartbeat c s ∧ 1 ≤ c.p 0 ∧ c.p 0 ≤ 60) ∧
    (∃ (s : State) (c : Cmd), Served specSetBacklog c s ∧ 1 ≤ c.pn 0 2 ∧ c.pn 0 2 ≤ 10000) ∧
    (∃ (s : State) (c : Cmd), Served (specOnParcel 0x0704) c s) ∧
    (∃ (s : State) (c : Cmd), Served (specOnParcel 0x0801) c s ∧ (s.dev.pcl c.parcel).st ≠ .free) ∧
    (∃ (s : State) (c : Cmd), Served (specOnParcel 0x0802) c s ∧ (s.dev.pcl c.parcel).st ≠ .free) ∧
    (∃ (s : State) (c : Cmd), Served specLearnSetEpoch c s ∧ 1 ≤ c.pn 0 2 ∧ (s.dev.pcl c.parcel).st ≠ .free) ∧
    (∃ (s : State) (c : Cmd), Served specLearnReward c s ∧ (s.dev.pcl c.parcel).st ≠ .free) ∧
    (∃ (s : State) (c : Cmd), Served (specOnParcel 0x0808) c s) :=
  ⟨⟨onPcl .created, (cmd 0x0701 (15 + 256 * 2 ^ 16 + 64 * 2 ^ 32)), by unfold Served; decide +kernel⟩,
    ⟨on, (cmd 0x0702 60), by unfold Served; decide +kernel⟩,
    ⟨on, (cmd 0x0703 10000), by unfold Served; decide +kernel⟩,
    ⟨onPcl .run, (cmd 0x0704), by unfold Served; decide +kernel⟩,
    ⟨onPcl .run, (cmd 0x0801), by unfold Served; decide +kernel⟩,
    ⟨onPcl .run, (cmd 0x0802), by unfold Served; decide +kernel⟩,
    ⟨onPcl .run, (cmd 0x0803 65535), by unfold Served; decide +kernel⟩,
    ⟨onPcl .run, (cmd 0x0804 128), by unfold Served; decide +kernel⟩,
    ⟨onPcl .run, (cmd 0x0808), by unfold Served; decide +kernel⟩⟩

theorem witness_SiteMemoryCommandsTakeEffect :
    (∃ (s : State) (c : Cmd), Served specSiteSave c s ∧ s.dev.siteLicensed (c.p 0 == 1) = true ∧ c.p 0 ≤ 1 ∧ ((s.dev.pcl c.parcel).st = .loaded ∨ (s.dev.pcl c.parcel).st = .run) ∧ (c.p 0 = 1 → s.dev.storageUp = true) ∧ s.dev.siteJob c.parcel = none) ∧
    (∃ (s : State) (c : Cmd), s.dev.sweeping c.parcel = true) ∧
    (∃ (s : State) (c : Cmd), c.p 0 = 0 ∧ s.dev.sweeping c.parcel = false ∧ (s.dev.siteImage c.parcel).2.siteUsed + (s.dev.siteImage c.parcel).1.length ≤ siteArea) ∧
    (∃ (d : Dev) (q : Fin 8) (j : SiteJob), d.siteJob q = some j ∧ j.step = .ledger ∧ j.ends ≤ d.clk ∧ j.ledgerOk = true) ∧
    (∃ (s : State) (c : Cmd) (x : SiteImage), Served specSiteRestore c s ∧ s.dev.siteLicensed false = true ∧ c.p 0 = 0 ∧ c.env.ledgerOk = true ∧ s.dev.led.sites[c.parcel] = some x ∧ (s.dev.pcl c.parcel).st = .loaded ∧ s.dev.siteJob c.parcel = none ∧ c.env.second = none) ∧
    (∃ (s : State) (c : Cmd), Served specSiteRestore c s ∧ s.dev.siteLicensed true = true ∧ c.p 0 = 1 ∧ (s.dev.pcl c.parcel).st = .loaded ∧ s.dev.siteJob c.parcel = none ∧ s.dev.storageUp = true) ∧
    (∃ (s : State) (c : Cmd), Served (specOnParcel 0x0807) c s ∧ c.env.ledgerOk = true) :=
  ⟨⟨around (held (onDev.setReg R.LIC_EFFECT 8) .loaded), (cmd 0x0805), by unfold Served; decide +kernel⟩,
    ⟨around (((held (onDev.setReg R.LIC_EFFECT 8) .loaded)).updLrn 7 (fun l => { l with running := some { reward := 1, cands := [], epochs := 1, mark := 0 } })), (cmd 0x0805), by decide +kernel⟩,
    ⟨around (small (onDev.setReg R.LIC_EFFECT 8) .loaded), (cmd 0x0805), by decide +kernel⟩,
    ⟨{ onDev with host := { onDev.host with started := [{ issuer := .fn pf, idx := 0, desc := (cmd 0x0805).desc, wait := .site { parcel := 0, step := .ledger, dest := 0 } }] } }, 0, { parcel := 0, step := .ledger, dest := 0 }, by decide +kernel⟩,
    ⟨around ((held (onDev.setReg R.LIC_EFFECT 8) .loaded).updLed (fun l => { l with sites := l.sites.set 0 (some ⟨[]⟩) })), (cmd 0x0806), ⟨[]⟩, by unfold Served; decide +kernel⟩,
    ⟨around ((held (live.setReg R.LIC_EFFECT 24) .loaded).setRf (R.TRV_CTL 5) F.TRV_CTL_ROLE 2), (cmd 0x0806 1), by unfold Served; decide +kernel⟩,
    ⟨on, (cmd 0x0807), by unfold Served; decide +kernel⟩⟩

theorem witness_ExpertCommandsTakeEffect :
    (∃ (s : State) (c : Cmd), Served specSetBearing c s ∧ 1 ≤ c.pn 0 2 ∧ c.pn 0 2 ≤ 1000 ∧ 1 ≤ c.p 2 ∧ c.p 2 ≤ 15 ∧ c.p 3 ≤ 15 ∧ c.p 4 ≤ 15 ∧ c.p 5 ≤ 1 ∧ (s.dev.pcl c.parcel).st ≠ .free) ∧
    (∃ (s : State) (c : Cmd) (g l : Fin 8), Served specSetBias c s ∧ s.dev.firstGal c.parcel = some g ∧ c.p 0 < s.dev.rf (R.CMP_POOL g) F.CMP_POOL_SIZE ∧ -64 ≤ sext 8 (c.p 1) ∧ sext 8 (c.p 1) ≤ 64 ∧ (s.dev.pcl c.parcel).st ≠ .free ∧ s.dev.leaderHere g = some l) ∧
    (∃ (s : State) (c : Cmd) (g : Fin 8), Served specSetBias c s ∧ s.dev.firstGal c.parcel = some g ∧ c.p 0 < s.dev.rf (R.CMP_POOL g) F.CMP_POOL_SIZE ∧ -64 ≤ sext 8 (c.p 1) ∧ sext 8 (c.p 1) ≤ 64 ∧ (s.dev.pcl c.parcel).st ≠ .free ∧ s.dev.leaderHere g = none) ∧
    (∃ (s : State) (c : Cmd), Served (specOnParcel 0x0903) c s) ∧
    (∃ (s : State) (c : Cmd) (g : Fin 8), Served (specOnParcel 0x0900 true) c s ∧ c.dataLen = 0 ∧ s.dev.firstGal c.parcel = some g) :=
  ⟨⟨onPcl .run, (cmd 0x0901 (1000 + 15 * 2 ^ 16 + 15 * 2 ^ 24 + 15 * 2 ^ 32 + 2 ^ 40)), by unfold Served; decide +kernel⟩,
    ⟨around ((held onDev .run).setRf (R.CMP_POOL 0) F.CMP_POOL_SIZE 256), (cmd 0x0902 (255 + 0xC0 * 2 ^ 8)), 0, 0, by unfold Served; decide +kernel⟩,
    ⟨around (((held onDev .run).setRf (R.CMP_POOL 0) F.CMP_POOL_SIZE 256).setRf (R.CMP_BEAR_LEADER 0) F.CMP_BEAR_LEADER_LCHIP 1), (cmd 0x0902 (255 + 0x40 * 2 ^ 8)), 0, by unfold Served; decide +kernel⟩,
    ⟨onPcl .run, (cmd 0x0903), by unfold Served; decide +kernel⟩,
    ⟨onPcl .run, (cmd 0x0900), 0, by unfold Served; decide +kernel⟩⟩

theorem witness_FaultAndMemoryCommandsTakeEffect :
    (∃ (s : State) (c : Cmd), Served { op := 0x0D00, rights := .any } c s) ∧
    (∃ (s : State) (c : Cmd) (b : List Byte), Served specLogRead c s ∧ inputOf c = some b ∧ s.dev.actsFor c.issuer = pf) ∧
    (∃ (s : State) (c : Cmd), Served (specCounters 0x0D02 true) c s ∧ c.dataLen = 0 ∧ c.p 1 < counterInstances (c.p 0) ∧ (c.p 0 = 5 ∨ c.p 0 = 6 ∨ c.p 0 = 8 ∨ c.p 0 = 11 ∨ c.p 0 = 12 ∨ c.p 0 = 13)) ∧
    (∃ (s : State) (c : Cmd), Served (specCounters 0x0D03 false) c s ∧ c.p 1 < counterInstances (c.p 0) ∧ (c.p 0 = 5 ∨ c.p 0 = 6 ∨ c.p 0 = 8 ∨ c.p 0 = 11 ∨ c.p 0 = 12 ∨ c.p 0 = 13)) ∧
    (∃ (s : State) (c : Cmd), Served specSetBudget c s ∧ s.dev.budgetAbsent (c.p 0) (c.pn 8 2) = none ∧ budgetBad c = none) ∧
    (∃ (s : State) (c : Cmd), Served specMemStatus c s ∧ c.dataLen = 0) ∧
    (∃ (s : State) (c : Cmd), Served specMemSetBg c s ∧ c.p 0 = 0 ∧ c.p 1 ≤ 1) ∧
    (∃ (s : State) (c : Cmd), Served specMemTest c s ∧ marchTarget (c.p 0) = some .scratchpad ∧ c.p 1 ≤ 1 ∧ formAllowed .scratchpad (c.p 1 == 1) = true ∧ s.dev.march = none ∧ s.dev.marchBlocked .scratchpad (c.p 1 == 1) = none) ∧
    (∃ (s : State) (c : Cmd), Served specMemFill c s ∧ c.p 0 < 4 ∧ bit s.dev.fus.stks (c.p 0) = true ∧ c.p 1 < 16 ∧ s.dev.rgnValid (c.p 0) (c.p 1) = true ∧ c.pn 4 4 ≤ s.dev.rgnHi (c.p 0) (c.p 1) ∧ (s.dev.needDom (31 + c.p 0)).stackReady (fin4 (c.p 0)) = true) :=
  ⟨⟨on, (cmd 0x0D00), by unfold Served; decide +kernel⟩,
    ⟨on, (cmd 0x0D01 0 0 64 (zeros 64)), List.replicate 64 0, by unfold Served; decide +kernel, rfl, by decide +kernel⟩,
    ⟨on, (cmd 0x0D02 (8 + 0 * 2 ^ 8)), by unfold Served; decide +kernel⟩,
    ⟨on, (cmd 0x0D03 13), by unfold Served; decide +kernel⟩,
    ⟨on, (cmd 0x0D04 (2 + 4095 * 2 ^ 40 + 15 * 2 ^ 56 + 63 * 2 ^ 64)), by unfold Served; decide +kernel⟩,
    ⟨on, (cmd 0x0D20), by unfold Served; decide +kernel⟩,
    ⟨on, (cmd 0x0D23 (2 ^ 8)), by unfold Served; decide +kernel⟩,
    ⟨on, (cmd 0x0D21 (2 ^ 8)), by unfold Served; decide +kernel⟩,
    ⟨around (live.setReg (R.STK_RGN_BASE 3 15) 0x80000000), (cmd 0x0D22 (3 + 15 * 2 ^ 8 + 16384 * 2 ^ 32)), by unfold Served; decide +kernel⟩⟩

theorem witness_DiagnosticCommandsTakeEffect :
    (∃ (s : State) (c : Cmd) (b : List Byte), Served (specDiag 0x0E00 (params 4 13)) c s ∧ s.dev.boot.lab = true ∧ c.p 0 < 8 ∧ s.dev.parcelAt (c.p 0) = some c.parcel ∧ c.pn 8 4 < 131072 ∧ c.pn 4 4 ≤ c.pn 8 4 ∧ inputOf c = some b ∧ 8 ≤ c.bufLen ∧ c.pn 12 2 ≠ 0) ∧
    (∃ (s : State) (c : Cmd) (b : List Byte), Served (specDiag 0x0E01 (params 1 1 ++ params 4 11)) c s ∧ s.dev.boot.lab = true ∧ c.p 0 < 8 ∧ s.dev.parcelAt (c.p 0) = some c.parcel ∧ diagBad c = none ∧ inputOf c = some b) ∧
    (∃ (s : State) (c : Cmd) (b : List Byte), Served (specDiag 0x0E02 (params 1 1 ++ params 4 11)) c s ∧ s.dev.boot.lab = true ∧ c.p 0 < 8 ∧ s.dev.parcelAt (c.p 0) = some c.parcel ∧ diagBad c = none ∧ c.pn 8 4 * diagWidth (c.p 1) ≤ c.bufLen ∧ (s.dev.pcl c.parcel).st = .loaded ∧ inputOf c = some b ∧
    (let g := fin8 (c.p 0)
    
    let ws := wordList b (diagWidth (c.p 1)) (c.pn 8 4)
    Mach.diagCheck { dev := s.dev.needDom (4 + g.val), mem := s.mem } g (c.p 1) (c.pn 4 4) ws = none)) :=
  ⟨⟨around { (held onDev .loaded) with boot := { (held onDev .loaded).boot with lab := true } }, (cmd 0x0E00 (7 + 131071 * 2 ^ 32 + 131071 * 2 ^ 64 + 2 ^ 96) 0 8 (zeros 8)), List.replicate 8 0, by unfold Served; decide +kernel, by decide +kernel, by decide +kernel, by decide +kernel, by decide +kernel, by decide +kernel, rfl, by decide +kernel, by decide +kernel⟩,
    ⟨around { (held onDev .loaded) with boot := { (held onDev .loaded).boot with lab := true } }, (cmd 0x0E01 (7 + 131071 * 2 ^ 32 + 2 ^ 64) 0 8 (zeros 8)), List.replicate 8 0, by unfold Served; decide +kernel, by decide +kernel, by decide +kernel, by decide +kernel, by decide +kernel, rfl⟩,
    ⟨around { (held onDev .loaded) with boot := { (held onDev .loaded).boot with lab := true } }, (cmd 0x0E02 (7 + 131071 * 2 ^ 32 + 2 ^ 64) 0 8 (zeros 8)), List.replicate 8 0, by unfold Served; decide +kernel, by decide +kernel, by decide +kernel, by decide +kernel, by decide +kernel, by decide +kernel, by decide +kernel, rfl, by decide +kernel⟩⟩

theorem witness_TimeEventsTakeEffect :
    (∃ (s : State) (dt : Nat), s.dev.flt.held = []) ∧
    (∃ (s : State) (dt m : Nat) (i : DatumIn), s.dev.flt.held = [] ∧ s.dev.follower = false ∧ s.dev.isSource i = true ∧ s.dev.dat.st = .acquire ∧ s.dev.dat.lastMeasured = some m ∧ periodOk s.dev.src (s.dev.clk + dt - m) s.dev.mul s.dev.div = true) ∧
    (∃ (s : State) (dt m : Nat) (i : DatumIn), s.dev.flt.held = [] ∧ s.dev.follower = false ∧ s.dev.isSource i = true ∧ (s.dev.dat.st = .slew ∨ s.dev.dat.st = .locked) ∧ s.dev.dat.lastMeasured = some m ∧ periodOk s.dev.src (s.dev.clk + dt - m) s.dev.mul s.dev.div = true ∧ differs (s.dev.clk + dt - m) s.dev.dat.period (s.dev.rf R.DAT_TOL F.DAT_TOL_BAND) = false ∧ s.dev.dat.edges + 1 < s.dev.mul ∧ s.dev.clk + dt ≤ s.dev.lossAt) ∧
    (∃ (s : State), (s.dev.dat.st = .slew ∨ s.dev.dat.st = .locked) ∧ s.dev.follower = false ∧ s.dev.lossAt ≤ s.dev.clk) ∧
    (∃ (s : State) (dt : Nat), s.dev.flt.held = []) ∧
    (∃ (s : State), s.dev.dat.tick % 128 = 0) ∧
    (∃ (s : State) (g : Fin 8), (s.dev.gal g).sweepBusy = true ∧ (s.dev.gal g).sweepOverdue = false) ∧
    (∃ (s : State) (g : Fin 8), s.dev.domOn (4 + g.val) = true ∧ s.dev.tick % s.dev.rf (R.LRN_EPOCH g) F.LRN_EPOCH_EPOCH = 0 ∧ s.dev.learning g = true ∧ s.dev.rf (R.LRN_STAT g) F.LRN_STAT_DEFER = 0 ∧ (s.dev.gal g).lrn.running = none ∧ (s.dev.gal g).lrn.waiting = [] ∧ (s.dev.gal g).lrn.nextEpoch = none) ∧
    (∃ (s : State) (g : Fin 8) (w : Sweep), s.dev.domOn (4 + g.val) = true ∧ (s.dev.gal g).st ≠ .faulted ∧ (s.dev.gal g).lrn.running = some w) :=
  ⟨⟨on, 1, by decide +kernel⟩,
    ⟨around { (live.setReg R.DAT_CTL 3) with dat := { live.dat with st := .acquire, lastMeasured := some 0 } }, 100000, 0, .pin false, by decide +kernel⟩,
    ⟨around { ((live.setReg R.DAT_CTL 3).setReg R.DAT_RATIO 0x102) with dat := { live.dat with st := .locked, lastMeasured := some 0, lastValid := some 0, period := 100000 } }, 100000, 0, .pin false, by decide +kernel⟩,
    ⟨around { live with dat := { live.dat with st := .slew } }, by decide +kernel⟩,
    ⟨around live, 100000, by decide +kernel⟩,
    ⟨around live, by decide +kernel⟩,
    ⟨around (live.updGal 7 (fun x => { x with sweepBusy := true })), 7, by decide +kernel⟩,
    ⟨around wired, 0, by decide +kernel⟩,
    ⟨around ((onDev.updDom 11 (fun x => { x with st := .on })).updLrn 7 (fun l => { l with running := some { reward := 1, cands := [], epochs := 1, mark := 0 } })), 7, { reward := 1, cands := [], epochs := 1, mark := 0 }, by decide +kernel⟩⟩

theorem witness_GalleryEventsTakeEffect :
    (∃ (s : State) (g : Fin 8) (parcel : BitVec 3) (ev : BitVec 64), s.dev.halted (stNode g.val) = false ∧ parcel.toNat = s.dev.flitParcel g.val ∧ parcel ≠ 7#3 ∧ s.dev.domSt (4 + g.val) = .on ∧ (s.dev.gal g).resume = none ∧ (s.dev.gal g).st = .run ∧ (s.dev.gal g).sink = false ∧ fget evAdly ev = 0 ∧ fget evHops ev ≠ 31 ∧ (s.dev.gal g).mesh.length < 2048) ∧
    (∃ (s : State) (g : Fin 8) (q : Nat) (ev : BitVec 64) (tl : List (BitVec 64)), s.dev.engineOn g = true ∧ (s.dev.gal g).nextSub = some q ∧ (s.dev.gal g).sub q = ev :: tl) ∧
    (∃ (s : State) (g : Fin 8) (x : EmEntry) (tl : List EmEntry) (e : Dev), (s.dev.gal g).fans = true ∧ s.dev.domOn (4 + g.val) = true ∧ (s.dev.gal g).emitToggle = false ∧ (s.dev.gal g).emitQ = x :: tl ∧ (s.dev.updGal g (fun y => { y with emitQ := tl, emitToggle := true })).sendAll g ((s.dev.descsFor g x.neuron).map (fun w => descEvent w s.dev.dat.tick x)) = some e) ∧
    (∃ (s : State) (g : Fin 8) (m : Fin 16) (n : Nat) (w : BitVec 64) (mo : Model) (e : Dev), (s.dev.gal g).fans = true ∧ s.dev.domOn (4 + g.val) = true ∧ (s.dev.gal g).shareUsed m < s.dev.rf (R.GAL_EMIT_SHARE g m) F.GAL_EMIT_SHARE_SHARE ∧ (s.dev.gal g).nextPending m (s.dev.gal g).scanPos[m] = some n ∧ (s.dev.updGal g (fun x => { x with scanPos := x.scanPos.set m n })).openState g n = (some (w, mo), e) ∧ fget nsP w = 1) ∧
    (∃ (s : State) (g : Fin 8), (s.dev.gal g).st = .run ∧ s.dev.domOn (4 + g.val) = true) ∧
    (∃ (s : State) (g : Fin 8) (slot : Nat) (c : ColdFetch) (b : List Byte) (m : Mach), (s.dev.gal g).cold[slot]? = some c ∧ (s.dev.gal g).fans = true ∧ c.asked = true ∧ Mach.galleryRead { dev := s.dev, mem := s.mem } g c.addr 1 [] = some (b, [], m) ∧ c.left ≤ 16 ∧ ((m.dev.fanUnit g c (unitWords b)).gal g).st ≠ .faulted) ∧
    (∃ (s : State) (g : Fin 8) (entry : Nat), s.dev.domOn (4 + g.val) = true ∧ (s.dev.gal g).resume = some entry) :=
  ⟨⟨around live, 7, 0#3, mkEvent 0 7 (2 ^ 18 - 1) 0 0 0 0 0, by decide +kernel⟩,
    ⟨around (live.updGal 7 (fun x => { x with loop := [0] })), 7, 3, 0, [], by decide +kernel⟩,
    ⟨around (live.updGal 7 (fun x => { x with emitQ := [{ neuron := 0, model := 0, payload := 0 }] })), 7, { neuron := 0, model := 0, payload := 0 }, [], _, by decide +kernel, by decide +kernel, by decide +kernel, by decide +kernel, (Option.some_get (by decide +kernel)).symm⟩,
    ⟨around ((live.updGal 7 (fun x => { x with state := [(131071, 0xC000000000000000)] })).setRf (R.GAL_EMIT_SHARE 7 0) F.GAL_EMIT_SHARE_SHARE 1), 7, 0, 131071, 0xC000000000000000, modelOf 0 0 0 0, _, by decide +kernel, by decide +kernel, by decide +kernel, by decide +kernel, Prod.ext (by decide +kernel) rfl, by decide +kernel⟩,
    ⟨around live, 7, by decide +kernel⟩,
    ⟨around ((regioned live).updGal 0 (fun x => { x with cold := [{ ev := 0, addr := 0, left := 16 }] })), 0, 0, { ev := 0, addr := 0, left := 16 }, _, _, by decide +kernel, by decide +kernel, by decide +kernel, good_parts (by decide +kernel) (by decide +kernel), by decide +kernel, by decide +kernel⟩,
    ⟨around (live.updGal 7 (fun x => { x with resume := some 0 })), 7, 0, by decide +kernel⟩⟩

theorem witness_GalleriesChangeState :
    (∃ (s : State) (g : Fin 8), s.dev.drained g = true ∧ s.dev.parcelAt g.val = none) ∧
    (∃ (s : State) (g q : Fin 8), s.dev.drained g = true ∧ (s.dev.galLoaded g).parcelAt g.val = some q ∧ (s.dev.galLoaded g).parcelSettles q = true ∧ s.dev.host.started.all (fun x => !Wait.isRecover q x.wait) = true) ∧
    (∃ (s : State) (g : Fin 8), (s.dev.gal g).cfgBusy = true) ∧
    (∃ (s : State) (g : Fin 8) (cause : Fin 16), 1 ≤ cause.val ∧ cause.val ≤ 5) :=
  ⟨⟨around (onDev.updGal 7 (fun x => { x with st := .stopping })), 7, by decide +kernel⟩,
    ⟨around ((small onDev .stopping).updGal 0 (fun x => { x with st := .stopping })), 0, 0, by decide +kernel⟩,
    ⟨around (onDev.updGal 7 (fun x => { x with cfgBusy := true })), 7, by decide +kernel⟩,
    ⟨on, 7, 5, by decide +kernel⟩⟩

theorem witness_CompassAndPlaneEventsTakeEffect :
    (∃ (s : State) (g : Fin 8) (t : Tally) (q : List Tally), s.dev.cmpOn g = true ∧ (s.dev.gal g).cmp.rows = [] ∧ (s.dev.gal g).cmp.queue = t :: q) ∧
    (∃ (s : State) (g : Fin 8) (b : Fin 16) (x : Batch), s.dev.cmpOn g = true ∧ (s.dev.gal g).cmp.batches[b.val]? = some x) ∧
    (∃ (s : State) (g : Fin 8) (a : JobAnswer) (code : Fin 8) (x : Staging), s.dev.badParcel g a.parcel.toNat = false ∧ s.dev.asleep g = false ∧ (s.dev.gal g).cmp.staging.find? (fun y => y.tag == a.tag.toNat && y.ref == a.ref) = some x ∧ x.answered = false ∧ code = 0) ∧
    (∃ (s : State) (g : Fin 8) (a : JobAnswer) (code : Fin 8) (x : Staging), s.dev.badParcel g a.parcel.toNat = false ∧ s.dev.asleep g = false ∧ (s.dev.gal g).cmp.staging.find? (fun y => y.tag == a.tag.toNat && y.ref == a.ref) = some x ∧ x.answered = false ∧ code ≠ 0) ∧
    (∃ (s : State) (g : Fin 8) (slot : Fin 32), (s.dev.gal g).cmp.staging.any (fun x => x.tag == slot.val && !x.answered) = true) ∧
    (∃ (s : State) (g : Fin 8) (ev : BitVec 64), s.dev.cmpOn g = true ∧ fget evAdly ev = 0 ∧ some (fget evSlice ev) = s.dev.galSlice g ∧ refPart ev = 0 ∧ (s.dev.gal g).cmp.trains.find? (fun t => (t.chip, t.gallery) == (fget evAxon ev / 2 ^ 12, fget evAxon ev / 2 ^ 9 % 8)) = none ∧ (s.dev.gal g).cmp.trains.length < 32) ∧
    (∃ (s : State) (g : Fin 8) (ctx : Fin 32) (t : TrainCtx), (s.dev.gal g).cmp.trains[ctx.val]? = some t) ∧
    (∃ (s : State) (g : Fin 8), s.dev.cmpOn g = true ∧ s.dev.tick % s.dev.rf (R.CMP_BEAR_CFG g) F.CMP_BEAR_CFG_BT = 0 ∧ (s.dev.gal g).cmp.nextCfg = none ∧ s.dev.rf (R.CMP_CTL g) F.CMP_CTL_BEAR_EN = 0 ∧ s.dev.rf (R.CMP_POOL g) F.CMP_POOL_SIZE = 0) ∧
    (∃ (s : State) (g : Fin 8), s.dev.cmpOn g = true ∧ s.dev.tick % s.dev.rf (R.CMP_BEAR_CFG g) F.CMP_BEAR_CFG_BT = 0 ∧ (s.dev.gal g).cmp.nextCfg = none ∧ (let d := s.dev.bump (R.CMP_BEAR_CNT g) F.CMP_BEAR_CNT_PERIODS
    d.rf (R.CMP_CTL g) F.CMP_CTL_BEAR_EN = 1 ∧ d.rf (R.CMP_BEAR_LEADER g) F.CMP_BEAR_LEADER_SELF = 1)) ∧
    (∃ (s : State) (g : Fin 8) (ev : BitVec 64), s.dev.cmpOn g = true ∧ fget evAdly ev = 0 ∧ some (fget evSlice ev) = s.dev.galSlice g ∧ refPart ev = 62 ∧ s.dev.rf (R.CMP_BEAR_LEADER g) F.CMP_BEAR_LEADER_SELF = 1 ∧ (s.dev.gal g).cmp.collecting = true) ∧
    (∃ (s : State) (g : Fin 8), s.dev.cmpOn g = true ∧ (s.dev.gal g).cmp.collecting = true ∧ (s.dev.gal g).cmp.reports = []) ∧
    (∃ (s : State) (g : Fin 8) (ev : BitVec 64), s.dev.cmpOn g = true ∧ fget evAdly ev = 0 ∧ some (fget evSlice ev) = s.dev.galSlice g ∧ refPart ev = 63 ∧ fget evAxon ev / 1024 < s.dev.rf (R.CMP_POOL g) F.CMP_POOL_SIZE) ∧
    (∃ (s : State) (p : Fin 8) (q : JobFlit), s.dev.badParcel p q.parcel.toNat = false ∧ s.dev.asleep p = false ∧ (s.dev.gal p).sink = false ∧ s.dev.jobForm p.val q.word = true ∧ s.dev.portAnswer p (jfJob q.word) (s.dev.galSlice (fin8 (if jfChip q.word = s.dev.selfChip then jfNode q.word else p.val))) = 0) ∧
    (∃ (s : State) (p : Fin 8) (q : JobFlit), s.dev.badParcel p q.parcel.toNat = false ∧ s.dev.asleep p = false ∧ (s.dev.gal p).sink = false ∧ s.dev.jobForm p.val q.word = true ∧ s.dev.portAnswer p (jfJob q.word) (s.dev.galSlice (fin8 (if jfChip q.word = s.dev.selfChip then jfNode q.word else p.val))) = 1) ∧
    (∃ (s : State) (g : Fin 8) (port : Fin 4) (m : MeshMsg) (plane tag row chunk : Nat) (ref : BitVec 64) (sl : Staging), (s.dev.gal g).readHead g.val = some (port, m) ∧ m.body = .read plane tag ref row chunk ∧ s.dev.asleep g = false ∧ (s.dev.popNode g port 2).badParcel g m.parcel = false ∧ ((s.dev.popNode g port 2).gal g).cmp.staging.find? (fun (x : Staging) => x.tag == tag && x.ref == ref) = some sl) ∧
    (∃ (s : State) (p j : Fin 8) (x : Job), (s.dev.plane p).queue[j.val]? = some x ∧ x.reads ≠ 0) ∧
    (∃ (s : State) (p : Fin 8) (w : BitVec 128) (b : Fin 2), s.dev.domOn (12 + p.val) = true ∧ (s.dev.gal p).st ≠ .faulted ∧ s.dev.nextLoad p = some (w, b) ∧ bits w 39 38 = 0) ∧
    (∃ (s : State) (p : Fin 8) (j : Job) (tl : List Job) (b : Fin 2), (s.dev.plane p).running = none ∧ s.dev.domOn (12 + p.val) = true ∧ s.dev.denseGated = false ∧ s.dev.clks.holdJobs = false ∧ s.dev.clks.fullOnly = false ∧ s.dev.pwr.stopJobs = false ∧ s.dev.pwr.secondSlot = false ∧ s.dev.pwr.hotSlot = false ∧ (s.dev.plane p).outEvents = [] ∧ (s.dev.gal p).st ≠ .faulted ∧ (s.dev.plane p).queue = j :: tl ∧ j.reads = 0 ∧ (s.dev.plane p).bufOf (jdTag (s.dev.jdesc p j.desc)) = some b) ∧
    (∃ (s : State) (p : Fin 8) (j : Job) (b : Fin 2), s.dev.domOn (12 + p.val) = true ∧ s.dev.denseGated = false ∧ (s.dev.gal p).st ≠ .faulted ∧ (s.dev.plane p).outEvents = [] ∧ (s.dev.plane p).running = some j ∧ (s.dev.plane p).bufOf (jdTag (s.dev.jdesc p j.desc)) = some b) :=
  ⟨⟨around (wired.updCmp 0 (fun c => { c with queue := [{ key := 0, sig := 0, feats := List.replicate 32 0 }] })), 0, { key := 0, sig := 0, feats := List.replicate 32 0 }, [], by decide +kernel⟩,
    ⟨around (wired.updCmp 0 (fun c => { c with batches := List.replicate 16 { expert := 0, rows := [] } })), 0, 15, { expert := 0, rows := [] }, by decide +kernel⟩,
    ⟨around (wired.updCmp 0 (fun c => { c with staging := [oneSlot] })), 0, { tag := 0, ref := 0, parcel := 0 }, 0, oneSlot, by decide +kernel⟩,
    ⟨around (wired.updCmp 0 (fun c => { c with staging := [oneSlot] })), 0, { tag := 0, ref := 0, parcel := 0 }, 7, oneSlot, by decide +kernel⟩,
    ⟨around (wired.updCmp 0 (fun c => { c with staging := [oneSlot] })), 0, 0, by decide +kernel⟩,
    ⟨around wired, 0, refEvent 0x3F0FF 0, by decide +kernel⟩,
    ⟨around (wired.updCmp 0 (fun c => { c with trains := [{ chip := 0, gallery := 0, next := 1, rem := 0, cands := [], feats := [] }] })), 0, 0, { chip := 0, gallery := 0, next := 1, rem := 0, cands := [], feats := [] }, by decide +kernel⟩,
    ⟨around wired, 0, by decide +kernel⟩,
    ⟨around ((wired.setRf (R.CMP_CTL 0) F.CMP_CTL_BEAR_EN 1).setRf (R.CMP_BEAR_LEADER 0) F.CMP_BEAR_LEADER_SELF 1), 0, by decide +kernel, by decide +kernel, by decide +kernel, by decide +kernel, by decide +kernel⟩,
    ⟨around ((wired.setRf (R.CMP_BEAR_LEADER 0) F.CMP_BEAR_LEADER_SELF 1).updCmp 0 (fun c => { c with collecting := true })), 0, refEvent 0x3FFFF 62, by decide +kernel⟩,
    ⟨around (wired.updCmp 0 (fun c => { c with collecting := true })), 0, by decide +kernel⟩,
    ⟨around (wired.setRf (R.CMP_POOL 0) F.CMP_POOL_SIZE 256), 0, refEvent 0x3FFFF 63, by decide +kernel⟩,
    ⟨around wired, 0, submission, by decide +kernel⟩,
    ⟨around (wired.updPlane 0 (fun x => { x with queue := List.replicate 8 oneJob })), 0, submission, by decide +kernel⟩,
    ⟨around ((wired.updGal 0 (fun x => { x with node := x.node.set (bufAt 3 2) [operandAsk] })).updCmp 0 (fun c => { c with staging := [oneSlot] })), 0, 3, operandAsk, 0, 0, 0, 1, 0, oneSlot, by decide +kernel⟩,
    ⟨around (wired.updPlane 0 (fun x => { x with queue := [{ oneJob with reads := 1 }] })), 0, 0, { oneJob with reads := 1 }, by decide +kernel⟩,
    ⟨around (wired.updPlane 0 (fun x => { x with queue := [oneJob] })), 0, 0xF11, 1, by decide +kernel⟩,
    ⟨around (wired.updPlane 0 (fun x => { x with queue := [oneJob], bufs := #v[{ tag := some (jdTag 0xF11) }, {}] })), 0, oneJob, [], 0, by decide +kernel⟩,
    ⟨around (wired.updPlane 0 (fun x => { x with running := some oneJob, bufs := #v[{ tag := some (jdTag 0xF11) }, {}] })), 0, oneJob, 0, by decide +kernel⟩⟩

theorem witness_IntakeEventsTakeEffect :
    (∃ (s : State) (p : Fin 16) (k : CsiLong), s.dev.portTakes p 0 = true ∧ k.header = .good ∧ k.vc.toNat = s.dev.rf (R.INT_CSI_CFG p) F.INT_CSI_CFG_VC ∧ s.dev.convMode p = 0 ∧ k.dt.toNat = (rawType (s.dev.rf (R.INT_CONV p) F.INT_CONV_RAWBITS)).1) ∧
    (∃ (s : State) (p : Fin 16) (k : CsiLong), s.dev.portTakes p 0 = true ∧ k.header = .good ∧ k.vc.toNat = s.dev.rf (R.INT_CSI_CFG p) F.INT_CSI_CFG_VC ∧ s.dev.convMode p = 1 ∧ 0x30 ≤ k.dt.toNat ∧ k.dt.toNat ≤ 0x37 ∧ (s.dev.rf (R.INT_CSI_CFG p) F.INT_CSI_CFG_DT_MASK).testBit (k.dt.toNat - 0x30) = true) ∧
    (∃ (s : State) (p : Fin 16) (k : CsiShort), s.dev.portTakes p 0 = true ∧ k.header = .good ∧ k.vc = 1#2 ∧ k.dt = 0#6 ∧ s.dev.rf (R.INT_CSI_CFG p) F.INT_CSI_CFG_VC = 1) ∧
    (∃ (s : State) (p : Fin 16) (k : SeamPkt), s.dev.portTakes p 1 = true ∧
      (let e := if (s.dev.port p).lastByte + 20 ≤ s.dev.clk then s.dev.seamReturn p 8 else s.dev
       (e.port p).bufs < 8)) ∧
    (∃ (s : State) (p : Fin 16) (k : SeamPkt), s.dev.portTakes p 1 = true ∧ s.dev.clk < (s.dev.port p).lastByte + 20 ∧ 8 ≤ (s.dev.port p).bufs) ∧
    (∃ (s : State) (p : Fin 16), s.dev.rf (R.INT_FLK_CFG p) F.INT_FLK_CFG_EN = 1 ∧ s.dev.hasPhase = true) ∧
    (∃ (s : State) (p : Fin 16), s.dev.boot.lab = false ∧ ((s.dev.port p).st = .start ∨ (s.dev.port p).st = .run) ∧
    (let times := s.dev.clk :: (s.dev.port p).restarts.filter (fun t => s.dev.clk < t + s.dev.rf (R.INT_RETRY_CFG p) F.INT_RETRY_CFG_WINDOW * 100000000)
    
    let d := (s.dev.updPort p (fun x => { x with restarts := times })).bump (R.INT_RESTART_CNT p) F.INT_RESTART_CNT_RESTART
    times.length < d.rf (R.INT_RETRY_CFG p) F.INT_RETRY_CFG_MAX_RESTART)) ∧
    (∃ (s : State) (p : Fin 16), (s.dev.port p).st = .restart ∧ s.dev.rf (R.INT_CTL p) F.INT_CTL_EN = 1 ∧ s.dev.portRuns p = true) ∧
    (∃ (s : State) (p : Fin 16), (s.dev.port p).stoppedAt.isSome = true) ∧
    (∃ (s : State) (g : Fin 8) (p : Fin 16) (tl : List Nat), (s.dev.gal g).eraseQ = p.val :: tl) :=
  ⟨⟨around ((live.setRf (R.INT_CSI_CFG 15) F.INT_CSI_CFG_VC 3).setRf (R.INT_CONV 15) F.INT_CONV_MODE 0), 15, { header := .good, vc := 3, dt := 0x2A, payload := [], crcOk := true }, by decide +kernel⟩,
    ⟨around (((live.setRf (R.INT_CSI_CFG 15) F.INT_CSI_CFG_VC 3).setRf (R.INT_CONV 15) F.INT_CONV_MODE 1).setRf (R.INT_CSI_CFG 15) F.INT_CSI_CFG_DT_MASK 0x80), 15, { header := .good, vc := 3, dt := 0x37, payload := [], crcOk := true }, by decide +kernel⟩,
    ⟨around (live.setRf (R.INT_CSI_CFG 15) F.INT_CSI_CFG_VC 1), 15, { header := .good, vc := 1, dt := 0 }, by decide +kernel⟩,
    ⟨around (live.setRf (R.INT_CTL 15) F.INT_CTL_KIND 1), 15, { bytes := [], leave := 1 }, by decide +kernel⟩,
    ⟨around ((live.setRf (R.INT_CTL 15) F.INT_CTL_KIND 1).updPort 15 (fun x => { x with bufs := 8, lastByte := live.clk })), 15, { bytes := [], leave := 0 }, by decide +kernel⟩,
    ⟨around { (live.setRf (R.INT_FLK_CFG 15) F.INT_FLK_CFG_EN 1) with dat := { live.dat with st := .locked, recent := [100000], period := 100000 } }, 15, by decide +kernel⟩,
    ⟨around live, 15, by decide +kernel, by decide +kernel, by decide +kernel⟩,
    ⟨around ((live.setRf (R.INT_CTL 15) F.INT_CTL_EN 1).updPort 15 (fun x => { x with st := .restart })), 15, by decide +kernel⟩,
    ⟨around (live.updPort 15 (fun x => { x with stoppedAt := some 0 })), 15, by decide +kernel⟩,
    ⟨around (live.updGal 7 (fun x => { x with eraseQ := [15] })), 7, 15, [], by decide +kernel⟩⟩

theorem witness_EgressEventsTakeEffect :
    (∃ (s : State) (q : Fin 8) (src : BitVec 8) (v : BitVec 64), s.dev.egressOn = true ∧ (s.dev.pcl q).st ≠ .free ∧ SMap.get 0 (s.dev.pcl q).schema src.toNat = 0) ∧
    (∃ s : State, s.dev.egressOn = true) ∧
    (∃ (s : State) (q : Fin 8), s.dev.egressOn = true ∧ (s.dev.pcl q).learn.ends ≠ []) ∧
    (∃ (s : State) (q : Fin 8) (r : BackRec) (tl : List BackRec) (f : Func), (s.dev.pcl q).backlog = r :: tl ∧ s.dev.funcOf q = some f ∧ s.dev.resRoom f = true) ∧
    (∃ (s : State) (q : Fin 8) (r : BackRec) (tl : List BackRec), (s.dev.pcl q).backlog = r :: tl ∧ s.dev.aged r = true) ∧
    (∃ (s : State) (q : Fin 8) (src : BitVec 8) (v : BitVec 64), s.dev.egressOn = true ∧ (s.dev.pcl q).st ≠ .free ∧
    SMap.get 0 (s.dev.pcl q).schema src.toNat % 16 ≠ 0 ∧ payloadBad (SMap.get 0 (s.dev.pcl q).schema src.toNat % 16) v = false ∧
    SMap.get 0 (s.dev.pcl q).schema src.toNat / 16 < 16 ∧ (s.dev.meter (SMap.get 0 (s.dev.pcl q).schema src.toNat / 16)).isSome = true) :=
  ⟨⟨around (live.setRf R.EGR_CTL F.EGR_CTL_EN 1), 0, 255, 0, by decide +kernel⟩,
    ⟨around (live.setRf R.EGR_CTL F.EGR_CTL_EN 1), by decide +kernel⟩,
    ⟨around ((live.setRf R.EGR_CTL F.EGR_CTL_EN 1).updPcl 0 (fun x => { x with learn := { ends := [(1, 1)] } })), 0, by decide +kernel⟩,
    ⟨around ((live.updPcl 0 (fun x => { x with backlog := [{ entry := 0, at_ := 0 }] })).updRing 0 (fun r => { r with st := .active })), 0, { entry := 0, at_ := 0 }, [], 0, by decide +kernel⟩,
    ⟨around { live.updPcl 0 (fun x => { x with backlog := [{ entry := 0, at_ := 0 }] }) with clk := 10 ^ 12 }, 0, { entry := 0, at_ := 0 }, [], by decide +kernel⟩,
    ⟨around (((live.setRf R.EGR_CTL F.EGR_CTL_EN 1).updPcl 0 (fun x => { x with schema := [(255, 0xF4)] })).setReg (R.EGR_MTR_LVL 15) 0x800080), 0, 255, 0x3FFF07FF, by decide +kernel⟩⟩

theorem witness_GroupsFormAndChange :
    (∃ (s : State) (c : Cmd), Served specGroupStatus c s ∧ c.dataLen = 0) ∧
    (∃ (s : State) (c : Cmd), Served specSetCoord c s ∧ coordBad c = none ∧ s.dev.grpSt = 0 ∧ c.env.ledgerOk = true) ∧
    (∃ (s : State) (c : Cmd) (e : Dev), Served specGroupForm c s ∧ s.dev.anyRun = false ∧ s.dev.grpSt = 0 ∧ s.dev.selfChip = 0 ∧ s.dev.grp.coordSet = true ∧ s.dev.others = [] ∧ s.dev.formCheck = .ok e) ∧
    (∃ (s : State) (c : Cmd), Served specGroupForm c s ∧ s.dev.anyRun = false ∧ s.dev.grpSt = 0 ∧ s.dev.selfChip = 0 ∧ s.dev.grp.coordSet = true ∧ s.dev.others ≠ []) ∧
    (∃ (s : State) (k : Fin 6) (m : LinkMsg) (r : PeerReply), (s.dev.takeMsg k m).grpSt = 1 ∧ (s.dev.takeMsg k m).grp.forming = 1 ∧ (let e := (s.dev.takeMsg k m).updGrp (fun g => { g with replies := g.replies.filter (fun x => x.chip != r.chip || x.devId != r.devId) ++ [r] }); e.others.all (fun c => e.grp.replies.any (fun x => x.chip == c)) = true ∧ lowestCheck (e.failedChecks e.grp.replies) = none)) ∧
    (∃ (s : State) (k : Fin 6) (m : LinkMsg), (s.dev.takeMsg k m).grpSt = 1 ∧ (s.dev.takeMsg k m).grp.forming = 2 ∧ (let e := (s.dev.takeMsg k m).updGrp (fun g => { g with accepts := if g.accepts.contains m.src.toNat then g.accepts else g.accepts ++ [m.src.toNat] }); e.others.all (fun x => e.grp.accepts.contains x) = true)) ∧
    (∃ (s : State) (c : Cmd), Served specGroupDissolve c s ∧ s.dev.anyRun = false ∧ c.env.peers.any (·.running) = false ∧ s.dev.grpSt = 2) ∧
    (∃ (s : State) (c : Cmd), Served specGroupResync c s ∧ s.dev.anyRun = false ∧ s.dev.rf R.TRV_SYNC_STAT F.TRV_SYNC_STAT_RESYNC_REQ = 1) ∧
    (∃ (s : State) (c : Cmd), Served specLinkStatus c s ∧ c.dataLen = 0 ∧ c.p 0 < 6 ∧ bit s.dev.fus.links (c.p 0) = true) ∧
    (∃ (s : State) (c : Cmd) (k : Fin 6), Served specLinkEnable c s ∧ c.p 0 = k.val ∧ bit s.dev.fus.links k = true ∧ (c.p 1 = 2 → s.dev.licensed 4 = true) ∧ s.dev.zIdle k (s.dev.rf R.TRV_GRP_CTL F.TRV_GRP_CTL_MODE == 1) (c.p 1) = false ∧ roleFits k (c.p 1) = true ∧ (c.p 1 = s.dev.linkRole k ∨ (((s.dev.link k).st = .off ∨ (s.dev.link k).st = .retired) ∧ s.dev.rf R.TRV_GRP_CTL F.TRV_GRP_CTL_COMMIT = 0)) ∧ c.env.ledgerOk = true ∧ c.env.notReady = [] ∧ (s.dev.needDom (24 + k.val)).domUp (24 + k.val) = true) ∧
    (∃ (s : State) (c : Cmd) (k : Fin 6), Served specLinkRetrain c s ∧ c.p 0 = k.val ∧ bit s.dev.fus.links k = true ∧ (s.dev.link k).st = .active) ∧
    (∃ (s : State) (c : Cmd) (k : Fin 6), Served specLinkClear c s ∧ c.p 0 = k.val ∧ bit s.dev.fus.links k = true) ∧
    (∃ s : State, s.dev.grpSt = 1 ∧ s.dev.grp.deadline ≤ s.dev.clk ∧ s.dev.grp.forming = 0) ∧
    (∃ s : State, s.dev.grpSt = 1 ∧ s.dev.grp.deadline ≤ s.dev.clk ∧ s.dev.grp.forming ≠ 0) ∧
    (∃ (s : State) (k : Fin 6) (m : LinkMsg), (s.dev.takeMsg k m).grpSt = 1) ∧
    (∃ (s : State) (x : RejoinIn), s.dev.led.coord.isSome = true ∧ s.dev.grpSt = 0 ∧ s.dev.checkOf (s.dev.ownReply s.dev.selfChip :: x.peers) (s.dev.ownReply s.dev.selfChip) = none ∧ s.dev.selfChip ≠ 0) ∧
    (∃ (s : State) (x : RejoinIn), s.dev.led.coord.isSome = true ∧ s.dev.grpSt = 0 ∧ s.dev.checkOf (s.dev.ownReply s.dev.selfChip :: x.peers) (s.dev.ownReply s.dev.selfChip) = none ∧ s.dev.selfChip = 0) ∧
    (∃ (s : State) (k : Fin 6) (m : LinkMsg), 
    let d := s.dev.takeMsg k m
    
    let left := leAt m.data 0 4 - d.rf (R.TRV_DELAY k) F.TRV_DELAY_D
    (d.grpSt = 1 ∨ d.grpSt = 3) ∧ 400 ≤ left) ∧
    (∃ (s : State), s.dev.grpSt = 2 ∧ s.dev.grp.asking = false) ∧
    (∃ (s : State), s.dev.grpSt = 3 ∧ s.dev.dat.st = .follow) ∧
    (∃ (s : State), s.dev.mirState ≠ 3) ∧
    (∃ (s : State) (n : Fin 64) (k : Fin 6), s.dev.routeLink (s.dev.rf R.TRV_GRP_STAT F.TRV_GRP_STAT_LEADER) = some k) ∧
    (∃ (s : State) (k : Fin 6) (m : LinkMsg), (s.dev.takeMsg k m).grpSt = 0 ∧ s.pending = []) :=
  ⟨⟨on, (cmd 0x0A00), by unfold Served; decide +kernel⟩,
    ⟨on, (cmd 0x0A01 (3 + 3 * 2 ^ 8 + 3 * 2 ^ 16 + 4 * 2 ^ 24 + 4 * 2 ^ 32 + 4 * 2 ^ 40 + 2 ^ 48)), by unfold Served; decide +kernel⟩,
    ⟨around alone, (cmd 0x0A02), _, by unfold Served; decide +kernel, by decide +kernel, by decide +kernel, by decide +kernel, by decide +kernel, by decide +kernel, ok_parts (by decide +kernel)⟩,
    ⟨around paired, (cmd 0x0A02), by unfold Served; decide +kernel⟩,
    ⟨around ((grouped paired 1).updGrp (fun g => { g with forming := 1 })), 0, msg 0x13 0, peer, by decide +kernel⟩,
    ⟨around ((grouped paired 1).updGrp (fun g => { g with forming := 2 })), 0, msg 0x13 0, by decide +kernel⟩,
    ⟨around (grouped paired 2), (cmd 0x0A03), by unfold Served; decide +kernel⟩,
    ⟨around (onDev.setRf R.TRV_SYNC_STAT F.TRV_SYNC_STAT_RESYNC_REQ 1), (cmd 0x0A04), by unfold Served; decide +kernel⟩,
    ⟨on, (cmd 0x0A05 5), by unfold Served; decide +kernel⟩,
    ⟨around (onDev.setReg R.LIC_EFFECT 16), (cmd 0x0A06 (5 + 2 * 2 ^ 8)), 5, by unfold Served; decide +kernel⟩,
    ⟨around live, (cmd 0x0A07 5), 5, by unfold Served; decide +kernel⟩,
    ⟨on, (cmd 0x0A08 5), 5, by unfold Served; decide +kernel⟩,
    ⟨around (grouped onDev 1), by decide +kernel⟩,
    ⟨around ((grouped onDev 1).updGrp (fun g => { g with forming := 2 })), by decide +kernel⟩,
    ⟨around (grouped onDev 1), 0, msg 0x14 0, by decide +kernel⟩,
    ⟨around follower, { peers := [leaderOfTwo] }, by decide +kernel⟩,
    ⟨around (paired.updLed (fun l => { l with coord := some { x := 0, y := 0, z := 0, sx := 2, sy := 1, sz := 1, edge := false } })), { peers := [peer] }, by decide +kernel⟩,
    ⟨around (grouped paired 3), 0, msg 0x20 0 (leBytes 4 400), by decide +kernel, by decide +kernel⟩,
    ⟨around (grouped paired 2), by decide +kernel⟩,
    ⟨around { grouped paired 3 with dat := { paired.dat with st := .follow } }, by decide +kernel⟩,
    ⟨around paired, by decide +kernel⟩,
    ⟨around ((paired.setRf R.TRV_GRP_STAT F.TRV_GRP_STAT_LEADER 1).setReg (R.TRV_RT 1) 2), 63, 0, by decide +kernel⟩,
    ⟨around paired, 0, msg 0x13 0, by decide +kernel⟩⟩

theorem witness_LinkEventsTakeEffect :
    (∃ (s : State) (k : Fin 6) (r : LinkStep), s.dev.mirState ≠ 3 ∧ s.dev.domOn (24 + k.val) = true ∧ (s.dev.link k).st = .detect ∧ r.outcome = .ok) ∧
    (∃ (s : State) (k : Fin 6) (r : LinkStep), s.dev.mirState ≠ 3 ∧ s.dev.domOn (24 + k.val) = true ∧ (s.dev.link k).st = .keyx ∧ r.outcome = .ok) ∧
    (∃ (s : State) (k : Fin 6) (f : BitVec 160), (s.dev.link k).carries = true ∧ flitGood f = true ∧ flitVc f < 6 ∧ flitSeq f = (s.dev.link k).rxSeq) ∧
    (∃ (s : State) (k : Fin 6) (f : BitVec 160), (s.dev.link k).carries = true ∧ flitGood f = true ∧ flitVc f < 6 ∧ flitSeq f ≠ (s.dev.link k).rxSeq) ∧
    (∃ (s : State) (k : Fin 6) (f : BitVec 160), (s.dev.link k).carries = true ∧ flitGood f = false) ∧
    (∃ (s : State) (k : Fin 6) (p : BitVec 128), (s.dev.link k).carries = true ∧ bit p 8 = false) ∧
    (∃ (s : State) (k : Fin 6), (s.dev.link k).carries = true) ∧
    (∃ (s : State) (k : Fin 6) (b : RxBlock) (tl : List RxBlock), (s.dev.link k).rxClosed = b :: tl ∧ b.tag = tagOf (s.dev.link k).keys.rxKey (s.dev.link k).keys.rxNonce b.num b.flits) ∧
    (∃ (s : State) (k : Fin 6) (t : BitVec 8), (s.dev.link k).asked.any (fun q => q.tag == t.toNat) = true) :=
  ⟨⟨around (live.updLink 5 (fun l => { l with st := .detect })), 5, { outcome := .ok, ident := { devId := 7, port := 1, part := 1, lab := false, role := 0, coord := none }, badLanes := 0 }, by decide +kernel⟩,
    ⟨around (live.updLink 5 (fun l => { l with st := .keyx })), 5, { outcome := .ok, ident := { devId := 7, port := 1, part := 1, lab := false, role := 0, coord := none }, badLanes := 0 }, by decide +kernel⟩,
    ⟨around (live.updLink 5 (fun l => { l with rxSeq := 255 })), 5, mkFlit 5 false false 255 0, by decide +kernel⟩,
    ⟨around (live.updLink 5 (fun l => { l with rxSeq := 255 })), 5, mkFlit 0 true true 0 5, by decide +kernel⟩,
    ⟨around live, 5, 0, by decide +kernel⟩,
    ⟨around live, 5, 0xFF, by decide +kernel⟩,
    ⟨around live, 5, by decide +kernel⟩,
    ⟨around (live.updLink 5 (fun l => { l with rxClosed := [goodBlock] })), 5, goodBlock, [], by simp [around, Dev.link, Dev.updLink], congrArg₂ (fun a b => tagOf a b 0 [mkFlit 0 true true 0 5]) (by decide +kernel) (by decide +kernel)⟩,
    ⟨around (live.updLink 5 (fun l => { l with asked := [{ tag := 255, typ := 3 }] })), 5, 255, by decide +kernel⟩⟩

theorem witness_LinkMessagesTakeEffect :
    (∃ (s : State) (k : Fin 6) (m : LinkMsg), 
    let x : Mach := { dev := s.dev.takeMsg k m, mem := s.mem }
    linkAccess m.arg.toNat none [] x = none) ∧
    (∃ (s : State) (k : Fin 6) (m : LinkMsg) (errs : List MemErr) (y : Mach) (q : Requester) (b : List Byte), s.dev.linkHeld m.arg.toNat false = false ∧ linkAccess m.arg.toNat none errs { dev := s.dev.takeMsg k m, mem := s.mem } = some y ∧ answered { dev := s.dev.takeMsg k m, mem := s.mem } y = some (.memData q b false)) ∧
    (∃ (s : State) (k : Fin 6) (m : LinkMsg) (y : Mach) (q : Requester), s.dev.linkHeld m.arg.toNat true = false ∧ linkAccess m.arg.toNat (some (slice 0 16 m.data)) [] { dev := s.dev.takeMsg k m, mem := s.mem } = some y ∧ answered { dev := s.dev.takeMsg k m, mem := s.mem } y = some (.memDone q)) ∧
    (∃ (s : State) (k : Fin 6) (m : LinkMsg), 
    let x : Mach := { dev := s.dev.takeMsg k m, mem := s.mem }
    linkAccess m.arg.toNat (some (slice 0 16 m.data)) [] x = none) ∧
    (∃ (s : State) (k : Fin 6) (m : LinkMsg) (h : 48 ≤ m.arg.toNat ∧ m.arg.toNat < 64) (w : BitVec 32) (e : Dev), (s.dev.takeMsg k m).lowerClaim m = false ∧ (s.dev.takeMsg k m).lockAcquire ⟨m.arg.toNat, h.2⟩ (0x40 + m.src.toNat) = (.acquired, w, e)) ∧
    (∃ (s : State) (k : Fin 6) (m : LinkMsg) (h : 48 ≤ m.arg.toNat ∧ m.arg.toNat < 64), ((s.dev.takeMsg k m).locks[m.arg.toNat]'h.2).owner = 0x40 + m.src.toNat) ∧
    (∃ (s : State) (k : Fin 6) (m : LinkMsg), s.dev.linkRole k = 1 ∧ s.dev.rf R.TRV_GRP_CTL F.TRV_GRP_CTL_MODE = 1 ∧ s.dev.attachBusy < 8) ∧
    (∃ (s : State) (k : Fin 6) (m : LinkMsg), s.dev.linkRole k = 2) ∧
    (∃ (s : State) (k : Fin 6) (m : LinkMsg), leAt m.data 2 1 ≠ 0x07) ∧
    (∃ (s : State) (k : Fin 6) (m : LinkMsg) (q : QReq), ((s.dev.takeMsg k m).link k).asked.find? (fun q => q.tag == m.tag.toNat) = some q ∧ q.typ ≠ 0x03) ∧
    (∃ (s : State) (k : Fin 6) (m : LinkMsg) (q : QReq), ((s.dev.takeMsg k m).link k).asked.find? (fun q => q.tag == m.tag.toNat) = some q ∧ q.typ ≠ 0x03 ∧ k = storageLink ∧ (q.typ = 0x06 ∨ q.typ = 0x07)) ∧
    (∃ (s : State) (k : Fin 6) (s1 : Bool) (ev : BitVec 64) (es : List (BitVec 64)) (l : List (List (BitVec 64))), 
    let c : Fin 2 := if s1 then 1 else 0
    (s.dev.link k).rxS[c] = (ev :: es) :: l ∧ (s.dev.routeOf ev).1 = 0) ∧
    (∃ (s : State) (k o : Fin 6) (ev : BitVec 64) (es : List (BitVec 64)) (l : List (List (BitVec 64))), k ≠ o ∧ (s.dev.link k).rxS[0] = (ev :: es) :: l ∧ s.dev.routeOf ev = (o.val + 2, true) ∧ malformed ev = false ∧ fget evHops ev ≠ 31 ∧ s.dev.carries o = true ∧ (s.dev.link o).takes (s.dev.chanOn o (some (k, false))) = true) :=
  ⟨⟨on, 5, msg 1 R.DAT_CTL, by decide +kernel⟩,
    ⟨around mastered5, 0, msg 1 (scpWindow + 0x7FFFF0), [], _, .master 5 pf, List.replicate 16 0, by decide +kernel, rfl, by decide +kernel⟩,
    ⟨around mastered5, 0, msg 2 (scpWindow + 0x7FFFF0) (List.replicate 16 9), _, .master 5 pf, by decide +kernel, rfl, by decide +kernel⟩,
    ⟨on, 5, msg 2 R.DAT_CTL, by decide +kernel⟩,
    ⟨around (onDev.setRf (R.LCK_GRANT 63) F.LCK_GRANT_REMOTE 1), 5, msg 3 63, (by decide +kernel), _, _, by decide +kernel, triple_parts (by decide +kernel)⟩,
    ⟨around { onDev with locks := onDev.locks.set 48 { owner := 0x41 } }, 5, msg 4 48, (by decide +kernel), by decide +kernel⟩,
    ⟨around ((onDev.setRf (R.TRV_CTL 4) F.TRV_CTL_ROLE 1).setRf R.TRV_GRP_CTL F.TRV_GRP_CTL_MODE 1), 4, msg 5 0 (List.replicate 64 0), by decide +kernel⟩,
    ⟨around (onDev.setRf (R.TRV_CTL 5) F.TRV_CTL_ROLE 2), 5, msg 6 0, by decide +kernel⟩,
    ⟨on, 0, msg 0x15 0 [0, 0, 8, 0], by decide +kernel⟩,
    ⟨around (live.updLink 0 (fun l => { l with asked := [{ tag := 5, typ := 1 }] })), 0, msg 0x40 0, { tag := 5, typ := 1 }, by decide +kernel⟩,
    ⟨around (live.updLink 5 (fun l => { l with asked := [{ tag := 5, typ := 7 }] })), 5, msg 0x82 0, { tag := 5, typ := 7 }, by decide +kernel⟩,
    ⟨around (live.updLink 5 (fun l => { l with rxS := l.rxS.set 1 [[0]] })), 5, true, 0, [], [], by decide +kernel, by decide +kernel⟩,
    ⟨around ((live.updLink 0 (fun l => { l with rxS := l.rxS.set 0 [[0]] })).setReg (R.TRV_RT 0) 0x10003), 0, 1, 0, [], [], by decide +kernel⟩⟩

theorem witness_PowerCommandsTakeEffect :
    (∃ (s : State) (c : Cmd), Served specPowerStatus c s ∧ c.dataLen = 0) ∧
    (∃ (s : State) (c : Cmd), Served specPowerSetDomain c s ∧ c.p 0 < 36 ∧ c.p 0 ≠ 1 ∧ c.p 1 = 0 ∧ s.dev.domBusy (c.p 0) = false ∧ (s.dev.domSt (c.p 0) = .retained ∨ s.dev.domSt (c.p 0) = .off)) ∧
    (∃ (s : State) (c : Cmd) (e : Dev), Served specPowerSetDomain c s ∧ c.p 0 < 36 ∧ c.p 0 ≠ 1 ∧ (c.p 1 = 1 ∨ c.p 1 = 2) ∧ s.dev.domBusy (c.p 0) = false ∧ s.dev.domSt (c.p 0) = .on ∧ onOnly (c.p 0) = false ∧ s.dev.pwr.req = none ∧ s.dev.startRequest (c.p 0) (c.p 1) .command = (e, none)) ∧
    (∃ (s : State) (c : Cmd), Served specPowerSetPolicy c s ∧ 31 ≤ c.p 0 ∧ c.p 0 ≤ 34 ∧ s.dev.fus.domFitted (c.p 0) = true ∧ c.p 1 ≤ 1) ∧
    (∃ (s : State) (c : Cmd), Served specClockSet c s ∧ c.p 0 = 0 ∧ c.pn 4 4 ≤ s.dev.fus.denseMhz ∧ 400 ≤ c.pn 4 4 ∧ c.pn 4 4 % 25 = 0 ∧ (s.dev.fus.railMode = false ∨ c.pn 4 4 ≤ 1400 ∨ 880 ≤ s.dev.rf R.TEL_VCORE F.TEL_VCORE_MV) ∧ s.dev.clks.change = none) ∧
    (∃ (s : State) (c : Cmd), Served specClockSet c s ∧ c.p 0 = 1 ∧ c.pn 4 4 ≤ 25 ∧ (9 ≤ c.pn 4 4 → c.pn 4 4 ≤ 24 → bit s.dev.fus.ports (c.pn 4 4 - 9) = true) ∧ 1 ≤ c.pn 8 4 ∧ c.pn 8 4 ≤ 65536 ∧ s.dev.clkoutKhz (c.pn 4 4) ≤ 100000 * c.pn 8 4) ∧
    (∃ (s : State) (c : Cmd), Served specClockSet c s ∧ 2 ≤ c.p 0 ∧ c.p 0 ≤ 8 ∧ (∀ p ∈ spreadPlls (c.p 0), c.pn 12 2 ≤ (spreadLimit p).1 ∧ (spreadLimit p).2.1 ≤ c.pn 14 2 ∧ c.pn 14 2 ≤ (spreadLimit p).2.2)) ∧
    (∃ (s : State) (c : Cmd), Served specTelemetryRead c s ∧ c.dataLen = 0 ∧ c.pn 0 8 < 2 ^ 36) ∧
    (∃ (s : State) (c : Cmd), Served specPowerSetCap c s ∧ c.pn 0 2 ≤ s.dev.fus.capW) :=
  ⟨⟨on, (cmd 0x0B00), by unfold Served; decide +kernel⟩,
    ⟨on, (cmd 0x0B01 34), by unfold Served; decide +kernel⟩,
    ⟨around (onDev.updDom 34 (fun x => { x with st := .on })), (cmd 0x0B01 (34 + 2 ^ 8)), _, by unfold Served; decide +kernel, by decide +kernel, by decide +kernel, by decide +kernel, by decide +kernel, by decide +kernel, by decide +kernel, by decide +kernel, pair_parts (by decide +kernel)⟩,
    ⟨on, (cmd 0x0B02 (34 + 2 ^ 8)), by unfold Served; decide +kernel⟩,
    ⟨on, (cmd 0x0B03 (1400 * 2 ^ 32)), by unfold Served; decide +kernel⟩,
    ⟨on, (cmd 0x0B03 (1 + 25 * 2 ^ 32 + 65536 * 2 ^ 64)), by unfold Served; decide +kernel⟩,
    ⟨on, (cmd 0x0B03 (8 + 25 * 2 ^ 96 + 30 * 2 ^ 112)), by unfold Served; decide +kernel⟩,
    ⟨on, (cmd 0x0B04 (2 ^ 36 - 1)), by unfold Served; decide +kernel⟩,
    ⟨on, (cmd 0x0B05 620), by unfold Served; decide +kernel⟩⟩

theorem witness_PowerEventsTakeEffect :
    (∃ (s : State) (i : Fin 36) (q : ReqSet) (tl : List Nat), s.dev.pwr.req = some q ∧ q.refusal = none ∧ q.todo = i.val :: tl ∧ s.dev.domSt i = .entering ∧ s.dev.domStage i = 1 ∧ s.dev.quiet i = true) ∧
    (∃ (s : State) (i : Fin 36) (q : ReqSet) (tl : List Nat), s.dev.pwr.req = some q ∧ q.refusal = none ∧ q.todo = i.val :: tl ∧ s.dev.domSt i = .entering ∧ s.dev.domStage i = 5) ∧
    (∃ (s : State) (i : Fin 36), s.dev.inEntry i = true) ∧
    (∃ (s : State) (i : Fin 36), s.dev.domSt i = .retained ∧ s.dev.inEntry i = false ∧ s.dev.domPolicy i = true) ∧
    (∃ (s : State) (i : Fin 36), s.dev.domSt i = .waking ∧ (domDeps i).all (fun j => s.dev.domSt j == .on) = true ∧ s.dev.pwr.req = none ∧ (s.dev.domPrior i = 2 → s.dev.grantRamps.pwr.ramps.contains i.val = true)) ∧
    (∃ (s : State) (p : Fin 8), s.dev.domSt (12 + p.val) = .on ∧ s.dev.rf (R.DNS_PWR_CFG p) F.DNS_PWR_CFG_IDLE_RET ≠ 0 ∧ s.dev.planeIdle p = true ∧ (s.dev.rf (R.DNS_PWR_CFG p) F.DNS_PWR_CFG_IDLE_OFF = 0 ∨ s.dev.rf (R.DNS_PWR_CFG p) F.DNS_PWR_CFG_IDLE_RET ≤ s.dev.rf (R.DNS_PWR_CFG p) F.DNS_PWR_CFG_IDLE_OFF * 1000) ∧ s.dev.pwr.req = none) ∧
    (∃ (s : State), s.dev.mirState = 2 ∧ s.dev.domSt 1 = .on ∧ s.dev.noCommand = true ∧ s.dev.pwr.req = none) ∧
    (∃ (s : State) (i : Fin 64) (t : Fin 4), i.val < 36 ∧ t.val ≤ 2) ∧
    (∃ (s : State) (mean inst : Nat), s.dev.fus.iSus < mean ∧ inst ≤ s.dev.fus.iPeak ∧ s.dev.pwr.stopJobs = false) ∧
    (∃ (s : State), s.dev.serving = true ∧ mean s.dev.pwr.history ≤ s.dev.pwr.capSet * 10 ∧ s.dev.pwr.capSet * 90 ≤ mean s.dev.pwr.history * 10) ∧
    (∃ (s : State) (r : Fin 96) (t : BitVec 8), t.toNat < s.dev.rf R.PWR_CTL F.PWR_CTL_TJ_HI ∧ t.toNat < 105 ∧ s.dev.pwr.hotSlot = false ∧ (List.range 4).any (fun k => (s.dev.setReg R.PWR_TJ (BitVec.ofNat 32 (r.val * 256 + t.toNat))).rf (R.STK_STAT k) F.STK_STAT_HOT == 1) = false) ∧
    (∃ (s : State) (g : Fin 8), (s.dev.gal g).st = .faulted ∧ (s.dev.gal g).eraseQ ≠ []) ∧
    (∃ (s : State) (g : Fin 8), (s.dev.gal g).st = .faulted) :=
  ⟨⟨around (lowering 1), 34, { named := 34, target := 1, by_ := .firmware, todo := [34], lowered := [] }, [], by decide +kernel⟩,
    ⟨around (lowering 5), 34, { named := 34, target := 1, by_ := .firmware, todo := [34], lowered := [] }, [], by decide +kernel⟩,
    ⟨around (lowering 1), 34, by decide +kernel⟩,
    ⟨around (onDev.updDom 34 (fun x => { x with st := .retained, policy := true })), 34, by decide +kernel⟩,
    ⟨around (((live.updDom 34 (fun x => { x with st := .waking, prior := 2 })).updPwr (fun p => { p with rampQ := [34] }))), 34, by decide +kernel⟩,
    ⟨around (live.setRf (R.DNS_PWR_CFG 7) F.DNS_PWR_CFG_IDLE_RET 1), 7, by decide +kernel⟩,
    ⟨on, by decide +kernel⟩,
    ⟨on, 35, 2, by decide +kernel⟩,
    ⟨on, 801, 960, by decide +kernel⟩,
    ⟨around { onDev with pwr := { onDev.pwr with history := [5580] } }, by decide +kernel⟩,
    ⟨on, 95, 94, by decide +kernel⟩,
    ⟨around (onDev.updGal 7 (fun x => { x with st := .faulted, eraseQ := [15] })), 7, by decide +kernel⟩,
    ⟨around (onDev.updGal 7 (fun x => { x with st := .faulted })), 7, by decide +kernel⟩⟩

theorem witness_ClockEventsTakeEffect :
    (∃ (s : State) (m : Fin 30) (count : Nat), (s.dev.mon m).relock = false ∧ s.dev.domOn (monDomain m) = true ∧
    (let d := s.dev.setRf (R.CLK_MON_STAT m) F.CLK_MON_STAT_COUNT (count % 2 ^ 24)
    d.inBand m count = true ∧ ((s.dev.mon m).good < 3 ∨ (s.dev.mon m).stable = true))) ∧
    (∃ (s : State) (m : Fin 30) (count : Nat), (s.dev.mon m).relock = false ∧ s.dev.domOn (monDomain m) = true ∧
    (let d := s.dev.setRf (R.CLK_MON_STAT m) F.CLK_MON_STAT_COUNT (count % 2 ^ 24)
    d.inBand m count = true ∧ (s.dev.mon m).good = 3 ∧ (s.dev.mon m).stable = false)) ∧
    (∃ (s : State), s.dev.rf R.CLK_STAT F.CLK_STAT_PT_RC = 0 ∧ s.dev.boot.inCold = false) ∧
    (∃ (s : State) (t : Nat), s.dev.clks.rcSince = some t ∧
    (let d := (s.dev.setRf R.CLK_STAT F.CLK_STAT_PT_RC 0).updClk (fun c => { c with rcSince := none })
    
    let e := (d.clockStable 0 true).collect (Flt.refLoss (((d.clockStable 0 true).clk - t) / 100))
    e.boot.resume = none)) ∧
    (∃ (s : State) (c : DenseChg), s.dev.clks.change = some c ∧ s.dev.denseStep = 3 ∧ s.dev.planes.all Plane.still = true) ∧
    (∃ (s : State) (c : DenseChg), s.dev.clks.change = some c ∧ s.dev.denseStep = 3 ∧ s.dev.planes.all Plane.still = false) ∧
    (∃ (s : State) (c : DenseChg), (s.dev.mon 2).relock = true ∧ s.dev.denseStep = 5 ∧ s.dev.clks.change = some c) ∧
    (∃ (s : State), (s.dev.mon 1).relock = true) :=
  ⟨⟨around live, 29, 64, by decide +kernel, by decide +kernel, by decide +kernel, by decide +kernel⟩,
    ⟨around { live with clks := { live.clks with mons := live.clks.mons.set 29 { good := 3 } } }, 29, 64, by decide +kernel, by decide +kernel, by decide +kernel, by decide +kernel, by decide +kernel⟩,
    ⟨around (started onDev), by decide +kernel⟩,
    ⟨around { onDev with clks := { onDev.clks with rcSince := some 0 } }, 0, by decide +kernel, by decide +kernel⟩,
    ⟨around ({ onDev with clks := { onDev.clks with change := some { target := 400, old := 400, byHost := true } } }.setRf R.CLK_DCHG_STAT F.CLK_DCHG_STAT_STEP 3), { target := 400, old := 400, byHost := true }, by decide +kernel⟩,
    ⟨around (({ onDev with clks := { onDev.clks with change := some { target := 400, old := 400, byHost := true } } }.setRf R.CLK_DCHG_STAT F.CLK_DCHG_STAT_STEP 3).updPlane 7 (fun x => { x with running := some oneJob })), { target := 400, old := 400, byHost := true }, by decide +kernel⟩,
    ⟨around (({ onDev with clks := { onDev.clks with change := some { target := 400, old := 400, byHost := true } } }.updMon 2 (fun y => { y with relock := true })).setRf R.CLK_DCHG_STAT F.CLK_DCHG_STAT_STEP 5), { target := 400, old := 400, byHost := true }, by decide +kernel⟩,
    ⟨around (onDev.updMon 1 (fun y => { y with relock := true })), by decide +kernel⟩⟩

theorem witness_StartCommandsTakeEffect :
    (∃ (s : State) (ns : Nat), 10000 ≤ ns) ∧
    (∃ (s : State) (ns : Nat), 10000 ≤ ns ∧ s.dev.boot.inCold = false ∧ s.dev.boot.testMode = false ∧ s.dev.boot.resume = none ∧ s.dev.mirState ≠ 4) ∧
    (∃ (s : State) (x : StartInputs), s.dev.boot.inCold = true ∧ s.dev.boot.coldInternal = false) ∧
    (∃ (s : State) (x : StartInputs), s.dev.boot.warmAt = none ∧ s.dev.boot.inCold = false ∧ s.dev.boot.warmHeld = true ∧ s.dev.clks.rcSince = none) ∧
    (∃ (s : State), s.dev.mirState = 1 ∧ 5 ≤ s.dev.rf R.LNT_MIR_STATE F.LNT_MIR_STATE_STAGE ∧ s.dev.boot.warmHeld = false ∧ s.dev.boot.inCold = false ∧ s.dev.boot.trial = false ∧ s.dev.boot.retried = false) ∧
    (∃ (s : State), s.dev.mirState = 2 ∧ s.dev.onlineLong = true ∧ s.dev.boot.trial = true ∧ s.dev.boot.secver ≤ s.dev.fus.secver) ∧
    (∃ (s : State) (r : Fin 5), 2 ≤ r.val ∧ s.dev.mirState = 2 ∧ s.dev.boot.trial = false) ∧
    (∃ (s : State), s.dev.mirState = 2 ∧ s.dev.boot.trial = false) ∧
    (∃ (s : State), s.dev.mirState = 3) ∧
    (∃ (s : State), s.dev.mirState = 2 ∧ s.dev.domOn 1 = true) ∧
    (∃ (s : State) (t : Nat), s.dev.mirState = 4 ∧ s.dev.mirReason = 5 ∧ t < 90) :=
  ⟨⟨State.reset, 10000, by decide +kernel⟩,
    ⟨around (started onDev), 10000, by decide +kernel⟩,
    ⟨State.reset, {}, by decide +kernel⟩,
    ⟨around { (started onDev) with boot := { (started onDev).boot with warmHeld := true } }, {}, by decide +kernel⟩,
    ⟨around ((mirrored (started onDev) 1).setRf R.LNT_MIR_STATE F.LNT_MIR_STATE_STAGE 5), by decide +kernel⟩,
    ⟨around { onDev with clk := 6000000000, boot := { onDev.boot with trial := true, onlineAt := some 0 } }, by decide +kernel⟩,
    ⟨on, 4, by decide +kernel⟩,
    ⟨on, by decide +kernel⟩,
    ⟨around (mirrored onDev 3), by decide +kernel⟩,
    ⟨on, by decide +kernel⟩,
    ⟨around (mirrored onDev 4 5), 89, by decide +kernel⟩⟩

theorem witness_HostEventsTakeEffect :
    (∃ (s : State) (a : BarAccess), a.bar4 = true ∧ a.off + a.len ≤ 2 ^ 37) ∧
    (∃ (s : State) (a : BarAccess), a.bar4 = false ∧ a.off + a.len ≤ 0x1000000) ∧
    (∃ (s : State) (a : Bar0Access), s.dev.host.linkUp = true ∧ s.dev.domOn 30 = true ∧ a.off + a.size ≤ barSize a.func 0 ∧ (a.size = 4 ∨ a.size = 8) ∧ a.off % a.size = 0 ∧ a.write = none) ∧
    (∃ (s : State) (a : Bar0Access) (v : Nat), s.dev.host.linkUp = true ∧ s.dev.domOn 30 = true ∧ a.off + a.size ≤ barSize a.func 0 ∧ (a.size = 4 ∨ a.size = 8) ∧ a.off % a.size = 0 ∧ a.write = some v) ∧
    (∃ (s : State) (a : Bar0Access), s.dev.host.linkUp = true ∧ s.dev.domOn 30 = true ∧ a.off + a.size ≤ barSize a.func 0 ∧ ((a.size ≠ 4 ∧ a.size ≠ 8) ∨ a.off % a.size ≠ 0) ∧ a.write = none) ∧
    (∃ (s : State) (a : Bar0Access) (v : Nat), s.dev.host.linkUp = true ∧ s.dev.domOn 30 = true ∧ a.off + a.size ≤ barSize a.func 0 ∧ ((a.size ≠ 4 ∧ a.size ≠ 8) ∨ a.off % a.size ≠ 0) ∧ a.write = some v) ∧
    (∃ (s : State) (f : Func) (v : BitVec 32), (s.dev.ring f).st ≠ .off ∧ v ≠ (s.dev.ring f).cmdPi ∧ (v - (s.dev.ring f).cmdPi).toNat ≤ s.dev.cmdSize f ∧ (v - (s.dev.ring f).cmdCi).toNat ≤ s.dev.cmdSize f) ∧
    (∃ (s : State) (f : Func) (v : BitVec 32), (s.dev.ring f).st = .active ∧ v ≠ (s.dev.ring f).cplCi ∧ (v - (s.dev.ring f).cplCi).toNat ≤ s.dev.cplSize f ∧ ((s.dev.ring f).cplPi - v).toNat ≤ s.dev.cplSize f) ∧
    (∃ (s : State) (f : Func) (v : BitVec 32), (s.dev.ring f).st ≠ .off ∧ v ≠ (s.dev.ring f).resCi ∧ (v - (s.dev.ring f).resCi).toNat ≤ s.dev.resSize f ∧ ((s.dev.ring f).resPi - v).toNat ≤ s.dev.resSize f) ∧
    (∃ (s : State) (f : Func), (s.dev.ring f).st = .off ∧ (s.dev.setRf (R.MBX_RING_CTL f) F.MBX_RING_CTL_EN 1).ringCfgOk f = true) ∧
    (∃ (s : State) (f : Func), (s.dev.ring f).st = .active) ∧
    (∃ (s : State) (f : Func), (s.dev.ring f).st = .quiescing ∧ (s.dev.ring f).resetOnOff = false) ∧
    (∃ (s : State) (f : Func), 0 < (s.dev.ring f).cplUnsignalled) ∧
    (∃ (s : State) (f : Func), 0 < (s.dev.ring f).resUnsignalled) ∧
    (∃ (s : State) (u : LockUser) (n : Fin 64), s.dev.granted n (ownerId u) = true ∧ (s.dev.locks[n]).owner = 0) ∧
    (∃ (s : State) (u : LockUser) (n : Fin 64) (v : BitVec 32), (s.dev.locks[n]).owner = ownerId u ∧ bit v 0 = true) :=
  ⟨⟨on, { func := 8, bar4 := true, off := 0, write := none, len := 4 }, by decide +kernel⟩,
    ⟨on, { func := 8, bar4 := false, off := 0, write := none, len := 4 }, by decide +kernel⟩,
    ⟨around hostUp, { func := 8, off := 0xFFF8, size := 8, write := none }, by decide +kernel⟩,
    ⟨around hostUp, { func := 8, off := 0xFFF8, size := 8, write := some 0 }, 0, by decide +kernel⟩,
    ⟨around hostUp, { func := 8, off := 2, size := 4, write := none }, by decide +kernel⟩,
    ⟨around hostUp, { func := 8, off := 0, size := 2, write := some 0 }, 0, by decide +kernel⟩,
    ⟨around ringed, 8, 16, by decide +kernel⟩,
    ⟨around (ringed.updRing 8 (fun r => { r with cplPi := 16 })), 8, 16, by decide +kernel⟩,
    ⟨around (ringed.updRing 8 (fun r => { r with resPi := 64 })), 8, 64, by decide +kernel⟩,
    ⟨around (ringed.updRing 8 (fun r => { r with st := .off })), 8, by decide +kernel⟩,
    ⟨around ringed, 8, by decide +kernel⟩,
    ⟨around (ringed.updRing 8 (fun r => { r with st := .quiescing })), 8, by decide +kernel⟩,
    ⟨around (ringed.updRing 8 (fun r => { r with cplUnsignalled := 1 })), 8, by decide +kernel⟩,
    ⟨around (ringed.updRing 8 (fun r => { r with resUnsignalled := 1 })), 8, by decide +kernel⟩,
    ⟨around (onDev.setRf (R.LCK_GRANT 63) F.LCK_GRANT_PF 1), .fn 8, 63, by decide +kernel⟩,
    ⟨around { onDev with locks := onDev.locks.set 63 { owner := 0x10 } }, .fn 8, 63, 1, by decide +kernel⟩⟩

theorem witness_CommandTransportTakesEffect :
    (∃ (s : State) (f : Func) (desc : BitVec 512), (s.dev.ring f).st = .active ∧ (s.dev.ring f).cmdCi ≠ (s.dev.ring f).cmdPi ∧ s.dev.inProgress f < (if f = pf then 32 else 8) ∧ 5 ≤ s.dev.cplFree f ∧ s.dev.mayFetch (bits desc 15 0) = true) ∧
    (∃ (s : State) (f : Func) (x : Fetched) (t : List Fetched) (b : Buf) (env : CmdEnv) (o : Opcode), (s.dev.ring f).fetched = x :: t ∧ x.orphan = false ∧
    (let c : Cmd := { issuer := .fn f, idx := x.idx, desc := x.desc, buf := b, env := env }
    s.dev.mayFetch c.opcode = true ∧ s.dev.mustWait c x = false ∧ s.dev.domOn 1 = true ∧ opcodeOf c.opcode = some o)) ∧
    (∃ (s : State) (f : Func) (c : Cpl) (t : List Cpl), (s.dev.ring f).done = c :: t ∧ c.orphan = false ∧ (s.dev.ring f).st = .active ∧ ((s.dev.ring f).cplPi - (s.dev.ring f).cplCi).toNat < s.dev.cplSize f) ∧
    (∃ (s : State) (f : Func) (k : Fin 7) (arg : BitVec 64), k ≠ 0) :=
  ⟨⟨around ringed, 8, 0x0102, by decide +kernel⟩,
    ⟨around (ringed.updRing 8 (fun r => { r with fetched := [oneFetched] })), 8, oneFetched, [], .bytes [], {}, _, by decide +kernel, by decide +kernel, by decide +kernel, by decide +kernel, by decide +kernel, (Option.some_get (by decide +kernel)).symm⟩,
    ⟨around (ringed.updRing 8 (fun r => { r with done := [oneCpl], cplPi := 15 })), 8, oneCpl, [], by decide +kernel⟩,
    ⟨on, 8, 6, 0, by decide +kernel⟩⟩

theorem witness_MemoryCommandsTakeEffect :
    (∃ (s : State) (a : StackAccess) (k : Fin 4) (l : Nat) (r : Fin 16), stackPlace s.dev.fus.high a.sa = some (k, l) ∧ s.dev.stackHeld k = false ∧ s.dev.stackReady k = true ∧ a.write = none ∧ a.ca ≠ 2 ∧ s.dev.admitStack a.req k a.sa a.len false = some r) ∧
    (∃ (s : State) (a : StackAccess) (k : Fin 4) (l : Nat) (r : Fin 16) (b : List Byte), stackPlace s.dev.fus.high a.sa = some (k, l) ∧ s.dev.stackHeld k = false ∧ s.dev.stackReady k = true ∧ a.write = some b ∧ a.ca ≠ 2 ∧ s.dev.admitStack a.req k a.sa b.length true = some r ∧ (a.sa + b.length + 63) / 64 ≤ s.dev.rgnWm k r) ∧
    (∃ (s : State) (a : StackAccess) (k : Fin 4) (l : Nat) (r : Fin 16), stackPlace s.dev.fus.high a.sa = some (k, l) ∧ s.dev.stackHeld k = false ∧ s.dev.stackReady k = true ∧ a.write = none ∧ a.ca = 2 ∧ s.dev.admitStack a.req k a.sa a.len false = some r) ∧
    (∃ (s : State) (a : StackAccess) (k : Fin 4) (l : Nat) (r : Fin 16), stackPlace s.dev.fus.high a.sa = some (k, l) ∧ s.dev.stackHeld k = true ∧ a.write = none ∧ s.dev.admitStack a.req k a.sa a.len false = some r) ∧
    (∃ (s : State) (k : Fin 4) (r : Fin 16), s.dev.rgnValid k r = true ∧ s.dev.stackReady k = true) ∧
    (∃ (s : State) (k : Fin 4) (r : Fin 16), s.dev.rf (R.STK_RGN_CTL k r) F.STK_RGN_CTL_FILLING = 1) ∧
    (∃ (s : State) (k : Fin 4), s.dev.stackReady k = true) ∧
    (∃ (s : State) (k : Fin 4) (t : BitVec 8), (s.dev.stk k).st = .ready ∧ t.toNat ≤ 95) ∧
    (∃ (s : State), s.dev.rf R.SCP_CTL F.SCP_CTL_BG_EN = 1) ∧
    (∃ (s : State) (k : Fin 4), s.dev.rf (R.STK_CTL k) F.STK_CTL_BG_EN = 1 ∧ s.dev.stackReady k = true) ∧
    (∃ (s : State) (a : ScpAccess) (b : List Byte), a.write = some b ∧ a.off + b.length ≤ scpBytes ∧ s.dev.masterAdmits a.m a.func (scpWindow + a.off) (scpWindow + a.off + b.length) true = true ∧ s.dev.scp.copying = none ∧ s.dev.march = none ∧ s.dev.rf R.SCP_STAT F.SCP_STAT_DEGRADED = 0) ∧
    (∃ (s : State) (a : ScpAccess), a.write = none ∧ a.off + a.len ≤ scpBytes ∧ s.dev.masterAdmits a.m a.func (scpWindow + a.off) (scpWindow + a.off + a.len) false = true ∧ s.dev.scp.copying = none ∧ s.dev.march = none ∧ s.dev.rf R.SCP_STAT F.SCP_STAT_DEGRADED = 0) ∧
    (∃ (s : State) (b : Nat), s.dev.scp.copying = some b) ∧
    (∃ (s : State) (t : BitVec 5) (p : Bool) (x : MarchTarget), marchTarget t.toNat = some x ∧ s.dev.march = none ∧ formAllowed x p = true ∧ s.dev.marchBlocked x p = none) ∧
    (∃ (s : State) (r : MarchResult) (x : March), s.dev.march = some x ∧ r.mems = 0 ∧ x.preserve = true) ∧
    (∃ (s : State) (k : Fin 4) (r : TrainResult), (s.dev.stk k).st = .phyinit ∧ r.failed = false) ∧
    (∃ (s : State) (k : Fin 4) (r : TrainResult), (s.dev.stk k).st = .lane) ∧
    (∃ (s : State) (k : Fin 4) (r : TrainResult), (s.dev.stk k).st = .cal ∧ ((s.dev.stk k).fast = false ∨ r.badPcs = 0)) :=
  ⟨⟨around (regioned live), { req := .gallery 0, sa := 0, len := 64, write := none, errs := [] }, 0, 0, 0, by decide +kernel⟩,
    ⟨around (regioned live), { req := .gallery 0, sa := 1048512, len := 64, write := some (List.replicate 64 7), errs := [] }, 0, 1048512, 0, List.replicate 64 7, by decide +kernel⟩,
    ⟨around (regioned live), { req := .gallery 0, sa := 0, len := 64, write := none, errs := [], ca := 2 }, 0, 0, 0, by decide +kernel⟩,
    ⟨around { regioned live with march := some { target := 1, preserve := true } }, { req := .gallery 0, sa := 0, len := 64, write := none, errs := [] }, 0, 0, 0, by decide +kernel⟩,
    ⟨around (regioned live), 0, 0, by decide +kernel⟩,
    ⟨around ((regioned live).setRf (R.STK_RGN_CTL 3 15) F.STK_RGN_CTL_FILLING 1), 3, 15, by decide +kernel⟩,
    ⟨around live, 3, by decide +kernel⟩,
    ⟨around live, 3, 95, by decide +kernel⟩,
    ⟨around (onDev.setRf R.SCP_CTL F.SCP_CTL_BG_EN 1), by decide +kernel⟩,
    ⟨around (live.setRf (R.STK_CTL 3) F.STK_CTL_BG_EN 1), 3, by decide +kernel⟩,
    ⟨around mastered, { m := 0, func := 8, off := 0x7FFFFE, len := 2, write := some [1, 2], errs := [] }, [1, 2], by decide +kernel⟩,
    ⟨around mastered, { m := 0, func := 8, off := 0x7FFFFE, len := 2, write := none, errs := [] }, by decide +kernel⟩,
    ⟨around { onDev with scp := { onDev.scp with copying := some 15 } }, 15, by decide +kernel⟩,
    ⟨on, 0, true, .scratchpad, by decide +kernel⟩,
    ⟨around { onDev with march := some { target := 0, preserve := true } }, { mems := 0, addr := 0, places := [] }, { target := 0, preserve := true }, by decide +kernel⟩,
    ⟨around (live.updStk 3 (fun x => { x with st := .phyinit })), 3, { failed := false, badPcs := 0, devId := 0, temp := 0 }, by decide +kernel⟩,
    ⟨around (live.updStk 3 (fun x => { x with st := .lane })), 3, { failed := true, badPcs := 0, devId := 0, temp := 0 }, by decide +kernel⟩,
    ⟨around (live.updStk 3 (fun x => { x with st := .cal })), 3, { failed := true, badPcs := 1, devId := 0, temp := 0 }, by decide +kernel⟩⟩

theorem witness_FaultCommandsTakeEffect :
    (∃ (s : State) (h : GdlHead) (x : FaultIn), h.crcOk = true ∧ s.dev.stationOn h.station.val = true) ∧
    (∃ (s : State), s.dev.drains = true ∧ s.dev.flt.recs ≠ []) ∧
    (∃ (s : State) (h : GdlHead) (off : BitVec 32) (a : Nat) (r : RegAt), h.crcOk = true ∧ s.dev.stationOn h.station.val = true ∧ stationReg h.station.val off.toNat = some (a, r)) ∧
    (∃ (s : State) (h : GdlHead) (off v : BitVec 32) (a : Nat) (r : RegAt), h.crcOk = true ∧ s.dev.stationOn h.station.val = true ∧ stationReg h.station.val off.toNat = some (a, r)) ∧
    (∃ (s : State) (h : GdlHead) (st : BitVec 8), h.crcOk = true ∧ h.surveyor = true) ∧
    (∃ (s : State) (h : GdlHead) (b : Bool), h.crcOk = true ∧ s.dev.stationOn h.station.val = true ∧ 0x08 ≤ h.station.val ∧ h.station.val ≤ 0x0F) ∧
    (∃ (s : State) (h : GdlHead), h.crcOk = true ∧ s.dev.stationOn h.station.val = true ∧ 0x10 ≤ h.station.val ∧ h.station.val ≤ 0x17) ∧
    (∃ (s : State) (h : GdlHead), h.crcOk = true ∧ s.dev.stationOn h.station.val = true ∧ (h.station.val < 0x10 ∨ 0x17 < h.station.val) ∧ s.dev.halted h.station.val = false) ∧
    (∃ (s : State) (h : GdlHead), h.crcOk = true ∧ h.station.val ≠ 0x3F ∧ s.dev.stationOn h.station.val = true) ∧
    (∃ (s : State), 
    let bytes := (List.range 7).flatMap (fun i => leBytes 4 (s.dev.reg (R.GDL_TX i)).toNat)
    leAt bytes 3 1 ≤ 24 ∧ [0x01, 0x02, 0x05, 0x06, 0x08].contains (leAt bytes 2 1) = true) :=
  ⟨⟨on, { surveyor := true, station := 6, crcOk := true }, { cls := 1, code := 1, unit := 0, parcel := 0xFF, count := 1, index := 0, arg0 := 0 }, by decide +kernel⟩,
    ⟨around { onDev with flt := { onDev.flt with recs := [{ seq := 0, session := 0, ptime := 0, tick := 0, cls := 0, code := 0, sev := 0, flags := 0, parcel := 0, unit := 0, chip := 0, count := 0, index := 0, arg0 := 0 }] } }, by decide +kernel⟩,
    ⟨on, { surveyor := true, station := 6, crcOk := true }, 4, _, _, by decide +kernel, by decide +kernel, some_parts (by decide +kernel)⟩,
    ⟨on, { surveyor := true, station := 6, crcOk := true }, 4, 0, _, _, by decide +kernel, by decide +kernel, some_parts (by decide +kernel)⟩,
    ⟨on, { surveyor := true, station := 1, crcOk := true }, 0x3F, by decide +kernel⟩,
    ⟨around live, { surveyor := true, station := 15, crcOk := true }, true, by decide +kernel⟩,
    ⟨around live, { surveyor := true, station := 0x17, crcOk := true }, by decide +kernel⟩,
    ⟨around live, { surveyor := true, station := 0x2D, crcOk := true }, by decide +kernel⟩,
    ⟨on, { surveyor := true, station := 6, crcOk := true }, by decide +kernel⟩,
    ⟨around (onDev.setReg (R.GDL_TX 0) 0x18010106), by decide +kernel, by decide +kernel⟩⟩

theorem witness_RegisterAndPinCommandsTakeEffect :
    (∃ (s : State) (a : BitVec 40) (v : BitVec 32) (r : RegAt), regAt a.toNat = some r) ∧
    (∃ (s : State) (g : Fin 8) (b : Bool), s.dev.domOn (4 + g.val) = true) ∧
    (∃ (s : State) (g : Fin 8), s.dev.domOn (4 + g.val) = true ∧ (s.dev.gal g).st ≠ .run ∧ (s.dev.gal g).st ≠ .stopping) ∧
    (∃ (s : State) (g : Fin 8), s.dev.domOn (4 + g.val) = true) ∧
    (∃ (s : State), s.dev.domOn 3 = true) ∧
    (∃ (s : State) (k : Fin 6), s.dev.domOn (24 + k.val) = true) ∧
    (∃ (s : State) (k : Fin 4), s.dev.domOn (31 + k.val) = true) ∧
    (∃ (s : State), s.dev.domOn 2 = true) ∧
    (∃ (s : State), s.dev.domOn 35 = true) ∧
    (∃ (s : State), s.dev.boot.inCold = false) ∧
    (∃ (s : State) (v : BitVec 8) (pec : Option Bool), s.dev.boot.inCold = false ∧ (pec = some true ∨ (pec = none ∧ s.dev.rf R.LNT_SMB_CFG F.LNT_SMB_CFG_PEC_REQ = 0))) ∧
    (∃ (s : State) (v : BitVec 16), s.dev.boot.inCold = false) ∧
    (∃ (s : State), s.dev.boot.inCold = false ∧ s.dev.alertAsserted = true) ∧
    (∃ (s : State), s.dev.pins.trst = false) ∧
    (∃ (s : State) (levels pre : List Bool), s.dev.pins.trst = false) ∧
    (∃ (s : State), s.dev.pins.trst = false ∧ s.dev.boot.inCold = false) :=
  ⟨⟨on, 0x11008004, 0x101, _, (Option.some_get (by decide +kernel)).symm⟩,
    ⟨around live, 7, true, by decide +kernel⟩,
    ⟨around ((live.updGal 7 (fun x => { x with st := .faulted }))), 7, by decide +kernel⟩,
    ⟨around live, 7, by decide +kernel⟩,
    ⟨around live, by decide +kernel⟩,
    ⟨around live, 5, by decide +kernel⟩,
    ⟨around live, 3, by decide +kernel⟩,
    ⟨on, by decide +kernel⟩,
    ⟨on, by decide +kernel⟩,
    ⟨around (started onDev), by decide +kernel⟩,
    ⟨around (started onDev), 0xFF, some true, by decide +kernel⟩,
    ⟨around (started onDev), 0xFFFF, by decide +kernel⟩,
    ⟨around ((started onDev).setRf R.LNT_SMB_ALERT F.LNT_SMB_ALERT_STAT 1), by decide +kernel⟩,
    ⟨around { started onDev with pins := { onDev.pins with trst := false } }, by decide +kernel⟩,
    ⟨around { started onDev with pins := { onDev.pins with trst := false } }, [], [], by decide +kernel⟩,
    ⟨around { started onDev with pins := { onDev.pins with trst := false } }, by decide +kernel⟩⟩

end Sys2Proof.Tests
end

namespace Sys2Proof.Machine

/-- One step in the shifts of R72's sketch. -/
theorem powStep_testBit (d g b f : Nat) :
    powStep d (g.testBit b) f =
      let q := (f * f + 0x8000) >>> 16
      if (g >>> b) % 2 = 1 then (q * d + 0x8000) >>> 16 else q := by
  simp only [powStep, Nat.testBit_eq_decide_div_mod_eq, decide_eq_true_eq, Nat.shiftRight_eq_div_pow, Nat.reducePow]

/-- The recursion over the number of bits left is the sketch's loop from the highest of them down to bit 0. -/
theorem powBits_eq_foldl (d g n f : Nat) :
    powBits d g n f = (List.range n).reverse.foldl (fun f b => powStep d (g.testBit b) f) f := by
  induction n generalizing f with
  | zero => rfl
  | succ n ih => rw [powBits, ih, List.range_succ, List.reverse_concat, List.foldl_cons]

/-- The rounding half up of R72 never lifts a product of two Q0.16 values above 1.0. -/
theorem roundMul_le_one {f d : Nat} (hf : f ≤ 0x10000) (hd : d ≤ 0x10000) : (f * d + 0x8000) / 65536 ≤ 0x10000 := by
  have hmul : f * d ≤ 0x10000 * 0x10000 := Nat.mul_le_mul hf hd
  omega

theorem powStep_le_one {d f : Nat} (hd : d ≤ 0x10000) (hf : f ≤ 0x10000) (bitSet : Bool) : powStep d bitSet f ≤ 0x10000 := by
  have hsq := roundMul_le_one hf hf
  cases bitSet with
  | false => exact hsq
  | true => exact roundMul_le_one hsq hd

theorem powBits_le_one {d f : Nat} (hd : d ≤ 0x10000) (hf : f ≤ 0x10000) (g n : Nat) : powBits d g n f ≤ 0x10000 := by
  induction n generalizing f with
  | zero => exact hf
  | succ n ih => exact ih (powStep_le_one hd hf _)

/-- Settles O19: the recursion is the sketch's loop (R72), and no step of it leaves 0 .. 1.0. -/
theorem powQ16IsTheSketch : Obligations.PowQ16IsTheSketch := by
  intro d g
  constructor
  · have hrange : (List.range 8).reverse = [7, 6, 5, 4, 3, 2, 1, 0] := rfl
    simp only [powQ16, powBits_eq_foldl, hrange, powStep_testBit]
  · exact powBits_le_one (by omega) le_rfl _ _

end Sys2Proof.Machine

namespace Sys2Proof.Machine

/-! ### Counts and faults of a read -/

/-- A count of one occurrence adds one to the counter, which saturates. -/
theorem Dev.bump_one (d : Dev) (a : Nat) (f : Fld) : d.bump a f = d.setRf a f (min (d.rf a f + 1) (2 ^ f.width - 1)) := rfl

/-- What reading a unit at or above the watermark does to the device (R343): it counts, and faults with UNW_FAULT. -/
def Dev.readUnwrittenUnit (d : Dev) (k : Fin 4) (r : Fin 16) (u : Nat) : Dev :=
  let e := d.bump (R.STK_RGN_UNW k r) F.STK_RGN_UNW_UNW
  if e.rf (R.STK_RGN_CTL k r) F.STK_RGN_CTL_UNW_FAULT = 1 then
    e.raiseFrom (stStack k) (Flt.stackUnw k (u * 64) r (ownerParcel (e.rgnOwner k r)))
  else e

/-- A read of a unit at or above the watermark answers zero without error and leaves memory (R343). -/
theorem Mach.readUnit_unwritten {m : Mach} {k : Fin 4} {r : Fin 16} {u : Nat} (errs : List MemErr) (h : m.dev.rgnWm k r ≤ u) :
    m.readUnit k r u errs = (List.replicate 64 0, false, { m with dev := m.dev.readUnwrittenUnit k r u }) := if_pos h

/-- Settles O24: above the watermark a read takes one branch, whose fault hangs on UNW_FAULT alone (R343). -/
theorem unwrittenStackUnits : Obligations.UnwrittenStackUnits := by
  intro m k r u errs hu
  rw [← Dev.bump_one, Mach.readUnit_unwritten errs hu, Dev.readUnwrittenUnit]
  constructor
  · intro hoff
    rw [if_neg (by rw [hoff]; exact Nat.zero_ne_one)]
  · intro hon
    rw [if_pos hon]

/-! ### The scratchpad's lines -/

theorem FaultOnly.scp_eq {d e : Dev} (h : FaultOnly d e) : e.scp = d.scp := by
  obtain ⟨r, x, o, f, p, rfl⟩ := h
  rfl

theorem Dev.forEach_scp {α : Type} {f : α → Dev → Dev} (hf : ∀ a d, (f a d).scp = d.scp) (l : List α) (d : Dev) :
    (d.forEach l f).scp = d.scp :=
  Dev.forEach_rel (P := fun d e => e.scp = d.scp) (fun _ => rfl) (fun hab hbc => hbc.trans hab) hf l d

/-- What reading one unwritten line does to the device (R352): it counts, and faults with UNW_FAULT. -/
def Dev.readUnwrittenLine (d : Dev) (l : Nat) : Dev :=
  let e := d.bump R.SCP_UNW_CNT F.SCP_UNW_CNT_UNW
  if e.rf R.SCP_CTL F.SCP_CTL_UNW_FAULT = 1 then e.raiseFrom 0x03 (Flt.scpUnw (l * 64)) else e

theorem Dev.readUnwrittenLine_scp (d : Dev) (l : Nat) : (d.readUnwrittenLine l).scp = d.scp := by
  unfold Dev.readUnwrittenLine
  dsimp only
  split
  · exact (Dev.raiseFrom_shape _ _ _).scp_eq.trans (Dev.bump_scp d _ _ _)
  · exact Dev.bump_scp d _ _ _

theorem Dev.scpReadLines_cons_unwritten {d : Dev} (errs : List MemErr) {l : Nat} (t : List Nat)
    (h : SMap.get false d.scp.written l = false) :
    d.scpReadLines errs (l :: t) = (d.readUnwrittenLine l).scpReadLines errs t := by
  simp only [Dev.scpReadLines, h, Bool.false_eq_true, if_false, Dev.readUnwrittenLine]

/-- Reading unwritten lines leaves the scratchpad as it was. -/
theorem Dev.scpReadLines_scp_of_unwritten (errs : List MemErr) (ls : List Nat) :
    ∀ d : Dev, (∀ l ∈ ls, SMap.get false d.scp.written l = false) → (d.scpReadLines errs ls).scp = d.scp := by
  induction ls with
  | nil => exact fun _ _ => rfl
  | cons l t ih =>
    intro d h
    have hscp := d.readUnwrittenLine_scp l
    rw [Dev.scpReadLines_cons_unwritten errs t (h l List.mem_cons_self), ih _ ?_, hscp]
    intro j hj
    rw [hscp]
    exact h j (List.mem_cons_of_mem l hj)

theorem mem_scpLines {off len l : Nat} : l ∈ scpLines off len ↔ off / 64 ≤ l ∧ l < (off + len + 63) / 64 := by
  simp only [scpLines, List.mem_map, List.mem_range]
  constructor
  · rintro ⟨i, hi, rfl⟩
    omega
  · rintro ⟨hlo, hhi⟩
    exact ⟨l - off / 64, by omega, by omega⟩

/-- An access of at least one byte spans the lines from that of its first byte to that of its last. -/
theorem mem_scpLines_of_pos {off len l : Nat} (h : 0 < len) :
    l ∈ scpLines off len ↔ off / 64 ≤ l ∧ l ≤ (off + len - 1) / 64 := by
  rw [mem_scpLines]
  omega

/-! ### An access that is admitted and not held -/

theorem Dev.scpHeld_eq_false {d : Dev} (hcopy : d.scp.copying = none) (hmarch : d.march = none) (a : ScpAccess) :
    d.scpHeld a = false := by
  simp [Dev.scpHeld, hcopy, hmarch]

/-- An admitted access that neither a bank's copy nor the march engine holds is served. -/
theorem scpAccess_served {m : Mach} {a : ScpAccess} (hlen : a.off + scpLen a ≤ scpBytes)
    (hadmit : m.dev.masterAdmits a.m a.func (scpWindow + a.off) (scpWindow + a.off + scpLen a) a.write.isSome = true)
    (hcopy : m.dev.scp.copying = none) (hmarch : m.dev.march = none) : scpAccess a m = m.serveScp a := by
  simp [scpAccess, Dev.admitScp, hlen, hadmit, Mach.takeScp, Dev.scpHeld_eq_false hcopy hmarch]

/-- The bytes that a read returns on a device: zero in an unwritten line. -/
def Mach.scpBytesRead (m : Mach) (off len : Nat) : List Byte :=
  (List.range len).map (fun i =>
    if SMap.get false m.dev.scp.written ((off + i) / 64) then Memory.readByte m.mem (scpWindow + off + i) else 0)

theorem Mach.serveScp_read {m : Mach} {a : ScpAccess} (hw : a.write = none) (hdeg : m.dev.rf R.SCP_STAT F.SCP_STAT_DEGRADED = 0) :
    ∃ p, m.serveScp a = { m with dev := (m.dev.scpReadLines a.errs (scpLines a.off a.len)).emit (.memData (.master a.m a.func)
      (Mach.scpBytesRead { m with dev := m.dev.scpReadLines a.errs (scpLines a.off a.len) } a.off a.len) p) } := by
  simp only [Mach.serveScp, hdeg, hw, Nat.zero_ne_one, false_and, if_false]
  exact ⟨_, rfl⟩

theorem Mach.serveScp_write {m : Mach} {a : ScpAccess} {b : List Byte} (hw : a.write = some b)
    (hdeg : m.dev.rf R.SCP_STAT F.SCP_STAT_DEGRADED = 0) :
    m.serveScp a = { m.scpWrite a.off b with dev := (m.scpWrite a.off b).dev.emit (.memDone (.master a.m a.func)) } := by
  simp only [Mach.serveScp, hdeg, hw, Nat.zero_ne_one, false_and, if_false]

/-- Where no line is written, a read returns zero bytes. -/
theorem Mach.scpBytesRead_of_unwritten {m : Mach} (h : ∀ l, SMap.get false m.dev.scp.written l = false) (off len : Nat) :
    m.scpBytesRead off len = List.replicate len 0 := by
  simp [Mach.scpBytesRead, h]

/-! ### What a write leaves in memory and in the written bits -/

/-- Bytes written read back, and every other byte is as before. -/
theorem Memory.readByte_write (m : Mem) (a i : Nat) (l : List Byte) :
    Memory.readByte (Memory.write m a l) i = if a ≤ i ∧ i < a + l.length then l.getD (i - a) 0 else Memory.readByte m i := by
  split
  case isTrue h =>
    have hlt : i - a < l.length := by omega
    have hin := Memory.readByte_write_inside l m a hlt
    rw [Nat.add_sub_cancel' h.1] at hin
    rw [hin, List.getD_eq_getElem l 0 hlt]
  case isFalse h => exact Memory.readByte_write_outside l m a (by omega)

/-- Zeroing lines one after another zeroes the bytes of those lines. -/
theorem readByte_foldl_zeroLine (i : Nat) (ls : List Nat) : ∀ m : Mem,
    Memory.readByte (ls.foldl (fun x l => Memory.zero x (scpWindow + l * 64) (scpWindow + l * 64 + 64)) m) i =
      if scpWindow ≤ i ∧ (i - scpWindow) / 64 ∈ ls then 0 else Memory.readByte m i := by
  induction ls with
  | nil => simp
  | cons l t ih =>
    intro m
    have hline : (scpWindow + l * 64 ≤ i ∧ i < scpWindow + l * 64 + 64) ↔ (scpWindow ≤ i ∧ (i - scpWindow) / 64 = l) := by omega
    rw [List.foldl_cons, ih, Memory.readByte_zero, if_congr hline rfl rfl, ← ite_or]
    refine if_congr ?_ rfl rfl
    rw [List.mem_cons]
    tauto

/-- Setting lines' bits one after another sets those and leaves the other bits. -/
theorem get_foldl_setLine (l : Nat) (ls : List Nat) : ∀ w : SMap Bool,
    SMap.get false (ls.foldl (fun x l => SMap.set false x l true) w) l = (SMap.get false w l || decide (l ∈ ls)) := by
  induction ls with
  | nil => simp
  | cons j t ih =>
    intro w
    rw [List.foldl_cons, ih]
    by_cases hj : l = j
    · subst hj
      simp
    · simp [SMap.get_set_ne false false w hj, hj]

/-- A write sets the bit of each line that it spans (R352). -/
theorem Mach.scpWrite_written (m : Mach) (off : Nat) (b : List Byte) (l : Nat) :
    SMap.get false (m.scpWrite off b).dev.scp.written l =
      (SMap.get false m.dev.scp.written l || decide (l ∈ scpLines off b.length)) := by
  simp only [Mach.scpWrite, get_foldl_setLine, List.mem_filter]
  cases SMap.get false m.dev.scp.written l <;> simp

/-- A write stores its bytes, and zeroes the rest of the lines that were unwritten (R352). -/
theorem Mach.scpWrite_readByte (m : Mach) (off : Nat) (b : List Byte) (i : Nat) :
    Memory.readByte (m.scpWrite off b).mem i =
      if scpWindow + off ≤ i ∧ i < scpWindow + off + b.length then b.getD (i - (scpWindow + off)) 0
      else if scpWindow ≤ i ∧ (i - scpWindow) / 64 ∈ scpLines off b.length ∧
        SMap.get false m.dev.scp.written ((i - scpWindow) / 64) = false then 0
      else Memory.readByte m.mem i := by
  simp only [Mach.scpWrite, Memory.readByte_write, readByte_foldl_zeroLine, List.mem_filter, Bool.not_eq_true']

/-! ### Resets -/

/-- The written bits and the contents of the scratchpad are the same. -/
def SameScratchpad (m n : Mach) : Prop :=
  n.dev.scp.written = m.dev.scp.written ∧
    ∀ x, x < scpBytes → Memory.readByte n.mem (scpWindow + x) = Memory.readByte m.mem (scpWindow + x)

theorem Dev.pulseCounts_of_long (d : Dev) {ns : Nat} (h : 10000 ≤ ns) : d.pulseCounts ns = (true, d) := if_pos h

theorem Dev.pulseCounts_scp (d : Dev) (ns : Nat) : (d.pulseCounts ns).2.scp = d.scp := by
  unfold Dev.pulseCounts
  split
  · rfl
  split
  · rfl
  · rfl

theorem Dev.raiseLife_scp (o : Nat) (d : Dev) : (d.raiseLife o).scp = d.scp := by
  obtain ⟨r, l, h⟩ := Dev.raiseLife_shape d o
  rw [h]

/-- COLD_N held for 10 µs clears every written bit (R352). -/
theorem coldN_written_eq_nil {ns : Nat} (h : 10000 ≤ ns) (m : Mach) : (coldN ns m).dev.scp.written = [] := by
  simp only [coldN, Dev.pulseCounts_of_long _ h, if_true]
  rfl

/-- WARM_N keeps the written bits and the contents (R352). -/
theorem sameScratchpad_warmReset (m : Mach) : SameScratchpad m (warmReset m) := by
  constructor
  · unfold warmReset
    dsimp only
    rw [(Dev.setMirror_shape _ _ _).scp_eq, Dev.setReg_scp]
    dsimp only
    rw [Dev.forEach_scp Dev.raiseLife_scp]
  · intro x hx
    have hin : (decide (scpWindow ≤ scpWindow + x) && decide (scpWindow + x < scpWindow + scpBytes)) = true := by simp [hx]
    simp only [warmReset, Memory.readByte, SMap.get,
      Memory.find_filter (fun k => decide (scpWindow ≤ k) && decide (k < scpWindow + scpBytes)), hin, if_true]

/-- A pulse on WARM_N is ignored, held, or resets; none of them changes the scratchpad. -/
theorem sameScratchpad_warmN (ns : Nat) (m : Mach) : SameScratchpad m (warmN ns m) := by
  have hpulse : (m.dev.pulseCounts ns).2.scp.written = m.dev.scp.written := by rw [Dev.pulseCounts_scp]
  unfold warmN
  dsimp only
  split
  · exact ⟨hpulse, fun _ _ => rfl⟩
  split
  · exact ⟨hpulse, fun _ _ => rfl⟩
  split
  · exact ⟨hpulse, fun _ _ => rfl⟩
  · obtain ⟨hwritten, hbytes⟩ := sameScratchpad_warmReset { m with dev := (m.dev.pulseCounts ns).2 }
    exact ⟨hwritten.trans hpulse, hbytes⟩

/-! ### A step of a master's access -/

theorem eq_onMach_of_memStep {s t : State} {g : Mach → Mach} (h : memStep s g = .next t) : t = s.onMach g :=
  (Host.Outcome.next.inj h).symm

/-- A read by a master where no line is written answers zero bytes and leaves memory. -/
theorem scpAccess_read_unwritten {m : Mach} {a : ScpAccess} (hw : a.write = none) (hlen : a.off + a.len ≤ scpBytes)
    (hadmit : m.dev.masterAdmits a.m a.func (scpWindow + a.off) (scpWindow + a.off + a.len) false = true)
    (hcopy : m.dev.scp.copying = none) (hmarch : m.dev.march = none) (hdeg : m.dev.rf R.SCP_STAT F.SCP_STAT_DEGRADED = 0)
    (hunw : ∀ l, SMap.get false m.dev.scp.written l = false) :
    (scpAccess a m).mem = m.mem ∧ ∃ p, .memData (.master a.m a.func) (List.replicate a.len 0) p ∈ (scpAccess a m).dev.outbox := by
  have hscp := Dev.scpReadLines_scp_of_unwritten a.errs (scpLines a.off a.len) m.dev (fun l _ => hunw l)
  obtain ⟨p, hp⟩ := Mach.serveScp_read hw hdeg
  have hserve : scpAccess a m = m.serveScp a :=
    scpAccess_served (by simpa [scpLen, hw] using hlen) (by simpa [scpLen, hw] using hadmit) hcopy hmarch
  rw [hserve, hp, Mach.scpBytesRead_of_unwritten (by simpa [hscp] using hunw)]
  exact ⟨rfl, p, List.mem_cons_self⟩

/-- A write by a master is the scratchpad's write, answered. -/
theorem scpAccess_write {m : Mach} {a : ScpAccess} {b : List Byte} (hw : a.write = some b) (hlen : a.off + b.length ≤ scpBytes)
    (hadmit : m.dev.masterAdmits a.m a.func (scpWindow + a.off) (scpWindow + a.off + b.length) true = true)
    (hcopy : m.dev.scp.copying = none) (hmarch : m.dev.march = none) (hdeg : m.dev.rf R.SCP_STAT F.SCP_STAT_DEGRADED = 0) :
    scpAccess a m = { m.scpWrite a.off b with dev := (m.scpWrite a.off b).dev.emit (.memDone (.master a.m a.func)) } := by
  rw [← Mach.serveScp_write hw hdeg]
  exact scpAccess_served (by simpa [scpLen, hw] using hlen) (by simpa [scpLen, hw] using hadmit) hcopy hmarch

/-- Settles O25: a read counts its unwritten lines, a write fills each one it opens, and of the resets only COLD_N clears the bits (R352). -/
theorem scratchpadLines : Obligations.ScratchpadLines := by
  refine ⟨?readLine, ?masterRead, ?masterWrite, ?cold, ?warm⟩
  case readLine =>
    intro d l errs hl
    rw [Dev.scpReadLines_cons_unwritten errs [] hl, ← Dev.bump_one]
    exact ⟨fun hoff => if_neg (by omega), fun hon => if_pos hon⟩
  case masterRead =>
    intro s t a hw hlen _ hadmit hcopy hmarch hdeg hunw hexec
    rw [eq_onMach_of_memStep hexec]
    exact scpAccess_read_unwritten hw hlen hadmit hcopy hmarch hdeg hunw
  case masterWrite =>
    intro s t a b x hw hlen hb hadmit hcopy hmarch hdeg hexec
    have hpos : 0 < b.length := List.length_pos_iff.2 hb
    rw [eq_onMach_of_memStep hexec, State.onMach, scpAccess_write (m := { dev := s.dev, mem := s.mem }) hw hlen hadmit hcopy hmarch hdeg]
    simp only [Dev.emit_scp, Mach.scpWrite_written, Mach.scpWrite_readByte, mem_scpLines_of_pos hpos]
    refine ⟨fun l => by simp, ?_, fun hx => ?_⟩
    · rw [Nat.add_sub_cancel_left, Nat.add_sub_add_left]
      refine if_congr (by omega) rfl (if_congr ?_ rfl rfl)
      simp
      tauto
    · rw [if_neg (by omega), if_neg (by omega)]
  case cold =>
    intro s t ns l hns hexec
    rw [eq_onMach_of_memStep hexec, State.onMach]
    dsimp only
    rw [coldN_written_eq_nil hns]
    rfl
  case warm =>
    intro s t ns x hexec
    rw [eq_onMach_of_memStep hexec]
    obtain ⟨hwritten, hbytes⟩ := sameScratchpad_warmN ns { dev := s.dev, mem := s.mem }
    exact ⟨hwritten, hbytes x⟩

end Sys2Proof.Machine

namespace Sys2Proof.Machine

theorem eq_onDev_of_devStep {s t : State} {g : Dev → Dev} (h : devStep s g = .next t) : t = s.onDev g :=
  (Host.Outcome.next.inj h).symm

/-! ### Locks -/

theorem ownerId_ne_zero (u : LockUser) : ownerId u ≠ 0 := by
  cases u with
  | core c => simp [ownerId]
  | fn f =>
    simp only [ownerId]
    split <;> omega

/-- The grant comes first (R389). -/
theorem Lock.acquire_denied (l : Lock) (id life : Nat) : l.acquire false id life = (l, .denied) := rfl

theorem Lock.acquire_free {l : Lock} (h : l.owner = 0) (id life : Nat) :
    l.acquire true id life = ({ owner := id, life := life, broken := false }, if l.broken then .acquiredBroken else .acquired) := by
  simp [Lock.acquire, h]

theorem Lock.acquire_self {l : Lock} {id : Nat} (hid : id ≠ 0) (h : l.owner = id) (life : Nat) : l.acquire true id life = (l, .heldSelf) := by
  simp [Lock.acquire, h, hid]

theorem Lock.acquire_busy {l : Lock} {id : Nat} (hheld : l.owner ≠ 0) (h : l.owner ≠ id) (life : Nat) :
    l.acquire true id life = (l, .busy) := by
  simp [Lock.acquire, hheld, h]

/-- A read of LCK_ACQ_n stores the lock that the acquisition leaves and answers its lock word (R388). -/
theorem exec_lckAcq {s : State} {u : LockUser} {n : Fin 64} {g : Bool} {l : Lock} {r : AcqResult} (hg : s.dev.granted n (ownerId u) = g)
    (h : (s.dev.locks[n]).acquire g (ownerId u) (s.dev.rf (R.LCK_LIFE (lifeOfOwner (ownerId u))) F.LCK_LIFE_LIFE) = (l, r)) :
    exec (.lckAcq u n) s = .next { s with dev := { s.dev with
      locks := s.dev.locks.set n l
      outbox := .lockWord (ownerId u) (lockWord (r == .acquiredBroken) r.code l.life l.owner) :: s.dev.outbox } } := by
  subst hg
  change devStep s _ = _
  simp only [devStep, State.onDev, Dev.lockAcquire, h, Dev.emit]

/-- Settles O8: the grant, then the lock's owner, then its broken bit pick one result of Table 12.14 each (R389). -/
theorem lockAcquisition : Obligations.LockAcquisition := by
  intro s u n
  refine ⟨?denied, ?acquired, ?acquiredBroken, ?busy, ?heldSelf⟩
  case denied =>
    intro hg
    rw [exec_lckAcq hg (Lock.acquire_denied _ _ _)]
    rfl
  case acquired =>
    intro hg hfree hb
    rw [exec_lckAcq hg (Lock.acquire_free hfree _ _), hb]
    rfl
  case acquiredBroken =>
    intro hg hfree hb
    rw [exec_lckAcq hg (Lock.acquire_free hfree _ _), hb]
    rfl
  case busy =>
    intro hg hheld hother
    rw [exec_lckAcq hg (Lock.acquire_busy hheld hother _)]
    rfl
  case heldSelf =>
    intro hg hself
    rw [exec_lckAcq hg (Lock.acquire_self (ownerId_ne_zero u) hself _)]
    rfl

/-! ### Life counts -/

theorem Dev.rf_lt (d : Dev) (a : Nat) (f : Fld) : d.rf a f < 2 ^ f.width := BitVec.isLt _

/-- A life count after a rise (R387). -/
theorem Dev.raiseLife_life (d : Dev) (o : Nat) : (d.raiseLife o).rf (R.LCK_LIFE o) F.LCK_LIFE_LIFE =
    if d.rf (R.LCK_LIFE o) F.LCK_LIFE_LIFE = 0xFFFF then 1 else d.rf (R.LCK_LIFE o) F.LCK_LIFE_LIFE + 1 := by
  have hlt : d.rf (R.LCK_LIFE o) F.LCK_LIFE_LIFE < 2 ^ 16 := d.rf_lt _ F.LCK_LIFE_LIFE
  calc (d.raiseLife o).rf (R.LCK_LIFE o) F.LCK_LIFE_LIFE
      = (if d.rf (R.LCK_LIFE o) F.LCK_LIFE_LIFE = 0xFFFF then 1 else d.rf (R.LCK_LIFE o) F.LCK_LIFE_LIFE + 1) % 2 ^ 16 :=
        Dev.rf_setRf_same d _ _ _ (by decide)
    _ = _ := Nat.mod_eq_of_lt (by split <;> omega)

/-- A function's life count is its owner ID's (Table 12.13). -/
theorem ownerOfLife_lifeOfFunc (f : Func) : ownerOfLife (lifeOfFunc f) = ownerId (.fn f) := by
  revert f
  decide

theorem ownerOfLife_remote (c : Nat) : ownerOfLife (11 + c) = 0x40 + c := by
  rw [ownerOfLife, if_neg (by omega), if_neg (by omega), Nat.add_sub_cancel_left]

theorem RegsHost.locks_eq {d e : Dev} (h : RegsHost d e) : e.locks = d.locks := by
  obtain ⟨r, x, o, rfl⟩ := h
  rfl

/-- A function level reset breaks the function's locks and leaves the others (R366, R390). -/
theorem flr_lock (f : Func) (d : Dev) (n : Fin 64) : (flr f d).locks[n] =
    if (d.locks[n]).owner = ownerId (.fn f) then { owner := 0, life := 0, broken := true } else d.locks[n] := by
  unfold flr
  simp only [Dev.raiseLife_lock, Dev.updRing_locks, (Dev.resetRings_shape d f).locks_eq, ownerOfLife_lifeOfFunc]

/-- The lock word of a broken lock's acquisition has bit 31 set and RESULT ACQUIRED_BROKEN (Table 12.14). -/
theorem lockWord_acquiredBroken (life owner : Nat) :
    (lockWord true 1 life owner).getLsbD 31 = true ∧ (lockWord true 1 life owner).extractLsb' 28 3 = 1#3 := by
  have hword : (lockWord true 1 life owner).toNat = 2 ^ 31 + 2 ^ 28 + (life % 65536 * 256 + owner % 256) := by
    simp only [lockWord, b2n, BitVec.toNat_ofNat, if_true]
    omega
  constructor
  · rw [BitVec.getLsbD, hword, Nat.testBit_eq_decide_div_mod_eq, decide_eq_true_eq]
    omega
  · apply BitVec.eq_of_toNat_eq
    rw [BitVec.extractLsb'_toNat, hword, Nat.shiftRight_eq_div_pow, BitVec.toNat_ofNat]
    omega

/-- Settles O10: every reset raises a life count, and the rise alone frees and breaks the owner's locks (R390). -/
theorem resetsBreakLocks : Obligations.ResetsBreakLocks := by
  refine ⟨?rise, ?functionReset, ?resetNote, ?acquiredAfter⟩
  case rise => exact fun d o n _ => ⟨d.raiseLife_life o, d.raiseLife_lock o n⟩
  case functionReset =>
    intro s t f n hexec
    rw [eq_onDev_of_devStep hexec]
    exact flr_lock f s.dev n
  case resetNote =>
    intro s t c n hexec
    rw [eq_onDev_of_devStep hexec, State.onDev, Dev.resetNote]
    simp only [Dev.raiseLife_lock, Dev.bump_locks, ownerOfLife_remote]
  case acquiredAfter =>
    intro s u n hg hl
    have hfree : (s.dev.locks[n]).owner = 0 := by rw [hl]
    have hbroken : (s.dev.locks[n]).broken = true := by rw [hl]
    obtain ⟨_, _, hacquire, _, _⟩ := lockAcquisition s u n
    obtain ⟨hbit, hresult⟩ := lockWord_acquiredBroken (s.dev.rf (R.LCK_LIFE (lifeOfOwner (ownerId u))) F.LCK_LIFE_LIFE) (ownerId u)
    refine ⟨_, _, hacquire hg hfree hbroken, rfl, hbit, hresult, ?_, ?_⟩ <;> simp

/-! ### Doorbells -/

/-- A doorbell of ACTIVE rings that R375 does not let latch counts in MBX_DB_ERR and puts the rings into ERROR with reason DOORBELL. -/
theorem Dev.badDoorbell_of_active {d : Dev} {f : Func} (h : (d.ring f).st = .active) :
    d.badDoorbell f = ((d.setRf (R.MBX_DB_ERR f) F.MBX_DB_ERR_ERR (min (d.rf (R.MBX_DB_ERR f) F.MBX_DB_ERR_ERR + 1)
      (2 ^ F.MBX_DB_ERR_ERR.width - 1))).updRing f (fun x => { x with st := .error, reason := 2, quiesced := false })).vfEvent f := by
  rw [Dev.badDoorbell, Dev.dbErr, Dev.bump_one]
  exact if_pos h

/-- Rings that latch doorbells take a command producer index by R375's three cases. -/
theorem cmdDoorbell_of_latches {d : Dev} {f : Func} (h : (d.ring f).st.latches = true) (v : BitVec 32) :
    cmdDoorbell f v d = if v = (d.ring f).cmdPi then d
      else if (v - (d.ring f).cmdPi).toNat ≤ d.cmdSize f ∧ (v - (d.ring f).cmdCi).toNat ≤ d.cmdSize f then
        (d.updRing f (fun r => { r with cmdPi := v })).wakeSurveyor
      else d.badDoorbell f := by
  simp [cmdDoorbell, h]

theorem resDoorbell_of_latches {d : Dev} {f : Func} (h : (d.ring f).st.latches = true) (v : BitVec 32) :
    resDoorbell f v d = if v = (d.ring f).resCi then d
      else if (v - (d.ring f).resCi).toNat ≤ d.resSize f ∧ ((d.ring f).resPi - v).toNat ≤ d.resSize f then
        (d.updRing f (fun r => { r with resCi := v })).wakeSurveyor
      else d.badDoorbell f := by
  simp [resDoorbell, h]

theorem cplDoorbell_of_active {d : Dev} {f : Func} (h : (d.ring f).st = .active) (v : BitVec 32) :
    cplDoorbell f v d = if v = (d.ring f).cplCi then d
      else if (v - (d.ring f).cplCi).toNat ≤ d.cplSize f ∧ ((d.ring f).cplPi - v).toNat ≤ d.cplSize f then
        (d.updRing f (fun r => { r with cplCi := v })).wakeSurveyor.flushNotices f (d.ring f).notices
      else d.badDoorbell f := by
  simp [cplDoorbell, h, RingSt.latches]

/-- The outcome of a row that leaves the device, or does one thing, or another. -/
theorem devStep_ite {s : State} {p : Prop} {q : Bool} [Decidable p] {g a b : Dev → Dev}
    (h : g s.dev = if p then s.dev else if q = true then a s.dev else b s.dev) :
    devStep s g = .next (if p then s else if q then s.onDev a else s.onDev b) := by
  rw [devStep, State.onDev, h]
  split
  · rfl
  split <;> rfl

/-- Settles O11: of R375's cases a value that latches is the ring's update and a wake, which moves the power state alone (R440). -/
theorem doorbellsLatchWithinTheRing : Obligations.DoorbellsLatchWithinTheRing := by
  intro s f v hactive
  have hlatches : (s.dev.ring f).st.latches = true := by rw [hactive]; rfl
  have hbad := Dev.badDoorbell_of_active hactive
  refine ⟨?cmd, ?cpl, ?res⟩
  case cmd =>
    obtain ⟨p, hp⟩ := (s.dev.updRing f (fun x => { x with cmdPi := v })).wakeSurveyor_shape
    refine ⟨p, devStep_ite (g := cmdDoorbell f v) ?_⟩
    rw [cmdDoorbell_of_latches hlatches, hp, hbad]
    simp only [decide_eq_true_eq]
  case cpl =>
    obtain ⟨p, hp⟩ := (s.dev.updRing f (fun x => { x with cplCi := v })).wakeSurveyor_shape
    refine ⟨p, devStep_ite (g := cplDoorbell f v) ?_⟩
    rw [cplDoorbell_of_active hactive, hp, hbad]
    simp only [decide_eq_true_eq]
  case res =>
    obtain ⟨p, hp⟩ := (s.dev.updRing f (fun x => { x with resCi := v })).wakeSurveyor_shape
    refine ⟨p, devStep_ite (g := resDoorbell f v) ?_⟩
    rw [resDoorbell_of_latches hlatches, hp, hbad]
    simp only [decide_eq_true_eq]

/-! ### The bytes of a completion entry -/

theorem bits_eq_div_mod {n : Nat} (w : BitVec n) (hi lo : Nat) : bits w hi lo = w.toNat / 2 ^ lo % 2 ^ (hi + 1 - lo) := by
  rw [bits, BitVec.extractLsb'_toNat, Nat.shiftRight_eq_div_pow]

theorem extractLsb'_eq_of_toNat {n lo len : Nat} {w : BitVec n} {x : BitVec len} (h : w.toNat / 2 ^ lo % 2 ^ len = x.toNat) :
    w.extractLsb' lo len = x := by
  apply BitVec.eq_of_toNat_eq
  rw [BitVec.extractLsb'_toNat, Nat.shiftRight_eq_div_pow, h]

/-- PHASE as R379 gives it. -/
theorem phaseOf_eq_xor (index size : Nat) : phaseOf index size = (index / size % 2) ^^^ 1 := by
  rcases Nat.mod_two_eq_zero_or_one (index / size) with h | h <;> simp [phaseOf, h]

theorem phaseOf_le_one (index size : Nat) : phaseOf index size ≤ 1 := by
  unfold phaseOf
  split <;> omega

/-- No field of a completion entry runs over into another: the entry is the sum of its fields. -/
theorem cplEntry_toNat {phase : Nat} (hphase : phase ≤ 1) (opcode tag status idx : Nat) (r0 r1 : BitVec 64) (detail : BitVec 32)
    {kind : Nat} (hkind : kind < 2 ^ 15) : (cplEntry opcode tag status idx r0 r1 detail kind phase).toNat =
      opcode % 2 ^ 16 + 2 ^ 16 * (tag % 2 ^ 16) + 2 ^ 32 * (status % 2 ^ 16) + 2 ^ 48 * (idx % 2 ^ 16) + 2 ^ 64 * r0.toNat +
        2 ^ 128 * r1.toNat + 2 ^ 192 * detail.toNat + 2 ^ 224 * kind + 2 ^ 255 * phase := by
  have h0 := r0.isLt
  have h1 := r1.isLt
  have hd := detail.isLt
  simp only [cplEntry, BitVec.toNat_ofNat]
  omega

/-- The entry of a command's completion (R379). -/
def Cpl.entry (c : Cpl) (phase : Nat) : BitVec 256 :=
  cplEntry c.opcode c.tag c.status.code c.idx c.result0 c.result1 c.detail 0 phase

/-- The entry of a notice (R380). -/
def Notice.entry (n : Notice) (phase : Nat) : BitVec 256 := cplEntry 0 (min n.count 0xFFFF) 0 0 n.arg 0 0 n.kind phase

theorem Status.code_lt (st : Status) : st.code < 2 ^ 16 := by
  cases st <;> decide

/-- The fields of a command's completion (Table 12.10). -/
theorem Cpl.entry_fields (c : Cpl) {phase : Nat} (hphase : phase ≤ 1) :
    bits (c.entry phase) 15 0 = c.opcode % 2 ^ 16 ∧ bits (c.entry phase) 31 16 = c.tag % 2 ^ 16 ∧ bits (c.entry phase) 47 32 = c.status.code ∧
      bits (c.entry phase) 63 48 = c.idx % 2 ^ 16 ∧ (c.entry phase).extractLsb' 64 64 = c.result0 ∧
      (c.entry phase).extractLsb' 128 64 = c.result1 ∧ (c.entry phase).extractLsb' 192 32 = c.detail ∧ bits (c.entry phase) 254 224 = 0 ∧
      bits (c.entry phase) 255 255 = phase := by
  have h0 := c.result0.isLt
  have h1 := c.result1.isLt
  have hd := c.detail.isLt
  have hst := c.status.code_lt
  have hsum : (c.entry phase).toNat = _ := cplEntry_toNat hphase c.opcode c.tag c.status.code c.idx c.result0 c.result1 c.detail (kind := 0) (by decide)
  refine ⟨?opcode, ?tag, ?status, ?idx, extractLsb'_eq_of_toNat ?result0, extractLsb'_eq_of_toNat ?result1, extractLsb'_eq_of_toNat ?detail,
    ?reserved, ?phase⟩ <;> simp only [bits_eq_div_mod, hsum] <;> omega

/-- The fields of a notice of one occurrence (Table 12.10). -/
theorem Notice.entry_fields {kind phase : Nat} (hkind : kind < 7) (hphase : phase ≤ 1) (arg : BitVec 64) :
    let e := Notice.entry { kind := kind, count := 1, arg := arg } phase
    bits e 15 0 = 0 ∧ bits e 31 16 = 1 ∧ bits e 63 32 = 0 ∧ e.extractLsb' 64 64 = arg ∧ bits e 223 128 = 0 ∧ bits e 239 224 = kind ∧
      bits e 254 240 = 0 ∧ bits e 255 255 = phase := by
  have harg := arg.isLt
  have hsum : (Notice.entry { kind := kind, count := 1, arg := arg } phase).toNat = _ :=
    cplEntry_toNat hphase 0 1 0 0 arg 0#64 0#32 (kind := kind) (by omega)
  refine ⟨?opcode, ?tag, ?statusAndIndex, extractLsb'_eq_of_toNat ?argument, ?resultAndDetail, ?kind, ?reserved, ?phase⟩ <;>
    simp only [bits_eq_div_mod, hsum, BitVec.toNat_ofNat] <;> omega

/-! ### Where the engine writes an entry -/

/-- The engine puts an entry at CPL_PI, which rises by 1 (R379, R380). -/
def Dev.putEntry (d : Dev) (f : Func) (e : BitVec 256) : Dev :=
  (d.emit (.cplEntry f (d.ring f).cplPi.toNat (d.cplAddr f (d.ring f).cplPi.toNat) e)).updRing f (fun r => { r with cplPi := r.cplPi + 1 })

theorem Dev.putEntry_cplPi (d : Dev) (f : Func) (e : BitVec 256) : ((d.putEntry f e).ring f).cplPi = (d.ring f).cplPi + 1 := by
  simp [Dev.putEntry]

theorem Dev.putEntry_done (d : Dev) (f : Func) (e : BitVec 256) : ((d.putEntry f e).ring f).done = (d.ring f).done := by
  simp [Dev.putEntry]

theorem Dev.mem_outbox_putEntry (d : Dev) (f : Func) (e : BitVec 256) :
    Output.cplEntry f (d.ring f).cplPi.toNat (d.cplAddr f (d.ring f).cplPi.toNat) e ∈ (d.putEntry f e).outbox :=
  List.mem_cons_self

/-- CPL_PI and the finished commands of a function are as they were, and what has left the device stays in the outbox. -/
def KeepsEntries (f : Func) (d e : Dev) : Prop :=
  (e.ring f).cplPi = (d.ring f).cplPi ∧ (e.ring f).done = (d.ring f).done ∧ d.outbox ⊆ e.outbox

theorem KeepsEntries.refl (f : Func) (d : Dev) : KeepsEntries f d d := ⟨rfl, rfl, List.Subset.refl _⟩

theorem KeepsEntries.trans {f : Func} {a b c : Dev} (x : KeepsEntries f a b) (y : KeepsEntries f b c) : KeepsEntries f a c := by
  obtain ⟨hpi, hdone, hout⟩ := x
  obtain ⟨hpi', hdone', hout'⟩ := y
  exact ⟨hpi'.trans hpi, hdone'.trans hdone, List.Subset.trans hout hout'⟩

theorem PwrOnly.keepsEntries {d e : Dev} (h : PwrOnly d e) (f : Func) : KeepsEntries f d e := by
  obtain ⟨p, rfl⟩ := h
  exact KeepsEntries.refl f d

theorem Dev.emit_keepsEntries (d : Dev) (o : Output) (f : Func) : KeepsEntries f d (d.emit o) :=
  ⟨rfl, rfl, List.subset_cons_self _ _⟩

theorem Dev.signal_keepsEntries (d : Dev) (f g : Func) (vec : Nat) : KeepsEntries f d (d.signal g vec) := by
  unfold Dev.signal
  split
  · exact KeepsEntries.refl f d
  split
  · exact KeepsEntries.refl f d
  · exact d.emit_keepsEntries _ f

theorem Dev.interrupt_keepsEntries (d : Dev) (f g : Func) (s : IntSource) : KeepsEntries f d (d.interrupt g s) :=
  (d.emit_keepsEntries _ f).trans (Dev.signal_keepsEntries _ f g _)

/-- A change of what a ring has not signalled yet leaves its entries. -/
theorem Dev.updRing_unsignalled_keepsEntries (d : Dev) (f : Func) :
    KeepsEntries f d (d.updRing f (fun r => { r with cplUnsignalled := r.cplUnsignalled + 1 })) :=
  ⟨by simp, by simp, List.Subset.refl _⟩

/-- A completion is put at CPL_PI; the status block and the interrupt that follow keep it (R379, R385). -/
theorem Dev.writeCpl_keepsEntries (d : Dev) (f : Func) (c : Cpl) :
    KeepsEntries f (d.putEntry f (c.entry (phaseOf (d.ring f).cplPi.toNat (d.cplSize f)))) (d.writeCpl f c) := by
  unfold Dev.writeCpl
  dsimp only
  split
  · exact Dev.emit_keepsEntries _ _ f
  split
  · exact Dev.interrupt_keepsEntries _ f f _
  · exact (Dev.updRing_unsignalled_keepsEntries _ f).trans (Dev.emit_keepsEntries _ _ f)

/-- A notice is put at CPL_PI; the interrupt that follows keeps it (R380, R385). -/
theorem Dev.writeNotice_keepsEntries (d : Dev) (f : Func) (n : Notice) :
    KeepsEntries f (d.putEntry f (n.entry (phaseOf (d.ring f).cplPi.toNat (d.cplSize f)))) (d.writeNotice f n) :=
  Dev.interrupt_keepsEntries _ f f _

/-- A finished command of ACTIVE rings, or of rings in ERROR, with a slot free is taken off and its completion written. -/
theorem completionWrite_writes {d : Dev} {f : Func} {c : Cpl} {l : List Cpl} (hdone : (d.ring f).done = c :: l) (horphan : c.orphan = false)
    (hst : (d.ring f).st = .active ∨ (d.ring f).st = .error) (hslot : ((d.ring f).cplPi - (d.ring f).cplCi).toNat < d.cplSize f) :
    completionWrite (.fn f) d = (d.updRing f (fun r => { r with done := l })).writeCpl f c := by
  rcases hst with hst | hst <;> simp only [completionWrite, hdone, horphan, hst, reduceCtorEq, Bool.false_eq_true, or_self, if_false, if_pos hslot]

/-- A notice to ACTIVE rings with a slot free is written and wakes SURVEYOR (R380, R440). -/
theorem Dev.notice_writes {d : Dev} {f : Func} (hst : (d.ring f).st = .active) (hfree : 0 < d.cplFree f) (kind : Nat) (arg : BitVec 64) :
    d.notice f kind arg = (d.writeNotice f { kind := kind, count := 1, arg := arg }).wakeSurveyor := by
  rw [Dev.notice, if_neg (not_not.2 hst), if_pos hfree]

/-- Settles O15: both kinds are put at CPL_PI as one packed word, whose fields do not overlap (R379, R380). -/
theorem completionEntryLayout : Obligations.CompletionEntryLayout := by
  refine ⟨?completion, ?notice⟩
  case completion =>
    intro s t f c l hdone horphan hst hslot hexec
    rw [eq_onDev_of_devStep hexec, State.onDev, completionWrite_writes hdone horphan hst hslot, ← phaseOf_eq_xor]
    obtain ⟨hpi, hrest, hout⟩ := (s.dev.updRing f (fun r => { r with done := l })).writeCpl_keepsEntries f c
    rw [Dev.putEntry_cplPi, Dev.ring_upd_same] at hpi
    rw [Dev.putEntry_done, Dev.ring_upd_same] at hrest
    have hmem := hout (Dev.mem_outbox_putEntry _ f _)
    rw [Dev.ring_upd_same] at hmem
    exact ⟨hpi, hrest, _, hmem, c.entry_fields (phaseOf_le_one _ _)⟩
  case notice =>
    intro s t f k arg hk hst hfree hexec
    rw [eq_onDev_of_devStep hexec, State.onDev, if_neg hk, Dev.notice_writes hst hfree, ← phaseOf_eq_xor]
    obtain ⟨hpi, _, hout⟩ := (s.dev.writeNotice_keepsEntries f { kind := k.val, count := 1, arg := arg }).trans
      ((Dev.wakeSurveyor_shape _).keepsEntries f)
    rw [Dev.putEntry_cplPi] at hpi
    exact ⟨hpi, _, hout (s.dev.mem_outbox_putEntry f _), Notice.entry_fields k.isLt (phaseOf_le_one _ _) arg⟩

end Sys2Proof.Machine

namespace Sys2Proof.Machine

/-! ### What an outcome leaves of the queue and of memory -/

/-- An outcome that replaces device and memory keeps the queue. -/
theorem answers_of_next {s : State} {o : Host.Outcome State Fault Refusal} {d : Dev} {m : Mem} (h : o = .next { s with dev := d, mem := m }) :
    ∃ t, o = .next t ∧ t.pending = s.pending := ⟨_, h, rfl⟩

/-- An outcome that replaces the device alone keeps memory. -/
theorem mem_eq_of_next {s t : State} {o : Host.Outcome State Fault Refusal} {d : Dev} (ht : o = .next t) (h : o = .next { s with dev := d }) :
    t.mem = s.mem := by
  cases ht.symm.trans h
  rfl

/-- Settles O1: a step takes the front command off the queue and executes it. -/
theorem stepRunsTheFrontCommand : Obligations.StepRunsTheFrontCommand := by
  intro c rest s
  rw [step]

/-- Settles O4: memory is empty at reset. -/
theorem resetMemoryIsSound : Obligations.ResetMemoryIsSound := rfl

theorem exec_registerWrite_unmapped {a : BitVec 40} (h : regAt a.toNat = none) (v : BitVec 32) (s : State) :
    exec (.registerWrite a v) s = .fault (.unmappedRegister a.toNat) := by
  simp only [exec, execRegisterWrite, h]

theorem exec_registerWrite_mapped {a : BitVec 40} {r : RegAt} (h : regAt a.toNat = some r) (v : BitVec 32) (s : State) :
    exec (.registerWrite a v) s = memStep s (writeReg a.toNat r v) := by
  simp only [exec, execRegisterWrite, h]

/-- Settles O2: but for REGISTER_WRITE each row replaces the device, or the device and memory. -/
theorem everyCommandAnswers : Obligations.EveryCommandAnswers := by
  intro c s
  cases c
  case registerWrite a v =>
    cases h : regAt a.toNat with
    | none => exact .inr ⟨a, v, rfl, h, exec_registerWrite_unmapped h v s⟩
    | some r => exact .inl ⟨_, exec_registerWrite_mapped h v s, rfl⟩
  all_goals exact .inl (answers_of_next rfl)

/-- Settles O3: every row outside touchesMemory replaces the device alone. -/
theorem onlyMemoryRowsTouchMemory : Obligations.OnlyMemoryRowsTouchMemory := by
  intro c s t htouch hexec
  cases c
  case coldFetchResponse | weightLoad | atlasLoad | regRead | regWrite | domainEntryStage | tjSample | wakeReady | thermalRecovery
    | supplyUndervoltage | monitorWindow | relockDone | resonatorRestart | coldN | coldStart | warmN | warmStart | bootWatchdog | barAccess
    | commandStart | diagWrite | stackAccess | fillComplete | scratchpadAccess | scpBankCopyDone | marchDone | surveyorRecovery
    | guidelineWrite | panic | registerWrite | extest | bypass | faultedEraseTimeout => cases htouch
  all_goals exact mem_eq_of_next hexec rfl

end Sys2Proof.Machine

namespace Sys2Proof.Machine

/-! ### A waiting access outside the scratchpad -/

/-- A one-byte write just past the end of the scratchpad. -/
def strayWrite : ScpAccess := { m := 0, func := pf, off := scpBytes, len := 1, write := some [1], errs := [] }

/-- The reset state while bank 1 is being copied and the stray write waits, the end of the copy next in the queue. -/
def strayState : State :=
  { dev := { State.reset.dev with scp := { copying := some 1, waiting := [strayWrite] } }, mem := [], pending := [.scpBankCopyDone] }

/-- The end of the copy serves the waiting write, and stores its byte outside the scratchpad and the stacks' window. -/
theorem strayWrite_lands : (strayState.onMach scpCopyDone).mem = [(scpWindow + scpBytes, 1)] := by decide +kernel

/-- Refutes O5: an access that waits for a bank copy is served under the check that admitted it (R353, R356), and nothing in the statement
limits the accesses that a state may hold waiting: one past the scratchpad's end is stored there when the copy is done. -/
theorem not_memoryStaysSound : ¬ Obligations.MemoryStaysSound := by
  intro h
  have hsound := h strayState _ rfl rfl
  have hmem : ({ strayState with pending := [] }.onMach scpCopyDone).mem = [(scpWindow + scpBytes, 1)] := strayWrite_lands
  rw [hmem] at hsound
  exact absurd hsound (by decide)

end Sys2Proof.Machine

namespace Sys2Proof.Machine

/-! ### The register bank -/

theorem Dev.rf_setRf_apart (d : Dev) {a b : Nat} {f g : Fld} (v : Nat) (h : b ≠ a ∨ f.lo + f.width ≤ g.lo ∨ g.lo + g.width ≤ f.lo) :
    (d.setRf a f v).rf b g = d.rf b g := by
  by_cases hb : b = a
  · subst hb
    exact d.rf_setRf_field b v (h.resolve_left (not_not.2 rfl))
  · exact d.rf_setRf_ne hb f g v

/-- Settles O6: the bank is a sparse map, and a field is put under its own mask. -/
theorem registerBankReadsBack : Obligations.RegisterBankReadsBack := by
  constructor
  · intro d a b v
    split
    · next h => rw [h, Dev.reg_setReg_same]
    · next h => exact d.reg_setReg_ne h v
  · intro d a b f g v hf
    exact ⟨d.rf_setRf_same a f v hf, d.rf_setRf_apart v⟩

/-! ### Register writes, field by field -/

/-- What a write of `new` leaves in a field that held `old` (Table 0.8). -/
def fieldAfterWrite (c : Acc) (locked : Bool) (width old new : Nat) : Nat :=
  match c with
  | .rw => new
  | .rwl => if locked then old else new
  | .ro => old
  | .wo => old
  | .w1c => Nat.land old (2 ^ width - 1 - new)

theorem fget_lt {n : Nat} (f : Fld) (w : BitVec n) : fget f w < 2 ^ f.width := BitVec.isLt _

theorem land_lt_two_pow {x y n : Nat} (h : x < 2 ^ n) : Nat.land x y < 2 ^ n := Nat.lt_of_le_of_lt Nat.and_le_left h

theorem fget_writeField_same {f : Fld} (hf : f.lo + f.width ≤ 32) (c : Acc) (locked : Bool) (v w : Word) :
    fget f (writeField locked v w (f, c)) = fieldAfterWrite c locked f.width (fget f w) (fget f v) := by
  have hput (x : Nat) (hx : x < 2 ^ f.width) : fget f (fput f w x) = x := by rw [fget_fput_same w x hf, Nat.mod_eq_of_lt hx]
  cases c with
  | rw => exact hput _ (fget_lt f v)
  | rwl =>
    cases locked with
    | true => rfl
    | false => exact hput _ (fget_lt f v)
  | ro => rfl
  | wo => rfl
  | w1c => exact hput _ (land_lt_two_pow (fget_lt f w))

theorem fget_writeField_apart {f g : Fld} (h : f.lo + f.width ≤ g.lo ∨ g.lo + g.width ≤ f.lo) (c : Acc) (locked : Bool) (v w : Word) :
    fget g (writeField locked v w (f, c)) = fget g w := by
  cases c with
  | rw => exact fget_fput_ne w _ h
  | rwl =>
    cases locked with
    | true => rfl
    | false => exact fget_fput_ne w _ h
  | ro => rfl
  | wo => rfl
  | w1c => exact fget_fput_ne w _ h

theorem fieldsApart_cons {f : Fld} {c : Acc} {l : List (Fld × Acc)} : fieldsApart ((f, c) :: l) = true ↔
    f.lo + f.width ≤ 32 ∧ (∀ e ∈ l, f.lo + f.width ≤ e.1.lo ∨ e.1.lo + e.1.width ≤ f.lo) ∧ fieldsApart l = true := by
  simp only [fieldsApart, Bool.and_eq_true, decide_eq_true_eq, List.all_eq_true, and_assoc]

/-- Writing fields that lie apart from a field leaves it. -/
theorem fget_foldl_writeField_apart {g : Fld} (locked : Bool) (v : Word) (l : List (Fld × Acc)) (w : Word)
    (h : ∀ e ∈ l, g.lo + g.width ≤ e.1.lo ∨ e.1.lo + e.1.width ≤ g.lo) : fget g (l.foldl (writeField locked v) w) = fget g w := by
  induction l generalizing w with
  | nil => rfl
  | cons e t ih =>
    obtain ⟨he, ht⟩ := List.forall_mem_cons.1 h
    rw [List.foldl_cons, ih _ ht, fget_writeField_apart he.symm]

/-- Each field of fields that lie apart follows its own code, whatever the others do. -/
theorem fget_foldl_writeField {f : Fld} {c : Acc} (locked : Bool) (v : Word) (l : List (Fld × Acc)) (w : Word) (hl : fieldsApart l = true)
    (hmem : (f, c) ∈ l) : fget f (l.foldl (writeField locked v) w) = fieldAfterWrite c locked f.width (fget f w) (fget f v) := by
  induction l generalizing w with
  | nil => cases hmem
  | cons e t ih =>
    obtain ⟨hin, hapart, ht⟩ := fieldsApart_cons.1 hl
    rw [List.foldl_cons]
    rcases List.mem_cons.1 hmem with rfl | hmem
    · rw [fget_foldl_writeField_apart locked v t _ hapart, fget_writeField_same hin]
    · rw [ih _ ht hmem, fget_writeField_apart (hapart _ hmem)]

/-- What holds of every register of every block holds of the register found at an address. -/
theorem firstSome_eq_some {α β : Type} {f : α → Option β} {y : β} : ∀ {l : List α}, firstSome f l = some y → ∃ x ∈ l, f x = some y
  | x :: t, h => by
    unfold firstSome at h
    split at h
    · next z hz => exact ⟨x, List.mem_cons_self, hz.trans h⟩
    · obtain ⟨x', hx', hf⟩ := firstSome_eq_some h
      exact ⟨x', List.mem_cons_of_mem _ hx', hf⟩

theorem regAt_mem {a : Nat} {r : RegAt} (h : regAt a = some r) : ∃ b ∈ blocks, r.spec ∈ b.regs := by
  obtain ⟨b, hb, hfind⟩ := firstSome_eq_some h
  split at hfind
  · cases hfind
  · obtain ⟨x, hx, hmap⟩ := firstSome_eq_some hfind
    obtain ⟨j, -, rfl⟩ := Option.map_eq_some_iff.1 hmap
    exact ⟨b, hb, hx⟩

/-- Table by table: the fields of every register of the map lie apart, within 32 bits. -/
theorem blocks_fieldsApart : ∀ b ∈ blocks, ∀ r ∈ b.regs, fieldsApart r.fields = true := by
  decide +kernel

/-- Settles O7: the map's fields lie apart, so each follows its own access code. -/
theorem fieldsFollowTheirCodes : Obligations.FieldsFollowTheirCodes := by
  intro a r hr
  obtain ⟨b, hb, hmem⟩ := regAt_mem hr
  have hapart := blocks_fieldsApart b hb _ hmem
  refine ⟨hapart, fun locked old v f c hfc => ?_⟩
  rw [RegSpec.written, fget_foldl_writeField locked v _ old hapart hfc]
  cases c <;> rfl

/-! ### Locks -/

theorem Dev.lockRelease_owner {d : Dev} {n : Fin 64} {id : Nat} {rel : Bool} (hrel : rel = true) (hown : (d.locks[n]).owner = id) :
    d.lockRelease n id rel = { d with locks := d.locks.set n {} } := if_pos ⟨hrel, hown⟩

theorem Dev.lockRelease_other {d : Dev} {n : Fin 64} {id : Nat} {rel : Bool} (h : ¬(rel = true ∧ (d.locks[n]).owner = id)) :
    d.lockRelease n id rel = d.bump R.LCK_BAD_REL F.LCK_BAD_REL_BAD := if_neg h

end Sys2Proof.Machine

namespace Sys2Proof
open Machine

/-- Settles O9: the owner's write with bit 0 frees the lock, and every other write counts alone (R388). -/
theorem lockRelease : Obligations.LockRelease := by
  intro s u n v
  constructor
  · rintro ⟨hown, hrel⟩
    exact congrArg (fun d => Host.Outcome.next { s with dev := d }) (Dev.lockRelease_owner hrel hown)
  · intro h
    rw [← Dev.bump_one]
    exact congrArg (fun d => Host.Outcome.next { s with dev := d }) (Dev.lockRelease_other (fun hx => h hx.symm))

end Sys2Proof

namespace Sys2Proof.Machine

/-! ### The rings under the ring engine's operations -/

theorem Dev.ring_eq_of_rings {d e : Dev} (h : e.host.rings = d.host.rings) (f : Func) : e.ring f = d.ring f := by
  rw [Dev.ring, Dev.ring, h]

@[simp] theorem Dev.signal_rings (d : Dev) (f : Func) (v : Nat) : (d.signal f v).host.rings = d.host.rings := by
  unfold Dev.signal
  split
  · rfl
  split <;> rfl

@[simp] theorem Dev.interrupt_rings (d : Dev) (f : Func) (s : IntSource) : (d.interrupt f s).host.rings = d.host.rings :=
  Dev.signal_rings _ _ _

@[simp] theorem Dev.vfEvent_rings (d : Dev) (f : Func) : (d.vfEvent f).host.rings = d.host.rings := by
  unfold Dev.vfEvent
  split
  · exact Dev.signal_rings _ _ _
  · rfl

/-- Only the register bank, the host interface and the outbox differ, and of the rings only one function's. -/
def OwnRing (f : Func) (d e : Dev) : Prop := RegsHost d e ∧ ∀ g, g ≠ f → e.ring g = d.ring g

/-- As OwnRing, with the function's ring state kept. -/
def KeepsRingSt (f : Func) (d e : Dev) : Prop := OwnRing f d e ∧ (e.ring f).st = (d.ring f).st

theorem OwnRing.trans {f : Func} {a b c : Dev} (x : OwnRing f a b) (y : OwnRing f b c) : OwnRing f a c :=
  ⟨x.1.trans y.1, fun g hg => (y.2 g hg).trans (x.2 g hg)⟩

theorem KeepsRingSt.trans {f : Func} {a b c : Dev} (x : KeepsRingSt f a b) (y : KeepsRingSt f b c) : KeepsRingSt f a c :=
  ⟨x.1.trans y.1, y.2.trans x.2⟩

theorem KeepsRingSt.of_rings {d e : Dev} (hshape : RegsHost d e) (hrings : e.host.rings = d.host.rings) (f : Func) : KeepsRingSt f d e :=
  ⟨⟨hshape, fun _ _ => Dev.ring_eq_of_rings hrings _⟩, by rw [Dev.ring_eq_of_rings hrings]⟩

theorem KeepsRingSt.refl (f : Func) (d : Dev) : KeepsRingSt f d d := .of_rings (.refl d) rfl f

theorem Dev.updRing_own (d : Dev) (f : Func) (u : Rings → Rings) : OwnRing f d (d.updRing f u) :=
  ⟨(d.updRing_shape f u).regsHost, fun _ hg => d.ring_upd_ne hg u⟩

/-- An update that keeps the ring state. -/
theorem Dev.updRing_keepsSt (d : Dev) (f : Func) {u : Rings → Rings} (h : ∀ r, (u r).st = r.st := by intro _; rfl) : KeepsRingSt f d (d.updRing f u) :=
  ⟨d.updRing_own f u, by rw [Dev.ring_upd_same, h]⟩

theorem KeepsRingSt.of_set {f : Func} {d e : Dev} {r : Rings} (hshape : RegsHost d e) (hrings : e.host.rings = d.host.rings.set f r)
    (hst : r.st = (d.ring f).st) : KeepsRingSt f d e := by
  have hring (g : Func) : e.ring g = (d.updRing f fun _ => r).ring g := Dev.ring_eq_of_rings hrings g
  exact ⟨⟨hshape, fun g hg => (hring g).trans (d.ring_upd_ne hg _)⟩, by rw [hring, Dev.ring_upd_same, hst]⟩

theorem Dev.setRf_keepsSt (d : Dev) (a : Nat) (x : Fld) (v : Nat) (f : Func) : KeepsRingSt f d (d.setRf a x v) :=
  .of_rings (d.setRf_shape a x v) rfl f

theorem Dev.bump_keepsSt (d : Dev) (a : Nat) (x : Fld) (f : Func) : KeepsRingSt f d (d.bump a x) := .of_rings (d.bump_shape a x 1) (by rw [Dev.bump_host]) f

theorem Dev.vfEvent_keepsSt (d : Dev) (f g : Func) : KeepsRingSt f d (d.vfEvent g) := .of_rings (d.vfEvent_shape g).regsHost (d.vfEvent_rings g) f

theorem Dev.interrupt_keepsSt (d : Dev) (f g : Func) (s : IntSource) : KeepsRingSt f d (d.interrupt g s) :=
  .of_rings (d.interrupt_shape g s).regsHost (d.interrupt_rings g s) f

theorem Dev.clearRingRegs_keepsSt (d : Dev) (f g : Func) : KeepsRingSt f d (d.clearRingRegs g) := .of_rings (d.clearRingRegs_shape g) rfl f

theorem Dev.orphanAll_keepsSt (d : Dev) (f : Func) : KeepsRingSt f d (d.orphanAll f) :=
  .of_set (d.orphanAll_shape f).regsHost rfl rfl

theorem Dev.writeNotice_keepsSt (d : Dev) (f : Func) (n : Notice) : KeepsRingSt f d (d.writeNotice f n) :=
  ((KeepsRingSt.of_rings (d.emit_shape _).regsHost rfl f).trans (Dev.updRing_keepsSt _ f)).trans (Dev.interrupt_keepsSt _ f f _)

theorem Dev.flushNotices_keepsSt (f : Func) : ∀ (l : List Notice) (d : Dev), KeepsRingSt f d (d.flushNotices f l)
  | [], d => d.updRing_keepsSt f
  | n :: t, d => by
    unfold Dev.flushNotices
    split
    · exact (d.writeNotice_keepsSt f n).trans (Dev.flushNotices_keepsSt f t _)
    · exact d.updRing_keepsSt f

/-- The firmware's master regions of a VF lie in the register bank (R356). -/
theorem Dev.vfRegions_regsHost (d : Dev) (f : Func) : RegsHost d (d.vfRegions f) ∧ (d.vfRegions f).host.rings = d.host.rings := by
  have loop {α : Type} {u : α → Dev → Dev} (hu : ∀ x d, RegsHost d (u x d) ∧ (u x d).host.rings = d.host.rings) (l : List α) (d : Dev) :
      RegsHost d (d.forEach l u) ∧ (d.forEach l u).host.rings = d.host.rings :=
    Dev.forEach_rel (P := fun d e => RegsHost d e ∧ e.host.rings = d.host.rings) (fun d => ⟨.refl d, rfl⟩)
      (fun x y => ⟨x.1.trans y.1, y.2.trans x.2⟩) hu l d
  unfold Dev.vfRegions
  dsimp only
  split
  · exact ⟨.refl d, rfl⟩
  have hclear := loop (u := fun j d => d.setReg (R.SCP_MRG_ATTR j) 0) (fun _ d => ⟨d.setReg_shape _ _, rfl⟩)
    (((List.range 16).map (fun r => 32 + r)).filter (fun j => d.rf (R.SCP_MRG_ATTR j) F.SCP_MRG_ATTR_FUNC == f.val)) d
  split
  · exact hclear
  · refine (loop (fun e d => ?_) _ _).imp hclear.1.trans fun h => h.trans hclear.2
    split
    · exact ⟨.refl d, rfl⟩
    split
    · exact ⟨.refl d, rfl⟩
    · exact ⟨⟨_, _, _, rfl⟩, rfl⟩

theorem Dev.vfRegions_keepsSt (d : Dev) (f g : Func) : KeepsRingSt f d (d.vfRegions g) :=
  .of_rings (d.vfRegions_regsHost g).1 (d.vfRegions_regsHost g).2 f

/-! ### Ring states -/

/-- The state that quiescing leaves (Table 12.12). -/
def RingSt.quiesced (st : RingSt) : RingSt := if st = .active ∨ st = .error then .quiescing else st

theorem RingSt.quiesced_idem (st : RingSt) : st.quiesced.quiesced = st.quiesced := by cases st <;> rfl

theorem ringMoves_refl (st : RingSt) : ringMoves st st = true := by cases st <;> rfl

theorem ringMoves_quiesced (st : RingSt) : ringMoves st st.quiesced = true := by cases st <;> rfl

theorem Dev.quiesce_own (d : Dev) (f : Func) : OwnRing f d (d.quiesce f) := by
  unfold Dev.quiesce
  dsimp only
  split
  · exact ((d.setRf_keepsSt _ _ _ f).trans (Dev.orphanAll_keepsSt _ f)).1.trans (Dev.updRing_own _ f _)
  · exact (d.setRf_keepsSt _ _ _ f).1

theorem Dev.quiesce_st (d : Dev) (f : Func) : ((d.quiesce f).ring f).st = (d.ring f).st.quiesced := by
  unfold Dev.quiesce RingSt.quiesced
  dsimp only
  rw [Dev.setRf_ring]
  split
  · rw [Dev.ring_upd_same]
  · rw [Dev.setRf_ring]

theorem Dev.ringError_own (d : Dev) (f : Func) (r : Nat) : OwnRing f d (d.ringError f r) :=
  (d.updRing_own f _).trans (Dev.vfEvent_keepsSt _ f f).1

theorem Dev.ringError_st (d : Dev) (f : Func) (r : Nat) : ((d.ringError f r).ring f).st = .error := by
  rw [Dev.ringError, (Dev.vfEvent_keepsSt _ f f).2, Dev.ring_upd_same]

/-- A PCIe reset quiesces the rings; what follows keeps their state (Table 12.3). -/
theorem Dev.resetRings_own (d : Dev) (f : Func) : OwnRing f d (d.resetRings f) ∧ ((d.resetRings f).ring f).st = (d.ring f).st.quiesced := by
  have key {e : Dev} (h : KeepsRingSt f (d.quiesce f) e) : OwnRing f d e ∧ (e.ring f).st = (d.ring f).st.quiesced :=
    ⟨(d.quiesce_own f).trans h.1, h.2.trans (d.quiesce_st f)⟩
  unfold Dev.resetRings
  dsimp only
  split
  · exact key (Dev.clearRingRegs_keepsSt _ f f)
  · exact key (Dev.updRing_keepsSt _ f)

/-! ### The wake of SURVEYOR -/

section
variable {d e : Dev} (h : e.pwr = d.pwr)
include h

theorem Dev.domSt_congr (i : Nat) : e.domSt i = d.domSt i := by rw [Dev.domSt, Dev.domSt, h]

theorem Dev.updDom_pwr_congr (i : Nat) (u : Dom → Dom) : (e.updDom i u).pwr = (d.updDom i u).pwr := by
  unfold Dev.updDom
  split
  · simp only [h]
  · exact h

theorem Dev.beginWake_pwr_congr (i : Nat) : (e.beginWake i).pwr = (d.beginWake i).pwr := by
  unfold Dev.beginWake
  rw [Dev.domSt_congr h]
  split
  · exact Dev.updDom_pwr_congr h i _
  · simp only [Dev.updDom_pwr_congr h i _]
  · exact Dev.updDom_pwr_congr h i _
  · exact h

theorem Dev.forEach_beginWake_pwr_congr (l : List Nat) :
    (e.forEach l (fun j d => d.beginWake j)).pwr = (d.forEach l (fun j d => d.beginWake j)).pwr := by
  induction l generalizing d e with
  | nil => exact h
  | cons i t ih => exact ih (Dev.beginWake_pwr_congr h i)

theorem Dev.grantRamps_pwr_congr : e.grantRamps.pwr = d.grantRamps.pwr := by
  simp only [Dev.grantRamps, Dev.wakingFromOff, Dev.domSt, Dev.domPrior, h]

theorem Dev.wakeEvent_pwr_congr (i : Nat) : (e.wakeEvent i).pwr = (d.wakeEvent i).pwr := by
  have hentry : e.inEntry i = d.inEntry i := by rw [Dev.inEntry, Dev.inEntry, h]
  have hpolicy : e.domPolicy i = d.domPolicy i := by rw [Dev.domPolicy, Dev.domPolicy, h]
  unfold Dev.wakeEvent Dev.demandWake Dev.startWake
  rw [Dev.domSt_congr h, hentry, hpolicy]
  split
  · exact h
  split
  · exact Dev.updDom_pwr_congr h i _
  split
  · exact h
  · exact Dev.grantRamps_pwr_congr (Dev.forEach_beginWake_pwr_congr h _)

/-- The wake of SURVEYOR depends on the power state alone. -/
theorem Dev.wakeSurveyor_pwr_congr : e.wakeSurveyor.pwr = d.wakeSurveyor.pwr := by
  unfold Dev.wakeSurveyor
  rw [Dev.domSt_congr h]
  split
  · exact h
  · exact Dev.wakeEvent_pwr_congr h 1

end

/-! ### What a row of the host interface can do -/

/-- Only the register bank, the host interface, the outbox and the locks differ, and the power state by a wake of SURVEYOR (R440). -/
def HostRow (d e : Dev) : Prop :=
  ∃ r h o l p, e = { d with regs := r, host := h, outbox := o, locks := l, pwr := p } ∧ (p = d.pwr ∨ p = d.wakeSurveyor.pwr)

theorem RegsHost.pwr_eq {d e : Dev} (h : RegsHost d e) : e.pwr = d.pwr := by
  obtain ⟨r, x, o, rfl⟩ := h
  rfl

theorem RegsHost.hostRow {d e : Dev} (h : RegsHost d e) : HostRow d e := by
  obtain ⟨r, x, o, rfl⟩ := h
  exact ⟨r, x, o, d.locks, d.pwr, rfl, .inl rfl⟩

theorem HostRow.trans_regsHost {d e e' : Dev} (h : HostRow d e) (k : RegsHost e e') : HostRow d e' := by
  obtain ⟨r, x, o, l, p, rfl, hp⟩ := h
  obtain ⟨r', x', o', rfl⟩ := k
  exact ⟨r', x', o', l, p, rfl, hp⟩

theorem RegsHost.hostRow_wake {d e : Dev} (h : RegsHost d e) : HostRow d e.wakeSurveyor := by
  have hp : e.wakeSurveyor.pwr = d.wakeSurveyor.pwr := Dev.wakeSurveyor_pwr_congr h.pwr_eq
  obtain ⟨p, hw⟩ := e.wakeSurveyor_shape
  obtain ⟨r, x, o, rfl⟩ := h
  rw [hw] at hp ⊢
  exact ⟨r, x, o, d.locks, p, rfl, .inr hp⟩

/-- A rise of a life count frees locks; the rest of it is the register bank. -/
theorem HostRow.raiseLife {d e : Dev} (h : HostRow d e) (o : Nat) : HostRow d (e.raiseLife o) := by
  obtain ⟨r, x, q, l, p, rfl, hp⟩ := h
  exact ⟨_, x, q, _, p, rfl, hp⟩

/-- What a row of function `f` can do: its frame, its own ring state's move, and the locks of `f` alone. -/
structure FuncRow (f : Func) (d e : Dev) : Prop where
  frame : HostRow d e
  others : ∀ g, g ≠ f → e.ring g = d.ring g
  moves : ringMoves (d.ring f).st (e.ring f).st = true
  locks : ∀ n : Fin 64, (d.locks[n]).owner ≠ ownerId (.fn f) → e.locks[n] = d.locks[n]

theorem RegsHost.locks_same {d e : Dev} (h : RegsHost d e) (n : Fin 64) : e.locks[n] = d.locks[n] := by
  obtain ⟨r, x, o, rfl⟩ := h
  rfl

theorem OwnRing.funcRow {f : Func} {d e : Dev} (h : OwnRing f d e) (hm : ringMoves (d.ring f).st (e.ring f).st = true) : FuncRow f d e :=
  ⟨h.1.hostRow, h.2, hm, fun n _ => h.1.locks_same n⟩

theorem KeepsRingSt.funcRow {f : Func} {d e : Dev} (h : KeepsRingSt f d e) : FuncRow f d e :=
  h.1.funcRow (by rw [h.2]; exact ringMoves_refl _)

/-- A row that keeps the ring state and wakes SURVEYOR. -/
theorem KeepsRingSt.funcRow_wake {f : Func} {d e : Dev} (h : KeepsRingSt f d e) : FuncRow f d e.wakeSurveyor := by
  have hframe := h.1.1.hostRow_wake
  obtain ⟨p, hw⟩ := e.wakeSurveyor_shape
  have hrow := h.funcRow
  rw [hw] at hframe ⊢
  exact ⟨hframe, hrow.others, hrow.moves, hrow.locks⟩

theorem FuncRow.trans_keeps {f : Func} {a b c : Dev} (x : FuncRow f a b) (y : KeepsRingSt f b c) : FuncRow f a c :=
  ⟨x.frame.trans_regsHost y.1.1, fun g hg => (y.1.2 g hg).trans (x.others g hg), by rw [y.2]; exact x.moves,
    fun n hn => (y.1.1.locks_same n).trans (x.locks n hn)⟩

/-! ### One lemma for each row of a function -/

theorem flr_funcRow (f : Func) (d : Dev) : FuncRow f d (flr f d) := by
  obtain ⟨hown, hst⟩ := d.resetRings_own f
  have hkeep : KeepsRingSt f (d.resetRings f) ((d.resetRings f).updRing f (fun r => { r with flr := r.resetOnOff })) :=
    Dev.updRing_keepsSt _ f
  have hall := hown.trans hkeep.1
  refine ⟨hall.1.hostRow.raiseLife _, hall.2, ?_, fun n hn => ?_⟩
  · have hflr : ((flr f d).ring f).st = (d.ring f).st.quiesced := hkeep.2.trans hst
    rw [hflr]
    exact ringMoves_quiesced _
  · exact (flr_lock f d n).trans (if_neg hn)

theorem d3hot_funcRow (f : Func) (d : Dev) : FuncRow f d ((d.quiesce f).updRing f (fun r => { r with d3 := true })) :=
  ((d.quiesce_own f).funcRow (by rw [d.quiesce_st f]; exact ringMoves_quiesced _)).trans_keeps (Dev.updRing_keepsSt _ f)

theorem badDoorbell_funcRow (f : Func) (d : Dev) : FuncRow f d (d.badDoorbell f) := by
  have hcount := d.bump_keepsSt (R.MBX_DB_ERR f) F.MBX_DB_ERR_ERR f
  unfold Dev.badDoorbell Dev.dbErr
  dsimp only
  split
  · next hst =>
    refine (hcount.1.trans (Dev.ringError_own _ f 2)).funcRow ?_
    rw [Dev.ringError_st, ← hcount.2, hst]
    rfl
  · exact hcount.funcRow

theorem cmdDoorbell_funcRow (f : Func) (v : BitVec 32) (d : Dev) : FuncRow f d (cmdDoorbell f v d) := by
  unfold cmdDoorbell
  dsimp only
  split
  · exact (KeepsRingSt.refl f d).funcRow
  split
  · exact (d.updRing_keepsSt f).funcRow_wake
  · exact badDoorbell_funcRow f d

theorem resDoorbell_funcRow (f : Func) (v : BitVec 32) (d : Dev) : FuncRow f d (resDoorbell f v d) := by
  unfold resDoorbell
  dsimp only
  split
  · exact (KeepsRingSt.refl f d).funcRow
  split
  · exact (d.updRing_keepsSt f).funcRow_wake
  · exact badDoorbell_funcRow f d

theorem cplDoorbell_funcRow (f : Func) (v : BitVec 32) (d : Dev) : FuncRow f d (cplDoorbell f v d) := by
  have hlatch : FuncRow f d (d.updRing f (fun r => { r with cplCi := v })).wakeSurveyor := (d.updRing_keepsSt f).funcRow_wake
  unfold cplDoorbell
  dsimp only
  split
  · exact (KeepsRingSt.refl f d).funcRow
  split
  · split
    · exact hlatch.trans_keeps (Dev.flushNotices_keepsSt f _ _)
    · exact hlatch
  · exact badDoorbell_funcRow f d

theorem ringEnable_funcRow (f : Func) (d : Dev) : FuncRow f d (ringEnable f d) := by
  have hset := d.setRf_keepsSt (R.MBX_RING_CTL f) F.MBX_RING_CTL_EN 1 f
  unfold ringEnable
  dsimp only
  split
  · next hoff =>
    split
    · refine (hset.1.trans (Dev.updRing_own _ f _)).funcRow ?_
      rw [Dev.ring_upd_same, hoff]
      rfl
    · refine (hset.1.trans (Dev.ringError_own _ f 1)).funcRow ?_
      rw [Dev.ringError_st, hoff]
      rfl
  · exact (KeepsRingSt.refl f d).funcRow

theorem ringDisable_funcRow (f : Func) (d : Dev) : FuncRow f d (d.quiesce f) :=
  (d.quiesce_own f).funcRow (by rw [d.quiesce_st f]; exact ringMoves_quiesced _)

theorem quiesceComplete_funcRow (f : Func) (d : Dev) : FuncRow f d ((quiesceComplete f d).vfRegions f) := by
  refine FuncRow.trans_keeps ?_ (Dev.vfRegions_keepsSt _ f f)
  unfold quiesceComplete
  dsimp only
  split
  · next hq =>
    refine FuncRow.trans_keeps ?_ (Dev.vfEvent_keepsSt _ f f)
    have hoff (u : Rings → Rings) (hu : ∀ r, (u r).st = .off) : FuncRow f d (d.updRing f u) :=
      (d.updRing_own f u).funcRow (by rw [Dev.ring_upd_same, hu, hq]; rfl)
    split
    · exact (hoff _ fun _ => rfl).trans_keeps (Dev.clearRingRegs_keepsSt _ f f)
    · exact hoff _ fun _ => rfl
  · exact (KeepsRingSt.refl f d).funcRow

theorem commandFetch_funcRow (f : Func) (r : FetchResult) (d : Dev) : FuncRow f d (commandFetch f r d) := by
  unfold commandFetch
  split
  · exact (KeepsRingSt.refl f d).funcRow
  · next hready =>
    have hactive : (d.ring f).st = .active := by
      simp only [Dev.fetchReady, Bool.not_eq_true', Bool.not_eq_false, Bool.and_eq_true, beq_iff_eq] at hready
      exact hready.1.1.1
    cases r with
    | failed =>
      dsimp only
      split
      · exact (d.ringError_own f 3).funcRow (by rw [Dev.ringError_st, hactive]; rfl)
      · exact (KeepsRingSt.refl f d).funcRow
    | got desc =>
      dsimp only
      split
      · exact KeepsRingSt.funcRow (KeepsRingSt.of_set ⟨_, _, _, rfl⟩ rfl rfl)
      · exact (KeepsRingSt.refl f d).funcRow

theorem notice_funcRow (f : Func) (kind : Nat) (arg : BitVec 64) (d : Dev) : FuncRow f d (d.notice f kind arg) := by
  unfold Dev.notice
  split
  · exact (KeepsRingSt.refl f d).funcRow
  split
  · exact (d.writeNotice_keepsSt f _).funcRow_wake
  · exact (d.updRing_keepsSt f).funcRow_wake

/-- A timer clears a count of what is unsignalled and signals it (R385). -/
theorem coalesceTimer_funcRow (f : Func) {u : Rings → Rings} (s : IntSource) (d : Dev) (hu : ∀ r, (u r).st = r.st := by intro _; rfl) :
    FuncRow f d ((d.updRing f u).interrupt f s) :=
  ((d.updRing_keepsSt f hu).trans (Dev.interrupt_keepsSt _ f f s)).funcRow

theorem ite_funcRow {f : Func} {p : Prop} [Decidable p] {d e : Dev} (h : FuncRow f d e) : FuncRow f d (if p then e else d) := by
  split
  · exact h
  · exact (KeepsRingSt.refl f d).funcRow

/-- A row of a function acts on the device alone, as FuncRow says. -/
theorem funcRow_of_exec {c : Instr} {f : Func} (hc : functionOf c = some f) (s : State) :
    ∃ e, exec c s = .next { s with dev := e } ∧ FuncRow f s.dev e := by
  cases c
  case flr => cases hc; exact ⟨_, rfl, flr_funcRow f s.dev⟩
  case d3hot => cases hc; exact ⟨_, rfl, d3hot_funcRow f s.dev⟩
  case mbxCmdPiDb v => cases hc; exact ⟨_, rfl, cmdDoorbell_funcRow f v s.dev⟩
  case mbxCplCiDb v => cases hc; exact ⟨_, rfl, cplDoorbell_funcRow f v s.dev⟩
  case mbxResCiDb v => cases hc; exact ⟨_, rfl, resDoorbell_funcRow f v s.dev⟩
  case ringEnable => cases hc; exact ⟨_, rfl, ringEnable_funcRow f s.dev⟩
  case ringDisable => cases hc; exact ⟨_, rfl, ringDisable_funcRow f s.dev⟩
  case quiesceComplete => cases hc; exact ⟨_, rfl, quiesceComplete_funcRow f s.dev⟩
  case commandFetch r => cases hc; exact ⟨_, rfl, commandFetch_funcRow f r s.dev⟩
  case notice kind arg =>
    cases hc
    refine ⟨_, rfl, ?_⟩
    split
    · exact (KeepsRingSt.refl f s.dev).funcRow
    · exact notice_funcRow f kind.val arg s.dev
  case cplCoalesceTimer => cases hc; exact ⟨_, rfl, ite_funcRow (coalesceTimer_funcRow f .cpl s.dev)⟩
  case resCoalesceTimer => cases hc; exact ⟨_, rfl, ite_funcRow (coalesceTimer_funcRow f .res s.dev)⟩
  all_goals cases hc

/-! ### The PCIe resets of every function -/

/-- Every ring state is kept or quiesced, within the frame of a row. -/
def ResetRow (d e : Dev) : Prop :=
  (∃ r h o l, e = { d with regs := r, host := h, outbox := o, locks := l }) ∧
    ∀ f, (e.ring f).st = (d.ring f).st ∨ (e.ring f).st = (d.ring f).st.quiesced

theorem ResetRow.refl (d : Dev) : ResetRow d d := ⟨⟨_, _, _, _, rfl⟩, fun _ => .inl rfl⟩

theorem ResetRow.trans {a b c : Dev} (x : ResetRow a b) (y : ResetRow b c) : ResetRow a c := by
  obtain ⟨⟨r, h, o, l, rfl⟩, hst⟩ := x
  obtain ⟨⟨r', h', o', l', rfl⟩, hst'⟩ := y
  refine ⟨⟨r', h', o', l', rfl⟩, fun f => ?_⟩
  rcases hst f with hf | hf <;> rcases hst' f with hf' | hf' <;> rw [hf', hf]
  · exact .inl rfl
  · exact .inr rfl
  · exact .inr rfl
  · exact .inr (RingSt.quiesced_idem _)

/-- One function's part of a reset (R366): its rings quiesced, its life count raised. -/
theorem resetRings_raiseLife_resetRow (f : Func) (d : Dev) : ResetRow d ((d.resetRings f).raiseLife (lifeOfFunc f)) := by
  obtain ⟨⟨⟨r, h, o, hshape⟩, hothers⟩, hst⟩ := d.resetRings_own f
  refine ⟨?_, fun g => ?_⟩
  · rw [hshape]
    exact ⟨_, h, o, _, rfl⟩
  · by_cases hg : g = f
    · subst hg
      exact .inr hst
    · exact .inl (congrArg Rings.st (hothers g hg))

theorem forEach_resetRow {u : Func → Dev → Dev} (hu : ∀ f d, ResetRow d (u f d)) (l : List Func) (d : Dev) : ResetRow d (d.forEach l u) :=
  Dev.forEach_rel ResetRow.refl ResetRow.trans hu l d

theorem ResetRow.of_rings {d e : Dev} (h : HostOnly d e) (hrings : e.host.rings = d.host.rings) : ResetRow d e := by
  obtain ⟨x, o, rfl⟩ := h
  exact ⟨⟨d.regs, x, o, d.locks, rfl⟩, fun f => .inl (congrArg Rings.st (Dev.ring_eq_of_rings hrings f))⟩

theorem clearD3_resetRow (f : Func) (d : Dev) : ResetRow d (d.updRing f (fun r => { r with d3 := false })) := by
  refine ⟨⟨d.regs, _, d.outbox, d.locks, rfl⟩, fun g => .inl ?_⟩
  by_cases hg : g = f
  · subst hg
    exact (d.updRing_keepsSt g).2
  · exact congrArg Rings.st (d.ring_upd_ne hg _)

theorem hotReset_resetRow (d : Dev) : ResetRow d (hotReset d) :=
  ((forEach_resetRow resetRings_raiseLife_resetRow allFuncs d).trans (forEach_resetRow clearD3_resetRow allFuncs _)).trans
    (.of_rings ⟨_, _, rfl⟩ rfl)

theorem ResetRow.clearVfEnable {d e : Dev} (h : ResetRow d e) : ResetRow d { e with host := { e.host with vfEnable := false } } :=
  h.trans (.of_rings ⟨_, _, rfl⟩ rfl)

theorem ResetRow.hostRow {d e : Dev} (h : ResetRow d e) : HostRow d e := by
  obtain ⟨⟨r, x, o, l, rfl⟩, -⟩ := h
  exact ⟨r, x, o, l, d.pwr, rfl, .inl rfl⟩

theorem ResetRow.moves {d e : Dev} (h : ResetRow d e) (f : Func) : ringMoves (d.ring f).st (e.ring f).st = true := by
  rcases h.2 f with hf | hf <;> rw [hf]
  · exact ringMoves_refl _
  · exact ringMoves_quiesced _

theorem FuncRow.moves_all {f : Func} {d e : Dev} (h : FuncRow f d e) (g : Func) : ringMoves (d.ring g).st (e.ring g).st = true := by
  by_cases hg : g = f
  · exact hg ▸ h.moves
  · rw [h.others g hg]
    exact ringMoves_refl _

/-- A row of the rings acts on the device alone, within the frame, along Table 12.12. -/
theorem ringRow_of_exec {c : Instr} (hc : ringRow c = true) (s : State) :
    ∃ e, exec c s = .next { s with dev := e } ∧ HostRow s.dev e ∧ ∀ f, ringMoves (s.dev.ring f).st (e.ring f).st = true := by
  have hreset {e : Dev} (hexec : exec c s = .next { s with dev := e }) (h : ResetRow s.dev e) :
      ∃ e, exec c s = .next { s with dev := e } ∧ HostRow s.dev e ∧ ∀ f, ringMoves (s.dev.ring f).st (e.ring f).st = true :=
    ⟨e, hexec, h.hostRow, h.moves⟩
  cases hf : functionOf c with
  | some f =>
    obtain ⟨e, hexec, hrow⟩ := funcRow_of_exec hf s
    exact ⟨e, hexec, hrow.frame, hrow.moves_all⟩
  | none =>
    cases c
    case peRstN => exact hreset rfl (hotReset_resetRow s.dev)
    case hotReset => exact hreset rfl (hotReset_resetRow s.dev)
    case vfEnableCleared =>
      exact hreset rfl (forEach_resetRow resetRings_raiseLife_resetRow vfs s.dev).clearVfEnable
    all_goals exact absurd hc (by simp only [ringRow, hf, Option.isSome_none, Bool.false_eq_true, not_false_eq_true])

/-- Settles O12: each row moves ring states as its lemma says, and every such move stands in Table 12.12. -/
theorem ringStatesMoveByTheTable : Obligations.RingStatesMoveByTheTable := by
  intro c s t f hc hexec
  obtain ⟨e, he, -, hmoves⟩ := ringRow_of_exec hc s
  cases he.symm.trans hexec
  exact hmoves f

/-- Settles O13: a row of one function touches its own ring and frees its own locks. -/
theorem functionsAreIsolated : Obligations.FunctionsAreIsolated := by
  intro c s t f g n hc hexec
  obtain ⟨e, he, hrow⟩ := funcRow_of_exec hc s
  cases he.symm.trans hexec
  exact ⟨hrow.others g, hrow.locks n⟩

/-- Settles O14: the frame of the rows holds everything outside the host interface, the power state but for R440's wake. -/
theorem hostRowsLeaveTheFabric : Obligations.HostRowsLeaveTheFabric := by
  refine ⟨fun _ => rfl, fun c s t hc hexec => ?_⟩
  obtain ⟨e, he, ⟨r, h, o, l, p, rfl, hp⟩, -⟩ := ringRow_of_exec hc s
  cases he.symm.trans hexec
  exact ⟨rfl, rfl, rfl, rfl, rfl, rfl, rfl, rfl, rfl, rfl, hp, rfl, rfl, rfl, rfl, rfl, rfl, rfl⟩

end Sys2Proof.Machine

namespace Sys2Proof.Machine

/-! ### The shared path of the firmware commands -/

/-- Every firmware command is served by its row of Tables 13.5 to 13.18: on the device, or (two of them) on memory too. -/
theorem exec_of_commandOf {i : Instr} {sp : CmdSpec} {c : Cmd} (h : commandOf i = some (sp, c)) (s : State) :
    (∃ x, exec i s = cmdStep sp x c s) ∨ ∃ x, exec i s = machStep sp x c s := by
  cases i
  case atlasLoad => cases h; exact .inr ⟨_, rfl⟩
  case diagWrite => cases h; exact .inr ⟨_, rfl⟩
  case timeStatus | timeSetSource | timeSetRatio | timeSetPhase | timeAcceptPeriod | timeSetLabel | parcelStatus | parcelCreate
    | parcelDestroy | parcelSetPools | parcelClearCounters | atlasStatus | atlasUnload | intakeStatus | intakeEnable
    | intakeDisable | intakeSetShed | intakeInject | intakeClearCounters | runStatus | runStart | runStop | egressStatus
    | egressSetMeter | egressSetHeartbeat | egressSetBacklog | egressClearCounters | darkStatus | learnStatus | learnEnable
    | learnDisable | learnSetEpoch | learnReward | siteSave | siteRestore | siteDelete | learnClearCounters | expertStatus
    | expertSetBearing | expertSetBias | expertClearCounters | groupStatus | groupSetCoord | groupForm | groupDissolve
    | groupResync | linkStatus | linkEnable | linkRetrain | linkClearCounters | powerStatus | powerSetDomain | powerSetPolicy
    | clockSetDense | clockSetClkout | clockSetSpread | telemetryRead | powerSetCap | deviceInfo | deviceStatus | deviceNop
    | deviceWarmReset | fwWrite | fwCommit | fwAbort | secStatus | licenceInstall | licenceRemove | ownerEnrol | ownerLockSet
    | ownerLockClear | secGetCert | faultStatus | faultLogRead | countersRead | countersClear | faultSetBudget | faultRecover
    | memStatus | memTest | memFill | memSetBg | diagTap | diagRead => cases h; exact .inl ⟨_, rfl⟩
  all_goals cases h

theorem cmdStep_stays {sp : CmdSpec} {s : State} (h : s.dev.mayFetch sp.op = false) (x : Cmd → Dev → Reply Dev) (c : Cmd) :
    cmdStep sp x c s = .next s := by
  simp only [cmdStep, serveDev, h, Bool.not_false, if_true]

theorem machStep_stays {sp : CmdSpec} {s : State} (h : s.dev.mayFetch sp.op = false) (x : Cmd → Mach → Reply Mach) (c : Cmd) :
    machStep sp x c s = .next s := by
  simp only [machStep, serveMach, h, Bool.not_false, if_true]

theorem Dev.mayFetch_eq_false {d : Dev} {op : Nat} (honline : d.mirState ≠ 2)
    (hupdating : d.mirState = 5 → op / 256 ≠ 0x01 ∧ op / 256 ≠ 0x0C) : d.mayFetch op = false := by
  simp only [Dev.mayFetch, beq_eq_false_iff_ne.2 honline, Bool.false_or, Bool.and_eq_false_imp, beq_iff_eq, Bool.or_eq_false_iff,
    beq_eq_false_iff_ne]
  exact hupdating

/-- Settles O16: the mirror state is checked before anything else (Table 12.7). -/
theorem commandsWaitForTheFirmware : Obligations.CommandsWaitForTheFirmware := by
  intro i sp c s hc honline hupdating
  have hfetch := Dev.mayFetch_eq_false honline hupdating
  obtain ⟨x, hx⟩ | ⟨x, hx⟩ := exec_of_commandOf hc s
  · rw [hx, cmdStep_stays hfetch]
  · rw [hx, machStep_stays hfetch]

theorem cmdStep_refusedAtAdmission {sp : CmdSpec} {c : Cmd} {s : State} {st : Status} {dt : BitVec 32} (hfetch : s.dev.mayFetch sp.op = true)
    (hon : s.dev.domOn 1 = true) (h : s.dev.admission c sp = some (st, dt)) (x : Cmd → Dev → Reply Dev) :
    cmdStep sp x c s = .next { s with dev := s.dev.finish c.issuer (cplOf c st 0 0 dt) } := by
  simp only [cmdStep, serveDev, hfetch, hon, h, Bool.not_true, Bool.false_eq_true, if_false]

theorem machStep_refusedAtAdmission {sp : CmdSpec} {c : Cmd} {s : State} {st : Status} {dt : BitVec 32} (hfetch : s.dev.mayFetch sp.op = true)
    (hon : s.dev.domOn 1 = true) (h : s.dev.admission c sp = some (st, dt)) (x : Cmd → Mach → Reply Mach) :
    machStep sp x c s = .next { s with dev := s.dev.finish c.issuer (cplOf c st 0 0 dt) } := by
  simp only [machStep, serveMach, hfetch, hon, h, Bool.not_true, Bool.false_eq_true, if_false]

/-- Each of the first checks fails with REFUSED. -/
theorem Dev.status_of_admission {d : Dev} {c : Cmd} {sp : CmdSpec} {st : Status} {dt : BitVec 32} (h : d.admission c sp = some (st, dt)) :
    st = .refused := by
  unfold Dev.admission at h
  repeat' split at h
  all_goals cases h
  all_goals rfl

/-- Settles O17: a command that fails the first checks is finished with their answer. -/
theorem refusedAtAdmissionChangesNothing : Obligations.RefusedAtAdmissionChangesNothing := by
  intro i sp c s st dt hc hfetch hon hadm
  refine ⟨?_, by rw [Dev.status_of_admission hadm]; exact Status.noConfusion⟩
  obtain ⟨x, hx⟩ | ⟨x, hx⟩ := exec_of_commandOf hc s
  · rw [hx, cmdStep_refusedAtAdmission hfetch hon hadm]
  · rw [hx, machStep_refusedAtAdmission hfetch hon hadm]

end Sys2Proof.Machine

namespace Sys2Proof.Machine

/-! ### A Gallery that enters FAULTED -/

theorem FaultOnly.gals_eq {d e : Dev} (h : FaultOnly d e) : e.gals = d.gals := by
  obtain ⟨r, x, o, f, p, rfl⟩ := h
  rfl

theorem FaultOnly.planes_eq {d e : Dev} (h : FaultOnly d e) : e.planes = d.planes := by
  obtain ⟨r, x, o, f, p, rfl⟩ := h
  rfl

/-- What a Gallery is left with when it enters FAULTED, before the erasures are asked (R509). -/
def Gal.faulted (x : Gal) : Gal :=
  { x.clearP with st := .faulted, emitQ := [], delayQ := [], rail := [], mesh := [], rel := [], loop := [], cold := [], sink := true,
                  cmp := { x.clearP.cmp with fwd := [] } }

theorem Dev.enterFaulted_gals {d : Dev} {g : Fin 8} (h : (d.gal g).st ≠ .faulted) (cause : Nat) :
    (d.enterFaulted g cause).gals = (d.updGal g fun x => (d.taggedPorts g).foldl Gal.askErase x.faulted).gals := by
  unfold Dev.enterFaulted
  rw [if_neg h, (Dev.raiseFrom_shape _ _ _).gals_eq]
  split <;> simp [Dev.updGal, Gal.faulted]

theorem Dev.enterFaulted_planes {d : Dev} {g : Fin 8} (h : (d.gal g).st ≠ .faulted) (cause : Nat) :
    (d.enterFaulted g cause).planes = (d.updPlane g fun y => { y with outEvents := [] }).planes := by
  unfold Dev.enterFaulted
  rw [if_neg h, (Dev.raiseFrom_shape _ _ _).planes_eq]
  split <;> simp [Dev.updPlane]

theorem Dev.gal_eq_of_gals {d e : Dev} (h : e.gals = d.gals) (g : Fin 8) : e.gal g = d.gal g := by rw [Dev.gal, Dev.gal, h]

theorem Dev.plane_eq_of_planes {d e : Dev} (h : e.planes = d.planes) (g : Fin 8) : e.plane g = d.plane g := by rw [Dev.plane, Dev.plane, h]

/-- Asking for erasures raises fences and queues ports; the rest of the Gallery stands. -/
theorem Gal.foldl_askErase_shape (ports : List Nat) (x : Gal) : ∃ b q, ports.foldl Gal.askErase x = { x with fence := b, eraseQ := q } := by
  induction ports generalizing x with
  | nil => exact ⟨x.fence, x.eraseQ, rfl⟩
  | cons p t ih => exact ih (x.askErase p)

theorem Gal.clearP_pendingNeurons (x : Gal) : x.clearP.pendingNeurons = [] := by
  have hclear : ∀ e ∈ x.clearP.state, ¬ fget nsP e.2 = 1 := by
    intro e he
    obtain ⟨y, -, rfl⟩ := List.mem_map.1 he
    rw [fget_fput_same y.2 0 (by decide)]
    decide
  rw [Gal.pendingNeurons, List.filter_eq_nil_iff.2 (by simpa using hclear), List.map_nil]

theorem Dev.onFrame_served {d : Dev} {h : GdlHead} (hcrc : h.crcOk = true) (hon : d.stationOn h.station.val = true) (f : Dev → Dev) :
    d.onFrame h f = f d := by
  rw [Dev.onFrame, if_neg (by rw [hcrc]; decide), if_pos hon]

theorem halt_gallery {d : Dev} {h : GdlHead} {g : Fin 8} (hcrc : h.crcOk = true) (hg : h.station.val = 0x10 + g.val)
    (hon : d.stationOn h.station.val = true) : halt h d = (d.enterFaulted g 5).respond h 0 := by
  have hspan : 0x10 ≤ h.station.val ∧ h.station.val ≤ 0x17 := by omega
  have hfin : fin8 (h.station.val - 0x10) = g := Fin.ext (show (h.station.val - 0x10) % 8 = g.val by omega)
  rw [halt, Dev.onFrame_served hcrc hon]
  dsimp only
  rw [if_pos hspan, hfin]

/-- Settles O18: the Gallery enters FAULTED, which empties its queues and its P bits and sets its sink (R509). -/
theorem haltedGalleryHoldsNothing : Obligations.HaltedGalleryHoldsNothing := by
  intro s t h g k hcrc hst hon hrun hexec
  obtain rfl := eq_onDev_of_devStep hexec
  have hgals := Dev.enterFaulted_gals hrun 5
  have hplanes := Dev.enterFaulted_planes hrun 5
  have hgal : ((halt h s.dev).gal g) = (s.dev.taggedPorts g).foldl Gal.askErase (s.dev.gal g).faulted := by
    rw [halt_gallery hcrc hst hon]
    exact (Dev.gal_eq_of_gals hgals g).trans (s.dev.gal_upd_same g _)
  have hplane : (halt h s.dev).plane g = { s.dev.plane g with outEvents := [] } := by
    rw [halt_gallery hcrc hst hon]
    exact (Dev.plane_eq_of_planes hplanes g).trans (s.dev.plane_upd_same g _)
  have hothers (hk : k ≠ g) : (halt h s.dev).gal k = s.dev.gal k ∧ (halt h s.dev).plane k = s.dev.plane k := by
    rw [halt_gallery hcrc hst hon]
    exact ⟨(Dev.gal_eq_of_gals hgals k).trans (s.dev.gal_upd_ne hk _), (Dev.plane_eq_of_planes hplanes k).trans (s.dev.plane_upd_ne hk _)⟩
  obtain ⟨b, q, hask⟩ := Gal.foldl_askErase_shape (s.dev.taggedPorts g) (s.dev.gal g).faulted
  rw [State.onDev, hgal, hplane, hask]
  exact ⟨rfl, rfl, rfl, rfl, rfl, rfl, (s.dev.gal g).clearP_pendingNeurons, rfl, hothers, rfl⟩

end Sys2Proof.Machine

namespace Sys2Proof.Machine

/-! ### Fields of a state word (Table 2.5) -/

/-- Two fields of a word share no bit. -/
abbrev Fld.Apart (f g : Fld) : Prop := f.lo + f.width ≤ g.lo ∨ g.lo + g.width ≤ f.lo

/-- A field that lies in a word reads back a value in its range. -/
theorem fget_fput_of_lt {n : Nat} {f : Fld} (w : BitVec n) {v : Nat} (h : f.lo + f.width ≤ n) (hv : v < 2 ^ f.width) : fget f (fput f w v) = v := by
  rw [fget_fput_same w v h, Nat.mod_eq_of_lt hv]

/-- Sign extension undoes the two's complement of an integer in range. -/
theorem sext_toTwos {x : Int} (hlo : -131072 ≤ x) (hhi : x ≤ 131071) : sext 18 (toTwos 18 x % 2 ^ 18) = x := by
  simp only [sext, toTwos, Nat.mod_mod, Nat.reducePow, Nat.reduceSub]
  omega

theorem sext_lower (x : Nat) : -131072 ≤ sext 18 x := by
  simp only [sext, Nat.reducePow, Nat.reduceSub]
  omega

theorem sext_upper (x : Nat) : sext 18 x ≤ 131071 := by
  simp only [sext, Nat.reducePow, Nat.reduceSub]
  omega

theorem stV_lower (w : BitVec 64) : -131072 ≤ stV w := sext_lower _

theorem stV_upper (w : BitVec 64) : stV w ≤ 131071 := sext_upper _

/-- V reads back an integer of 18 bits. -/
theorem stV_putV (w : BitVec 64) {v : Int} (hlo : -131072 ≤ v) (hhi : v ≤ 131071) : stV (putV w v) = v := by
  have hput : fget nsV (putV w v) = toTwos 18 v % 2 ^ 18 := fget_fput_same w _ (by decide)
  rw [stV, hput, sext_toTwos hlo hhi]

theorem fget_putV {f : Fld} (w : BitVec 64) (v : Int) (h : nsV.lo + nsV.width ≤ f.lo ∨ f.lo + f.width ≤ nsV.lo) : fget f (putV w v) = fget f w :=
  fget_fput_ne w _ h

/-- Putting another field leaves V. -/
theorem stV_fput {f : Fld} (w : BitVec 64) (v : Nat) (h : f.lo + f.width ≤ nsV.lo ∨ nsV.lo + nsV.width ≤ f.lo) : stV (fput f w v) = stV w := by
  rw [stV, fget_fput_ne w v h, ← stV]

/-! ### The lazy update (R71) -/

/-- Scaling by a power of at most 1.0 never raises a value. -/
theorem scale_le (v d g : Nat) (hd : d ≤ 0x10000) : v * powQ16 d g / 65536 ≤ v :=
  Nat.div_le_of_le_mul (by rw [Nat.mul_comm 65536]; exact Nat.mul_le_mul_left v (powBits_le_one hd le_rfl g 8))

theorem bits_lt {n : Nat} (w : BitVec n) (hi lo : Nat) : bits w hi lo < 2 ^ (hi + 1 - lo) := BitVec.isLt _

/-- A model's decays and leak are fractions of 16 bits. -/
theorem modelOf_decays_le (w0 w1 w2 w3 : Word) :
    (modelOf w0 w1 w2 w3).traceDecay ≤ 0x10000 ∧ (modelOf w0 w1 w2 w3).leak ≤ 0x10000 ∧ (modelOf w0 w1 w2 w3).adaptDecay ≤ 0x10000 :=
  ⟨(bits_lt w2 31 16).le, (bits_lt w2 15 0).le, (bits_lt w3 15 0).le⟩

/-- The magnitude that a leak leaves of V. -/
def leakMagnitude (m : Model) (g : Nat) (v : Int) : Nat :=
  if m.expo then v.natAbs * powQ16 m.leak g / 65536 else v.natAbs - min v.natAbs (m.leak * g)

theorem leakMagnitude_le {m : Model} (hleak : m.leak ≤ 0x10000) (g : Nat) (v : Int) : leakMagnitude m g v ≤ v.natAbs := by
  unfold leakMagnitude
  split
  · exact scale_le _ _ g hleak
  · exact Nat.sub_le _ _

/-- A leak keeps V's sign. -/
theorem leakV_eq_sign_mul {m : Model} (hleak : m.leak ≤ 0x10000) (g : Nat) (v : Int) : leakV m g v = v.sign * leakMagnitude m g v := by
  have hle := leakMagnitude_le hleak g v
  have hdef : leakV m g v = if v < 0 then -(leakMagnitude m g v : Int) else leakMagnitude m g v := rfl
  rw [hdef]
  rcases lt_trichotomy v 0 with hv | rfl | hv
  · rw [if_pos hv, Int.sign_eq_neg_one_of_neg hv, Int.neg_one_mul]
  · rw [if_neg (lt_irrefl 0), Int.sign_zero, Int.zero_mul, Nat.le_zero.1 hle, Int.natCast_zero]
  · rw [if_neg (not_lt.2 hv.le), Int.sign_eq_one_of_pos hv, Int.one_mul]

theorem leakV_range {m : Model} (hleak : m.leak ≤ 0x10000) (g : Nat) (w : BitVec 64) :
    -131072 ≤ leakV m g (stV w) ∧ leakV m g (stV w) ≤ 131071 := by
  have hle := leakMagnitude_le hleak g (stV w)
  have hlo := stV_lower w
  have hhi := stV_upper w
  have hdef : leakV m g (stV w) = if stV w < 0 then -(leakMagnitude m g (stV w) : Int) else leakMagnitude m g (stV w) := rfl
  rw [hdef]
  split <;> omega

/-- The word that the lazy update forms over a gap. -/
def updatedWord (m : Model) (g t : Nat) (w : BitVec 64) : BitVec 64 :=
  fput nsLast (fput nsRefr (fput nsAdapt (fput nsTrace (putV w (leakV m g (stV w))) (fget nsTrace w * powQ16 m.traceDecay g / 65536))
    (fget nsAdapt w * powQ16 m.adaptDecay g / 65536)) (fget nsRefr w - g)) (t % 256)

theorem lazyUpdate_of_gap_zero {t : Nat} {w : BitVec 64} (h : gap t w = 0) (m : Model) : lazyUpdate m t w = w := if_pos h

/-- Each field is put from the word before the update: no put reaches another field. -/
theorem lazyUpdate_of_gap_ne_zero {t : Nat} {w : BitVec 64} (h : gap t w ≠ 0) (m : Model) : lazyUpdate m t w = updatedWord m (gap t w) t w := by
  rw [lazyUpdate]
  dsimp only
  rw [if_neg h, fget_fput_ne (f := nsAdapt) (g := nsRefr) _ _ (by decide), fget_fput_ne (f := nsTrace) (g := nsRefr) _ _ (by decide),
    fget_putV (f := nsRefr) w _ (by decide), fget_fput_ne (f := nsTrace) (g := nsAdapt) _ _ (by decide), fget_putV (f := nsAdapt) w _ (by decide),
    fget_putV (f := nsTrace) w _ (by decide), updatedWord]

/-- Settles O20: the update puts five fields that lie apart, each value within its field. -/
theorem lazyUpdateFields : Obligations.LazyUpdateFields := by
  intro w0 w1 w2 w3 t w m g u
  obtain ⟨htrace, hleak, hadapt⟩ := modelOf_decays_le w0 w1 w2 w3
  refine ⟨fun hg => lazyUpdate_of_gap_zero hg m, fun hg => ?_⟩
  have hu : u = updatedWord m g t w := lazyUpdate_of_gap_ne_zero hg m
  have hlast : fget nsLast u = t % 256 := by
    have hrange : t % 256 < 2 ^ nsLast.width := Nat.mod_lt t (by decide)
    rw [hu, updatedWord, fget_fput_of_lt _ (by decide) hrange]
  have hrefr : fget nsRefr u = fget nsRefr w - g := by
    rw [hu, updatedWord, fget_fput_ne _ _ (by decide), fget_fput_of_lt _ (by decide) (Nat.lt_of_le_of_lt (Nat.sub_le _ _) (fget_lt nsRefr w))]
  have hV : stV u = (stV w).sign * leakMagnitude m g (stV w) := by
    obtain ⟨hlo, hhi⟩ := leakV_range hleak g w
    rw [hu, updatedWord, stV_fput _ _ (by decide), stV_fput _ _ (by decide), stV_fput _ _ (by decide), stV_fput _ _ (by decide),
      stV_putV w hlo hhi, leakV_eq_sign_mul hleak]
  have hkeep {f : Fld} (h1 : Fld.Apart nsLast f) (h2 : Fld.Apart nsRefr f) (h3 : Fld.Apart nsAdapt f) (h4 : Fld.Apart nsTrace f)
      (h5 : Fld.Apart nsV f) : fget f u = fget f w := by
    rw [hu, updatedWord, fget_fput_ne _ _ h1, fget_fput_ne _ _ h2, fget_fput_ne _ _ h3, fget_fput_ne _ _ h4, fget_putV w _ h5]
  refine ⟨hlast, hrefr, ?trace, ?adapt, ?linear, ?exponential, ?_, ?_, ?_⟩
  case trace =>
    rw [hu, updatedWord, fget_fput_ne _ _ (by decide), fget_fput_ne _ _ (by decide), fget_fput_ne _ _ (by decide),
      fget_fput_of_lt _ (by decide) (Nat.lt_of_le_of_lt (scale_le _ _ g htrace) (fget_lt nsTrace w))]
  case adapt =>
    rw [hu, updatedWord, fget_fput_ne _ _ (by decide), fget_fput_ne _ _ (by decide),
      fget_fput_of_lt _ (by decide) (Nat.lt_of_le_of_lt (scale_le _ _ g hadapt) (fget_lt nsAdapt w))]
  case linear => intro he; rw [hV, leakMagnitude, he]; rfl
  case exponential => intro he; rw [hV, leakMagnitude, he]; rfl
  all_goals exact hkeep (by decide) (by decide) (by decide) (by decide) (by decide)

/-! ### Integration and the fire check (R69, R77, R78) -/

theorem threshold_putV (m : Model) (w : BitVec 64) (v : Int) : threshold m (putV w v) = threshold m w := by
  rw [threshold, threshold, fget_putV w v (by decide)]

theorem clamp_range {lo hi : Int} (h : lo ≤ hi) (x : Int) : lo ≤ clamp lo hi x ∧ clamp lo hi x ≤ hi := by
  unfold clamp
  split
  · omega
  split <;> omega

theorem integrate_refractory {w : BitVec 64} (h : fget nsRefr w ≠ 0) (m : Model) (x : Int) :
    integrate m x w = { word := w, sat := false, fired := none } := if_pos (Nat.pos_of_ne_zero h)

/-- The word after the sum is stored: it fires where the threshold is reached. -/
theorem integrate_ready {w : BitVec 64} (h : fget nsRefr w = 0) (m : Model) (x : Int) :
    let v := clamp (-131072) 131071 (stV w + x)
    integrate m x w =
      if (threshold m w : Int) ≤ v then { word := fireWord m (putV w v), sat := decide (stV w + x ≠ v), fired := some v }
      else { word := putV w v, sat := decide (stV w + x ≠ v), fired := none } := by
  intro v
  obtain ⟨hlo, hhi⟩ := clamp_range (show (-131072 : Int) ≤ 131071 by decide) (stV w + x)
  have hcheck : fireCheck m (putV w v) = if (threshold m w : Int) ≤ v then (fireWord m (putV w v), some v) else (putV w v, none) := by
    rw [fireCheck, threshold_putV, stV_putV w hlo hhi, fget_putV w v (by decide), h]
    simp only [true_and]
    rfl
  rw [integrate, if_neg (by rw [h]; decide)]
  dsimp only
  rw [hcheck]
  split <;> rfl

/-- A model's refractory period, reset value and increments fit their fields of the state word. -/
theorem modelOf_fire_ranges (w0 w1 w2 w3 : Word) :
    (modelOf w0 w1 w2 w3).refrac < 2 ^ 6 ∧ -131072 ≤ (modelOf w0 w1 w2 w3).vreset ∧ (modelOf w0 w1 w2 w3).vreset ≤ 131071 :=
  ⟨bits_lt w0 28 23, sext_lower _, sext_upper _⟩

/-- Settles O21: the sum saturates, and a fire puts V, REFR, TRACE and ADAPT alone. -/
theorem integrationAndFire : Obligations.IntegrationAndFire := by
  intro w0 w1 w2 w3 x w m v thr r
  refine ⟨fun hr => integrate_refractory hr m x, fun hr => ?_⟩
  obtain ⟨hrefrac, hresetLo, hresetHi⟩ := modelOf_fire_ranges w0 w1 w2 w3
  obtain ⟨hlo, hhi⟩ := clamp_range (show (-131072 : Int) ≤ 131071 by decide) (stV w + x)
  change -131072 ≤ v at hlo
  change v ≤ 131071 at hhi
  have hthr : (threshold m w : Int) = thr := by
    rw [threshold, Int.natCast_add, Int.natCast_mul, Int.natCast_pow]
    rfl
  have hthr0 : 0 ≤ thr := hthr ▸ Int.natCast_nonneg _
  have hrun := integrate_ready hr m x
  dsimp only at hrun
  rw [hthr, show clamp (-131072) 131071 (stV w + x) = v from rfl] at hrun
  have hsat : decide (stV w + x ≠ v) = decide (v ≠ stV w + x) := by simp only [ne_comm]
  by_cases hfire : thr ≤ v
  · rw [if_pos hfire, hsat] at hrun
    have hword : r.word = fireWord m (putV w v) := congrArg Integrated.word hrun
    have hkeep {f : Fld} (h1 : Fld.Apart nsAdapt f) (h2 : Fld.Apart nsTrace f) (h3 : Fld.Apart nsRefr f) (h4 : Fld.Apart nsV f) :
        fget f r.word = fget f w := by
      rw [hword, fireWord]
      rw [fget_fput_ne _ _ h1, fget_fput_ne _ _ h2, fget_fput_ne _ _ h3, fget_putV _ _ h4, fget_putV _ _ h4]
    simp only [if_pos hfire]
    refine ⟨congrArg Integrated.sat hrun, congrArg Integrated.fired hrun, ?V, ?refr, ?trace, ?adapt, ?_, ?_, ?_, ?_⟩
    case V =>
      rw [hword, fireWord]
      rw [stV_fput _ _ (by decide), stV_fput _ _ (by decide), stV_fput _ _ (by decide), threshold_putV, hthr, stV_putV w hlo hhi]
      split
      · exact stV_putV _ (by omega) (by omega)
      · exact stV_putV _ hresetLo hresetHi
    case refr =>
      rw [hword, fireWord]
      rw [fget_fput_ne _ _ (by decide), fget_fput_ne _ _ (by decide), fget_fput_of_lt _ (by decide) hrefrac]
    case trace =>
      rw [hword, fireWord]
      rw [fget_fput_ne _ _ (by decide), fget_fput_of_lt _ (by decide) (Nat.lt_succ_of_le (Nat.min_le_left _ _)), fget_fput_ne _ _ (by decide),
        fget_putV _ _ (by decide), fget_putV _ _ (by decide)]
    case adapt =>
      rw [hword, fireWord]
      rw [fget_fput_of_lt _ (by decide) (Nat.lt_succ_of_le (Nat.min_le_left _ _)), fget_fput_ne _ _ (by decide), fget_putV _ _ (by decide),
        fget_putV _ _ (by decide)]
    all_goals exact hkeep (by decide) (by decide) (by decide) (by decide)
  · rw [if_neg hfire, hsat] at hrun
    have hword : r.word = putV w v := congrArg Integrated.word hrun
    have hkeep {f : Fld} (h : Fld.Apart nsV f) : fget f r.word = fget f w := by rw [hword, fget_putV w v h]
    simp only [if_neg hfire]
    refine ⟨congrArg Integrated.sat hrun, congrArg Integrated.fired hrun, by rw [hword, stV_putV w hlo hhi], ?_, ?_⟩
    · rw [← hr]
      exact hkeep (by decide)
    · exact ⟨hkeep (by decide), hkeep (by decide), hkeep (by decide), hkeep (by decide), hkeep (by decide), hkeep (by decide)⟩

end Sys2Proof.Machine

namespace Sys2Proof.Machine

/-! ### Event words (Table 2.1, R53, R56) -/

theorem fget_eq_div_mod {n : Nat} (f : Fld) (w : BitVec n) : fget f w = w.toNat / 2 ^ f.lo % 2 ^ f.width := by
  rw [fget, BitVec.extractLsb'_toNat, Nat.shiftRight_eq_div_pow]

/-- Fields in range do not carry into each other. -/
theorem mkEvent_toNat {chip gallery axon adly stamp slice kind payload : Nat} (hchip : chip < 64) (hgallery : gallery < 8)
    (haxon : axon < 2 ^ 18) (hadly : adly < 1024) (hstamp : stamp < 256) (hslice : slice < 16) (hkind : kind < 4) (hpayload : payload < 256) :
    (mkEvent chip gallery axon adly stamp slice kind payload).toNat = chip * 2 ^ 58 + gallery * 2 ^ 55 + axon * 2 ^ 37 + adly * 2 ^ 27
      + stamp * 2 ^ 19 + slice * 2 ^ 15 + kind * 2 ^ 13 + payload * 2 ^ 5 := by
  rw [mkEvent, BitVec.toNat_ofNat, Nat.mod_eq_of_lt hchip, Nat.mod_eq_of_lt hgallery, Nat.mod_eq_of_lt haxon, Nat.mod_eq_of_lt hadly,
    Nat.mod_eq_of_lt hstamp, Nat.mod_eq_of_lt hslice, Nat.mod_eq_of_lt hkind, Nat.mod_eq_of_lt hpayload, Nat.mod_eq_of_lt]
  omega

/-- Settles O22: the word is the sum of its fields; the origin tick is the age taken off; a hop puts HOPS alone. -/
theorem eventWordFields : Obligations.EventWordFields := by
  refine ⟨?fields, ?origin, ?hop⟩
  case fields =>
    intro chip gallery axon adly stamp slice kind payload hchip hgallery haxon hadly hstamp hslice hkind hpayload e
    have he := mkEvent_toNat hchip hgallery haxon hadly hstamp hslice hkind hpayload
    change e.toNat = _ at he
    simp only [bits_eq_div_mod, fget_eq_div_mod, he, evGallery, evAxon, evAdly, evStamp, evSlice, evKind, evPayload, evHops, Nat.reducePow,
      Nat.reduceAdd, Nat.reduceSub]
    refine ⟨?_, ?_, ?_, ?_, ?_, ?_, ?_, ?_, ?_⟩ <;> omega
  case origin =>
    intro t e hage
    have hstamp : fget evStamp e < 256 := fget_lt evStamp e
    unfold originTick
    omega
  case hop =>
    intro e n
    have hrange : min 31 (fget evHops e + n) < 2 ^ evHops.width := Nat.lt_succ_of_le (Nat.min_le_left _ _)
    exact ⟨fget_fput_of_lt e (by decide) hrange, fget_fput_ne (g := ⟨5, 59⟩) e _ (by decide)⟩

end Sys2Proof.Machine

namespace Sys2Proof.Machine

/-! ### Neurons that an operation leaves -/

/-- In a Gallery with no detected memory error, the operation leaves every state word, ring slot and occupancy bit, and detects none. -/
def KeepsNeurons (g : Fin 8) (d e : Dev) : Prop :=
  (d.gal g).bad = [] → (e.gal g).bad = [] ∧ (e.gal g).state = (d.gal g).state ∧ (e.gal g).ring = (d.gal g).ring ∧
    (e.gal g).occ = (d.gal g).occ

theorem KeepsNeurons.trans {g : Fin 8} {a b c : Dev} (x : KeepsNeurons g a b) (y : KeepsNeurons g b c) : KeepsNeurons g a c := by
  intro h
  obtain ⟨hbad, hstate, hring, hocc⟩ := x h
  obtain ⟨hbad', hstate', hring', hocc'⟩ := y hbad
  exact ⟨hbad', hstate'.trans hstate, hring'.trans hring, hocc'.trans hocc⟩

theorem KeepsNeurons.of_gals {d e : Dev} (h : e.gals = d.gals) (g : Fin 8) : KeepsNeurons g d e := by
  intro hbad
  rw [Dev.gal_eq_of_gals h]
  exact ⟨hbad, rfl, rfl, rfl⟩

theorem KeepsNeurons.refl (g : Fin 8) (d : Dev) : KeepsNeurons g d d := .of_gals rfl g

/-- A write to the axon table or the synapse banks leaves the neurons. -/
theorem Dev.updGal_keepsNeurons (d : Dev) (g : Fin 8) {u : Gal → Gal} (hstate : ∀ x, (u x).state = x.state := by intro _; rfl)
    (hring : ∀ x, (u x).ring = x.ring := by intro _; rfl) (hocc : ∀ x, (u x).occ = x.occ := by intro _; rfl)
    (hbad : ∀ x, x.bad = [] → (u x).bad = []) : KeepsNeurons g d (d.updGal g u) := by
  intro h
  rw [Dev.gal_upd_same, hstate, hring, hocc]
  exact ⟨hbad _ h, rfl, rfl, rfl⟩

/-- A word that holds no error is cleaned or rewritten to none. -/
theorem filter_eq_nil_of_eq_nil {α : Type} {p : α → Bool} {l : List α} (h : l = []) : l.filter p = [] := by
  rw [h, List.filter_nil]

theorem Dev.unwritten_keepsNeurons (d : Dev) (g h : Fin 8) (i : Nat) : KeepsNeurons g d (d.unwritten h i) := by
  unfold Dev.unwritten
  dsimp only
  refine KeepsNeurons.trans (.of_gals (Dev.bump_gals d (R.GAL_UNW_CNT h) F.GAL_UNW_CNT_UNW 1) g) ?_
  split
  · exact .of_gals (Dev.raiseFrom_shape _ _ _).gals_eq g
  · exact .refl g _

theorem Gal.badAt_eq_none {x : Gal} (h : x.bad = []) (k : WordKind) (i : Nat) : x.badAt k i = none := by
  rw [Gal.badAt, h]
  rfl

/-- A synapse word that holds no error is read as it stands. -/
theorem Dev.readSyn_of_sound {d : Dev} {g : Fin 8} (h : (d.gal g).bad = []) (i : Nat) :
    d.readSyn g i = (some ((d.gal g).synWord i), if bit (SMap.get 0 (d.gal g).syn i) 32 then d else d.unwritten g i) := by
  rw [Dev.readSyn, Gal.badAt_eq_none h]
  rfl

theorem Dev.readComp_of_sound {d : Dev} {g : Fin 8} (h : (d.gal g).bad = []) (e : BitVec 64) (i : Nat) :
    d.readComp g e i = (some ((d.gal g).synWord (compIndex e i)), d) := by
  rw [Dev.readComp, Gal.badAt_eq_none h]
  rfl

theorem Dev.eraseSynapse_keepsNeurons (d : Dev) (g : Fin 8) (e : BitVec 64) (i : Nat) : KeepsNeurons g d (d.eraseSynapse g e i) := by
  intro h
  have hread : KeepsNeurons g d (if bit (SMap.get 0 (d.gal g).syn (fget axBase e + i)) 32 then d else d.unwritten g (fget axBase e + i)) := by
    split
    · exact .refl g d
    · exact d.unwritten_keepsNeurons g g _
  obtain ⟨hbad, -⟩ := hread h
  refine KeepsNeurons.trans hread ?_ h
  rw [Dev.eraseSynapse]
  rw [Dev.readSyn_of_sound h]
  generalize (if bit (SMap.get 0 (d.gal g).syn (fget axBase e + i)) 32 then d else d.unwritten g (fget axBase e + i)) = d' at hbad ⊢
  dsimp only
  split
  · exact .refl g _
  · rw [Dev.readComp_of_sound hbad]
    exact Dev.updGal_keepsNeurons _ g (hbad := fun x hx => filter_eq_nil_of_eq_nil (filter_eq_nil_of_eq_nil hx))

theorem Dev.eraseAxon_keepsNeurons (d : Dev) (g : Fin 8) (a : Nat) (e : BitVec 64) : KeepsNeurons g d (d.eraseAxon g a e) := by
  have hput (w : BitVec 64) : KeepsNeurons g d (d.putAxon g a w) :=
    d.updGal_keepsNeurons g (hbad := fun x hx => filter_eq_nil_of_eq_nil hx)
  unfold Dev.eraseAxon
  dsimp only
  refine (hput (fput axPre e 0)).trans ?_
  split
  · exact Dev.forEach_rel (KeepsNeurons.refl g) KeepsNeurons.trans (fun i d => d.eraseSynapse_keepsNeurons g e i) _ _
  · exact .refl g _

/-! ### The erase engine (R130) -/

/-- The tags of the dark ranges lie in registers of their own. -/
theorem Dev.taggedWith_bump_stop (d : Dev) (g : Fin 8) (p n k : Nat) :
    (d.bump (R.GAL_STOP_DROP_CNT g) F.GAL_STOP_DROP_CNT_STOP k).taggedWith g p n = d.taggedWith g p n := by
  have hlo (j : Nat) : R.GAL_DARK_LO g j ≠ R.GAL_STOP_DROP_CNT g := by
    unfold R.GAL_DARK_LO R.GAL_STOP_DROP_CNT
    omega
  have hhi (j : Nat) : R.GAL_DARK_HI g j ≠ R.GAL_STOP_DROP_CNT g := by
    unfold R.GAL_DARK_HI R.GAL_STOP_DROP_CNT
    omega
  simp only [Dev.taggedWith, Dev.rf_bump_ne d (hlo _), Dev.rf_bump_ne d (hhi _)]

/-- Without detected errors an erasure comes to the tagged neurons, then the dark axons' lists. -/
theorem Dev.erasePort_neurons {d : Dev} {g : Fin 8} (h : (d.gal g).bad = []) (p : Nat) :
    ((d.erasePort g p).gal g).state = ((d.gal g).eraseNeurons fun n => d.taggedWith g p n).state ∧
    ((d.erasePort g p).gal g).ring = ((d.gal g).eraseNeurons fun n => d.taggedWith g p n).ring ∧
    ((d.erasePort g p).gal g).occ = ((d.gal g).eraseNeurons fun n => d.taggedWith g p n).occ := by
  have hfirst {t : EccErr → Bool} {u : EccErr → Dev → Dev} : d.forEach ((d.gal g).bad.filter t) u = d := by
    rw [h, List.filter_nil]
    rfl
  unfold Dev.erasePort Dev.touchMaps
  simp only [hfirst, Dev.taggedWith_bump_stop, Dev.bump_gal]
  have herased : (((d.gal g).eraseNeurons fun n => d.taggedWith g p n)).bad = [] := filter_eq_nil_of_eq_nil h
  have hloop := Dev.forEach_rel (KeepsNeurons.refl g) KeepsNeurons.trans (fun (x : Nat × BitVec 64) d => d.eraseAxon_keepsNeurons g x.1 x.2)
    ((d.gal g).axons.filter fun e => decide ((d.bump (R.GAL_STOP_DROP_CNT g) F.GAL_STOP_DROP_CNT_STOP
      ((d.gal g).pendingNeurons.filter fun n => d.taggedWith g p n).length).axonPort g e.1 e.2 = some p))
    ((d.bump (R.GAL_STOP_DROP_CNT g) F.GAL_STOP_DROP_CNT_STOP ((d.gal g).pendingNeurons.filter fun n => d.taggedWith g p n).length).updGal g
      fun x => x.eraseNeurons fun n => d.taggedWith g p n)
  rw [KeepsNeurons, Dev.gal_upd_same, Dev.bump_gal] at hloop
  exact (hloop herased).2

theorem SMap.find_mem {β : Type} {k : Nat} {v : β} : ∀ {m : SMap β}, SMap.find? k m = some v → (k, v) ∈ m
  | (j, w) :: t, h => by
    unfold SMap.find? at h
    split at h
    · next hj => cases h; cases hj; exact List.mem_cons_self
    · exact List.mem_cons_of_mem _ (SMap.find_mem h)

/-- A key reads the default, or a value that the map lists at it. -/
theorem SMap.get_default_or_mem {β : Type} (dflt : β) (m : SMap β) (k : Nat) : SMap.get dflt m k = dflt ∨ (k, SMap.get dflt m k) ∈ m := by
  unfold SMap.get
  cases h : SMap.find? k m with
  | none => exact .inl rfl
  | some v => exact .inr (SMap.find_mem h)

theorem SMap.get_filter_key {β : Type} (dflt : β) {p : Nat → Bool} {k : Nat} (h : p k = false) (m : SMap β) :
    SMap.get dflt (m.filter fun e => p e.1) k = dflt := by
  rw [SMap.get, Memory.find_filter, h]
  rfl

/-- A tagged neuron's state word is erased, or the zero word. -/
theorem Gal.eraseNeurons_state (x : Gal) {t : Nat → Bool} {n : Nat} (h : t n = true) :
    ∃ w, SMap.get 0 (x.eraseNeurons t).state n = 0 ∨ SMap.get 0 (x.eraseNeurons t).state n = erasedWord w := by
  rcases SMap.get_default_or_mem 0 (x.eraseNeurons t).state n with h0 | hmem
  · exact ⟨0, .inl h0⟩
  · obtain ⟨e, -, he⟩ := List.mem_map.1 (List.mem_filter.1 hmem).1
    obtain ⟨hkey, hval⟩ := Prod.mk.inj he
    rw [hkey, if_pos h] at hval
    exact ⟨e.2, .inr hval.symm⟩

/-- An erased word keeps W and MODEL alone. -/
theorem fget_erasedWord (w : BitVec 64) {f : Fld} (hmodel : nsModel.lo + nsModel.width ≤ f.lo ∨ f.lo + f.width ≤ nsModel.lo)
    (hw : nsW.lo + nsW.width ≤ f.lo ∨ f.lo + f.width ≤ nsW.lo) : fget f (erasedWord w) = 0 := by
  rw [erasedWord, fget_fput_ne _ _ hmodel, fget_fput_ne _ _ hw, fget_eq_div_mod]
  exact (congrArg (· % 2 ^ f.width) (Nat.zero_div _)).trans (Nat.zero_mod _)

theorem fget_zero {n : Nat} (f : Fld) : fget f (0 : BitVec n) = 0 := by
  rw [fget_eq_div_mod]
  exact (congrArg (· % 2 ^ f.width) (Nat.zero_div _)).trans (Nat.zero_mod _)

theorem Dev.eraseLate_gals (d : Dev) (g : Fin 8) (p : Fin 16) : (d.eraseLate g p).gals = d.gals := by
  unfold Dev.eraseLate
  split
  · split
    · rw [(Dev.raiseFrom_shape _ _ _).gals_eq, Dev.bump_gals]
    · rfl
  · rfl

theorem Dev.portErased_gals (d : Dev) (p : Fin 16) : (d.portErased p).gals = d.gals := by
  unfold Dev.portErased
  split
  · rfl
  · dsimp only
    split
    · exact Dev.bump_gals d R.EGR_ERASE_CNT F.EGR_ERASE_CNT_PORT 1
    · exact Dev.bump_gals d R.EGR_ERASE_CNT F.EGR_ERASE_CNT_PORT 1

/-- The erasure at the head of the queue is done and leaves the queue. -/
theorem eraseComplete_gal {d : Dev} {g : Fin 8} {p : Fin 16} {rest : List Nat} (h : (d.gal g).eraseQ = p.val :: rest) :
    (eraseComplete g p d).gal g = { (d.erasePort g p.val).gal g with eraseQ := rest } := by
  unfold eraseComplete
  rw [h]
  dsimp only
  rw [if_neg (not_not.2 rfl), Dev.gal_eq_of_gals (Dev.portErased_gals _ p), Dev.gal_eq_of_gals (Dev.eraseLate_gals _ g p), Dev.gal_upd_same]

/-- What is left of a neuron that a dark range covers. -/
theorem Gal.erased_neuron {x y : Gal} {t : Nat → Bool} {n k : Nat} (hstate : y.state = (x.eraseNeurons t).state)
    (hring : y.ring = (x.eraseNeurons t).ring) (hocc : y.occ = (x.eraseNeurons t).occ) (ht : t n = true) (hk : k % 131072 = n) :
    (∀ f, Fld.Apart nsModel f → Fld.Apart nsW f → fget f (SMap.get 0 y.state n) = 0) ∧
    SMap.get 0 y.ring k = 0 ∧ SMap.get false y.occ k = false := by
  have hdrop : (!t (k % 131072)) = false := by
    rw [hk, ht]
    rfl
  rw [hstate, hring, hocc]
  refine ⟨fun f hm hw => ?_, SMap.get_filter_key 0 (p := fun m => !t (m % 131072)) hdrop _,
    SMap.get_filter_key false (p := fun m => !t (m % 131072)) hdrop _⟩
  obtain ⟨v, h0 | hv⟩ := x.eraseNeurons_state ht
  · rw [h0, fget_zero]
  · rw [hv, fget_erasedWord v hm hw]

/-- Settles O23: the engine leaves W and MODEL of each tagged state word, and drops the tagged slots and bits (R85, R130). -/
theorem erasureLeavesNoDarkState : Obligations.ErasureLeavesNoDarkState := by
  intro s t g p rest n k hq hbad htag hk hexec
  have hgal : t.dev.gal g = { (s.dev.erasePort g p.val).gal g with eraseQ := rest } := by
    rw [eq_onDev_of_devStep hexec]
    exact eraseComplete_gal hq
  obtain ⟨hstate, hring, hocc⟩ := Dev.erasePort_neurons hbad p.val
  obtain ⟨hword, hringK, hoccK⟩ := Gal.erased_neuron (y := t.dev.gal g) (by rw [hgal, hstate]) (by rw [hgal, hring]) (by rw [hgal, hocc]) htag hk
  intro w
  have herased (f : Fld) (hm : Fld.Apart nsModel f) (hw : Fld.Apart nsW f) : fget f w = 0 := hword f hm hw
  exact ⟨herased nsP (by decide) (by decide), herased nsV (by decide) (by decide), herased nsLast (by decide) (by decide),
    herased nsRefr (by decide) (by decide), herased nsTrace (by decide) (by decide), herased nsAdapt (by decide) (by decide),
    hringK, hoccK, by rw [hgal]⟩

end Sys2Proof.Machine

namespace Sys2Proof.Machine

/-! ### Watermarks -/

theorem fin4_val (k : Fin 4) : fin4 k.val = k := Fin.ext (Nat.mod_eq_of_lt k.isLt)

theorem fin16_val (r : Fin 16) : fin16 r.val = r := Fin.ext (Nat.mod_eq_of_lt r.isLt)

/-- A watermark is read from the region's registers, powered time and the fills of its stack. -/
theorem Dev.rgnWm_congr {d e : Dev} {k : Fin 4} {r : Fin 16} (hwm : e.reg (R.STK_RGN_WM k r) = d.reg (R.STK_RGN_WM k r))
    (hfill : e.reg (R.STK_RGN_FILL k r) = d.reg (R.STK_RGN_FILL k r)) (hctl : e.reg (R.STK_RGN_CTL k r) = d.reg (R.STK_RGN_CTL k r))
    (hclk : e.clk = d.clk) (hfills : (e.stk k).fills = (d.stk k).fills) : e.rgnWm k r = d.rgnWm k r := by
  simp only [Dev.rgnWm, Dev.setWmAt, Dev.rf, hwm, hfill, hctl, hclk, fin4_val, hfills]

/-- A counter of a stack's block is no register of its regions. -/
theorem Dev.rgnWm_bump {a : Nat} (ha : ∀ (k : Fin 4) (r : Fin 16), a ≠ R.STK_RGN_WM k r ∧ a ≠ R.STK_RGN_FILL k r ∧ a ≠ R.STK_RGN_CTL k r)
    (d : Dev) (f : Fld) (n : Nat) (k : Fin 4) (r : Fin 16) : (d.bump a f n).rgnWm k r = d.rgnWm k r := by
  obtain ⟨hwm, hfill, hctl⟩ := ha k r
  exact Dev.rgnWm_congr (d.reg_bump_ne hwm.symm f n) (d.reg_bump_ne hfill.symm f n) (d.reg_bump_ne hctl.symm f n) (d.bump_clk a f n)
    (congrArg Stack.fills (d.bump_stk a f n k))

theorem R.STK_ECC_CNT_apart (j : Fin 4) (k : Fin 4) (r : Fin 16) :
    R.STK_ECC_CNT j ≠ R.STK_RGN_WM k r ∧ R.STK_ECC_CNT j ≠ R.STK_RGN_FILL k r ∧ R.STK_ECC_CNT j ≠ R.STK_RGN_CTL k r := by
  unfold R.STK_ECC_CNT R.STK_RGN_WM R.STK_RGN_FILL R.STK_RGN_CTL
  omega

theorem Dev.setWmAt_le_rgnWm (d : Dev) (k : Fin 4) (r : Fin 16) : d.setWmAt k r ≤ d.rgnWm k r := by
  unfold Dev.rgnWm
  dsimp only
  split
  · exact Nat.le_max_left _ _
  · exact Nat.le_refl _

/-- A watermark fits its field. -/
theorem Dev.rgnWm_lt (d : Dev) (k : Fin 4) (r : Fin 16) : d.rgnWm k r < 2 ^ F.STK_RGN_WM_WM.width := by
  have hwm : d.setWmAt k r < 2 ^ 31 := d.rf_lt _ F.STK_RGN_WM_WM
  have hfill : d.rf (R.STK_RGN_FILL k r) F.STK_RGN_FILL_FILL_TO < 2 ^ 31 := d.rf_lt _ F.STK_RGN_FILL_FILL_TO
  unfold Dev.rgnWm
  dsimp only
  split
  · exact Nat.max_lt.2 ⟨hwm, Nat.lt_of_le_of_lt (Nat.min_le_left _ _) hfill⟩
  · exact hwm

theorem Dev.setWmAt_setWm (d : Dev) (k : Fin 4) (r : Fin 16) (u : Nat) : (d.setWm k r u).setWmAt k r = u % 2 ^ F.STK_RGN_WM_WM.width := by
  rw [Dev.setWmAt, Dev.setWm, Dev.updStk_rf, Dev.rf_setRf_same d _ _ _ (by decide)]

/-- Setting a watermark leaves every other register. -/
theorem Dev.reg_setWm_ne (d : Dev) {k : Fin 4} {r : Fin 16} {a : Nat} (h : a ≠ R.STK_RGN_WM k r) (u : Nat) :
    (d.setWm k r u).reg a = d.reg a := by
  rw [Dev.setWm, Dev.updStk_reg, Dev.reg_setRf_ne d h]

theorem Dev.fills_updStk (d : Dev) (k : Fin 4) (r : Fin 16) (c : Nat) :
    ((d.updStk k fun x => { x with fills := x.fills.set r c }).stk k).fills[r] = c := by
  rw [Dev.stk_upd_same]
  exact Vector.getElem_set_self r.isLt

theorem Dev.setWm_clk (d : Dev) (k : Fin 4) (r : Fin 16) (u : Nat) : (d.setWm k r u).clk = d.clk := by
  rw [Dev.setWm, Dev.updStk_clk, Dev.setRf_clk]

theorem Dev.setWm_fus (d : Dev) (k : Fin 4) (r : Fin 16) (u : Nat) : (d.setWm k r u).fus = d.fus := by
  rw [Dev.setWm, Dev.updStk_fus, Dev.setRf_fus]

/-- A fill goes on from the watermark that was set. -/
theorem Dev.setWm_fills (d : Dev) (k : Fin 4) (r : Fin 16) (u : Nat) : ((d.setWm k r u).stk (fin4 k)).fills[fin16 r] = d.clk :=
  Dev.fills_updStk _ (fin4 k) (fin16 r) d.clk

/-- Setting a watermark to where the fill engine stands leaves it there. -/
theorem Dev.rgnWm_setWm (d : Dev) (k : Fin 4) (r : Fin 16) : (d.setWm k r (d.rgnWm k r)).rgnWm k r = d.rgnWm k r := by
  have hset := (d.setWmAt_setWm k r (d.rgnWm k r)).trans (Nat.mod_eq_of_lt (d.rgnWm_lt k r))
  generalize d.rgnWm k r = u at hset ⊢
  rw [Dev.rgnWm, hset, Dev.setWm_clk, Dev.setWm_fills, Nat.sub_self]
  split
  · exact Nat.max_eq_left (Nat.min_le_right _ _)
  · rfl

/-! ### What a write stores -/

/-- A filtered write stores the bytes whose address passes, and leaves the rest. -/
theorem Memory.readByte_writeWhere (keep : Nat → Bool) (x : Nat) (l : List Byte) : ∀ (m : Mem) (a : Nat),
    Memory.readByte (Memory.writeWhere keep m a l) x =
      if a ≤ x ∧ x < a + l.length ∧ keep x = true then l.getD (x - a) 0 else Memory.readByte m x := by
  induction l with
  | nil =>
    intro m a
    rw [if_neg (by rw [List.length_nil]; omega)]
    rfl
  | cons b t ih =>
    intro m a
    rw [Memory.writeWhere, ih, List.length_cons]
    have hfirst : Memory.readByte (if keep a = true then Memory.writeByte m a b else m) x =
        if x = a ∧ keep x = true then b else Memory.readByte m x := by
      split
      · next hk =>
        by_cases hx : x = a
        · rw [hx, if_pos ⟨rfl, hk⟩, Memory.readByte_writeByte_same]
        · rw [if_neg (fun h => hx h.1), Memory.readByte_writeByte_ne m hx]
      · next hk =>
        rw [if_neg]
        rintro ⟨rfl, hx⟩
        exact hk hx
    rw [hfirst]
    by_cases hx : x = a
    · rw [if_neg (by omega), hx, Nat.sub_self]
      refine if_congr ⟨fun h => ⟨by omega, by omega, h.2⟩, fun h => ⟨rfl, h.2.2⟩⟩ rfl rfl
    · rw [if_neg (c := x = a ∧ _) (fun h => hx h.1)]
      by_cases hin : a + 1 ≤ x ∧ x < a + 1 + t.length ∧ keep x = true
      · obtain ⟨j, rfl⟩ : ∃ j, x = a + 1 + j := ⟨x - (a + 1), by omega⟩
        rw [if_pos hin, if_pos ⟨by omega, by omega, hin.2.2⟩, Nat.add_sub_cancel_left, show a + 1 + j - a = j + 1 by omega, List.getD_cons_succ]
      · rw [if_neg hin, if_neg]
        rintro ⟨hlo, hhi, hk⟩
        exact hin ⟨by omega, by omega, hk⟩

/-- A fill up to the watermark zeroes what the engine has passed (R345). -/
theorem Mach.fillTo_readByte (m : Mach) (k : Fin 4) (r : Fin 16) (u x : Nat) :
    Memory.readByte (m.fillTo k r u).mem x =
      if stackWindow + m.dev.setWmAt k r * 64 ≤ x ∧ x < stackWindow + u * 64 then 0 else Memory.readByte m.mem x := by
  unfold Mach.fillTo
  split
  · exact Memory.readByte_zero _ _ _ _
  · rw [if_neg (by omega)]

theorem Mach.fillTo_rgnWm (m : Mach) (k : Fin 4) (r : Fin 16) : (m.fillTo k r (m.dev.rgnWm k r)).dev.rgnWm k r = m.dev.rgnWm k r := by
  unfold Mach.fillTo
  split
  · exact m.dev.rgnWm_setWm k r
  · rfl

/-- Which units are retired hangs on the stack's pages, its retired pseudo-channels and its mapping. -/
theorem Dev.unitRetired_congr {d e : Dev} {k : Fin 4} (hpages : (e.stk k).pages = (d.stk k).pages)
    (hret : e.reg (R.STK_PC_RET k) = d.reg (R.STK_PC_RET k)) (hctl : e.reg (R.STK_CTL k) = d.reg (R.STK_CTL k)) (hfus : e.fus = d.fus)
    (u : Nat) : e.unitRetired k u = d.unitRetired k u := by
  simp only [Dev.unitRetired, Dev.unitPc, Dev.stackCap, Dev.rf, hpages, hret, hctl, hfus]

theorem Mach.fillTo_unitRetired (m : Mach) (k : Fin 4) (r : Fin 16) (w u : Nat) :
    (m.fillTo k r w).dev.unitRetired k u = m.dev.unitRetired k u := by
  have hret : R.STK_PC_RET k ≠ R.STK_RGN_WM k r := by
    unfold R.STK_PC_RET R.STK_RGN_WM
    omega
  have hctl : R.STK_CTL k ≠ R.STK_RGN_WM k r := by
    unfold R.STK_CTL R.STK_RGN_WM
    omega
  have hpages : ((m.dev.setWm k r w).stk k).pages = (m.dev.stk k).pages := by
    rw [Dev.setWm, fin4_val, Dev.stk_upd_same, Dev.setRf_stk]
  unfold Mach.fillTo
  split
  · exact Dev.unitRetired_congr hpages (m.dev.reg_setWm_ne hret w) (m.dev.reg_setWm_ne hctl w) (m.dev.setWm_fus k r w) u
  · rfl

/-- An ordinary write, below the watermark (R344). -/
theorem Mach.writeRegion_below {m : Mach} {k : Fin 4} {r : Fin 16} {sa : Nat} {b : List Byte}
    (h : (sa + b.length + 63) / 64 ≤ m.dev.rgnWm k r) :
    m.writeRegion k r sa b = (true, (m.fillTo k r (m.dev.rgnWm k r)).storeBytes k sa b) := if_pos h

theorem Mach.writeRegion_below_readByte {m : Mach} {k : Fin 4} {r : Fin 16} {sa : Nat} {b : List Byte}
    (h : (sa + b.length + 63) / 64 ≤ m.dev.rgnWm k r) (x : Nat) :
    Memory.readByte (m.writeRegion k r sa b).2.mem x =
      (if stackWindow + sa ≤ x ∧ x < stackWindow + sa + b.length ∧ m.dev.unitRetired k ((x - stackWindow) / 64) = false
        then b.getD (x - stackWindow - sa) 0
        else if stackWindow + m.dev.setWmAt k r * 64 ≤ x ∧ x < stackWindow + m.dev.rgnWm k r * 64 then 0 else Memory.readByte m.mem x) := by
  rw [Mach.writeRegion_below h, Mach.storeBytes]
  dsimp only
  rw [Memory.readByte_writeWhere, Mach.fillTo_readByte, Mach.fillTo_unitRetired, Nat.sub_sub]
  simp only [Bool.not_eq_true']

theorem Mach.writeRegion_below_rgnWm {m : Mach} {k : Fin 4} {r : Fin 16} {sa : Nat} {b : List Byte}
    (h : (sa + b.length + 63) / 64 ≤ m.dev.rgnWm k r) : (m.writeRegion k r sa b).2.dev.rgnWm k r = m.dev.rgnWm k r := by
  rw [Mach.writeRegion_below h, Mach.storeBytes]
  exact (Dev.rgnWm_bump (R.STK_ECC_CNT_apart k) _ _ _ k r).trans (m.fillTo_rgnWm k r)

/-! ### Serving an access -/

theorem Dev.rgnWm_updStk (d : Dev) (k : Fin 4) {f : Stack → Stack} (h : (f (d.stk k)).fills = (d.stk k).fills) (r : Fin 16) :
    (d.updStk k f).rgnWm k r = d.rgnWm k r :=
  Dev.rgnWm_congr (d.updStk_reg k f _) (d.updStk_reg k f _) (d.updStk_reg k f _) rfl ((congrArg Stack.fills (d.stk_upd_same k f)).trans h)

theorem Dev.unitRetired_updStk (d : Dev) (k : Fin 4) {f : Stack → Stack} (h : (f (d.stk k)).pages = (d.stk k).pages) (u : Nat) :
    (d.updStk k f).unitRetired k u = d.unitRetired k u :=
  Dev.unitRetired_congr ((congrArg Stack.pages (d.stk_upd_same k f)).trans h) (d.updStk_reg k f _) (d.updStk_reg k f _) rfl u

/-- The machine once an access' first command/address error has been counted. -/
def Mach.caCounted (m : Mach) (k : Fin 4) (a : StackAccess) : Mach :=
  if a.ca = 0 then m else { m with dev := m.dev.updStk k (fun x => { x with caErrs := x.caErrs + a.ca.val }) }

theorem Mach.caCounted_mem (m : Mach) (k : Fin 4) (a : StackAccess) : (m.caCounted k a).mem = m.mem := by
  unfold Mach.caCounted
  split <;> rfl

theorem Mach.caCounted_setWmAt (m : Mach) (k : Fin 4) (a : StackAccess) (r : Fin 16) :
    (m.caCounted k a).dev.setWmAt k r = m.dev.setWmAt k r := by
  unfold Mach.caCounted
  split <;> rfl

theorem Mach.caCounted_rgnWm (m : Mach) (k : Fin 4) (a : StackAccess) (r : Fin 16) : (m.caCounted k a).dev.rgnWm k r = m.dev.rgnWm k r := by
  unfold Mach.caCounted
  split
  · rfl
  · exact m.dev.rgnWm_updStk k rfl r

theorem Mach.caCounted_unitRetired (m : Mach) (k : Fin 4) (a : StackAccess) (u : Nat) :
    (m.caCounted k a).dev.unitRetired k u = m.dev.unitRetired k u := by
  unfold Mach.caCounted
  split
  · rfl
  · exact m.dev.unitRetired_updStk k rfl u

/-- A write that its region admits and nothing holds is served. -/
theorem stackAccess_write_served {m : Mach} {a : StackAccess} {k : Fin 4} {l : Nat} {r : Fin 16} {b : List Byte}
    (hplace : stackPlace m.dev.fus.high a.sa = some (k, l)) (hheld : m.dev.stackHeld k = false) (hready : m.dev.stackReady k = true)
    (hw : a.write = some b) (hadmit : m.dev.admitStack a.req k a.sa b.length true = some r) : stackAccess a m = m.serveStack k r a := by
  unfold stackAccess
  simp only [hplace, hheld, hready, hw, Option.isSome_some, hadmit]
  rfl

theorem Mach.serveStack_write {m : Mach} {k : Fin 4} {r : Fin 16} {a : StackAccess} {b : List Byte} (hca : a.ca ≠ 2) (hw : a.write = some b) :
    m.serveStack k r a = { ((m.caCounted k a).writeRegion k r a.sa b).2 with
      dev := ((m.caCounted k a).writeRegion k r a.sa b).2.dev.emit
        (if ((m.caCounted k a).writeRegion k r a.sa b).1 then .memDone a.req else .memError a.req) } := by
  unfold Mach.serveStack
  dsimp only
  rw [if_neg hca, hw]
  rfl

/-- Settles O26: below the watermark a write is ordinary; the fill that it finds under way is written out up to the watermark first (R344, R345). -/
theorem stackWriteFrame : Obligations.StackWriteFrame := by
  intro s t a k l r b x hplace hheld hready hca hw hadmit hbelow hexec
  rw [eq_onMach_of_memStep hexec, State.onMach, stackAccess_write_served (m := { dev := s.dev, mem := s.mem }) hplace hheld hready hw hadmit,
    Mach.serveStack_write hca hw]
  have hwm := Mach.caCounted_rgnWm { dev := s.dev, mem := s.mem } k a r
  have hbytes := Mach.writeRegion_below_readByte (hwm ▸ hbelow) x
  have hmark := Mach.writeRegion_below_rgnWm (hwm ▸ hbelow)
  rw [Mach.caCounted_unitRetired, Mach.caCounted_setWmAt, hwm, Mach.caCounted_mem] at hbytes
  exact ⟨hbytes, hmark.trans hwm⟩

end Sys2Proof.Machine

namespace Sys2Proof.Machine

/-! ### Registers that a fault leaves -/

theorem NoticeOnly.reg_eq {d e : Dev} (h : NoticeOnly d e) (a : Nat) : e.reg a = d.reg a := by
  obtain ⟨x, o, p, rfl⟩ := h
  rfl

theorem PwrOnly.reg_eq {d e : Dev} (h : PwrOnly d e) (a : Nat) : e.reg a = d.reg a := h.noticeOnly.reg_eq a

/-- The registers that a raised fault may change at the collector. -/
def CollectorReg (a : Nat) : Prop := a = R.LNT_SMB_ALERT ∨ a = R.FLT_SEQ ∨ a = R.LNT_MIR_FLTSEQ ∨ a = R.FLT_LOST

/-- A fault at the collector leaves every register outside it. -/
theorem Dev.collect_reg (d : Dev) (r : Raise) {a : Nat} (ha : ¬ CollectorReg a) : (d.collect r).reg a = d.reg a := by
  simp only [CollectorReg, not_or] at ha
  obtain ⟨halert, hseq, hmir, hlost⟩ := ha
  unfold Dev.collect
  dsimp only
  rw [← (Dev.wakeSurveyor_shape d).reg_eq a]
  generalize d.wakeSurveyor = d
  split
  · have hadded (e : Dev) (he : e.reg a = d.reg a) : (if e.flt.numbered = true then
        ((e.setRf R.FLT_SEQ F.FLT_SEQ_SEQ ((d.record r).seq + 1)).setReg R.LNT_MIR_FLTSEQ (BitVec.ofNat 32 (d.record r).seq)).faultNotice
          r.parcel (d.record r).seq else e).reg a = d.reg a := by
      split
      · rw [(Dev.faultNotice_shape _ _ _).reg_eq, Dev.reg_setReg_ne _ hmir, Dev.reg_setRf_ne _ hseq, he]
      · exact he
    apply hadded
    split
    · exact Dev.reg_setRf_ne _ halert _ _
    · rfl
  · split
    · exact (Dev.faultNotice_shape _ _ _).reg_eq a
    · exact Dev.reg_bump_ne d hlost F.FLT_LOST_LOST 1

theorem FaultOnly.stks_eq {d e : Dev} (h : FaultOnly d e) : e.stks = d.stks := by
  obtain ⟨r, x, o, f, p, rfl⟩ := h
  rfl

theorem FaultOnly.clk_eq {d e : Dev} (h : FaultOnly d e) : e.clk = d.clk := by
  obtain ⟨r, x, o, f, p, rfl⟩ := h
  rfl

/-! ### A denied access -/

/-- The device once a master's denied access has been counted and its address recorded (R354). -/
def Dev.denyCounted (d : Dev) (m : Fin 6) (addr : Nat) : Dev :=
  let d := d.bump (R.SCP_DENY_CNT m) F.SCP_DENY_CNT_DENY
  if d.reg (R.SCP_DENY_ADDR_LO m) = 0 ∧ d.reg (R.SCP_DENY_ADDR_HI m) = 0 then
    (d.setReg (R.SCP_DENY_ADDR_LO m) (BitVec.ofNat 32 (addr / 4096 * 4096))).setReg (R.SCP_DENY_ADDR_HI m) (BitVec.ofNat 32 (addr / 2 ^ 32))
  else d

/-- How a master's denied access ends (Table 11.4). -/
def Dev.denyEnded (d : Dev) (m : Fin 6) (f : Func) (write : Bool) : Dev :=
  if m.val = 2 then
    (if write then d.bump R.HST_AER_CNT F.HST_AER_CNT_UNCOR else d.emit (.barError f))
  else if m.val = 3 ∨ m.val = 4 then
    let e := (d.fresh 8).2.collect { cls := 0, code := (d.fresh 8).1.toNat, sev := 0 }
    if m.val = 3 ∧ !write then e.emit (.memData (.master m f) [] true) else e
  else d.emit (.memError (.master m f))

theorem Dev.denyMaster_eq (d : Dev) (m : Fin 6) (f : Func) (addr : Nat) (write : Bool) :
    d.denyMaster m f addr write = (d.denyCounted m addr).denyEnded m f write := rfl

/-- The stacks, the scratchpad, powered time and a register are as they were. -/
structure LeavesReg (a : Nat) (d e : Dev) : Prop where
  reg : e.reg a = d.reg a
  stks : e.stks = d.stks
  scp : e.scp = d.scp
  clk : e.clk = d.clk

theorem LeavesReg.refl (a : Nat) (d : Dev) : LeavesReg a d d := ⟨rfl, rfl, rfl, rfl⟩

theorem LeavesReg.trans {a : Nat} {d e f : Dev} (x : LeavesReg a d e) (y : LeavesReg a e f) : LeavesReg a d f :=
  ⟨y.reg.trans x.reg, y.stks.trans x.stks, y.scp.trans x.scp, y.clk.trans x.clk⟩

theorem Dev.bump_leavesReg (d : Dev) {a b : Nat} (h : a ≠ b) (f : Fld) (n : Nat) : LeavesReg a d (d.bump b f n) :=
  ⟨d.reg_bump_ne h f n, d.bump_stks b f n, d.bump_scp b f n, d.bump_clk b f n⟩

theorem Dev.setReg_leavesReg (d : Dev) {a b : Nat} (h : a ≠ b) (v : Word) : LeavesReg a d (d.setReg b v) :=
  ⟨d.reg_setReg_ne h v, rfl, rfl, rfl⟩

theorem Dev.emit_leavesReg (d : Dev) (a : Nat) (o : Output) : LeavesReg a d (d.emit o) := ⟨rfl, rfl, rfl, rfl⟩

theorem Dev.collect_leavesReg (d : Dev) {a : Nat} (h : ¬ CollectorReg a) (r : Raise) : LeavesReg a d (d.collect r) :=
  ⟨d.collect_reg r h, (d.collect_shape r).stks_eq, (d.collect_shape r).scp_eq, (d.collect_shape r).clk_eq⟩

/-- What follows a counted denial leaves every register outside the collector and the AER counter. -/
theorem Dev.denyEnded_leavesReg (d : Dev) (m : Fin 6) (f : Func) (write : Bool) {a : Nat} (ha : ¬ CollectorReg a) (haer : a ≠ R.HST_AER_CNT) :
    LeavesReg a d (d.denyEnded m f write) := by
  have hcollect (r : Raise) : LeavesReg a d ((d.fresh 8).2.collect r) :=
    LeavesReg.trans (e := (d.fresh 8).2) ⟨rfl, rfl, rfl, rfl⟩ ((d.fresh 8).2.collect_leavesReg ha r)
  unfold Dev.denyEnded
  dsimp only
  split
  · split
    · exact d.bump_leavesReg haer _ _
    · exact d.emit_leavesReg a _
  split
  · split
    · exact (hcollect _).trans (Dev.emit_leavesReg _ a _)
    · exact hcollect _
  · exact d.emit_leavesReg a _

/-- A recorded address is no counter of denials. -/
theorem Dev.denyCounted_counts (d : Dev) (m : Fin 6) (addr : Nat) :
    LeavesReg (R.SCP_DENY_CNT m) (d.bump (R.SCP_DENY_CNT m) F.SCP_DENY_CNT_DENY) (d.denyCounted m addr) := by
  have hlo : R.SCP_DENY_CNT m ≠ R.SCP_DENY_ADDR_LO m := by
    unfold R.SCP_DENY_CNT R.SCP_DENY_ADDR_LO
    omega
  have hhi : R.SCP_DENY_CNT m ≠ R.SCP_DENY_ADDR_HI m := by
    unfold R.SCP_DENY_CNT R.SCP_DENY_ADDR_HI
    omega
  unfold Dev.denyCounted
  dsimp only
  split
  · exact (Dev.setReg_leavesReg _ hlo _).trans (Dev.setReg_leavesReg _ hhi _)
  · exact LeavesReg.refl _ _

/-- The registers of the scratchpad's denials lie in its block. -/
theorem Dev.denyCounted_leavesReg (d : Dev) (m : Fin 6) (addr : Nat) {a : Nat} (ha : a < 0x91000100) : LeavesReg a d (d.denyCounted m addr) := by
  have hcnt : a ≠ R.SCP_DENY_CNT m := by
    unfold R.SCP_DENY_CNT
    omega
  have hlo : a ≠ R.SCP_DENY_ADDR_LO m := by
    unfold R.SCP_DENY_ADDR_LO
    omega
  have hhi : a ≠ R.SCP_DENY_ADDR_HI m := by
    unfold R.SCP_DENY_ADDR_HI
    omega
  unfold Dev.denyCounted
  dsimp only
  split
  · exact ((d.bump_leavesReg hcnt _ _).trans (Dev.setReg_leavesReg _ hlo _)).trans (Dev.setReg_leavesReg _ hhi _)
  · exact d.bump_leavesReg hcnt _ _

/-- A master's denial counts once. -/
theorem Dev.denyMaster_counts (d : Dev) (m : Fin 6) (f : Func) (addr : Nat) (write : Bool) :
    (d.denyMaster m f addr write).scp = d.scp ∧ (d.denyMaster m f addr write).rf (R.SCP_DENY_CNT m) F.SCP_DENY_CNT_DENY =
      min (d.rf (R.SCP_DENY_CNT m) F.SCP_DENY_CNT_DENY + 1) (2 ^ F.SCP_DENY_CNT_DENY.width - 1) := by
  have hcollector : ¬ CollectorReg (R.SCP_DENY_CNT m) := by
    unfold CollectorReg R.SCP_DENY_CNT R.LNT_SMB_ALERT R.FLT_SEQ R.LNT_MIR_FLTSEQ R.FLT_LOST
    omega
  have haer : R.SCP_DENY_CNT m ≠ R.HST_AER_CNT := by
    unfold R.SCP_DENY_CNT R.HST_AER_CNT
    omega
  obtain ⟨hreg, -, hscp, -⟩ := (d.denyCounted_counts m addr).trans (Dev.denyEnded_leavesReg _ m f write hcollector haer)
  rw [Dev.denyMaster_eq]
  refine ⟨hscp.trans (d.bump_scp _ _ _), ?_⟩
  rw [Dev.rf, hreg, Dev.bump_one]
  refine (Dev.rf_setRf_same d (R.SCP_DENY_CNT m) F.SCP_DENY_CNT_DENY _ (by decide)).trans (Nat.mod_eq_of_lt ?_)
  exact Nat.lt_of_le_of_lt (Nat.min_le_right _ _) (by decide)

/-- A region's registers lie in a stack's block. -/
theorem R.STK_RGN_range (k : Fin 4) (r : Fin 16) {a : Nat} (h : a = R.STK_RGN_WM k r ∨ a = R.STK_RGN_FILL k r ∨ a = R.STK_RGN_CTL k r) :
    0x70000100 ≤ a ∧ a < 0x70400000 ∧ ∀ j : Fin 4, a ≠ R.STK_DENY_CNT j := by
  unfold R.STK_RGN_WM R.STK_RGN_FILL R.STK_RGN_CTL at h
  refine ⟨by omega, by omega, fun j => ?_⟩
  unfold R.STK_DENY_CNT
  omega

/-- A denied access leaves every register of the stacks' regions. -/
theorem Dev.denyAccess_leavesReg (d : Dev) (q : Requester) (addr : Nat) (write : Bool) {k : Fin 4} {r : Fin 16} {a : Nat}
    (ha : a = R.STK_RGN_WM k r ∨ a = R.STK_RGN_FILL k r ∨ a = R.STK_RGN_CTL k r) : LeavesReg a d (d.denyAccess q addr write) := by
  obtain ⟨hlo, hhi, hdeny⟩ := R.STK_RGN_range k r ha
  cases q with
  | gallery g => exact (d.bump_leavesReg (hdeny ⟨g.val / 2, by omega⟩) _ _).trans (Dev.emit_leavesReg _ a _)
  | master m f =>
    have hcollector : ¬ CollectorReg a := by
      unfold CollectorReg R.LNT_SMB_ALERT R.FLT_SEQ R.LNT_MIR_FLTSEQ R.FLT_LOST
      omega
    have haer : a ≠ R.HST_AER_CNT := by
      unfold R.HST_AER_CNT
      omega
    exact (d.denyCounted_leavesReg m addr (by omega)).trans (Dev.denyEnded_leavesReg _ m f write hcollector haer)

theorem Dev.denyAccess_rgnWm (d : Dev) (q : Requester) (addr : Nat) (write : Bool) (k : Fin 4) (r : Fin 16) :
    (d.denyAccess q addr write).rgnWm k r = d.rgnWm k r := by
  have hwm := d.denyAccess_leavesReg q addr write (k := k) (r := r) (.inl rfl)
  have hfill := d.denyAccess_leavesReg q addr write (k := k) (r := r) (.inr (.inl rfl))
  have hctl := d.denyAccess_leavesReg q addr write (k := k) (r := r) (.inr (.inr rfl))
  exact Dev.rgnWm_congr hwm.reg hfill.reg hctl.reg hwm.clk (by rw [Dev.stk, hwm.stks, Dev.stk])

/-- An access that no region of an awake stack admits is denied. -/
theorem stackAccess_denied {m : Mach} {a : StackAccess} {k : Fin 4} {l : Nat} (hplace : stackPlace m.dev.fus.high a.sa = some (k, l))
    (hready : m.dev.stackReady k = true)
    (hadmit : m.dev.admitStack a.req k a.sa (match a.write with | some b => b.length | none => a.len) a.write.isSome = none) :
    stackAccess a m = { m with dev := m.dev.denyAccess a.req (stackWindow + a.sa) a.write.isSome } := by
  unfold stackAccess
  cases hw : a.write <;> simp only [hw] at hadmit <;> simp only [hplace, hready, hadmit, Bool.not_true, Bool.and_false] <;> rfl

/-- Settles O27: the check comes first, and a denial counts and ends the access alone (R342, R354). -/
theorem deniedAccessTouchesNothing : Obligations.DeniedAccessTouchesNothing := by
  constructor
  · intro s t a len hlen hadmit hexec
    have hlen' : scpLen a = len := hlen.symm
    have hdeny : scpAccess a { dev := s.dev, mem := s.mem } =
        { dev := s.dev.denyMaster a.m a.func (scpWindow + a.off) a.write.isSome, mem := s.mem } := by
      simp [scpAccess, Dev.admitScp, hlen', hadmit]
    obtain ⟨hscp, hcount⟩ := s.dev.denyMaster_counts a.m a.func (scpWindow + a.off) a.write.isSome
    rw [eq_onMach_of_memStep hexec, State.onMach, hdeny]
    exact ⟨rfl, hscp, hcount⟩
  · intro s t a k l hplace hready _ hadmit hexec
    rw [eq_onMach_of_memStep hexec, State.onMach, stackAccess_denied (m := { dev := s.dev, mem := s.mem }) hplace hready hadmit]
    have hleaves := s.dev.denyAccess_leavesReg a.req (stackWindow + a.sa) a.write.isSome (k := 0) (r := 0) (.inl rfl)
    exact ⟨rfl, hleaves.stks, fun j r => s.dev.denyAccess_rgnWm _ _ _ j r⟩

end Sys2Proof.Machine

namespace Sys2Proof.Machine

/-! ### The collector -/

theorem PwrOnly.record_eq {d e : Dev} (h : PwrOnly d e) (r : Raise) : e.record r = d.record r := by
  obtain ⟨p, rfl⟩ := h
  rfl

theorem NoticeOnly.flt_eq {d e : Dev} (h : NoticeOnly d e) : e.flt = d.flt := by
  obtain ⟨x, o, p, rfl⟩ := h
  rfl

theorem PwrOnly.flt_eq {d e : Dev} (h : PwrOnly d e) : e.flt = d.flt := h.noticeOnly.flt_eq

theorem mergeRec_length (r : Raise) (l : List FltRec) : (mergeRec r l).length = l.length := by
  induction l with
  | nil => rfl
  | cons x t ih =>
    unfold mergeRec
    split
    · rfl
    · rw [List.length_cons, List.length_cons, ih]

/-- With room and numbered records, a fault's record joins the end, and the sequence counter and its mirror move (R500). -/
theorem Dev.collect_numbered {d : Dev} (hroom : d.flt.recs.length < 256) (hnum : d.flt.numbered = true) (r : Raise) :
    (d.collect r).flt.recs = d.flt.recs ++ [d.record r] ∧
    (d.collect r).reg R.LNT_MIR_FLTSEQ = BitVec.ofNat 32 (d.record r).seq ∧
    (d.collect r).rf R.FLT_SEQ F.FLT_SEQ_SEQ = ((d.record r).seq + 1) % 2 ^ 32 := by
  have hwake := Dev.wakeSurveyor_shape d
  rw [← hwake.record_eq r, ← hwake.flt_eq]
  rw [← hwake.flt_eq] at hroom hnum
  unfold Dev.collect
  generalize d.wakeSurveyor = d at hroom hnum ⊢
  dsimp only
  rw [if_pos hroom]
  have halert (e : Dev) : (if r.sev = 3 then e.smbAlert 3 else e).flt = e.flt := by
    split <;> rfl
  rw [halert, if_pos hnum]
  have hnotice (e : Dev) := e.faultNotice_shape r.parcel (d.record r).seq
  refine ⟨?recs, ?mirror, ?next⟩
  case recs => rw [(hnotice _).flt_eq, Dev.setReg_flt, Dev.setRf_flt, halert]
  case mirror => rw [(hnotice _).reg_eq, Dev.reg_setReg_same]
  case next =>
    rw [Dev.rf, (hnotice _).reg_eq, Dev.reg_setReg_ne _ (by decide)]
    exact Dev.rf_setRf_same _ R.FLT_SEQ F.FLT_SEQ_SEQ _ (by decide)

/-- The collector holds at most 256 records: a full one merges a fault or counts it lost (R501). -/
theorem Dev.collect_length_le {d : Dev} (h : d.flt.recs.length ≤ 256) (r : Raise) : (d.collect r).flt.recs.length ≤ 256 := by
  rw [← (Dev.wakeSurveyor_shape d).flt_eq] at h
  unfold Dev.collect
  generalize d.wakeSurveyor = d at h ⊢
  dsimp only
  split
  · next hroom =>
    have hadded (e : Dev) (he : e.flt.recs.length ≤ 256) : (if e.flt.numbered = true then
        ((e.setRf R.FLT_SEQ F.FLT_SEQ_SEQ ((d.record r).seq + 1)).setReg R.LNT_MIR_FLTSEQ (BitVec.ofNat 32 (d.record r).seq)).faultNotice
          r.parcel (d.record r).seq else e).flt.recs.length ≤ 256 := by
      split
      · rw [(Dev.faultNotice_shape _ _ _).flt_eq]
        exact he
      · exact he
    have hlen : (d.flt.recs ++ [d.record r]).length ≤ 256 := by
      rw [List.length_append]
      exact hroom
    apply hadded
    split <;> exact hlen
  · split
    · rw [(Dev.faultNotice_shape _ _ _).flt_eq]
      exact (mergeRec_length r d.flt.recs).trans_le h
    · exact h

/-- A fault that is named comes to the collector under its own severity, or a free one. -/
theorem Dev.faultIn_eq (d : Dev) (x : FaultIn) : ∃ n v, d.faultIn x = ({ d with freeCtr := n } : Dev).collect
    { cls := x.cls.toNat, code := x.code.toNat, sev := v, unit := x.unit.toNat, parcel := x.parcel.toNat, count := x.count.toNat,
      index := x.index.toNat, arg0 := x.arg0.toNat } := by
  unfold Dev.faultIn
  dsimp only
  split
  · next v _ => exact ⟨d.freeCtr, v, rfl⟩
  · exact ⟨d.freeCtr + 1, _, rfl⟩

/-- Settles O28: with room the collector appends and numbers a record; a full one appends none (R500, R501). -/
theorem collectorTakesARecord : Obligations.CollectorTakesARecord := by
  constructor
  · intro s t x hroom hnum hexec
    obtain ⟨n, v, hin⟩ := s.dev.faultIn_eq x
    obtain ⟨hrecs, hmirror, hnext⟩ := Dev.collect_numbered (d := { s.dev with freeCtr := n }) hroom hnum
      { cls := x.cls.toNat, code := x.code.toNat, sev := v, unit := x.unit.toNat, parcel := x.parcel.toNat, count := x.count.toNat,
        index := x.index.toNat, arg0 := x.arg0.toNat }
    rw [eq_onDev_of_devStep hexec, State.onDev, hin]
    exact ⟨_, hrecs, if_pos hnum, rfl, rfl, rfl, rfl, rfl, rfl, hmirror, hnext⟩
  · intro s t x hlen hexec
    obtain ⟨n, v, hin⟩ := s.dev.faultIn_eq x
    rw [eq_onDev_of_devStep hexec, State.onDev, hin]
    exact Dev.collect_length_le (d := { s.dev with freeCtr := n }) hlen _

end Sys2Proof.Machine

namespace Sys2Proof.Machine

/-! ### COLD_N -/

/-- A register that the bank does not list holds its reset value. -/
theorem Dev.cold_reg (f : Fuses) (l : Ledger) (a : Nat) : (Dev.cold f l).reg a = if a = R.LNT_BOOT_CNT then 1 else resetAt a := by
  have hreg : (Dev.cold f l).reg a = SMap.get (resetAt a) [(R.LNT_BOOT_CNT, 1)] a := rfl
  rw [hreg, SMap.get]
  simp only [SMap.find?]
  by_cases h : a = R.LNT_BOOT_CNT
  · rw [if_pos h.symm, if_pos h]
    rfl
  · rw [if_neg (Ne.symm h), if_neg h]
    rfl

theorem coldN_of_long {ns : Nat} (h : 10000 ≤ ns) (m : Mach) : coldN ns m = coldReset true m.dev.boot.coldInternal m := by
  simp only [coldN, Dev.pulseCounts_of_long _ h, if_true]

/-- Settles O29: a long pulse puts every piece of the device at its cold value (R21, Table 17.1). -/
theorem coldResetState : Obligations.ColdResetState := by
  constructor
  · intro s t ns a hns hexec
    rw [eq_onMach_of_memStep hexec, State.onMach, coldN_of_long hns]
    refine ⟨Dev.cold_reg s.dev.fus s.dev.led a, rfl, rfl, rfl, rfl, rfl, ?rings, ?locks, ?galleries, ?links, rfl⟩
    case rings =>
      intro f
      simp [coldReset, Dev.cold, Dev.ring]
    case locks =>
      intro n
      simp [coldReset, Dev.cold]
    case galleries =>
      intro g
      simp [coldReset, Dev.cold, Dev.gal, Dev.pcl]
    case links =>
      intro k
      simp [coldReset, Dev.cold, Dev.link]
  · intro ns hns
    change memStep State.reset (coldN ns) = _
    rw [memStep, State.onMach, coldN_of_long hns]
    rfl

/-! ### The meters' refill -/

/-- The refill of one stream's buckets (R144, R147). -/
def Dev.refillMeter (p : Nat) (d : Dev) : Dev :=
  (d.setRf (R.EGR_MTR_LVL p) F.EGR_MTR_LVL_LVL
      (min (d.rf (R.EGR_MTR_LVL p) F.EGR_MTR_LVL_LVL + d.rf (R.EGR_MTR_CFG p) F.EGR_MTR_CFG_RATE_U)
        (d.rf (R.EGR_MTR_CFG p) F.EGR_MTR_CFG_BURST * 128))).setRf (R.EGR_MTR_LVL p) F.EGR_MTR_LVL_CEIL_LVL
    (min (d.rf (R.EGR_MTR_LVL p) F.EGR_MTR_LVL_CEIL_LVL + d.fus.ceilU) (d.fus.ceilBurst * 128))

theorem Dev.refillMeter_fus (p : Nat) (d : Dev) : (d.refillMeter p).fus = d.fus := by
  rw [Dev.refillMeter, Dev.setRf_fus, Dev.setRf_fus]

theorem Dev.refillMeter_reg_ne {p a : Nat} (h : a ≠ R.EGR_MTR_LVL p) (d : Dev) : (d.refillMeter p).reg a = d.reg a := by
  rw [Dev.refillMeter, Dev.reg_setRf_ne _ h, Dev.reg_setRf_ne _ h]

/-- The programmed bucket after its refill: its depth fits the field. -/
theorem Dev.refillMeter_lvl (p : Nat) (d : Dev) : (d.refillMeter p).rf (R.EGR_MTR_LVL p) F.EGR_MTR_LVL_LVL =
    min (d.rf (R.EGR_MTR_LVL p) F.EGR_MTR_LVL_LVL + d.rf (R.EGR_MTR_CFG p) F.EGR_MTR_CFG_RATE_U)
      (d.rf (R.EGR_MTR_CFG p) F.EGR_MTR_CFG_BURST * 128) := by
  have hburst : d.rf (R.EGR_MTR_CFG p) F.EGR_MTR_CFG_BURST < 2 ^ 7 := d.rf_lt _ F.EGR_MTR_CFG_BURST
  have hdepth : min (d.rf (R.EGR_MTR_LVL p) F.EGR_MTR_LVL_LVL + d.rf (R.EGR_MTR_CFG p) F.EGR_MTR_CFG_RATE_U)
      (d.rf (R.EGR_MTR_CFG p) F.EGR_MTR_CFG_BURST * 128) < 2 ^ 14 :=
    Nat.lt_of_le_of_lt (Nat.min_le_right _ _) (by omega)
  rw [Dev.refillMeter, Dev.rf_setRf_field _ _ _ (by decide)]
  exact (Dev.rf_setRf_same d (R.EGR_MTR_LVL p) F.EGR_MTR_LVL_LVL _ (by decide)).trans (Nat.mod_eq_of_lt hdepth)

/-- The ceiling bucket after its refill, where the fused depth fits the field. -/
theorem Dev.refillMeter_ceil (p : Nat) {d : Dev} (h : d.fus.ceilBurst ≤ 64) : (d.refillMeter p).rf (R.EGR_MTR_LVL p) F.EGR_MTR_LVL_CEIL_LVL =
    min (d.rf (R.EGR_MTR_LVL p) F.EGR_MTR_LVL_CEIL_LVL + d.fus.ceilU) (d.fus.ceilBurst * 128) := by
  have hdepth : min (d.rf (R.EGR_MTR_LVL p) F.EGR_MTR_LVL_CEIL_LVL + d.fus.ceilU) (d.fus.ceilBurst * 128) < 2 ^ 14 :=
    Nat.lt_of_le_of_lt (Nat.min_le_right _ _) (by omega)
  rw [Dev.refillMeter]
  exact (Dev.rf_setRf_same _ (R.EGR_MTR_LVL p) F.EGR_MTR_LVL_CEIL_LVL _ (by decide)).trans (Nat.mod_eq_of_lt hdepth)

theorem R.EGR_MTR_LVL_ne {p q : Nat} (h : p ≠ q) : R.EGR_MTR_LVL p ≠ R.EGR_MTR_LVL q := by
  unfold R.EGR_MTR_LVL
  omega

theorem R.EGR_MTR_CFG_ne_LVL (p q : Nat) : R.EGR_MTR_CFG p ≠ R.EGR_MTR_LVL q := by
  unfold R.EGR_MTR_CFG R.EGR_MTR_LVL
  omega

/-- Refilling some meters leaves the other registers. -/
theorem Dev.forEach_refillMeter_reg_ne {a : Nat} (l : List Nat) (d : Dev) (h : ∀ q ∈ l, a ≠ R.EGR_MTR_LVL q) :
    (d.forEach l Dev.refillMeter).reg a = d.reg a := by
  induction l generalizing d with
  | nil => rfl
  | cons q t ih =>
    obtain ⟨hq, ht⟩ := List.forall_mem_cons.1 h
    exact (ih (d.refillMeter q) ht).trans (d.refillMeter_reg_ne hq)

/-- A meter refilled once among others holds what its own refill gives. -/
theorem Dev.forEach_refillMeter_same {p : Nat} (l : List Nat) (d : Dev) (hnodup : l.Nodup) (hmem : p ∈ l) :
    (d.forEach l Dev.refillMeter).reg (R.EGR_MTR_LVL p) = (d.refillMeter p).reg (R.EGR_MTR_LVL p) := by
  induction l generalizing d with
  | nil => cases hmem
  | cons q t ih =>
    obtain ⟨hq, ht⟩ := List.nodup_cons.1 hnodup
    rcases List.mem_cons.1 hmem with rfl | hmem
    · exact Dev.forEach_refillMeter_reg_ne t _ fun j hj => R.EGR_MTR_LVL_ne fun h => hq (h ▸ hj)
    · have hne : p ≠ q := fun h => hq (h ▸ hmem)
      refine (ih (d.refillMeter q) ht hmem).trans ?_
      simp only [Dev.refillMeter.eq_1 p, Dev.refillMeter_fus, Dev.rf, d.refillMeter_reg_ne (R.EGR_MTR_LVL_ne hne),
        d.refillMeter_reg_ne (R.EGR_MTR_CFG_ne_LVL p q), Dev.setRf, Dev.reg_setReg_same]

theorem exec_meterRefill (s : State) : exec .meterRefill s = devStep s (fun d => d.forEach (List.range 16) Dev.refillMeter) := rfl

/-- Settles O30: each stream is refilled once, and its buckets' depths fit their fields (R144, R147). -/
theorem meterRefill : Obligations.MeterRefill := by
  intro s t p a hceil hexec
  rw [exec_meterRefill] at hexec
  have hreg : t.dev.reg (R.EGR_MTR_LVL p) = (s.dev.refillMeter p).reg (R.EGR_MTR_LVL p) := by
    rw [eq_onDev_of_devStep hexec, State.onDev]
    exact Dev.forEach_refillMeter_same (List.range 16) s.dev List.nodup_range (List.mem_range.2 p.isLt)
  refine ⟨?programmed, ?ceiling, ?others⟩
  case programmed => rw [Dev.rf, hreg]; exact s.dev.refillMeter_lvl p
  case ceiling => rw [Dev.rf, hreg]; exact Dev.refillMeter_ceil p hceil
  case others =>
    intro ha
    rw [eq_onDev_of_devStep hexec, State.onDev]
    exact Dev.forEach_refillMeter_reg_ne (List.range 16) s.dev fun q hq => ha ⟨q, List.mem_range.1 hq⟩

end Sys2Proof.Machine

namespace Sys2Proof.Machine

/-! ### Reports -/

/-- A served command whose handler finishes completes its row. -/
theorem completes_of_finish {i : Instr} {s : State} {c : Cmd} {sp : CmdSpec} {h : Cmd → Dev → Reply Dev} {d : Dev} {r0 r1 : BitVec 64}
    (hi : exec i s = cmdStep sp h c s) (hs : Served sp c s) (hh : h c s.dev = .finish d .ok r0 r1 0) :
    Completes i s (s.finished c d r0 r1) := hi.trans (cmdStep_finish hs hh)

/-- A served command whose handler waits is held in its row. -/
theorem completes_of_hold {i : Instr} {s : State} {c : Cmd} {sp : CmdSpec} {h : Cmd → Dev → Reply Dev} {d : Dev} {w : Wait}
    (hi : exec i s = cmdStep sp h c s) (hs : Served sp c s) (hh : h c s.dev = .hold d w) :
    Completes i s (s.held c d w) := hi.trans (cmdStep_hold hs hh)

/-- A served command whose handler refuses leaves its completion alone. -/
theorem completes_of_refuse {i : Instr} {s : State} {c : Cmd} {sp : CmdSpec} {h : Cmd → Dev → Reply Dev} {st : Status} {dt : BitVec 32}
    (hi : exec i s = cmdStep sp h c s) (hs : Served sp c s) (hh : h c s.dev = .refuse st dt) :
    Completes i s { s with dev := s.dev.finish c.issuer (cplOf c st 0 0 dt) } := hi.trans (cmdStep_refuse hs hh)

/-- A served command that finishes with a status of its own. -/
theorem cmdStep_finish_status {sp : CmdSpec} {h : Cmd → Dev → Reply Dev} {c : Cmd} {s : State} {d : Dev} {st : Status} {r0 r1 : BitVec 64}
    {dt : BitVec 32} (hs : Served sp c s) (hh : h c s.dev = .finish d st r0 r1 dt) :
    cmdStep sp h c s = .next { s with dev := d.finish c.issuer (cplOf c st r0 r1 dt) } := by
  obtain ⟨hfetch, hon, hadmit⟩ := hs
  simp [cmdStep, serveDev, hfetch, hon, hadmit, hh]

/-- A report of registers with DATA_LEN 0 answers RESULT0; its reads latch HI words alone (R397). -/
theorem report_of_read {c : Cmd} (hlen : c.dataLen = 0) {d e : Dev} {l : List Nat} {es : List (Nat × Word)} (hread : d.readRegs l = (es, e))
    (r0 : BitVec 64) : ∃ x, report c e r0 es = .finish { d with lat := x } .ok r0 0 0 := by
  obtain ⟨x, hx⟩ := readRegs_lat l d
  rw [hread] at hx
  exact ⟨x, (report_empty c e r0 es hlen).trans (congrArg (Reply.finish · .ok r0 0 0) hx)⟩

/-- A served report with DATA_LEN 0 completes with its RESULT0. -/
theorem completes_of_report {i : Instr} {s : State} {c : Cmd} {sp : CmdSpec} {h : Cmd → Dev → Reply Dev} {l : List Nat} {r0 : BitVec 64}
    (hi : exec i s = cmdStep sp h c s) (hs : Served sp c s) (hlen : c.dataLen = 0)
    (hh : h c s.dev = report c (s.dev.readRegs l).2 r0 (s.dev.readRegs l).1) :
    ∃ x, Completes i s (s.finished c { s.dev with lat := x } r0) := by
  obtain ⟨x, hx⟩ := report_of_read hlen (rfl : s.dev.readRegs l = _) r0
  exact ⟨x, completes_of_finish hi hs (hh.trans hx)⟩

/-! ### Device commands -/

/-- A command on a fitted port acts on that port. -/
theorem Dev.onPort_fitted {d : Dev} {c : Cmd} (hp : c.p 0 < 16) (hfit : bit d.fus.ports (c.p 0) = true) (f : Fin 16 → Reply Dev) :
    d.onPort c f = f (fin16 (c.p 0)) := by
  rw [Dev.onPort, if_neg (by omega), if_neg (by rw [hfit]; decide)]

theorem fin16_of_lt {n : Nat} (h : n < 16) : (fin16 n).val = n := Nat.mod_eq_of_lt h

theorem fwWrite_pages {c : Cmd} {d : Dev} {b : List Byte} (hin : inputOf c = some b) (hled : c.env.ledgerOk = true) (hoff : c.pn 0 4 % 4096 = 0)
    (hmin : 4096 ≤ c.bufLen) (hmax : c.bufLen ≤ 0x100000) (hend : c.pn 0 4 + c.bufLen ≤ fwSlotBytes) (htrial : d.led.bootRec.trial = none) :
    fwWrite c d = done (d.updLed (fun l => { l with
      slots := l.slots.set d.freeSlot (.pages (writePages l.slots[d.freeSlot].pageMap (c.pn 0 4) b)), fwPartial := true })) := by
  have hrange : ¬ (c.pn 0 4 % fwPage ≠ 0 ∨ c.bufLen < fwPage ∨ 0x100000 < c.bufLen ∨ fwSlotBytes < c.pn 0 4 + c.bufLen) := by
    unfold fwPage
    omega
  unfold fwWrite
  dsimp only
  rw [if_neg hrange, hin]
  simp [hled, htrial]

theorem fwCommit_eq {c : Cmd} {d : Dev} (hled : c.env.ledgerOk = true) : fwCommit c d =
    if slotAccepted d.fus d.led.slots[d.freeSlot] (c.pn 0 4) then
      done (((d.setMirror 5 0).updLed (fun l => { (l.writeBoot l.bootRec.confirmed (some d.freeSlot)) with fwPartial := false })).setMirror 2 0)
    else .finish ((d.setMirror 5 0).setMirror 2 0) .refused 0 0 (detail .signature) := by
  unfold fwCommit
  dsimp only
  cases slotAccepted d.fus d.led.slots[d.freeSlot] (c.pn 0 4)
  · rfl
  · simp [hled]

/-- INTAKE_STATUS of a fitted port with DATA_LEN 0 answers RESULT0; its reads latch HI words alone. -/
theorem intakeStatus_fitted {c : Cmd} {d : Dev} (hlen : c.dataLen = 0) (hp : c.p 0 < 16) (hfit : bit d.fus.ports (c.p 0) = true) :
    ∃ x, intakeStatus c d = .finish { d with lat := x } .ok (d.peek (R.SEAM_HELLO_ID (c.p 0)) ++ d.peek (R.INT_STAT (c.p 0))) 0 0 := by
  rw [intakeStatus, Dev.onPort_fitted hp hfit]
  split
  next es e hread =>
    rw [fin16_of_lt hp]
    exact report_of_read hlen hread _

/-- LEARN_STATUS answers from the parcel's lowest Gallery. -/
theorem learnStatus_of_firstGal {c : Cmd} {d : Dev} {g : Fin 8} (hg : d.firstGal c.parcel = some g) :
    ∃ l, learnStatus c d = report c (d.readRegs l).2 (BitVec.ofNat 64 (d.rf (R.LRN_CTL g) F.LRN_CTL_EN
      + d.rf (R.LRN_EPOCH g) F.LRN_EPOCH_EPOCH * 65536 + d.rf (R.LRN_STAT g) F.LRN_STAT_DEFER * 2 ^ 33
      + b2n (d.led.sites[c.parcel]).isSome * 2 ^ 32)) (d.readRegs l).1 := by
  unfold learnStatus
  dsimp only
  rw [hg]
  exact ⟨_, rfl⟩

/-- Settles O31: with DATA_LEN 0 a report is its reads and RESULT0; the other commands act by one branch of their handlers. -/
theorem deviceCommandsTakeEffect : Obligations.DeviceCommandsTakeEffect := by
  refine ⟨?timeStatus, ?deviceStatus, ?intakeStatus, ?egressStatus, ?darkStatus, ?learnStatus, ?info, ?nop, ?warmReset, ?write, ?commit, ?abort⟩
  case timeStatus => exact fun s c hs hlen => completes_of_report rfl hs hlen rfl
  case deviceStatus => exact fun s c hs hlen => completes_of_report rfl hs hlen rfl
  case intakeStatus =>
    intro s c hs hlen hp hfit
    obtain ⟨x, hx⟩ := intakeStatus_fitted hlen hp hfit
    exact ⟨x, completes_of_finish rfl hs hx⟩
  case egressStatus => exact fun s c hs hlen => completes_of_report rfl hs hlen rfl
  case darkStatus => exact fun s c hs hlen => completes_of_report rfl hs hlen rfl
  case learnStatus =>
    intro s c g hs hlen hg
    obtain ⟨l, hl⟩ := learnStatus_of_firstGal hg
    exact completes_of_report rfl hs hlen hl
  case info => exact fun s c hs => completes_of_finish rfl hs rfl
  case nop => exact fun s c hs => completes_of_finish rfl hs rfl
  case warmReset =>
    intro s c hs hrun
    refine completes_of_finish rfl hs (if_neg ?_)
    rintro ⟨hany, hp⟩
    rcases hrun with hnone | hforce
    · rw [hnone] at hany
      cases hany
    · omega
  case write =>
    intro s c b hs hin hled hoff hmin hmax hend htrial
    exact completes_of_finish rfl hs (fwWrite_pages hin hled hoff hmin hmax hend htrial)
  case commit =>
    intro s c hs hled
    have hreply := fwCommit_eq (d := s.dev) hled
    split
    · next hok =>
      rw [if_pos hok] at hreply
      exact completes_of_finish rfl hs hreply
    · next hbad =>
      rw [if_neg hbad] at hreply
      exact cmdStep_finish_status hs hreply
  case abort => exact fun s c hs hpartial => completes_of_finish rfl hs (if_pos hpartial)

end Sys2Proof.Machine

namespace Sys2Proof.Machine

/-! ### Security commands -/

/-- SEC_STATUS takes a free value at most, for RESULT1. -/
theorem secStatus_eq (c : Cmd) (d : Dev) : ∃ n v, secStatus c d = .finish { d with freeCtr := n } .ok
    (BitVec.ofNat 64 (d.licencesHeld + d.rf R.LIC_EFFECT F.LIC_EFFECT_EFFECT * 2 ^ 8 + b2n d.led.ownerKey.isSome * 2 ^ 16
      + b2n d.led.ownerLock * 2 ^ 17 + b2n d.boot.lab * 2 ^ 18)) v 0 := by
  unfold secStatus
  dsimp only
  split
  · next k hk => exact ⟨d.freeCtr, _, rfl⟩
  · next hk => exact ⟨d.freeCtr + 1, _, rfl⟩

/-- A licence record that is formed and bound is installed if its signature verifies (R404, R489). -/
theorem licenceInstall_bound {c : Cmd} {d : Dev} {b : List Byte} (hin : inputOf c = some b) (hform : licenceFormed b = true)
    (hbound : licenceBound d.fus b = true) (hled : c.env.ledgerOk = true) (hlab : licFeature b ≠ 5) :
    licenceInstall c d = if licenceSigned b then
        let e := (d.updLed (fun l => { l with licences := l.licences.set (licFeature b) (some b) })).setReg R.LIC_BAD
          (d.reg R.LIC_BAD &&& ~~~(BitVec.ofNat 32 (2 ^ (licFeature b).val)))
        done (e.setReg R.LIC_EFFECT (e.reg R.LIC_EFFECT ||| BitVec.ofNat 32 (2 ^ (licFeature b).val)))
      else refused .signature := by
  unfold licenceInstall
  rw [hin]
  dsimp only
  rw [hform, hbound, hled, if_neg hlab]
  cases licenceSigned b <;> rfl

/-- An owner key record that passes every check of R415 is enrolled. -/
theorem ownerEnrol_accepted {c : Cmd} {d : Dev} {b : List Byte} (hin : inputOf c = some b) (hform : ownerFormed b = true)
    (hserial : d.led.serial < leAt b 8 4) (hbind : leAt b 16 16 = 0 ∨ leAt b 16 16 = d.fus.devid.toNat) (hkey : ownerKeyOk b = true)
    (hlock : d.led.ownerLock = false ∨ (leAt b 128 2 = 1 ∧ d.ownerSigned (b.take 128) (sigAt b 160) = true))
    (hremove : d.led.ownerKey = none → ownerRemoves b = false) (hled : c.env.ledgerOk = true) :
    ownerEnrol c d = done (d.updLed (fun l => { l with
      ownerKey := if ownerRemoves b then none else some (ownerKeyOf b), serial := leAt b 8 4 })) := by
  have hlocked : ¬ (d.led.ownerLock = true ∧ (!(leAt b 128 2 == 1 && d.ownerSigned (b.take 128) (sigAt b 160))) = true) := by
    rintro ⟨hset, hsig⟩
    rcases hlock with hfree | ⟨hby, hsigned⟩
    · rw [hfree] at hset
      cases hset
    · rw [hby, hsigned] at hsig
      cases hsig
  have hgone : ¬ (d.led.ownerKey = none ∧ ownerRemoves b = true) := by
    rintro ⟨hnone, hrem⟩
    rw [hremove hnone] at hrem
    cases hrem
  unfold ownerEnrol
  rw [hin]
  dsimp only
  rw [if_neg (by rw [hform]; simp; omega), if_neg (by omega), if_neg (by rw [hkey]; decide), if_neg hlocked, if_neg hgone,
    if_neg (by rw [hled]; decide)]

/-- OWNER_LOCK with P0 = 0 clears the lock on an accepted release record (R416). -/
theorem ownerLock_clear {c : Cmd} {d : Dev} {b : List Byte} (hp : c.p 0 = 0) (hin : inputOf c = some b) (hled : c.env.ledgerOk = true) :
    ownerLock c d = if d.releaseOk b then done (d.updLed (fun l => { l with ownerLock := false, serial := leAt b 8 4 }))
      else refused .owner := by
  unfold ownerLock
  rw [if_neg (by omega), if_neg (by omega), hin]
  dsimp only
  rw [hled]
  cases d.releaseOk b <;> rfl

/-- Settles O32: each handler's checks pass one after another, and what is left is its effect (R404, R415, R416, R489). -/
theorem securityCommandsAnswer : Obligations.SecurityCommandsAnswer := by
  refine ⟨?status, ?install, ?remove, ?enrol, ?lock, ?clear, ?cert⟩
  case status =>
    intro s c hs
    obtain ⟨n, v, hreply⟩ := secStatus_eq c s.dev
    exact ⟨n, v, completes_of_finish rfl hs hreply⟩
  case install =>
    intro s c b hs hin hform hbound hled hlab e
    have hreply := licenceInstall_bound (d := s.dev) hin hform hbound hled hlab
    split
    · next hok =>
      rw [if_pos hok] at hreply
      exact completes_of_finish rfl hs hreply
    · next hbad =>
      rw [if_neg hbad] at hreply
      exact completes_of_refuse rfl hs hreply
  case remove =>
    intro s c hs hp hled
    refine completes_of_finish rfl hs ?_
    rw [licenceRemove, if_neg (by omega), if_neg (by rw [hled]; decide)]
    rfl
  case enrol =>
    intro s c b hs hin hform hserial hbind hkey hlock hremove hled
    exact completes_of_finish rfl hs (ownerEnrol_accepted hin hform hserial hbind hkey hlock hremove hled)
  case lock =>
    intro s c hs hp hlen hkey hled
    refine completes_of_finish rfl hs ?_
    rw [ownerLock, if_neg (by omega), if_pos hp, if_neg (not_not.2 hlen), if_neg hkey, if_neg (by rw [hled]; decide)]
    rfl
  case clear =>
    intro s c b hs hp hin hled
    have hreply := ownerLock_clear (d := s.dev) hp hin hled
    split
    · next hok =>
      rw [if_pos hok] at hreply
      exact completes_of_finish rfl hs hreply
    · next hbad =>
      rw [if_neg hbad] at hreply
      exact completes_of_refuse rfl hs hreply
  case cert =>
    intro s c b hs hlen hin
    refine completes_of_finish rfl hs ?_
    rw [secGetCert, if_neg (by omega), hin]
    rfl

/-! ### Time commands -/

/-- The word that TIME_SET_SOURCE writes to DAT_CTL. -/
def sourceWord (c : Cmd) : Word := BitVec.ofNat 32 (c.p 0 + c.p 3 * 16 + c.p 1 * 256 + c.p 2 * 512)

/-- A source other than the Seam's, with its settings in range and usable, is taken (R23 to R28). -/
theorem timeSetSource_accepted {c : Cmd} {d : Dev} (hsrc : c.p 0 < 4) (hseam : c.p 0 ≠ 2) (hinv : c.p 1 < 2) (hedge : c.p 2 < 2)
    (hport : c.p 3 < 16) (husable : c.p 0 = 0 ∨ sourceUsable (c.p 0) d.mul d.div = true)
    (hfol : d.follower = false) (hnew : d.reg R.DAT_CTL ≠ sourceWord c) :
    timeSetSource c d = (if c.p 0 = 0 then done ((d.setReg R.DAT_CTL (sourceWord c)).updDat (fun t => { t with
        st := .free, reason := 0, held := none, stepPend := false, pend := none, accept := false, run := [], recent := [],
        lastMeasured := none, err := 0, entryQual := 2 }))
      else done (d.setReg R.DAT_CTL (sourceWord c)).enterAcquire) := by
  have hfree : ¬ (c.p 0 ≠ 0 ∧ (!sourceUsable (c.p 0) d.mul d.div) = true) := by
    rintro ⟨hne, hbad⟩
    rw [husable.resolve_left hne] at hbad
    cases hbad
  unfold timeSetSource
  dsimp only
  rw [if_neg (by omega), if_neg (fun h => hseam h.1), if_neg (fun h => hseam h.1), if_neg (by omega), if_neg (by omega), if_neg (by omega),
    if_neg hfree, hfol]
  exact if_neg (not_or.2 ⟨Bool.false_ne_true, hnew⟩)

/-- A ratio whose fields are in range and which leaves a usable period is written, where no parcel runs (R28, R31). -/
theorem timeSetRatio_accepted {c : Cmd} {d : Dev} (hmul : c.p 0 ≠ 0) (hdiv : 1 ≤ c.pn 2 2) (hdivMax : c.pn 2 2 ≤ 4095)
    (hfree : c.pn 4 4 = 0 ∨ (2000 ≤ c.pn 4 4 ∧ c.pn 4 4 ≤ 2000000)) (husable : d.src = 0 ∨ sourceUsable d.src (c.p 0) (c.pn 2 2) = true)
    (hrun : d.anyRun = false) :
    timeSetRatio c d = done (if c.pn 4 4 = 0 then d.setReg R.DAT_RATIO (BitVec.ofNat 32 (c.p 0 + c.pn 2 2 * 256))
      else (d.setReg R.DAT_RATIO (BitVec.ofNat 32 (c.p 0 + c.pn 2 2 * 256))).setReg R.DAT_FREE_PERIOD (BitVec.ofNat 32 (c.pn 4 4))) := by
  have hok : ¬ (d.src ≠ 0 ∧ (!sourceUsable d.src (c.p 0) (c.pn 2 2)) = true) := by
    rintro ⟨hne, hbad⟩
    rw [husable.resolve_left hne] at hbad
    cases hbad
  unfold timeSetRatio
  dsimp only
  rw [if_neg hmul, if_neg (by omega), if_neg (by omega), if_neg hok, hrun]
  rfl

/-- Settles O33: with the fields in range each handler comes to its register writes (R23 to R51). -/
theorem timeSettingsTakeEffect : Obligations.TimeSettingsTakeEffect := by
  refine ⟨?free, ?pin, ?ratio, ?ratioKept, ?phase, ?accept, ?label⟩
  case free =>
    intro s c hs hsrc hinv hedge hport w hfol hnew
    have hnone : s.dev.follower = false := by
      rw [← hfol, Dev.follower, Dev.follower, Dev.rf, Dev.rf, Dev.reg_setReg_ne _ (by decide)]
    have hreply := timeSetSource_accepted (d := s.dev) (by omega) (by omega) hinv hedge hport (.inl hsrc) hnone hnew
    rw [if_pos hsrc] at hreply
    exact ⟨_, completes_of_finish rfl hs hreply, rfl⟩
  case pin =>
    intro s c hs hsrc hinv hedge hport husable w hfol hnew
    have hreply := timeSetSource_accepted (d := s.dev) (by omega) (by omega) hinv hedge hport (.inr husable) hfol hnew
    rw [if_neg (by omega)] at hreply
    exact ⟨completes_of_finish rfl hs hreply, rfl⟩
  case ratio =>
    intro s c hs hmul hdiv hdivMax hmin hmax husable hrun
    have hreply := timeSetRatio_accepted (d := s.dev) hmul hdiv hdivMax (.inr ⟨hmin, hmax⟩) husable hrun
    rw [if_neg (by omega)] at hreply
    exact completes_of_finish rfl hs hreply
  case ratioKept =>
    intro s c hs hmul hdiv hdivMax hzero husable hrun
    have hreply := timeSetRatio_accepted (d := s.dev) hmul hdiv hdivMax (.inl hzero) husable hrun
    rw [if_pos hzero] at hreply
    exact completes_of_finish rfl hs hreply
  case phase =>
    intro s c hs
    refine completes_of_finish rfl hs ?_
    rw [timeSetPhase, Dev.setReg_dat]
    cases s.dev.dat.lastAnchor <;> rfl
  case accept =>
    intro s c hs
    have hreply : timeAcceptPeriod c s.dev = if s.dev.dat.stepPend then
        done (s.dev.updDat (fun t => { t with accept := true })) 1 0 else done s.dev 0 0 := rfl
    split
    · next hpend =>
      rw [if_pos hpend] at hreply
      exact completes_of_finish rfl hs hreply
    · next hnone =>
      rw [if_neg hnone] at hreply
      exact completes_of_finish rfl hs hreply
  case label => exact fun s c hs => completes_of_finish rfl hs rfl

end Sys2Proof.Machine

namespace Sys2Proof.Machine

/-! ### What sending over the links can change -/

/-- Only the register bank, the outbox, the links and the counter of free values differ. -/
def LinkOnly (d e : Dev) : Prop := ∃ r o l n, e = { d with regs := r, outbox := o, links := l, freeCtr := n }

theorem LinkOnly.refl (d : Dev) : LinkOnly d d := ⟨d.regs, d.outbox, d.links, d.freeCtr, rfl⟩

theorem LinkOnly.trans {a b c : Dev} (x : LinkOnly a b) (y : LinkOnly b c) : LinkOnly a c := by
  obtain ⟨r, o, l, n, rfl⟩ := x
  obtain ⟨r', o', l', n', rfl⟩ := y
  exact ⟨r', o', l', n', rfl⟩

theorem LinkOnly.pcl_eq {d e : Dev} (h : LinkOnly d e) (q : Fin 8) : e.pcl q = d.pcl q := by
  obtain ⟨r, o, l, n, rfl⟩ := h
  rfl

theorem LinkOnly.setReg {d e : Dev} (h : LinkOnly d e) (a : Nat) (v : Word) : LinkOnly d (e.setReg a v) := h.trans ⟨_, _, _, _, rfl⟩

theorem LinkOnly.setRf {d e : Dev} (h : LinkOnly d e) (a : Nat) (f : Fld) (v : Nat) : LinkOnly d (e.setRf a f v) := h.trans ⟨_, _, _, _, rfl⟩

theorem LinkOnly.emit {d e : Dev} (h : LinkOnly d e) (o : Output) : LinkOnly d (e.emit o) := h.trans ⟨_, _, _, _, rfl⟩

theorem LinkOnly.updLink {d e : Dev} (h : LinkOnly d e) (k : Fin 6) (f : Link → Link) : LinkOnly d (e.updLink k f) := h.trans ⟨_, _, _, _, rfl⟩

theorem LinkOnly.fresh {d e : Dev} (h : LinkOnly d e) (w : Nat) : LinkOnly d (e.fresh w).2 := h.trans ⟨_, _, _, _, rfl⟩

theorem LinkOnly.bump {d e : Dev} (h : LinkOnly d e) (a : Nat) (f : Fld) (n : Nat) : LinkOnly d (e.bump a f n) := by
  unfold Dev.bump
  split
  · exact h
  · exact h.setRf a f _

theorem LinkOnly.forEach {α : Type} {f : α → Dev → Dev} {d e : Dev} (h : LinkOnly d e) (hf : ∀ x d e, LinkOnly d e → LinkOnly d (f x e))
    (l : List α) : LinkOnly d (e.forEach l f) :=
  h.trans (Dev.forEach_rel LinkOnly.refl LinkOnly.trans (fun x d => hf x d d (.refl d)) l e)

theorem LinkOnly.putFlit {d e : Dev} (h : LinkOnly d e) (k : Fin 6) (vc : Nat) (f : BitVec 160) : LinkOnly d (e.putFlit k vc f) := by
  unfold Dev.putFlit
  dsimp only
  split
  · exact (h.emit _).updLink k _
  split
  · exact (((h.emit _).updLink k _).emit _).emit _
  · exact ((h.emit _).updLink k _).emit _

theorem LinkOnly.sendFlit {d e : Dev} (h : LinkOnly d e) (k : Fin 6) (vc : Nat) (flag : Bool) (x : BitVec 128) :
    LinkOnly d (e.sendFlit k vc flag x) := by
  unfold Dev.sendFlit Dev.bumpThousand
  dsimp only
  split
  · exact ((h.updLink k _).putFlit k vc _).bump _ _ _
  · exact (h.updLink k _).putFlit k vc _

theorem LinkOnly.closeBlock {d e : Dev} (h : LinkOnly d e) (k : Fin 6) : LinkOnly d (e.closeBlock k) := by
  unfold Dev.closeBlock
  dsimp only
  split
  · exact h
  · exact h.updLink k _

/-- One flit is taken off its queue and sent, or none. -/
theorem LinkOnly.sendOne {d e : Dev} (h : LinkOnly d e) (k : Fin 6) : LinkOnly d (e.sendOne k) := by
  have hsend (u : Link → Link) (vc : Nat) (flag : Bool) (x : BitVec 128) : LinkOnly d ((e.updLink k u).sendFlit k vc flag x) :=
    (h.updLink k u).sendFlit k vc flag x
  unfold Dev.sendOne
  dsimp only
  split
  · exact h
  split
  · exact hsend _ _ _ _
  split
  · exact hsend _ _ _ _
  split
  · exact hsend _ _ _ _
  split
  · exact hsend _ _ _ _
  split
  · exact hsend _ _ _ _
  · exact hsend _ _ _ _
  split
  · exact hsend _ _ _ _
  · exact hsend _ _ _ _
  · exact h

theorem LinkOnly.pump {d : Dev} (k : Fin 6) : ∀ (n : Nat) {e : Dev}, LinkOnly d e → LinkOnly d (e.pump k n)
  | 0, _, h => h
  | n + 1, e, h => by
    unfold Dev.pump
    dsimp only
    split
    · exact LinkOnly.pump k n ((h.sendOne k).closeBlock k)
    · exact LinkOnly.pump k n (h.sendOne k)

theorem LinkOnly.sendMsg {d e : Dev} (h : LinkOnly d e) (k : Fin 6) (m : LinkMsg) : LinkOnly d (e.sendMsg k m) := by
  unfold Dev.sendMsg
  split
  · exact h
  split
  · exact h
  · exact LinkOnly.pump k window (h.updLink k _)

theorem LinkOnly.sendGrp {d e : Dev} (h : LinkOnly d e) (c : Nat) (b : GrpBody) : LinkOnly d (e.sendGrp c b) := by
  unfold Dev.sendGrp
  dsimp only
  split
  · exact h.emit _
  · exact ((h.emit _).fresh 64).sendMsg _ _

theorem LinkOnly.markExperts {d e : Dev} (h : LinkOnly d e) : LinkOnly d e.markExperts := by
  refine h.forEach (fun g d e h => h.forEach (fun x d e h => ?_) _) _
  dsimp only
  split
  · exact h.setRf _ _ _
  · exact h

theorem LinkOnly.writeRoutes {d e : Dev} (h : LinkOnly d e) : LinkOnly d e.writeRoutes :=
  (h.forEach (fun _ _ _ h => h.setReg _ _) _).markExperts

theorem LinkOnly.writeLeader {d e : Dev} (h : LinkOnly d e) (homes : List (Nat × Nat)) (g : Nat) : LinkOnly d (e.writeLeader homes g) :=
  (h.setReg _ _).forEach (fun _ _ _ h => h.setReg _ _) _

theorem LinkOnly.renameLeaders {d e : Dev} (h : LinkOnly d e) : LinkOnly d e.renameLeaders := by
  refine h.forEach (fun q d e h => h.forEach (fun g d e h => ?_) _) _
  split
  · exact h
  · exact h.writeLeader _ _

/-- The routes, the leaders and the messages that follow a change of slices (R255). -/
theorem LinkOnly.slicesChanged {d e : Dev} (h : LinkOnly d e) : LinkOnly d e.slicesChanged :=
  h.writeRoutes.renameLeaders.forEach (fun c _ _ h => h.sendGrp c _) _

/-! ### Parcel commands -/

theorem RegsHost.pcl_eq {d e : Dev} (h : RegsHost d e) (q : Fin 8) : e.pcl q = d.pcl q := by
  obtain ⟨r, x, o, rfl⟩ := h
  rfl

/-- A function's regions and the slices that follow a parcel's change leave the parcels. -/
theorem Dev.vfRegions_slicesChanged_pcl (d : Dev) (f : Func) (q : Fin 8) : ((d.vfRegions f).slicesChanged).pcl q = d.pcl q :=
  ((LinkOnly.refl (d.vfRegions f)).slicesChanged.pcl_eq q).trans ((d.vfRegions_regsHost f).1.pcl_eq q)

theorem Dev.bindParcel_pcl (d : Dev) (c : Cmd) (r : Rect) : (d.bindParcel c r).pcl c.parcel = { st := .created } := by
  rw [Dev.bindParcel]
  exact Dev.pcl_upd_same _ c.parcel _

/-- A free parcel that passes its checks is bound, its regions placed (R194 to R198). -/
theorem parcelCreate_free {c : Cmd} {d : Dev} (habsent : d.createAbsent c (rectOf (c.p 0)) = none)
    (hrange : d.createRange c (rectOf (c.p 0)) = none) (hst : (d.pcl c.parcel).st = .free) (hpool : c.pn 12 4 = 0) :
    ∃ e : Dev, parcelCreate c d = done ((e.bindParcel c (rectOf (c.p 0))).vfRegions (fin9 (c.p 2))).slicesChanged := by
  unfold parcelCreate
  dsimp only
  rw [habsent]
  dsimp only
  rw [hrange]
  dsimp only
  rw [if_neg (not_not.2 hst), if_neg (by omega)]
  exact ⟨_, rfl⟩

theorem Dev.inStates_mem {d : Dev} {q : Fin 8} {l : List PclSt} (h : (d.pcl q).st ∈ l) (r : Reply Dev) : d.inStates q l r = r :=
  if_pos (List.contains_iff_mem.2 h)

/-- Settles O34: the checks passed, each handler is its writes; the slices' followers leave the parcels' states. -/
theorem parcelCommandsTakeEffect : Obligations.ParcelCommandsTakeEffect := by
  refine ⟨?create, ?destroy, ?pools, ?clear, ?status⟩
  case create =>
    intro s c hs habsent hrange hst hpool
    obtain ⟨e, hreply⟩ := parcelCreate_free (d := s.dev) habsent hrange hst hpool
    refine ⟨e, _, completes_of_finish rfl hs hreply, rfl, ?_⟩
    rw [Dev.vfRegions_slicesChanged_pcl, Dev.bindParcel_pcl]
  case destroy =>
    intro s c hs hst e
    refine ⟨_, completes_of_finish rfl hs (Dev.inStates_mem (List.mem_singleton.2 hst) _), ?_, rfl⟩
    rw [Dev.vfRegions_slicesChanged_pcl, Dev.pcl_upd_same]
  case pools =>
    intro s c hs hpools hst
    refine completes_of_finish rfl hs ?_
    rw [parcelSetPools, hpools]
    exact Dev.inStates_mem (List.mem_singleton.2 hst) _
  case clear => exact fun s c hs => completes_of_finish rfl hs rfl
  case status => exact fun s c hs hlen => completes_of_report rfl hs hlen rfl

end Sys2Proof.Machine

namespace Sys2Proof.Machine

/-! ### Atlas images -/

theorem machStep_completes {i : Instr} {s : State} {c : Cmd} {sp : CmdSpec} {h : Cmd → Mach → Reply Mach} {m : Mach} {r0 r1 : BitVec 64}
    (hi : exec i s = machStep sp h c s) (hs : Served sp c s) (hh : h c { dev := s.dev, mem := s.mem } = .finish m .ok r0 r1 0) :
    Completes i s ({ s with mem := m.mem }.finished c m.dev r0 r1) := hi.trans (machStep_finish hs hh)

/-- A report into a buffer of at least its header writes the entries that fit (R397). -/
theorem report_buffer {c : Cmd} {d : Dev} {r0 : BitVec 64} {es : List (Nat × Word)} {b : List Byte} (hlen : c.dataLen ≠ 0)
    (hin : inputOf c = some b) (hb : 16 ≤ b.length) :
    report c d r0 es = .finish (d.toBuffer c (reportHeader c.opcode (min es.length ((b.length - 16) / 16)) d.dat.tick
        ++ (es.take (min es.length ((b.length - 16) / 16))).flatMap (fun e => reportEntry e.1 e.2))) .ok r0
      (BitVec.ofNat 64 (16 + 16 * min es.length ((b.length - 16) / 16) + 2 ^ 32 * (16 + 16 * es.length))) 0 := by
  have hhead : ¬ b.length < 16 := by omega
  rw [report, if_neg hlen, hin]
  dsimp only
  rw [if_neg hhead, if_neg hhead, if_neg (by omega)]
  rfl

/-- An image that passes pass 1 is the image its bytes spell. -/
theorem Dev.pass1_image {d : Dev} {q : Fin 8} {b : List Byte} {len : Nat} {peers : List PeerReply} {m : Image}
    (h : d.pass1 q b len peers = .ok m) : m.bytes = b := by
  unfold Dev.pass1 at h
  dsimp only at h
  split at h
  · cases h
  · cases h
    rfl

/-- A load ends with the parcel LOADED and its digest set (Table 14.8). -/
theorem Mach.loadImage_pcl (x : Mach) (q : Fin 8) (m : Image) :
    ((x.loadImage q m).dev.pcl q).st = .loaded ∧ ((x.loadImage q m).dev.pcl q).digest = sha384 (m.bytes.take m.sigOff) := by
  unfold Mach.loadImage
  dsimp only
  rw [Dev.pcl_upd_same]
  exact ⟨rfl, rfl⟩

/-- Pass 2 with the same bytes on its second reading and its domains ready is the load. -/
theorem pass2_loads {c : Cmd} {q : Fin 8} {m : Image} {x : Mach} (hsecond : c.env.second = none ∨ c.env.second = some (.bytes m.bytes))
    (hready : m.domains.any ((((x.dev.resetParcel q).toCreated q).forEach m.domains (fun i d => d.needDom i)).notReady c.env) = false) :
    pass2 c q m x =
      let y := Mach.loadImage { x with dev := ((x.dev.resetParcel q).toCreated q).forEach m.domains (fun i d => d.needDom i) } q m
      .finish y .ok (y.dev.digestResult q) 0 0 := by
  have hgo : pass2 c q m x = pass2.go c q m x ((x.dev.resetParcel q).toCreated q) := by
    unfold pass2
    rcases hsecond with hnone | hsame
    · rw [hnone]
    · rw [hsame]
      exact if_pos rfl
  rw [hgo, pass2.go]
  dsimp only
  rw [hready]
  rfl

theorem atlasLoad_passed {c : Cmd} {b : List Byte} {m : Image} {x : Mach} (hin : inputOf c = some b)
    (hpass : x.dev.pass1 c.parcel b (loadLen c b) c.env.peers = .ok m)
    (hst : (x.dev.pcl c.parcel).st = .created ∨ (x.dev.pcl c.parcel).st = .loaded) : atlasLoad c x = pass2 c c.parcel m x := by
  unfold atlasLoad
  dsimp only
  rw [hin]
  dsimp only
  rw [hpass]
  exact if_neg (by tauto)

/-- Settles O35: a load's checks pass and pass 2 ends in LOADED; an unload ends in CREATED (R401, R413). -/
theorem imageCommandsTakeEffect : Obligations.ImageCommandsTakeEffect := by
  refine ⟨?load, ?unload, ?unloadCreated, ?status, ?statusBuffer⟩
  case load =>
    intro s c b m hs hin hpass hst hsecond e hready
    have hbytes := Dev.pass1_image hpass
    rw [← hbytes] at hsecond
    have hreply : atlasLoad c { dev := s.dev, mem := s.mem } = .finish (Mach.loadImage { dev := e, mem := s.mem } c.parcel m) .ok
        ((Mach.loadImage { dev := e, mem := s.mem } c.parcel m).dev.digestResult c.parcel) 0 0 :=
      (atlasLoad_passed (x := { dev := s.dev, mem := s.mem }) hin hpass hst).trans (pass2_loads hsecond hready)
    obtain ⟨hloaded, hdigest⟩ := Mach.loadImage_pcl { dev := e, mem := s.mem } c.parcel m
    refine ⟨Mach.loadImage { dev := e, mem := s.mem } c.parcel m, rfl, ?_, hloaded, ?_⟩
    all_goals generalize Mach.loadImage { dev := e, mem := s.mem } c.parcel m = y at hreply hdigest ⊢
    · rw [Dev.digestResult, hdigest, hbytes] at hreply
      exact machStep_completes rfl hs hreply
    · rw [hdigest, hbytes]
  case unload =>
    intro s c hs hst
    have hpcl := Dev.pcl_upd_same ((s.dev.stopPorts c.parcel).resetParcel c.parcel) c.parcel
      (fun p => { p with st := .created, digest := [], tickNs := 0, tolPpm := 0, mhz := 0, imgPorts := 0 })
    refine ⟨_, rfl, completes_of_finish rfl hs ?_, congrArg Parcel.st hpcl, congrArg Parcel.digest hpcl⟩
    rw [atlasUnload, hst]
    rfl
  case unloadCreated =>
    intro s c hs hst
    refine completes_of_finish rfl hs ?_
    rw [atlasUnload, hst]
    rfl
  case status =>
    intro s c hs hlen
    exact completes_of_finish rfl hs (report_empty c s.dev _ _ hlen)
  case statusBuffer =>
    intro s c b hs hlen hin hb p vals fit
    exact completes_of_finish rfl hs (report_buffer hlen hin hb)

/-! ### Run commands -/

theorem runStart_loaded {c : Cmd} {d : Dev} (hst : (d.pcl c.parcel).st = .loaded) (hhubs : d.sleepingHubs c.parcel = []) :
    runStart c d = done (d.startParcel c.parcel) 1 := by
  unfold runStart
  dsimp only
  rw [hst]
  dsimp only
  rw [hhubs]
  rfl

theorem runStop_running {c : Cmd} {d : Dev} (hst : (d.pcl c.parcel).st = .run) :
    runStop c d = if (((d.stopParcel c.parcel).settleParcel c.parcel).pcl c.parcel).st = .loaded
      then done ((d.stopParcel c.parcel).settleParcel c.parcel) 1
      else .hold ((d.stopParcel c.parcel).settleParcel c.parcel) (.runStop c.parcel) := by
  unfold runStop
  dsimp only
  rw [hst]

/-- A parcel that does not stop does not settle. -/
theorem Dev.settleParcel_of_not_stopping {d : Dev} {q : Fin 8} (h : (d.pcl q).st ≠ .stopping) : d.settleParcel q = d := by
  refine if_neg ?_
  rw [Dev.parcelSettles, beq_eq_false_iff_ne.2 h]
  exact Bool.false_ne_true

/-- A parcel at rest that holds a FAULTED Gallery is recovered at once (R511). -/
theorem faultRecover_at_rest {c : Cmd} {d : Dev} {g : Fin 8} (hst : (d.pcl c.parcel).st = .created ∨ (d.pcl c.parcel).st = .loaded)
    (hg : g ∈ d.parcelGals c.parcel) (hbad : (d.gal g).st = .faulted) : faultRecover c d = done (d.recoverParcel c.parcel) := by
  have hrun : (d.pcl c.parcel).st ≠ .run := by
    rcases hst with h | h <;> rw [h] <;> decide
  have hstop : (d.pcl c.parcel).st ≠ .stopping := by
    rcases hst with h | h <;> rw [h] <;> decide
  have hany : ((d.parcelGals c.parcel).filter (fun g => (d.gal g).st == .faulted)).isEmpty ≠ true := by
    rw [ne_eq, List.isEmpty_iff]
    exact List.ne_nil_of_mem (List.mem_filter.2 ⟨hg, beq_iff_eq.2 hbad⟩)
  unfold faultRecover
  dsimp only
  rw [if_neg hany, if_neg hrun, Dev.settleParcel_of_not_stopping hstop, if_neg hstop]

/-- Settles O36: the parcel's state picks each handler's branch; a recovery ends in CREATED (R403, R511). -/
theorem runCommandsTakeEffect : Obligations.RunCommandsTakeEffect := by
  refine ⟨?status, ?start, ?stop, ?recover⟩
  case status => exact fun s c hs => completes_of_finish rfl hs rfl
  case start => exact fun s c hs hst hhubs => completes_of_finish rfl hs (runStart_loaded hst hhubs)
  case stop =>
    intro s c hs hst e
    have hreply := runStop_running hst
    split
    · next hloaded =>
      rw [if_pos hloaded] at hreply
      exact completes_of_finish rfl hs hreply
    · next hwait =>
      rw [if_neg hwait] at hreply
      exact completes_of_hold rfl hs hreply
  case recover =>
    intro s c g hs hst hg hbad
    refine ⟨_, completes_of_finish rfl hs (faultRecover_at_rest hst hg hbad), ?_⟩
    exact congrArg Parcel.st (Dev.pcl_upd_same _ c.parcel _)

end Sys2Proof.Machine

namespace Sys2Proof.Machine

/-! ### Intake commands -/

theorem Dev.portSet_of_parcel {d : Dev} {p : Fin 16} (h : (d.parcelOfPort p.val).isSome = true) (r : Reply Dev) : d.portSet p r = r := by
  refine if_neg ?_
  rw [Option.isNone_iff_eq_none]
  exact Option.isSome_iff_ne_none.1 h

/-- Settings within R116 and R117 offend in no parameter. -/
theorem shedBad_eq_none {budget res low smax : Nat} (hmin : 1 ≤ budget) (hmax : budget ≤ 1048575) (hres : res < budget) (hlow : low ≤ 15)
    (hsmax : smax ≤ 15) : shedBad budget res low smax = none := by
  rw [shedBad, if_neg (by omega), if_neg (by omega), if_neg (by omega), if_neg (by omega)]

/-- In lab mode a port that takes words has them injected (R90, R402). -/
theorem intakeInject_lab {c : Cmd} {d : Dev} {b : List Byte} (hp : c.p 0 < 16) (hfit : bit d.fus.ports (c.p 0) = true) (hlab : d.boot.lab = true)
    (hmin : 4 ≤ c.bufLen) (hmax : c.bufLen ≤ 4096) (hwords : c.bufLen % 4 = 0) (hin : inputOf c = some b)
    (hst : (d.port (fin16 (c.p 0))).st = .start ∨ (d.port (fin16 (c.p 0))).st = .run) :
    intakeInject c d = done ((d.firstValid (fin16 (c.p 0))).inject (fin16 (c.p 0)) (wordsOf b)) (BitVec.ofNat 64 (wordsOf b).length) := by
  have hoff : ¬ ((d.port (fin16 (c.p 0))).st = .off ∨ (d.port (fin16 (c.p 0))).st = .retired) := by
    rcases hst with h | h <;> rw [h] <;> decide
  have hrestart : (d.port (fin16 (c.p 0))).st ≠ .restart := by
    rcases hst with h | h <;> rw [h] <;> decide
  rw [intakeInject, Dev.onPort_fitted hp hfit, if_neg (by rw [hlab]; decide), if_neg (by omega), if_neg hoff, hin]
  exact if_neg hrestart

/-- Settles O37: each command reaches its port, whose parcel lets it be set (R88 to R93, R116, R402). -/
theorem intakeCommandsTakeEffect : Obligations.IntakeCommandsTakeEffect := by
  refine ⟨?enable, ?disable, ?shed, ?clear, ?inject⟩
  case enable =>
    intro s c hs hp hfit hparcel p d₁ d₂
    exact completes_of_finish rfl hs ((Dev.onPort_fitted hp hfit _).trans (Dev.portSet_of_parcel hparcel _))
  case disable =>
    intro s c hs hp hfit hparcel p
    exact completes_of_finish rfl hs ((Dev.onPort_fitted hp hfit _).trans (Dev.portSet_of_parcel hparcel _))
  case shed =>
    intro s c hs hp hfit hmin hmax hres hlow hsmax hrail hparcel p
    have hlow' : (if c.p 12 = 0 then 8 else c.p 12) ≤ 15 := by
      split <;> omega
    refine completes_of_finish rfl hs ((Dev.onPort_fitted hp hfit _).trans ?_)
    dsimp only
    rw [shedBad_eq_none hmin hmax hres hlow' hsmax]
    dsimp only
    rw [hrail]
    exact Dev.portSet_of_parcel hparcel _
  case clear => exact fun s c hs hp hfit => completes_of_finish rfl hs (Dev.onPort_fitted hp hfit _)
  case inject =>
    intro s c b hs hp hfit hlab hmin hmax hwords hin hst p
    exact completes_of_finish rfl hs (intakeInject_lab hp hfit hlab hmin hmax hwords hin hst)

/-! ### Egress and learning commands -/

theorem mem_setStates {st : PclSt} (h : st ≠ .free) : st ∈ setStates := by
  cases st with
  | free => exact absurd rfl h
  | _ => decide

/-- A set command acts on a parcel that is not FREE. -/
theorem Dev.inStates_set {d : Dev} {q : Fin 8} (h : (d.pcl q).st ≠ .free) (r : Reply Dev) : d.inStates q setStates r = r :=
  Dev.inStates_mem (mem_setStates h) r

/-- The PF sets a meter within the fused ceiling (R144, R146). -/
theorem egressSetMeter_pf {c : Cmd} {d : Dev} (hpf : d.actsFor c.issuer = pf) (hp : c.p 0 < 16) (hfit : bit d.fus.ports (c.p 0) = true)
    (hmin : 1 ≤ c.pn 2 2) (hceil : c.pn 2 2 ≤ d.fus.ceilU) (hburst : 1 ≤ c.p 4) (hburstMax : c.p 4 ≤ 64) (hst : (d.pcl c.parcel).st ≠ .free) :
    egressSetMeter c d = done (d.setReg (R.EGR_MTR_CFG (fin16 (c.p 0))) (BitVec.ofNat 32 (c.p 4 * 65536 + c.pn 2 2))) := by
  unfold egressSetMeter
  dsimp only
  rw [hpf, if_neg (by simp), Dev.onPort_fitted hp hfit, if_neg (by omega), if_neg (by omega), if_neg (by omega)]
  exact Dev.inStates_set hst _

/-- Settles O38: with their parameters in range the set commands are their writes (R144 to R148, R269 to R272). -/
theorem egressAndLearningCommandsTakeEffect : Obligations.EgressAndLearningCommandsTakeEffect := by
  refine ⟨?meter, ?heartbeat, ?backlog, ?clear, ?enable, ?disable, ?epoch, ?reward, ?learnClear⟩
  case meter =>
    intro s c hs hpf hp hfit hmin hceil hburst hburstMax hst
    exact completes_of_finish rfl hs (egressSetMeter_pf hpf hp hfit hmin hceil hburst hburstMax hst)
  case heartbeat => exact fun s c hs hmin hmax => completes_of_finish rfl hs (if_neg (by omega))
  case backlog => exact fun s c hs hmin hmax => completes_of_finish rfl hs (if_neg (by omega))
  case clear => exact fun s c hs => completes_of_finish rfl hs rfl
  case enable => exact fun s c hs hst => completes_of_finish rfl hs (Dev.inStates_set hst _)
  case disable => exact fun s c hs hst => completes_of_finish rfl hs (Dev.inStates_set hst _)
  case epoch =>
    intro s c hs hmin hst
    refine completes_of_finish rfl hs ?_
    rw [learnSetEpoch, if_neg (by omega)]
    exact Dev.inStates_set hst _
  case reward => exact fun s c hs hst => completes_of_finish rfl hs (Dev.inStates_set hst _)
  case learnClear => exact fun s c hs => completes_of_finish rfl hs rfl

end Sys2Proof.Machine

namespace Sys2Proof.Machine

/-! ### Site memory -/

/-- A parcel's job of site memory is its own. -/
theorem Dev.siteJob_parcel {d : Dev} {q : Fin 8} {j : SiteJob} (h : d.siteJob q = some j) : j.parcel = q := by
  obtain ⟨x, -, hx⟩ := List.exists_of_findSome?_eq_some h
  split at hx
  · split at hx
    · next hq =>
      cases hx
      exact hq
    · cases hx
  · cases hx

/-- A licensed save of a parcel at LOADED or RUN with no job goes on to its sweeps or its copy (R289). -/
theorem siteSave_accepted {c : Cmd} {d : Dev} (hlic : d.siteLicensed (c.p 0 == 1) = true) (hdest : c.p 0 ≤ 1)
    (hst : (d.pcl c.parcel).st = .loaded ∨ (d.pcl c.parcel).st = .run) (hlink : c.p 0 = 1 → d.storageUp = true)
    (hjob : d.siteJob c.parcel = none) :
    siteSave c d = if d.sweeping c.parcel then
        .hold d (.site { parcel := c.parcel, step := .sweeps, dest := c.p 0, ledgerOk := c.env.ledgerOk })
      else match d.beginCopy c.parcel (c.p 0) c.env.ledgerOk with
        | none => .refuse .refused (detail .capacity)
        | some (j, d) => .hold d (.site j) := by
  have hup : ¬ (c.p 0 = 1 ∧ (!d.storageUp) = true) := by
    rintro ⟨hone, hdown⟩
    rw [hlink hone] at hdown
    cases hdown
  have hmem : (d.pcl c.parcel).st ∈ [PclSt.loaded, .run] := by
    rcases hst with h | h <;> rw [h] <;> decide
  rw [siteSave, if_neg (by rw [hlic]; decide), if_neg (by omega), Dev.inStates_mem hmem, if_neg hup, hjob]
  rfl

/-- The job of a save whose copy begins (R289, R291). -/
def Dev.copyJob (d : Dev) (q : Fin 8) (dest : Nat) (ok : Bool) : SiteJob :=
  { parcel := q
    step := if dest = 0 then .ledger else .dirRead
    dest := dest
    ledgerOk := ok
    image := (d.siteImage q).1
    ends := (d.siteImage q).2.clk + ((d.siteImage q).1.length * 5 + 1) / 2 }

/-- A copy whose image fits begins (R289, R291). -/
theorem Dev.beginCopy_fits {d : Dev} {q : Fin 8} {dest : Nat} {ok : Bool}
    (h : if dest = 0 then (d.siteImage q).2.siteUsed + (d.siteImage q).1.length ≤ siteArea else (d.siteImage q).1.length ≤ siteSlot) :
    d.beginCopy q dest ok = some (d.copyJob q dest ok, (d.siteImage q).2.setDefer q 1) := by
  have hfit : (if dest = 0 then decide (siteArea < (d.siteImage q).2.siteUsed + (d.siteImage q).1.length)
      else decide (siteSlot < (d.siteImage q).1.length)) = false := by
    split at h
    · next h0 => rw [if_pos h0, decide_eq_false_iff_not, Nat.not_lt]; exact h
    · next h0 => rw [if_neg h0, decide_eq_false_iff_not, Nat.not_lt]; exact h
  unfold Dev.beginCopy Dev.copyJob
  generalize d.siteImage q = r at hfit ⊢
  obtain ⟨b, e⟩ := r
  dsimp only at hfit ⊢
  rw [hfit]
  rfl

/-- A licensed restore into a LOADED parcel with no job reads its source (R290, R291). -/
theorem siteRestore_accepted {c : Cmd} {d : Dev} (hlic : d.siteLicensed (c.p 0 == 1) = true) (hsrc : c.p 0 ≤ 1)
    (hst : (d.pcl c.parcel).st = .loaded) (hjob : d.siteJob c.parcel = none) :
    siteRestore c d = if c.p 0 = 0 then d.restoreLedger c
      else if !d.storageUp then .refuse .timeout 0
      else .hold d (.site { parcel := c.parcel, step := .find, dest := 1 }) := by
  rw [siteRestore, if_neg (by rw [hlic]; decide), if_neg (by omega), Dev.inStates_mem (List.mem_singleton.2 hst), hjob]
  rfl

/-- A stored image that is read once is restored if it verifies. -/
theorem Dev.restoreLedger_stored {c : Cmd} {d : Dev} {x : SiteImage} (hled : c.env.ledgerOk = true) (hsite : d.led.sites[c.parcel] = some x)
    (hsecond : c.env.second = none) :
    d.restoreLedger c = match d.siteVerify c.parcel x.bytes with
      | .error dt => .refuse .refused dt
      | .ok p => done (d.restoreSite c.parcel p) := by
  unfold Dev.restoreLedger
  dsimp only
  rw [if_neg (by rw [hled]; decide), hsite]
  dsimp only
  rw [hsecond] <;> rfl

/-- Settles O39: the parcel's job, its sweeps and the image's size pick the branch; a job over ends its own command (R289 to R292). -/
theorem siteMemoryCommandsTakeEffect : Obligations.SiteMemoryCommandsTakeEffect := by
  refine ⟨?save, ?written, ?restore, ?restoreLink, ?delete⟩
  case save =>
    intro s c hs hlic hdest hst hlink hjob
    have hreply := siteSave_accepted hlic hdest hst hlink hjob
    constructor
    · intro hsweep
      rw [if_pos hsweep] at hreply
      exact completes_of_hold rfl hs hreply
    · intro hsweep r hfit j
      rw [if_neg (by rw [hsweep]; decide), Dev.beginCopy_fits hfit] at hreply
      exact completes_of_hold rfl hs hreply
  case written =>
    intro d q j hjob hstep hends hok
    have hq := Dev.siteJob_parcel hjob
    have hsave : j.step.ofSave = true := by
      rw [hstep]
      rfl
    unfold Dev.ledgerWritten
    rw [hjob]
    dsimp only
    rw [if_pos ⟨hstep, hends⟩, if_pos hok, Dev.endJob, if_pos hsave, hq]
  case restore =>
    intro s c x hs hlic hsrc hled hsite hst hjob hsecond
    have hreply := siteRestore_accepted (d := s.dev) (by rw [hsrc]; exact hlic) (by omega) hst hjob
    rw [if_pos hsrc, Dev.restoreLedger_stored hled hsite hsecond] at hreply
    cases hverify : s.dev.siteVerify c.parcel x.bytes with
    | ok p =>
      rw [hverify] at hreply
      exact completes_of_finish rfl hs hreply
    | error dt =>
      rw [hverify] at hreply
      exact completes_of_refuse rfl hs hreply
  case restoreLink =>
    intro s c hs hlic hsrc hst hjob hup
    have hreply := siteRestore_accepted (d := s.dev) (by rw [hsrc]; exact hlic) (by omega) hst hjob
    rw [if_neg (by omega), if_neg (by rw [hup]; decide)] at hreply
    exact completes_of_hold rfl hs hreply
  case delete =>
    intro s c hs hled
    have hreply : siteDelete c s.dev = match s.dev.led.sites[c.parcel] with
        | none => done s.dev 0
        | some _ => done { s.dev with led := { s.dev.led with sites := s.dev.led.sites.set c.parcel none } } 1 := by
      rw [siteDelete, if_neg (by rw [hled]; decide)] <;> rfl
    split
    · next hnone =>
      rw [hnone] at hreply
      exact completes_of_finish rfl hs hreply
    · next hsome =>
      obtain ⟨x, hx⟩ := Option.ne_none_iff_exists'.1 hsome
      rw [hx] at hreply
      exact completes_of_finish rfl hs hreply

end Sys2Proof.Machine

namespace Sys2Proof.Machine

/-! ### Expert commands -/

/-- EXPERT_STATUS answers from the parcel's lowest Gallery (Table 13.13). -/
theorem expertStatus_of_firstGal {c : Cmd} {d : Dev} {g : Fin 8} (hg : d.firstGal c.parcel = some g) :
    ∃ l, expertStatus c d = report c (d.readRegs l).2 (BitVec.ofNat 64 (d.rf (R.CMP_POOL g) F.CMP_POOL_SIZE
      + d.rf (R.CMP_BEAR_LEADER g) F.CMP_BEAR_LEADER_LCHIP * 512 + d.rf (R.CMP_BEAR_LEADER g) F.CMP_BEAR_LEADER_LGAL * 32768
      + d.rf (R.CMP_CTL g) F.CMP_CTL_BEAR_EN * 262144 + (d.pcl c.parcel).bMs % 4096 * 1048576)) (d.readRegs l).1 := by
  unfold expertStatus
  dsimp only
  rw [hg]
  exact ⟨_, rfl⟩

/-- EXPERT_SET_BIAS of an expert of the pool and a bias in range goes to the leader, here or on its chip (R259). -/
theorem expertSetBias_in_pool {c : Cmd} {d : Dev} {g : Fin 8} (hg : d.firstGal c.parcel = some g)
    (hpool : c.p 0 < d.rf (R.CMP_POOL g) F.CMP_POOL_SIZE) (hmin : -64 ≤ sext 8 (c.p 1)) (hmax : sext 8 (c.p 1) ≤ 64)
    (hst : (d.pcl c.parcel).st ≠ .free) :
    expertSetBias c d = (match d.leaderHere g with
      | some l => done (d.onGal l (fun d => (d.setBias l (c.p 0) (toTwos 8 (sext 8 (c.p 1)))).sendBias l (c.p 0) (sext 8 (c.p 1))))
      | none => done (d.sendGrp (d.rf (R.CMP_BEAR_LEADER g) F.CMP_BEAR_LEADER_LCHIP)
          (.bias (fin16 (d.rf (R.PCL_BIND c.parcel) F.PCL_BIND_SLICE)) (c.p 0) (sext 8 (c.p 1))))) := by
  unfold expertSetBias
  rw [hg]
  dsimp only
  rw [if_neg (by omega), if_neg (by omega)]
  exact Dev.inStates_set hst _

/-- Settles O40: with their parameters in range the expert commands are their writes and messages (R259, R260). -/
theorem expertCommandsTakeEffect : Obligations.ExpertCommandsTakeEffect := by
  refine ⟨?bearing, ?biasHere, ?biasThere, ?clear, ?status⟩
  case bearing =>
    intro s c hs hmin hmax hstep hstepMax htol hshift hen hst slice chips left d
    refine completes_of_finish rfl hs ?_
    rw [expertSetBearing, if_neg (by omega), if_neg (by omega), if_neg (by omega), if_neg (by omega), if_neg (by omega)]
    exact Dev.inStates_set hst _
  case biasHere =>
    intro s c g l hs hg hpool hmin hmax hst hleader
    refine completes_of_finish rfl hs ((expertSetBias_in_pool hg hpool hmin hmax hst).trans ?_)
    rw [hleader]
    rfl
  case biasThere =>
    intro s c g hs hg hpool hmin hmax hst hleader
    refine completes_of_finish rfl hs ((expertSetBias_in_pool hg hpool hmin hmax hst).trans ?_)
    rw [hleader]
    rfl
  case clear => exact fun s c hs => completes_of_finish rfl hs rfl
  case status =>
    intro s c g hs hlen hg
    obtain ⟨l, hl⟩ := expertStatus_of_firstGal hg
    exact completes_of_report rfl hs hlen hl

/-! ### Fault and memory commands -/

/-- The block codes of COUNTERS_READ whose instances are always there. -/
theorem Dev.onBlock_present {d : Dev} {c : Cmd} (hinst : c.p 1 < counterInstances (c.p 0))
    (hcode : c.p 0 = 5 ∨ c.p 0 = 6 ∨ c.p 0 = 8 ∨ c.p 0 = 11 ∨ c.p 0 = 12 ∨ c.p 0 = 13) (r : Reply Dev) : d.onBlock c r = r := by
  rw [Dev.onBlock, if_neg (by omega), if_neg (by omega), if_neg (by omega)]

/-- The PF reads every record of the log from a sequence number on (R503). -/
theorem faultLogRead_pf {c : Cmd} {d : Dev} {b : List Byte} (hin : inputOf c = some b) (hpf : d.actsFor c.issuer = pf) :
    faultLogRead c d = done (d.toBuffer c (((d.led.log.filter (fun r => decide (c.pn 0 4 ≤ r.seq))).take
        (min (c.pn 4 2) (c.bufLen / 64))).flatMap FltRec.bytes))
      (BitVec.ofNat 64 ((d.led.log.filter (fun r => decide (c.pn 0 4 ≤ r.seq))).take (min (c.pn 4 2) (c.bufLen / 64))).length) := by
  unfold faultLogRead
  rw [hin]
  dsimp only
  rw [hpf]
  simp only [BEq.rfl, Bool.true_or, Bool.and_true]

/-- MEM_TEST of a free, unblocked scratchpad starts the march engine (R359). -/
theorem memTest_scratchpad {c : Cmd} {d : Dev} (ht : marchTarget (c.p 0) = some .scratchpad) (hpre : c.p 1 ≤ 1)
    (hform : formAllowed .scratchpad (c.p 1 == 1) = true) (hmarch : d.march = none)
    (hblocked : d.marchBlocked .scratchpad (c.p 1 == 1) = none) :
    memTest c d = .hold (d.startMarch (c.p 0) (c.p 1 == 1)) (.memTest (c.p 0)) := by
  unfold memTest
  rw [ht]
  dsimp only [Dev.targetAbsent, MarchTarget.dom]
  rw [if_neg (by omega), hform, hmarch, hblocked]
  rfl

/-- MEM_FILL of a valid region of a ready stack starts the fill engine (R345). -/
theorem memFill_ready {c : Cmd} {d : Dev} (hs : c.p 0 < 4) (hfit : bit d.fus.stks (c.p 0) = true) (hr : c.p 1 < 16)
    (hvalid : d.rgnValid (c.p 0) (c.p 1) = true) (hto : c.pn 4 4 ≤ d.rgnHi (c.p 0) (c.p 1))
    (hready : (d.needDom (31 + c.p 0)).stackReady (fin4 (c.p 0)) = true) :
    memFill c d = .hold (((d.needDom (31 + c.p 0)).setRf (R.STK_RGN_FILL (c.p 0) (c.p 1)) F.STK_RGN_FILL_FILL_TO (c.pn 4 4)).startFill
      (fin4 (c.p 0)) (fin16 (c.p 1))) (.memFill (fin4 (c.p 0)) (c.p 1)) := by
  have hregion : ¬ (16 ≤ c.p 1 ∨ (!d.rgnValid (c.p 0) (c.p 1)) = true) := by
    rw [hvalid]
    simp only [Bool.not_true, Bool.false_eq_true, or_false]
    omega
  unfold memFill
  dsimp only
  rw [if_neg (by omega), hfit, Bool.not_true, if_neg Bool.false_ne_true, if_neg hregion, if_neg (by omega), hready]
  exact if_neg Bool.false_ne_true

/-- Settles O41: each handler reaches the branch of its premises (R345, R357 to R361, R397, R494, R503). -/
theorem faultAndMemoryCommandsTakeEffect : Obligations.FaultAndMemoryCommandsTakeEffect := by
  refine ⟨?status, ?log, ?read, ?clear, ?budget, ?memStatus, ?bg, ?test, ?fill⟩
  case status => exact fun s c hs => completes_of_finish rfl hs rfl
  case log =>
    intro s c b hs hin hpf l
    exact completes_of_finish rfl hs (faultLogRead_pf hin hpf)
  case read =>
    intro s c hs hlen hinst hcode
    exact completes_of_report rfl hs hlen (Dev.onBlock_present hinst hcode _)
  case clear =>
    intro s c hs hinst hcode
    refine completes_of_finish rfl hs ((Dev.onBlock_present hinst hcode _).trans ?_)
    dsimp only
    rw [if_neg (by omega)]
    rfl
  case budget =>
    intro s c hs hpresent hrange
    refine completes_of_finish rfl hs ?_
    rw [faultSetBudget, hpresent]
    dsimp only
    rw [hrange]
    rfl
  case memStatus => exact fun s c hs hlen => completes_of_report rfl hs hlen rfl
  case bg =>
    intro s c hs hscp hen
    refine completes_of_finish rfl hs ?_
    unfold memSetBg
    dsimp only
    rw [if_neg (by omega), if_neg (by omega), if_neg (by omega), if_pos hscp]
    rfl
  case test =>
    intro s c hs ht hpre hform hmarch hblocked
    exact completes_of_hold rfl hs (memTest_scratchpad ht hpre hform hmarch hblocked)
  case fill =>
    intro s c hs hstk hfit hr hvalid hto hready
    exact completes_of_hold rfl hs (memFill_ready hstk hfit hr hvalid hto hready)

/-! ### Diagnostics commands -/

/-- In lab mode a Diagnostics command reaches its parcel's Gallery (R405). -/
theorem Dev.onDiag_lab {σ : Type} {d : Dev} {c : Cmd} (hlab : d.boot.lab = true) (hg : c.p 0 < 8) (hq : d.parcelAt (c.p 0) = some c.parcel)
    (r : Fin 8 → Reply σ) : d.onDiag c r = r (fin8 (c.p 0)) := by
  rw [Dev.onDiag, hlab, Bool.not_true, if_neg Bool.false_ne_true, if_neg (not_or.2 ⟨Nat.not_le.2 hg, not_not.2 hq⟩)]

/-- Settles O42: each handler reaches the branch of its premises (Table 13.18). -/
theorem diagnosticCommandsTakeEffect : Obligations.DiagnosticCommandsTakeEffect := by
  refine ⟨?tap, ?read, ?write⟩
  case tap =>
    intro s c b hs hlab hg hq hhi hlo hin hlen hcount t
    refine completes_of_hold rfl hs ((Dev.onDiag_lab hlab hg hq _).trans ?_)
    dsimp only
    rw [if_neg (by omega), if_neg (by omega), hin]
    exact if_neg (by omega)
  case read =>
    intro s c b hs hlab hg hq hbad hin r
    refine completes_of_finish rfl hs ((Dev.onDiag_lab hlab hg hq _).trans ?_)
    dsimp only
    rw [hbad]
    dsimp only
    rw [hin]
    rfl
  case write =>
    intro s c b hs hlab hg hq hbad hlen hst hin g ws hcheck
    refine machStep_completes (i := .diagWrite c) (m := { dev := _, mem := _ }) (h := diagWrite) rfl hs ((Dev.onDiag_lab hlab hg hq _).trans ?_)
    dsimp only
    rw [hbad]
    dsimp only
    rw [if_neg (by omega), if_neg (not_not.2 hst), hin]
    dsimp only
    rw [hcheck]
    rfl

end Sys2Proof.Machine

namespace Sys2Proof.Machine

/-- A row of the device completes with what its function makes of the device. -/
theorem completes_of_devStep {i : Instr} {s : State} {f : Dev → Dev} {e : Dev} (hi : exec i s = devStep s f) (he : f s.dev = e) :
    Completes i s { s with dev := e } := by
  rw [Completes, hi, devStep, State.onDev, he]

/-- The same, with the function that says what the row does here. -/
theorem completes_onDev {i : Instr} {s : State} {f g : Dev → Dev} (hi : exec i s = devStep s f) (he : f s.dev = g s.dev) :
    Completes i s (s.onDev g) := completes_of_devStep hi he

/-! ### The Datum -/

theorem Dev.isSource_ne_glitch {d : Dev} {i : DatumIn} (h : d.isSource i = true) : i ≠ .glitch := by
  rintro rfl
  cases h

/-- An edge of the selected source that comes in time is measured (R25, R38). -/
theorem Dev.datumInput_source {d : Dev} {i : DatumIn} (hf : d.follower = false) (hi : d.isSource i = true)
    (hloss : d.dat.canLose = false ∨ d.clk ≤ d.lossAt) : d.datumInput i = d.datumEdge := by
  have hkept : d.lossCheck = d := by
    refine if_neg ?_
    rintro ⟨hcan, -, hlate⟩
    rcases hloss with h | h
    · rw [h] at hcan
      cases hcan
    · omega
  rw [Dev.datumInput, if_neg (Dev.isSource_ne_glitch hi), if_neg (by rw [hf, hi]; simp), hkept]

/-- What an edge with a valid period leaves of the Datum block before its state acts (R27). -/
def Dev.edgeSeen (d : Dev) (m : Nat) : Dev :=
  { d with dat := { d.dat with lastMeasured := some d.clk, lastValid := some d.clk, seen := ((d.clk - m) :: d.dat.seen).take 8 } }

/-- An edge outside HOLDOVER with a valid period acts by the state of the Datum block (R27). -/
theorem Dev.datumEdge_valid {d : Dev} {m : Nat} (hst : d.dat.st ≠ .holdover) (hlast : d.dat.lastMeasured = some m)
    (hok : periodOk d.src (d.clk - m) d.mul d.div = true) :
    d.datumEdge = (match d.dat.st with
      | .acquire => (d.edgeSeen m).acquireEdge (d.clk - m) d.clk
      | .slew | .locked => (d.edgeSeen m).trackEdge (d.clk - m) d.clk
      | _ => d.edgeSeen m) := by
  unfold Dev.datumEdge
  dsimp only
  rw [if_neg (fun h => hst h.1), hlast]
  exact if_pos hok

/-- A period within BAND, not at an anchor, joins the mean of the last 8 (R29, R38). -/
theorem Dev.trackEdge_within {d : Dev} {p now : Nat} (hband : differs p d.dat.period (d.rf R.DAT_TOL F.DAT_TOL_BAND) = false)
    (hedges : d.dat.edges + 1 < d.mul) :
    d.trackEdge p now = { d with dat := { d.dat with recent := (p :: d.dat.recent).take 8, period := mean ((p :: d.dat.recent).take 8),
                                                     edges := d.dat.edges + 1 } } := by
  rw [Dev.trackEdge, hband, if_neg Bool.false_ne_true]
  exact if_neg (Nat.not_le.2 hedges)

theorem Dev.edgeSeen_rf (d : Dev) (m a : Nat) (f : Fld) : (d.edgeSeen m).rf a f = d.rf a f := rfl

theorem Dev.rf_clk (d : Dev) (n a : Nat) (f : Fld) : ({ d with clk := n } : Dev).rf a f = d.rf a f := rfl

/-! ### Sweeps and epoch ends -/

theorem Dev.updGal_updGal (d : Dev) (g : Fin 8) (f h : Gal → Gal) : (d.updGal g f).updGal g h = d.updGal g (fun x => h (f x)) := by
  simp [Dev.updGal]

theorem Dev.updGal_congr {d : Dev} {g : Fin 8} {f h : Gal → Gal} (hfh : f (d.gal g) = h (d.gal g)) : d.updGal g f = d.updGal g h := by
  rw [Dev.updGal, Dev.updGal]
  exact congrArg (fun x => { d with gals := d.gals.set g x }) hfh

theorem Dev.updLrn_lrn (d : Dev) (g : Fin 8) (f : Leveler → Leveler) : ((d.updLrn g f).gal g).lrn = f (d.gal g).lrn := by
  rw [Dev.updLrn, Dev.gal_upd_same]

/-- A learning Gallery with no sweep running or waiting and no copy latches its reward and freezes its candidates (R271, R272). -/
theorem Dev.epochEnd_starts {d : Dev} {g : Fin 8} (hlearn : d.learning g = true) (hdefer : d.rf (R.LRN_STAT g) F.LRN_STAT_DEFER = 0)
    (hrun : (d.gal g).lrn.running = none) (hwait : (d.gal g).lrn.waiting = []) (hnext : (d.gal g).lrn.nextEpoch = none) :
    d.epochEnd g = (d.setReg (R.LRN_REWARD g) (BitVec.ofNat 32 (d.rf (R.LRN_REWARD g) F.LRN_REWARD_ACC * 2 ^ 16))).updGal g (fun x => { x with
      lrn := { x.lrn with cands := [], running := some { reward := sext 16 (d.rf (R.LRN_REWARD g) F.LRN_REWARD_ACC), cands := x.lrn.cands,
                                                         epochs := 1, mark := d.dat.tick } } }) := by
  have hne : R.LRN_STAT g ≠ R.LRN_REWARD g := by
    simp only [R.LRN_STAT, R.LRN_REWARD]
    omega
  unfold Dev.epochEnd
  generalize R.LRN_STAT g = b, R.LRN_REWARD g = a at *
  extract_lets acc e₁ w e₂ join overrun noted e
  have hgal : e₁.gal g = d.gal g := Dev.setReg_gal d a _ g
  have hlrn : (e₂.gal g).lrn = { (d.gal g).lrn with cands := [] } := by
    rw [← hgal]
    exact Dev.updLrn_lrn e₁ g _
  have hstat : ¬ e₂.rf b F.LRN_STAT_DEFER = 1 := by
    have hkept : e₂.rf b F.LRN_STAT_DEFER = e₁.rf b F.LRN_STAT_DEFER := Dev.updGal_rf e₁ g _ b _
    rw [hkept, Dev.rf, Dev.reg_setReg_ne d hne, ← Dev.rf, hdefer]
    exact Nat.zero_ne_one
  have hnone : (e₂.gal g).lrn.running = none := by
    rw [hlrn]
    exact hrun
  have he : e = e₂.updLrn g (fun l => { l with waiting := [], running := some (match l.waiting with
      | v :: _ => v.merge w
      | [] => w) }) := by
    refine (if_pos hlearn).trans ((if_neg hstat).trans ?_)
    rw [hnone] <;> rfl
  have hlast : (e.gal g).lrn.nextEpoch = none := by
    rw [he, Dev.updLrn_lrn, hlrn]
    exact hnext
  have hw : w = { reward := sext 16 acc, cands := (d.gal g).lrn.cands, epochs := 1, mark := d.dat.tick } := by
    rw [← hgal, ← Dev.setReg_dat d a]
    rfl
  rw [hlast, he]
  refine (Dev.updGal_updGal e₁ g _ _).trans (Dev.updGal_congr ?_)
  dsimp only
  rw [hgal, hwait, hw]

/-- Settles O43: each row reaches the branch of its premises (Tables 1.2 and 1.3, R27, R38, R73, R74, R271). -/
theorem timeEventsTakeEffect : Obligations.TimeEventsTakeEffect := by
  refine ⟨?glitch, ?acquire, ?track, ?loss, ?turn, ?sweep, ?sweepDone, ?epoch, ?epochSweep⟩
  case glitch =>
    intro s dt hheld
    refine completes_onDev (f := fun d => (d.advance dt).datumInput .glitch) rfl ?_
    rw [Dev.advance_idle _ _ hheld]
    rfl
  case acquire =>
    intro s dt m i hheld hf hi hst hlast hok now e
    refine completes_of_devStep (f := fun d => (d.advance dt).datumInput i) rfl ?_
    rw [Dev.advance_idle _ _ hheld, Dev.datumInput_source (d := { s.dev with clk := s.dev.clk + dt }) hf hi (.inl (by rw [Datum.canLose, hst]; rfl)),
      Dev.datumEdge_valid (d := { s.dev with clk := s.dev.clk + dt }) (by rw [hst]; decide) hlast hok]
    dsimp only
    rw [hst]
    rfl
  case track =>
    intro s dt m i hheld hf hi hst hlast hok hband hedges hloss now r
    have hne : s.dev.dat.st ≠ .holdover := by
      rcases hst with h | h <;> simp [h]
    refine completes_of_devStep (f := fun d => (d.advance dt).datumInput i) rfl ?_
    rw [Dev.advance_idle _ _ hheld, Dev.datumInput_source (d := { s.dev with clk := s.dev.clk + dt }) hf hi (.inr hloss),
      Dev.datumEdge_valid (d := { s.dev with clk := s.dev.clk + dt }) hne hlast hok]
    have htrack := Dev.trackEdge_within (d := ({ s.dev with clk := s.dev.clk + dt }).edgeSeen m) (p := s.dev.clk + dt - m) (now := s.dev.clk + dt)
      (by rw [Dev.edgeSeen_rf, Dev.rf_clk]; exact hband) (by rw [Dev.mul, Dev.edgeSeen_rf, Dev.rf_clk]; exact hedges)
    rcases hst with h | h <;> rw [h] <;> exact htrack
  case loss =>
    intro s hst hf hlate
    have hcan : s.dev.dat.canLose = true := by
      rcases hst with h | h <;> rw [Datum.canLose, h] <;> rfl
    exact completes_onDev (f := fun d => if d.dat.canLose ∧ !d.follower ∧ d.lossAt ≤ d.clk then d.enterHoldover 1 else d) rfl
      (if_pos ⟨hcan, by rw [hf]; rfl, hlate⟩)
  case turn =>
    intro s dt hheld
    refine completes_onDev (f := tickTurn dt []) rfl ?_
    rw [tickTurn, Dev.advance_idle _ _ hheld]
    rfl
  case sweep =>
    intro s htick
    exact completes_onDev (f := settlingSweep []) rfl (if_pos htick)
  case sweepDone =>
    intro s g hbusy hdue
    refine completes_onDev (f := sweepComplete g) rfl ?_
    unfold sweepComplete
    rw [hbusy, Bool.not_true, if_neg Bool.false_ne_true]
    dsimp only
    rw [Dev.setRf_gal, hdue]
    exact if_neg (fun h => Bool.false_ne_true h.1)
  case epoch =>
    intro s g hdom htick hlearn hdefer hrun hwait hnext acc
    refine completes_onDev (f := fun d => if d.domOn (4 + g.val) ∧ d.tick % d.rf (R.LRN_EPOCH g) F.LRN_EPOCH_EPOCH = 0 then d.epochEnd g else d) rfl ?_
    exact (if_pos ⟨hdom, htick⟩).trans (Dev.epochEnd_starts hlearn hdefer hrun hwait hnext)
  case epochSweep =>
    intro s g w hdom hst hrun e
    refine completes_of_devStep (f := epochSweepDone g []) rfl ?_
    unfold epochSweepDone
    rw [hrun]
    dsimp only
    rw [if_pos ⟨hdom, hst⟩] <;> rfl

end Sys2Proof.Machine

namespace Sys2Proof.Machine

/-- A row of memory completes with what its function makes of the device and memory. -/
theorem completes_of_memStep {i : Instr} {s : State} {f : Mach → Mach} {e : Dev} {n : Mem} (hi : exec i s = memStep s f)
    (hm : f { dev := s.dev, mem := s.mem } = { dev := e, mem := n }) : Completes i s { s with mem := n, dev := e } := by
  rw [Completes, hi, memStep, State.onMach, hm]

theorem Dev.updGal_self (d : Dev) {g : Fin 8} {f : Gal → Gal} (h : f (d.gal g) = d.gal g) : d.updGal g f = d := by
  have hset : d.gals.set g (f d.gals[g]) = d.gals := by
    rw [show f d.gals[g] = d.gals[g] from h]
    exact Vector.set_getElem_self _
  rw [Dev.updGal, hset]

theorem Dev.corrupt_nil (d : Dev) (g : Fin 8) : d.corrupt g [] = d :=
  d.updGal_self (by rw [List.append_nil])

/-! ### Events at a Gallery -/

theorem Dev.asleep_of_on {d : Dev} {g : Fin 8} (h : d.domSt (4 + g.val) = .on) : d.asleep g = false := by
  rw [Dev.asleep, h]
  rfl

theorem Dev.wakeEvent_of_on {d : Dev} {i : Nat} (h : d.domSt i = .on) : d.wakeEvent i = d := if_pos (.inl h)

theorem Dev.markWater_domSt (d : Dev) (g : Fin 8) (i : Nat) : (d.markWater g).domSt i = d.domSt i :=
  (Dev.raiseTo_domSt _ _ _ _ _).trans (Dev.raiseTo_domSt _ _ _ _ _)

/-- An event without extra delay below 31 hops joins its sub-queue at a running Gallery (R158). -/
theorem Dev.accept_undelayed {d : Dev} {g : Fin 8} {ev : BitVec 64} (q : Nat) (hst : (d.gal g).st = .run) (hsink : (d.gal g).sink = false)
    (hadly : fget evAdly ev = 0) (hhops : fget evHops ev ≠ 31) :
    d.accept g q ev = (d.updGal g (fun x => x.setSub q (x.sub q ++ [ev]))).markWater g := by
  have hform : malformed ev = false := by
    rw [malformed, hadly]
    rfl
  unfold Dev.accept
  dsimp only
  rw [hadly, if_neg (fun h => h.2 rfl), hform, if_neg Bool.false_ne_true, if_neg hhops, if_neg (fun h => absurd h.1 (by decide)), hst, hsink,
    if_neg (by simp), if_neg (by decide)]

/-- A flit for its own parcel, at an awake Gallery whose sub-queue has a credit, meets the node's checks (R158, R183). -/
theorem Dev.arriveFlit_awake {d : Dev} {g : Fin 8} {parcel : Nat} {ev : BitVec 64} (hparcel : parcel = d.flitParcel g.val) (hmgmt : parcel ≠ 7)
    (hdom : d.domSt (4 + g.val) = .on) (hresume : (d.gal g).resume = none) (hroom : (d.gal g).mesh.length < 2048) :
    d.arriveFlit g parcel ev = some ((d.accept g 1 ev).wakeEvent (4 + g.val)) := by
  have hawake : d.holdsEvents g = false := by
    rw [Dev.holdsEvents, Dev.asleep_of_on hdom, hresume]
    rfl
  have hcredit : d.hasRoom g 1 ev = true := by
    rw [Dev.hasRoom, show decide (((d.gal g).sub 1).length < subSize 1) = true from decide_eq_true hroom, Bool.or_true]
  rw [Dev.arriveFlit, if_neg (by rintro (h | h) <;> contradiction), Dev.deliver, hawake, if_neg Bool.false_ne_true, if_pos hcredit]

theorem Dev.sendEntry_of_head {d : Dev} {g : Fin 8} {x : EmEntry} {tl : List EmEntry} (h : (d.gal g).emitQ = x :: tl) :
    d.sendEntry g = (d.updGal g (fun y => { y with emitQ := tl, emitToggle := true })).sendAll g
      ((d.descsFor g x.neuron).map (fun w => descEvent w d.dat.tick x)) := by
  rw [Dev.sendEntry, h] <;> rfl

/-- Settles O44: each row reaches the branch of its premises (R158 to R163, R167 to R169, R177). -/
theorem galleryEventsTakeEffect : Obligations.GalleryEventsTakeEffect := by
  refine ⟨?arrival, ?take, ?send, ?pending, ?release, ?cold, ?resume⟩
  case arrival =>
    intro s g parcel ev hhalt hparcel hmgmt hdom hresume hst hsink hadly hhops hroom
    have hne : parcel.toNat ≠ 7 := fun h => hmgmt (BitVec.eq_of_toNat_eq h)
    refine completes_onDev (f := eventArrival g (.flit parcel ev)) rfl ?_
    rw [eventArrival, hhalt, if_neg Bool.false_ne_true, Dev.arriveFlit_awake hparcel hne hdom hresume hroom, Dev.accept_undelayed 1 hst hsink hadly hhops, Option.getD_some,
      Dev.wakeEvent_of_on (by rw [Dev.markWater_domSt]; exact hdom)]
    rfl
  case take =>
    intro s g q ev tl hon hnext hsub
    refine completes_onDev (f := eventTake g []) rfl ?_
    unfold eventTake
    dsimp only
    rw [Dev.corrupt_nil, hon, Bool.not_true, if_neg Bool.false_ne_true, hnext]
    dsimp only
    rw [hsub]
  case send =>
    intro s g x tl e hfans hdom htoggle hq hsend
    refine completes_of_devStep (f := emissionSend g) rfl ?_
    rw [emissionSend, if_pos ⟨hfans, hdom⟩, htoggle, if_neg Bool.false_ne_true, Dev.sendEntry_of_head hq, hsend, Option.getD_some]
  case pending =>
    intro s g m n w mo e hfans hdom hshare hnext hopen hp f
    refine completes_of_devStep (f := pendingEmit g m) rfl ?_
    unfold pendingEmit
    rw [hfans, hdom, if_neg (by decide), if_neg (by omega), hnext]
    dsimp only
    rw [hopen]
    exact if_neg (by omega)
  case release =>
    intro s g hst hdom r
    refine completes_onDev (f := delayRelease g) rfl ?_
    rw [delayRelease, hst, hdom, if_neg (by decide)]
    rfl
  case cold =>
    intro s g slot c b m hslot hfans hasked hread hlast hst
    have hi : exec (.coldFetchResponse g slot []) s = memStep s (coldFetchResponse g slot []) := rfl
    have hm : coldFetchResponse g slot [] { dev := s.dev, mem := s.mem }
        = { dev := (m.dev.fanUnit g c (unitWords b)).freeCold g slot, mem := m.mem } := by
      unfold coldFetchResponse
      dsimp only
      rw [hslot]
      dsimp only
      rw [hfans, hasked, if_neg (by decide), hread]
      dsimp only
      rw [if_neg (by decide), if_neg hst, if_neg (by omega)]
    exact completes_of_memStep hi hm
  case resume =>
    intro s g entry hdom hresume d e
    refine completes_of_devStep (f := resumeSweep g) rfl ?_
    unfold resumeSweep
    rw [hdom, Bool.not_true, if_neg Bool.false_ne_true, hresume]

/-! ### The end of a stop -/

/-- The rectangles of the parcels and the host interface are the same. -/
def KeepsRects (d e : Dev) : Prop := e.host = d.host ∧ ∀ q : Nat, e.reg (R.PCL_RECT q) = d.reg (R.PCL_RECT q)

theorem KeepsRects.refl (d : Dev) : KeepsRects d d := ⟨rfl, fun _ => rfl⟩

theorem KeepsRects.trans {a b c : Dev} (x : KeepsRects a b) (y : KeepsRects b c) : KeepsRects a c :=
  ⟨y.1.trans x.1, fun q => (y.2 q).trans (x.2 q)⟩

theorem KeepsRects.of_regs {d e : Dev} (hhost : e.host = d.host) (hregs : e.regs = d.regs) : KeepsRects d e :=
  ⟨hhost, fun q => by rw [Dev.reg, Dev.reg, hregs]⟩

theorem Dev.updGal_keepsRects (d : Dev) (g : Fin 8) (f : Gal → Gal) : KeepsRects d (d.updGal g f) := .of_regs rfl rfl

theorem Dev.fresh_keepsRects (d : Dev) (n : Nat) : KeepsRects d (d.fresh n).2 := .of_regs rfl rfl

theorem Dev.bump_keepsRects (d : Dev) {a : Nat} (h : ∀ q, R.PCL_RECT q ≠ a) (f : Fld) (n : Nat) : KeepsRects d (d.bump a f n) :=
  ⟨Dev.bump_host _ _ _ _, fun q => Dev.reg_bump_ne d (h q) f n⟩

/-- The counters of a Gallery lie below the parcels' registers. -/
theorem rect_ne_of_lt {a : Nat} (h : a < 0x40010000) (q : Nat) : R.PCL_RECT q ≠ a := by
  unfold R.PCL_RECT
  omega

theorem eccUeCnt_lt (g : Fin 8) : R.GAL_ECC_UE_CNT g < 0x40010000 := by
  unfold R.GAL_ECC_UE_CNT
  omega

theorem eccCeCnt_lt (g : Fin 8) : R.GAL_ECC_CE_CNT g < 0x40010000 := by
  unfold R.GAL_ECC_CE_CNT
  omega

theorem stopDropCnt_lt (g : Fin 8) : R.GAL_STOP_DROP_CNT g < 0x40010000 := by
  unfold R.GAL_STOP_DROP_CNT
  omega

theorem Dev.touchMap_keepsRects (d : Dev) (g : Fin 8) (i : Nat) : KeepsRects d (d.touchMap g i) := by
  unfold Dev.touchMap
  split
  · exact .refl d
  · dsimp only
    split
    · exact (((d.updGal_keepsRects g _).trans (Dev.bump_keepsRects _ (rect_ne_of_lt (eccUeCnt_lt g)) _ _)).trans
        (Dev.fresh_keepsRects _ 64)).trans (Dev.updGal_keepsRects _ g _)
    · exact (d.updGal_keepsRects g _).trans (Dev.bump_keepsRects _ (rect_ne_of_lt (eccCeCnt_lt g)) _ _)

theorem Dev.galLoaded_keepsRects (d : Dev) (g : Fin 8) : KeepsRects d (d.galLoaded g) := by
  have htouch := Dev.forEach_rel KeepsRects.refl KeepsRects.trans (fun (e : EccErr) d => d.touchMap_keepsRects g e.idx)
    ((d.gal g).bad.filter (fun e => e.kind == .bmap && true)) d
  unfold Dev.galLoaded
  dsimp only
  exact ((htouch.trans (Dev.bump_keepsRects _ (rect_ne_of_lt (stopDropCnt_lt g)) _ _)).trans
    (Dev.forEach_rel KeepsRects.refl KeepsRects.trans (fun _ d => d.updGal_keepsRects g _) _ _)).trans (Dev.updGal_keepsRects _ g _)

theorem KeepsRects.parcelAt_eq {d e : Dev} (h : KeepsRects d e) (g : Nat) : e.parcelAt g = d.parcelAt g := by
  have hrf (f : Fld) (q : Fin 8) : e.rf (R.PCL_RECT q) f = d.rf (R.PCL_RECT q) f := congrArg (fget f) (h.2 q)
  unfold Dev.parcelAt
  congr 1
  funext q
  exact decide_eq_decide.2 (by simp only [hrf])

/-- A command that ends leaves those that have started. -/
theorem Dev.finish_started (d : Dev) (i : Issuer) (c : Cpl) : (d.finish i c).host.started = d.host.started := by
  cases i with
  | fn f => rfl
  | attach => rfl

theorem Dev.release_started (d : Dev) (w : Wait → Bool) (st : Status) (r0 r1 : BitVec 64) (dt : BitVec 32) :
    (d.release w st r0 r1 dt).host.started = d.host.started.filter (fun x => !w x.wait) := by
  unfold Dev.release
  exact Dev.forEach_rel (P := fun d e => e.host.started = d.host.started) (fun _ => rfl) (fun hab hbc => hbc.trans hab)
    (fun x d => Dev.finish_started _ _ _) _ _

theorem Dev.settleParcel_host (d : Dev) (q : Fin 8) : (d.settleParcel q).host = d.host := by
  unfold Dev.settleParcel
  split <;> rfl

/-- Settles O45: each row reaches the branch of its premises (R154 to R156, R269, R508, R541, Table 18.11). -/
theorem galleriesChangeState : Obligations.GalleriesChangeState := by
  refine ⟨?drained, ?settled, ?reset, ?fault, ?stall, ?reward⟩
  case drained =>
    intro s g hdrained hnone
    refine completes_onDev (f := galleryDrained g) rfl ?_
    unfold galleryDrained
    rw [if_pos hdrained]
    dsimp only
    rw [(s.dev.galLoaded_keepsRects g).parcelAt_eq, hnone]
  case settled =>
    intro s g q hdrained hparcel hsettles hrecover
    refine ⟨_, completes_of_devStep (f := galleryDrained g) rfl rfl, ?_⟩
    have hnone : ¬ (((s.dev.galLoaded g).settleParcel q).release (Wait.isStop q) .ok 1 0 0).host.started.any (fun x => Wait.isRecover q x.wait)
        = true := by
      rw [Dev.release_started, Dev.settleParcel_host, (s.dev.galLoaded_keepsRects g).1, Bool.not_eq_true, List.any_eq_false]
      intro x hx
      have hx' := List.all_eq_true.1 hrecover x (List.mem_of_mem_filter hx)
      simpa using hx'
    dsimp only
    unfold galleryDrained
    rw [if_pos hdrained]
    dsimp only
    rw [hparcel]
    dsimp only
    rw [if_pos hsettles]
    exact if_neg hnone
  case reset =>
    intro s g hbusy
    have hdev : cfgResetDone g s.dev = s.dev.cfgReset g := if_pos hbusy
    have hgal : ((s.dev.cfgReset g).gal g).st = .empty ∧ ((s.dev.cfgReset g).gal g).state = [] ∧ ((s.dev.cfgReset g).gal g).axons = [] ∧
        ((s.dev.cfgReset g).gal g).syn = [] ∧ ((s.dev.cfgReset g).gal g).cfgBusy = false := by
      rw [Dev.cfgReset, Dev.gal_upd_same]
      exact ⟨rfl, rfl, rfl, rfl, rfl⟩
    exact ⟨_, completes_of_devStep (f := cfgResetDone g) rfl hdev, rfl, hgal⟩
  case fault => exact fun s g cause hmin hmax => completes_onDev (f := galleryFault g cause) rfl (if_pos ⟨hmin, hmax⟩)
  case stall => exact fun s g => completes_onDev (f := fun d => d.enterFaulted g 3) rfl rfl
  case reward => exact fun s g v => completes_onDev (f := fun d => d.addReward g v.toInt) rfl rfl

end Sys2Proof.Machine

namespace Sys2Proof.Machine

/-! ### What a change of a Gallery leaves -/

theorem Dev.updGal_domOn (d : Dev) (g : Fin 8) (f : Gal → Gal) (i : Nat) : (d.updGal g f).domOn i = d.domOn i := rfl

theorem Dev.updGal_galSlice (d : Dev) (g h : Fin 8) (f : Gal → Gal) : (d.updGal g f).galSlice h = d.galSlice h := rfl

theorem Dev.updCmp_cmp (d : Dev) (g : Fin 8) (f : Compass → Compass) : ((d.updCmp g f).gal g).cmp = f (d.gal g).cmp := by
  rw [Dev.updCmp, Dev.gal_upd_same]

theorem Dev.updCmp_updCmp (d : Dev) (g : Fin 8) (f h : Compass → Compass) : (d.updCmp g f).updCmp g h = d.updCmp g (fun c => h (f c)) :=
  d.updGal_updGal g _ _

theorem Dev.updCmp_cmpOn (d : Dev) (g : Fin 8) (f : Compass → Compass) : (d.updCmp g f).cmpOn g = d.cmpOn g := by
  rw [Dev.cmpOn, Dev.cmpOn, Dev.updCmp, Dev.gal_upd_same, Dev.updGal_rf, Dev.updGal_domOn]

/-! ### The Compass unit -/

/-- A reference event of the slice without extra delay, PART 0 to 35, 62 or 63, acts by its PART (R250, Table 8.3). -/
theorem Dev.takeRef_valid {d : Dev} {g : Fin 8} {ev : BitVec 64} (hon : d.cmpOn g = true) (hadly : fget evAdly ev = 0)
    (hslice : some (fget evSlice ev) = d.galSlice g) (hpart : refPart ev < 36 ∨ 61 < refPart ev) :
    d.takeRef g ev = (if refPart ev < 36 then (d.updCmp g (fun c => { c with refs := c.refs.erase ev })).trainPart g ev
      else if refPart ev = 62 then (d.updCmp g (fun c => { c with refs := c.refs.erase ev })).loadReport g ev
      else (d.updCmp g (fun c => { c with refs := c.refs.erase ev })).biasUpdate g ev) := by
  have hform : ¬ (fget evAdly ev ≠ 0 ∨ some (fget evSlice ev) ≠ (d.updCmp g (fun c => { c with refs := c.refs.erase ev })).galSlice g ∨
      (36 ≤ refPart ev ∧ refPart ev ≤ 61)) := by
    rw [Dev.updCmp, Dev.updGal_galSlice]
    rintro (h | h | h)
    · exact h hadly
    · exact h hslice
    · omega
  unfold Dev.takeRef
  dsimp only
  rw [Dev.updCmp_cmpOn, hon, Bool.not_true, if_neg Bool.false_ne_true, if_neg hform]

/-- Part 0 of a train that has no context opens one where there is room (R251). -/
theorem Dev.trainStart_opens {d : Dev} {g : Fin 8} {src : Nat × Nat}
    (hnone : (d.gal g).cmp.trains.find? (fun t => (t.chip, t.gallery) == src) = none) (hroom : (d.gal g).cmp.trains.length < 32) (rem data : Nat) :
    d.trainStart g src rem data = d.updCmp g (fun c => { c with
      trains := c.trains ++ [{ chip := src.1, gallery := src.2, next := 1, rem := rem, cands := [data], feats := [] }], dead := c.dead.erase src }) := by
  have hany : ¬ (d.gal g).cmp.trains.any (fun t => (t.chip, t.gallery) == src) = true := by
    rw [Bool.not_eq_true, List.any_eq_false]
    exact List.find?_eq_none.1 hnone
  unfold Dev.trainStart
  rw [if_neg hany]
  exact if_neg (Nat.not_le.2 hroom)

theorem Dev.meetNode_awake {d : Dev} {g : Fin 8} {parcel : Nat} (hparcel : d.badParcel g parcel = false) (hawake : d.asleep g = false)
    (b : Freight) (act : Dev → Dev) : d.meetNode g parcel b act = act d := by
  rw [Dev.meetNode, hparcel, if_neg Bool.false_ne_true, hawake, if_neg Bool.false_ne_true]

theorem Dev.validExperts_nil {d : Dev} {g : Fin 8} (h : d.rf (R.CMP_POOL g) F.CMP_POOL_SIZE = 0) : d.validExperts g = [] := by
  rw [Dev.validExperts, h]
  rfl

/-- A period end with no settings that wait counts; a leader with the loop on collects (R255, R256). -/
theorem bearingPeriodEnd_counts {d e : Dev} {g : Fin 8} (hon : d.cmpOn g = true)
    (htick : d.tick % d.rf (R.CMP_BEAR_CFG g) F.CMP_BEAR_CFG_BT = 0) (hcfg : (d.gal g).cmp.nextCfg = none)
    (he : d.bump (R.CMP_BEAR_CNT g) F.CMP_BEAR_CNT_PERIODS = e) :
    bearingPeriodEnd g d =
      (if (decide (e.rf (R.CMP_CTL g) F.CMP_CTL_BEAR_EN = 1) && decide (e.rf (R.CMP_BEAR_LEADER g) F.CMP_BEAR_LEADER_SELF = 1)) = true
        then e.updCmp g (fun c => { c with collecting := true, reports := [] }) else e).forEach
      ((if (decide (e.rf (R.CMP_CTL g) F.CMP_CTL_BEAR_EN = 1) && decide (e.rf (R.CMP_BEAR_LEADER g) F.CMP_BEAR_LEADER_SELF = 1)) = true
        then e.updCmp g (fun c => { c with collecting := true, reports := [] }) else e).validExperts g) (fun x d => d.closeLoad g x) := by
  have happly : d.applyBearing g = d := by
    rw [Dev.applyBearing, hcfg]
  unfold bearingPeriodEnd
  rw [hon, Bool.not_true, if_neg (by simp [htick]), happly, he]

/-- A bearing step with no report counts an expert missing for each valid entry (R257). -/
theorem bearingStep_no_report {d : Dev} {g : Fin 8} (hon : d.cmpOn g = true) (hcollect : (d.gal g).cmp.collecting = true)
    (hnone : (d.gal g).cmp.reports = []) :
    bearingStep g d = (d.bump (R.CMP_BEAR_CNT g) F.CMP_BEAR_CNT_MISS (d.validExperts g).length).updCmp g (fun c => { c with
      collecting := false, reports := [] }) := by
  unfold bearingStep
  rw [hon, hcollect, Bool.not_true, if_neg (by simp), hnone]
  exact if_pos (.inl rfl)

/-! ### The job port -/

theorem Dev.submitJob_refused {d : Dev} {p : Fin 8} {job : Job} {slice : Option Nat} {code : Nat} (h : d.portAnswer p job.desc slice = code)
    (hcode : code ≠ 0) :
    d.submitJob p job slice = (code, d.bump (R.DNS_RESP_CNT p) (if code = 1 then F.DNS_RESP_CNT_FULL else F.DNS_RESP_CNT_OTHER)) := by
  rw [Dev.submitJob, h]
  exact if_neg hcode

/-- A job of another unit that the port accepts counts as load and queues (R217, R228, R254). -/
theorem Dev.submitJob_remote {d : Dev} {p : Fin 8} {job : Job} {slice : Option Nat} {chip gallery tag : Nat} {ref : BitVec 64}
    (h : d.portAnswer p job.desc slice = 0) (hsrc : job.src = .remote chip gallery tag ref) :
    d.submitJob p job slice
      = (0, ((d.countLoad p job.desc job.n).updPlane p (fun x => { x with queue := x.queue ++ [job] })).wakeEvent (12 + p.val)) := by
  rw [Dev.submitJob, h, hsrc]
  dsimp only
  rw [if_pos rfl, if_pos rfl]

/-- The job of a submission over VN-Q (R217, R218): its rows come with the reads of its operands. -/
def Dev.remoteJob (d : Dev) (p : Fin 8) (q : JobFlit) : Job :=
  { desc := jfJob q.word, n := jfRows q.word, rows := List.replicate (jfRows q.word) [],
    reads := jfRows q.word * jdKt (d.jdesc p (jfJob q.word)),
    src := .remote (jfChip q.word) (jfNode q.word) (jfTag q.word) q.ref, chain := 0 }

/-- A submission of the form of Table 7.7 is answered with the port's code, and an accepted one asks for its operands (R217, R218). -/
theorem Dev.takeJob_answers {d e : Dev} {p : Fin 8} {q : JobFlit} {code : Nat} (hsink : (d.gal p).sink = false)
    (hform : d.jobForm p.val q.word = true) (hport : d.submitJob p (d.remoteJob p q)
      (d.galSlice (fin8 (if jfChip q.word = d.selfChip then jfNode q.word else p.val))) = (code, e)) :
    d.takeJob p q = if code = 0 then (e.answerJob p q code).askOperands p q else e.answerJob p q code := by
  rw [Dev.remoteJob] at hport
  unfold Dev.takeJob
  rw [hsink, if_neg Bool.false_ne_true, hform, Bool.not_true, if_neg Bool.false_ne_true]
  dsimp only
  rw [hport]

theorem jobSubmit_takes {d : Dev} {p : Fin 8} {q : JobFlit} (hparcel : d.badParcel p q.parcel.toNat = false) (hawake : d.asleep p = false) :
    jobSubmit p q d = d.takeJob p q := Dev.meetNode_awake hparcel hawake _ _

/-- The read at the head of a VN-Q buffer is served from its staging slot (R183, R218). -/
theorem operandRead_serves {d : Dev} {g : Fin 8} {port : Fin 4} {m : MeshMsg} {plane tag row chunk : Nat} {ref : BitVec 64}
    (hhead : (d.gal g).readHead g.val = some (port, m)) (hbody : m.body = .read plane tag ref row chunk) (hawake : d.asleep g = false)
    (hparcel : (d.popNode g port 2).badParcel g m.parcel = false) :
    operandRead g d = (d.popNode g port 2).serveRead g plane tag ref row chunk := by
  obtain ⟨parcel, dst, body⟩ := m
  cases hbody
  unfold operandRead
  rw [hhead]
  dsimp only
  rw [hawake, if_neg Bool.false_ne_true, hparcel, if_neg Bool.false_ne_true]

/-! ### Jobs -/

/-- With no limit's second-slot rule every job slot counts (R445, R447). -/
theorem Dev.jobSlotSkipped_of_free {d : Dev} (hsecond : d.pwr.secondSlot = false) (hhot : d.pwr.hotSlot = false) (p : Fin 8) :
    d.jobSlotSkipped p = false := by
  rw [Dev.jobSlotSkipped, hsecond, hhot]
  rfl

theorem Dev.nextJobSlot_of_free {d : Dev} (hsecond : d.pwr.secondSlot = false) (hhot : d.pwr.hotSlot = false) (p : Fin 8) :
    d.nextJobSlot p = { d with pwr := { d.pwr with slotSkip := 0 } } := by
  rw [Dev.nextJobSlot, hsecond, hhot]
  exact if_neg (by simp)

/-- The head of the queue starts on a plane that nothing holds once its operands and weights are there (R219). -/
theorem jobStart_starts {d e : Dev} {p : Fin 8} {j : Job} {tl : List Job} {b : Fin 2} (he : d.nextJobSlot p = e) (hskip : d.jobSlotSkipped p = false)
    (hrun : (d.plane p).running = none) (hdom : e.domOn (12 + p.val) = true) (hgate : e.denseGated = false) (hhold : e.clks.holdJobs = false)
    (hfull : e.clks.fullOnly = false) (hstop : e.pwr.stopJobs = false) (hout : (d.plane p).outEvents = []) (hst : (e.gal p).st ≠ .faulted)
    (hqueue : (d.plane p).queue = j :: tl) (hreads : j.reads = 0) (hbuf : (d.plane p).bufOf (jdTag (e.jdesc p j.desc)) = some b) :
    jobStart p d = e.updPlane p (fun x => { x with running := some j, queue := tl, lastBuf := b }) := by
  unfold jobStart
  dsimp only
  rw [he, hskip, hrun, hdom, hgate, hhold, hfull, hstop, hout, if_neg (by simp [hst]), hqueue]
  dsimp only
  rw [if_neg (not_not.2 hreads), hbuf]

/-- Settles O46: each row reaches the branch of its premises (chapters 7 and 8). -/
theorem compassAndPlaneEventsTakeEffect : Obligations.CompassAndPlaneEventsTakeEffect := by
  refine ⟨?score, ?submit, ?accepted, ?refused, ?staging, ?lost, ?train, ?late, ?period, ?lead, ?load, ?step, ?bias, ?job, ?full, ?read, ?operands,
    ?weights, ?start, ?complete, ?flush⟩
  case score =>
    intro s g t q hon hrows hqueue d r row
    refine completes_of_devStep (f := tallyScore g) rfl ?_
    unfold tallyScore
    rw [hon, Bool.not_true, if_neg Bool.false_ne_true, hrows, hqueue]
  case submit =>
    intro s g b x hon hbatch
    refine completes_onDev (f := fun d => match (d.gal g).cmp.batches[b.val]? with
      | some x => if d.cmpOn g then d.submitBatch g x else d
      | none => d) rfl ?_
    rw [hbatch]
    exact if_pos hon
  case accepted =>
    intro s g a code x hparcel hawake hfind hopen hcode
    refine completes_onDev (f := jobResponse g a code) rfl ((Dev.meetNode_awake hparcel hawake _ _).trans ?_)
    unfold Dev.takeAnswer
    dsimp only
    rw [hfind]
    dsimp only
    rw [hopen, if_neg Bool.false_ne_true]
    exact if_pos (congrArg Fin.val hcode)
  case refused =>
    intro s g a code x hparcel hawake hfind hopen hcode
    refine completes_onDev (f := jobResponse g a code) rfl ((Dev.meetNode_awake hparcel hawake _ _).trans ?_)
    unfold Dev.takeAnswer
    dsimp only
    rw [hfind]
    dsimp only
    rw [hopen, if_neg Bool.false_ne_true]
    exact if_neg (fun h => hcode (Fin.ext h))
  case staging => exact fun s g slot => completes_onDev (f := fun d => d.freeStaging g slot.val) rfl rfl
  case lost => exact fun s g slot hopen => completes_onDev (f := requestTimeout g (.submission slot)) rfl (if_pos hopen)
  case train =>
    intro s g ev hon hadly hslice hpart hnone hroom
    refine completes_onDev (f := fun d => d.takeRef g ev) rfl ?_
    rw [Dev.takeRef_valid hon hadly hslice (.inl (by omega)), if_pos (by omega), Dev.trainPart]
    dsimp only
    rw [if_pos hpart, Dev.trainStart_opens (by rw [Dev.updCmp_cmp]; exact hnone) (by rw [Dev.updCmp_cmp]; exact hroom), Dev.updCmp_updCmp]
  case late =>
    intro s g ctx t htrain
    refine completes_onDev (f := fun d => match (d.gal g).cmp.trains[ctx.val]? with
      | some t => d.dropTrain g (t.chip, t.gallery)
      | none => d) rfl ?_
    rw [htrain]
    rfl
  case period =>
    intro s g hon htick hcfg hoff hpool
    refine completes_onDev (f := bearingPeriodEnd g) rfl ?_
    have hctl : R.CMP_CTL g ≠ R.CMP_BEAR_CNT g := by
      simp only [R.CMP_CTL, R.CMP_BEAR_CNT]
      omega
    have hsize : R.CMP_POOL g ≠ R.CMP_BEAR_CNT g := by
      simp only [R.CMP_POOL, R.CMP_BEAR_CNT]
      omega
    have hoff' := (Dev.rf_bump_ne s.dev hctl F.CMP_BEAR_CNT_PERIODS F.CMP_CTL_BEAR_EN 1).trans hoff
    have hpool' := (Dev.rf_bump_ne s.dev hsize F.CMP_BEAR_CNT_PERIODS F.CMP_POOL_SIZE 1).trans hpool
    rw [bearingPeriodEnd_counts hon htick hcfg rfl, hoff', if_neg (by simp), Dev.validExperts_nil hpool']
    rfl
  case lead =>
    intro s g hon htick hcfg d hen hself e
    refine completes_of_devStep (f := bearingPeriodEnd g) rfl ?_
    rw [bearingPeriodEnd_counts (e := d) hon htick hcfg rfl, hen, hself]
    rfl
  case load =>
    intro s g ev hon hadly hslice hpart hself hcollect
    refine completes_onDev (f := fun d => d.takeRef g ev) rfl ?_
    rw [Dev.takeRef_valid hon hadly hslice (.inr (by omega)), if_neg (by omega), if_pos hpart, Dev.loadReport, Dev.updCmp_cmp]
    exact (if_pos ⟨hself, hcollect⟩).trans (Dev.updCmp_updCmp _ _ _ _)
  case step => exact fun s g hon hcollect hnone => completes_onDev (f := bearingStep g) rfl (bearingStep_no_report hon hcollect hnone)
  case bias =>
    intro s g ev hon hadly hslice hpart hpool
    refine completes_onDev (f := fun d => d.takeRef g ev) rfl ?_
    rw [Dev.takeRef_valid hon hadly hslice (.inr (by omega)), if_neg (by omega), if_neg (by omega)]
    exact if_pos hpool
  case job =>
    intro s p q hparcel hawake hsink hform hport n job d
    refine completes_of_devStep (f := jobSubmit p q) rfl ?_
    rw [jobSubmit_takes hparcel hawake, Dev.takeJob_answers hsink hform (Dev.submitJob_remote hport rfl)]
    exact if_pos rfl
  case full =>
    intro s p q hparcel hawake hsink hform hport
    refine completes_of_devStep (f := jobSubmit p q) rfl ?_
    rw [jobSubmit_takes hparcel hawake, Dev.takeJob_answers hsink hform (Dev.submitJob_refused hport Nat.one_ne_zero), if_pos rfl]
    exact if_neg Nat.one_ne_zero
  case read =>
    intro s g port m plane tag row chunk ref sl hhead hbody hawake e here hparcel hfind st bytes
    refine completes_of_devStep (f := operandRead g) rfl ?_
    rw [operandRead_serves hhead hbody hawake hparcel]
    unfold Dev.serveRead
    dsimp only
    rw [show (((s.dev.popNode g port 2).gal g).cmp.staging.find? (fun x => x.tag == tag && x.ref == ref)) = some sl from hfind] <;> rfl
  case operands =>
    intro s p j x hjob hreads
    refine completes_onDev (f := operandTimeout p j) rfl ?_
    rw [operandTimeout, hjob]
    exact if_neg hreads
  case weights =>
    intro s p w b hdom hst hload hsrc n img r
    have hm : weightLoad p [] { dev := s.dev, mem := s.mem }
        = { dev := r.2.fillBuf p w b (errWords false r.1) (errWords true r.1) (img.take n), mem := s.mem } := by
      unfold weightLoad
      dsimp only
      rw [hdom, if_neg (by simp [hst]), hload]
      dsimp only
      rw [if_pos hsrc, List.nil_append]
    exact completes_of_memStep rfl hm
  case start =>
    intro s p j tl b hrun hdom hgate hhold hfull hstop hsecond hhot hout hst hqueue hreads hbuf
    refine completes_onDev (f := jobStart p) rfl ?_
    exact jobStart_starts (Dev.nextJobSlot_of_free hsecond hhot p) (Dev.jobSlotSkipped_of_free hsecond hhot p) hrun hdom hgate hhold hfull hstop hout hst
      hqueue hreads hbuf
  case complete =>
    intro s p j b hdom hgate hst hout hrun hbuf
    refine completes_onDev (f := jobComplete p none) rfl ?_
    unfold jobComplete
    dsimp only
    rw [hdom, hgate, hout, if_neg (by simp [hst]), hrun]
    dsimp only
    rw [hbuf]
  case flush => exact fun s p => completes_onDev (f := fun d => d.flushPlane p) rfl rfl

end Sys2Proof.Machine

namespace Sys2Proof.Machine

/-! ### CSI-2 -/

/-- A long packet with a good header on the port's virtual channel, on a port that takes CSI-2, acts by its data type (Table 3.2). -/
theorem csi2LongPacket_taken {p : Fin 16} {k : CsiLong} {d : Dev} (htakes : d.portTakes p 0 = true) (hheader : k.header = .good)
    (hvc : k.vc.toNat = d.rf (R.INT_CSI_CFG p) F.INT_CSI_CFG_VC) (hdt : k.dt.toNat ≠ 0x12) :
    csi2LongPacket p k d = (if d.convMode p = 0 ∧ k.dt.toNat = (rawType (d.rf (R.INT_CONV p) F.INT_CONV_RAWBITS)).1
        then d.rawPacket p k (rawType (d.rf (R.INT_CONV p) F.INT_CONV_RAWBITS)).2
      else if d.convMode p = 1 ∧ 0x30 ≤ k.dt.toNat ∧ k.dt.toNat ≤ 0x37 ∧
          (d.rf (R.INT_CSI_CFG p) F.INT_CSI_CFG_DT_MASK).testBit (k.dt.toNat - 0x30) = true then d.iefPacket p k
      else d.unsup p) := by
  unfold csi2LongPacket
  rw [htakes, Bool.not_true, if_neg Bool.false_ne_true, hheader]
  dsimp only [Dev.csiHeader]
  rw [if_neg (not_not.2 hvc), if_neg hdt]

theorem rawType_ne (n : Nat) : (rawType n).1 ≠ 0x12 := by
  unfold rawType
  split <;> decide

/-- A Frame Start on virtual channel 1, where the port converts that channel, begins a frame (R91, R95). -/
theorem csi2ShortPacket_frameStart {p : Fin 16} {k : CsiShort} {d : Dev} (htakes : d.portTakes p 0 = true) (hheader : k.header = .good)
    (hvc : k.vc = 1#2) (hdt : k.dt = 0#6) (hport : d.rf (R.INT_CSI_CFG p) F.INT_CSI_CFG_VC = 1) :
    csi2ShortPacket p k d = ((d.bump (R.INT_RX_CNT p) F.INT_RX_CNT_RX).firstValid p).updPort p (fun x => { x with line := 0 }) := by
  have hchannel : ¬ (1#2).toNat ≠ d.rf (R.INT_CSI_CFG p) F.INT_CSI_CFG_VC := by
    rw [hport]
    decide
  have hsync (n : Nat) : ¬ (1#2 = 0#2 ∧ (0#6).toNat = n) := fun h => absurd h.1 (by decide)
  unfold csi2ShortPacket
  rw [htakes, Bool.not_true, if_neg Bool.false_ne_true, hheader, hvc, hdt]
  dsimp only [Dev.csiHeader]
  rw [if_neg (hsync 0), if_neg (hsync 2), if_neg (show ¬ (8 ≤ (0#6).toNat ∧ (0#6).toNat ≤ 15) by decide),
    if_neg (show ¬ 4 ≤ (0#6).toNat by decide), if_neg hchannel]
  exact if_pos rfl

/-! ### Seam packets and windows -/

theorem seamPacket_taken {p : Fin 16} {k : SeamPkt} {d e : Dev} (htakes : d.portTakes p 1 = true)
    (he : (if (d.port p).lastByte + 20 ≤ d.clk then d.seamReturn p 8 else d) = e) :
    seamPacket p k d = (if 8 ≤ (e.port p).bufs then (e.seamErr p F.SEAM_ERR_CNT_NOCREDIT).seamReturn p k.leave
      else ((e.seamTake p).seamBody p k.bytes).seamReturn p k.leave) := by
  unfold seamPacket
  rw [htakes, Bool.not_true, if_neg Bool.false_ne_true, he]

theorem Dev.updPort_congr {d : Dev} {p : Fin 16} {f h : Port → Port} (hfh : f (d.port p) = h (d.port p)) : d.updPort p f = d.updPort p h := by
  rw [Dev.updPort, Dev.updPort]
  exact congrArg (fun x => { d with ports := d.ports.set p x }) hfh

/-- Settles O47: each row reaches the branch of its premises (chapters 3 and 4). -/
theorem intakeEventsTakeEffect : Obligations.IntakeEventsTakeEffect := by
  refine ⟨?raw, ?ief, ?short, ?seam, ?noCredit, ?window, ?loss, ?restart, ?request, ?complete, ?clock⟩
  case raw =>
    intro s p k htakes hheader hvc hmode hdt
    refine completes_onDev (f := csi2LongPacket p k) rfl ?_
    rw [csi2LongPacket_taken htakes hheader hvc (by rw [hdt]; exact rawType_ne _)]
    exact if_pos ⟨hmode, hdt⟩
  case ief =>
    intro s p k htakes hheader hvc hmode hlo hhi hmask
    refine completes_onDev (f := csi2LongPacket p k) rfl ?_
    rw [csi2LongPacket_taken htakes hheader hvc (by omega), if_neg (fun h => by omega)]
    exact if_pos ⟨hmode, hlo, hhi, hmask⟩
  case short =>
    intro s p k htakes hheader hvc hdt hport
    exact completes_onDev (f := csi2ShortPacket p k) rfl (csi2ShortPacket_frameStart htakes hheader hvc hdt hport)
  case seam =>
    intro s p k htakes e hfree
    refine completes_of_devStep (f := seamPacket p k) rfl ?_
    rw [seamPacket_taken (e := e) htakes rfl, if_neg (Nat.not_le.2 hfree)]
    rfl
  case noCredit =>
    intro s p k htakes hsoon hfull
    refine completes_onDev (f := seamPacket p k) rfl ?_
    rw [seamPacket_taken htakes (if_neg (Nat.not_le.2 hsoon)), if_pos hfull]
    rfl
  case window =>
    intro s p hen hphase
    refine completes_onDev (f := flickerWindowEnd p) rfl ?_
    rw [flickerWindowEnd, hphase, if_neg (by rw [hen]; decide)]
    exact Dev.updPort_congr rfl
  case loss =>
    intro s p hlab hst times d hfew
    refine completes_of_devStep (f := portSyncLoss p) rfl ?_
    have hsync : ¬ (((s.dev.port p).st ≠ .start ∧ (s.dev.port p).st ≠ .run) ∨ s.dev.boot.lab = true) := by
      rw [hlab]
      rintro (⟨hstart, hrun⟩ | h)
      · exact hst.elim hstart hrun
      · cases h
    unfold portSyncLoss
    rw [if_neg hsync]
    exact if_neg (Nat.not_le.2 hfew)
  case restart =>
    intro s p hst hen hruns
    refine completes_onDev (f := fun d => if (d.port p).st ≠ .restart then d
      else d.setPort p (if d.rf (R.INT_CTL p) F.INT_CTL_EN = 1 ∧ d.portRuns p then .start else .off)) rfl ?_
    rw [if_neg (not_not.2 hst), if_pos ⟨hen, hruns⟩]
  case request =>
    intro s p hstopped
    refine completes_onDev (f := eraseRequest p) rfl ?_
    rw [eraseRequest, Option.isNone_eq_false_iff.2 hstopped]
    rfl
  case complete =>
    intro s g p tl hq
    refine completes_onDev (f := eraseComplete g p) rfl ?_
    rw [eraseComplete, hq]
    exact if_neg (not_not.2 rfl)
  case clock => exact fun s p b => completes_onDev (f := fun d => d.updPort p (fun x => { x with fallback := b })) rfl rfl

/-! ### Egress -/

/-- A request of a declared source whose payload stands and whose buckets pay is numbered and delivered (R137 to R141, R145). -/
theorem Dev.recordRequest_delivers {d e : Dev} {q : Fin 8} {src : Nat} {v : BitVec 64}
    (htyp : SMap.get 0 (d.pcl q).schema src % 16 ≠ 0) (hpayload : payloadBad (SMap.get 0 (d.pcl q).schema src % 16) v = false)
    (h : SMap.get 0 (d.pcl q).schema src / 16 < 16)
    (hmeter : ({ d with ports := d.ports.set (SMap.get 0 (d.pcl q).schema src / 16) { d.ports[SMap.get 0 (d.pcl q).schema src / 16] with recSeq := (d.ports[SMap.get 0 (d.pcl q).schema src / 16].recSeq + 1) % 256 } } : Dev).meter
      (SMap.get 0 (d.pcl q).schema src / 16) = some e) :
    d.recordRequest q src v = e.deliverRecord q (recEntry (({ d with ports := d.ports.set (SMap.get 0 (d.pcl q).schema src / 16) { d.ports[SMap.get 0 (d.pcl q).schema src / 16] with recSeq := (d.ports[SMap.get 0 (d.pcl q).schema src / 16].recSeq + 1) % 256 } } : Dev).recHeader
      (SMap.get 0 (d.pcl q).schema src % 16) (SMap.get 0 (d.pcl q).schema src / 16) q (d.ports[SMap.get 0 (d.pcl q).schema src / 16].recSeq) src false) v) := by
  unfold Dev.recordRequest
  dsimp only
  rw [dif_pos h, if_neg (by rw [hpayload]; simp [htyp]), hmeter]

/-- A source with no schema entry counts (R138). -/
theorem Dev.recordRequest_undeclared {d : Dev} {q : Fin 8} {src : Nat} (hsrc : SMap.get 0 (d.pcl q).schema src = 0) (v : BitVec 64) :
    d.recordRequest q src v = d.bump R.EGR_SCHEMA_ERR F.EGR_SCHEMA_ERR_SCHEMA := by
  unfold Dev.recordRequest
  dsimp only
  rw [hsrc, dif_pos (by decide)]
  exact if_pos (.inl rfl)

/-- Settles O48: each row reaches the branch of its premises (R137 to R148). -/
theorem egressEventsTakeEffect : Obligations.EgressEventsTakeEffect := by
  refine ⟨?request, ?undeclared, ?refill, ?heartbeat, ?learning, ?write, ?age⟩
  case request =>
    intro s q src v e hon hst x htyp hpayload h seq d hmeter
    refine completes_of_devStep (f := fun d => if d.egressOn ∧ (d.pcl q).st ≠ .free then d.recordRequest q src.toNat v else d) rfl ?_
    exact (if_pos ⟨hon, hst⟩).trans (Dev.recordRequest_delivers htyp hpayload h hmeter)
  case undeclared =>
    intro s q src v hon hst hsrc
    refine completes_onDev (f := fun d => if d.egressOn ∧ (d.pcl q).st ≠ .free then d.recordRequest q src.toNat v else d) rfl ?_
    exact (if_pos ⟨hon, hst⟩).trans (Dev.recordRequest_undeclared hsrc v)
  case refill => exact fun s => completes_onDev (f := fun d => d.forEach (List.range 16) Dev.refillMeter) rfl rfl
  case heartbeat =>
    intro s hon
    refine completes_onDev (f := fun d => if !d.egressOn then d else d.forEach (List.finRange 8) (fun q d =>
      if (d.pcl q).st = .run then
        (d.deviceRecord q 5 (d.heartbeat q)).updPcl q (fun p => { p with hbMtr := 0, hbBl := 0, hbErased := false })
      else d)) rfl ?_
    rw [hon]
    rfl
  case learning =>
    intro s q hon hends
    refine completes_onDev (f := fun d => if !d.egressOn ∨ (d.pcl q).learn.ends.isEmpty then d
      else (d.deviceRecord q 6 (d.pcl q).learn.payload).updPcl q (fun p => { p with learn := {} })) rfl ?_
    exact if_neg (by simp [hon, hends])
  case write =>
    intro s q r tl f hlog hf hroom
    refine completes_onDev (f := fun d => match (d.pcl q).backlog, d.funcOf q with
      | r :: t, some f => if d.resRoom f then (d.writeRes f r.entry).updPcl q (fun p => { p with backlog := t }) else d
      | _, _ => d) rfl ?_
    rw [hlog, hf]
    exact if_pos hroom
  case age =>
    intro s q r tl hlog hage
    refine completes_onDev (f := fun d => match (d.pcl q).backlog with
      | r :: t => if d.aged r then (d.updPcl q (fun p => { p with backlog := t, hbBl := p.hbBl + 1 })).bump (R.EGR_BL_DROP q) F.EGR_BL_DROP_AGE else d
      | [] => d) rfl ?_
    rw [hlog]
    exact if_pos hage

end Sys2Proof.Machine

namespace Sys2Proof.Machine

/-! ### Commands of the group and the links -/

/-- A command on a fitted link reaches it (Table 13.1). -/
theorem Dev.onLink_fitted {d : Dev} {c : Cmd} {k : Fin 6} (hk : c.p 0 = k.val) (hfit : bit d.fus.links k.val = true) (f : Fin 6 → Reply Dev) :
    d.onLink c f = f k := by
  have hlt : c.p 0 < 6 := hk ▸ k.isLt
  have hfin : (⟨c.p 0, hlt⟩ : Fin 6) = k := Fin.ext hk
  rw [Dev.onLink, if_neg (by rw [hk, hfit]; simp), dif_pos hlt, hfin]

/-- GROUP_FORM on chip 0 with a coordinate, in SINGLE: a group of one chip forms once its checks pass (R319). -/
theorem groupForm_alone {c : Cmd} {d e : Dev} (hrun : d.anyRun = false) (hst : d.grpSt = 0) (hself : d.selfChip = 0) (hcoord : d.grp.coordSet = true)
    (hothers : d.others = []) (hcheck : d.formCheck = .ok e) : groupForm c d = done e.formGroup := by
  rw [groupForm, hrun, if_neg Bool.false_ne_true, if_neg (not_not.2 hst), hself, hcoord, if_neg (by decide), hothers,
    if_pos List.isEmpty_nil, hcheck]

/-- A larger group is asked first (Table 10.10 step 2). -/
theorem groupForm_asks {c : Cmd} {d : Dev} (hrun : d.anyRun = false) (hst : d.grpSt = 0) (hself : d.selfChip = 0) (hcoord : d.grp.coordSet = true)
    (hothers : d.others ≠ []) : groupForm c d
      = .hold (((d.setGrpSt 1 0).askedOn.updGrp (fun g => { g with forming := 1, replies := [], accepts := [] })).tellAll .discover) .form := by
  rw [groupForm, hrun, if_neg Bool.false_ne_true, if_neg (not_not.2 hst), hself, hcoord, if_neg (by decide)]
  exact if_neg (by simp [hothers])

/-- LINK_STATUS with DATA_LEN 0 answers TRV_STAT and TRV_DELAY (R332). -/
theorem linkStatus_fitted {c : Cmd} {d : Dev} {k : Fin 6} (hlen : c.dataLen = 0) (hk : c.p 0 = k.val) (hfit : bit d.fus.links k.val = true) :
    ∃ x, linkStatus c d = .finish { d with lat := x } .ok
      (BitVec.ofNat 64 ((d.peek (R.TRV_STAT k)).toNat + (d.peek (R.TRV_DELAY k)).toNat % 65536 * 2 ^ 32)) 0 0 := by
  rw [linkStatus, Dev.onLink_fitted hk hfit]
  split
  next es e hread => exact report_of_read hlen hread _

/-- LINK_ENABLE with a role that fits and may change, and a domain that comes up (R315, R317). -/
theorem linkEnable_up {c : Cmd} {d : Dev} {k : Fin 6} (hk : c.p 0 = k.val) (hfit : bit d.fus.links k.val = true)
    (hlic : c.p 1 = 2 → d.licensed 4 = true) (hidle : d.zIdle k (d.rf R.TRV_GRP_CTL F.TRV_GRP_CTL_MODE == 1) (c.p 1) = false)
    (hfits : roleFits k (c.p 1) = true)
    (hrole : c.p 1 = d.linkRole k ∨ (((d.link k).st = .off ∨ (d.link k).st = .retired) ∧ d.rf R.TRV_GRP_CTL F.TRV_GRP_CTL_COMMIT = 0))
    (hled : c.env.ledgerOk = true) (hready : c.env.notReady = []) (hup : (d.needDom (24 + k.val)).domUp (24 + k.val) = true) :
    linkEnable c d = done ((((d.needDom (24 + k.val)).updLed (fun l => { l with linkRoles := l.linkRoles.set k (some (c.p 1)) })).setRf
      (R.TRV_CTL k) F.TRV_CTL_ROLE (c.p 1)).enableLink k) := by
  have hlicensed : ¬ ((c.p 1 = 2 ∧ (!d.licensed 4) = true) ∨ d.zIdle k (d.rf R.TRV_GRP_CTL F.TRV_GRP_CTL_MODE == 1) (c.p 1) = true) := by
    rw [hidle]
    rintro (⟨h2, h4⟩ | h)
    · rw [hlic h2] at h4
      cases h4
    · cases h
  have hstill : ¬ (c.p 1 ≠ d.linkRole k ∧ (!((d.link k).st == .off || (d.link k).st == .retired)) = true) := by
    rintro ⟨hne, hmoves⟩
    rcases hrole with h | ⟨h | h, -⟩
    · exact hne h
    · rw [h] at hmoves
      cases hmoves
    · rw [h] at hmoves
      cases hmoves
  have hfree : ¬ (c.p 1 ≠ d.linkRole k ∧ d.rf R.TRV_GRP_CTL F.TRV_GRP_CTL_COMMIT = 1) := by
    rintro ⟨hne, hcommit⟩
    rcases hrole with h | ⟨-, h⟩
    · exact hne h
    · omega
  rw [linkEnable, Dev.onLink_fitted hk hfit]
  dsimp only
  rw [if_neg hlicensed, hfits, if_neg (by decide), if_neg hstill, if_neg hfree, hled, if_neg (by decide), hready, if_neg (by simp), hup]
  exact if_neg (by decide)

/-! ### Events of the group -/

theorem Dev.gotReply_last {d e : Dev} {r : PeerReply} (hst : d.grpSt = 1) (hforming : d.grp.forming = 1)
    (he : d.updGrp (fun g => { g with replies := g.replies.filter (fun x => x.chip != r.chip || x.devId != r.devId) ++ [r] }) = e)
    (hall : e.others.all (fun c => e.grp.replies.any (fun x => x.chip == c)) = true) :
    d.gotReply r = (match e.formCheck with
      | .ok f => f
      | .error dt => e.formFails.release Wait.isForm .refused 0 0 dt) := by
  unfold Dev.gotReply
  rw [if_neg (by rintro (h | h) <;> contradiction), he]
  dsimp only
  rw [if_pos hall]
  cases e.formCheck with
  | ok f => rfl
  | error dt => rfl

theorem Dev.gotAccept_last {d e : Dev} {c : Nat} (hst : d.grpSt = 1) (hforming : d.grp.forming = 2)
    (he : d.updGrp (fun g => { g with accepts := if g.accepts.contains c then g.accepts else g.accepts ++ [c] }) = e)
    (hall : e.others.all (fun x => e.grp.accepts.contains x) = true) :
    d.gotAccept c = e.formGroup.release Wait.isForm .ok 0 0 0 := by
  unfold Dev.gotAccept
  rw [if_neg (by rintro (h | h) <;> contradiction), he]
  exact if_pos hall

/-- A chip back from a reset whose checks pass rejoins: a follower at once, the leader once a follower tells it the count (R330). -/
theorem groupRejoin_passes {d e : Dev} {x : RejoinIn} (hcoord : d.led.coord.isSome = true) (hst : d.grpSt = 0)
    (hcheck : d.checkOf (d.ownReply d.selfChip :: x.peers) (d.ownReply d.selfChip) = none)
    (he : d.updGrp (fun g => { g with homes := x.peers.flatMap (fun r => r.slices.map (fun y => (r.chip, y.slice, y.gals.toNat))) }) = e) :
    groupRejoin x d = (if e.selfChip = 0 then (match ((e.setGrpSt 2 0).commitGroup).lowestFollower with
        | some c => (((e.setGrpSt 2 0).commitGroup).updGrp (fun g => { g with asking := true })).sendGrp c .askCount
        | none => (e.setGrpSt 2 0).commitGroup)
      else (e.setGrpSt 3 0).commitGroup) := by
  have hno : ¬ (d.led.coord.isNone = true ∨ d.grpSt ≠ 0 ∨ (d.checkOf (d.ownReply d.selfChip :: x.peers) (d.ownReply d.selfChip)).isSome = true) := by
    rw [hcheck, hst, Option.isNone_eq_false_iff.2 hcoord]
    decide
  unfold groupRejoin
  rw [if_neg hno]
  dsimp only
  rw [he] <;> rfl

/-- Settles O49: each command, event and message reaches the branch of its premises (R316 to R332). -/
theorem groupsFormAndChange : Obligations.GroupsFormAndChange := by
  refine ⟨?status, ?coord, ?formAlone, ?form, ?reply, ?accept, ?dissolve, ?resync, ?linkStatus, ?enable, ?retrain, ?clear, ?timeout, ?abort, ?rejoin,
    ?marker, ?lead, ?lost, ?routes, ?messages, ?claim⟩
  case status => exact fun s c hs hlen => completes_of_report rfl hs hlen rfl
  case coord =>
    intro s c hs hcoord hst hled x
    refine completes_of_finish rfl hs ?_
    rw [groupSetCoord, hcoord]
    dsimp only
    rw [if_neg (not_not.2 hst), hled]
    exact if_neg (by decide)
  case formAlone =>
    intro s c e hs hrun hst hself hcoord hothers hcheck
    exact completes_of_finish rfl hs (groupForm_alone hrun hst hself hcoord hothers hcheck)
  case form =>
    intro s c hs hrun hst hself hcoord hothers
    exact completes_of_hold rfl hs (groupForm_asks hrun hst hself hcoord hothers)
  case reply =>
    intro s k m r d hst hforming e hall
    exact completes_of_devStep (f := grp k m (.reply r)) rfl (Dev.gotReply_last (e := e) hst hforming rfl hall)
  case accept =>
    intro s k m d hst hforming e hall
    exact completes_of_devStep (f := grp k m .accept) rfl (Dev.gotAccept_last (e := e) hst hforming rfl hall)
  case dissolve =>
    intro s c hs hrun hpeers hst
    refine completes_of_finish rfl hs ?_
    rw [groupDissolve, hrun, hpeers, if_neg (by decide), hst, if_neg (by decide)]
    exact if_neg (by decide)
  case resync =>
    intro s c hs hrun hreq
    refine completes_of_finish rfl hs ?_
    rw [groupResync, hrun, if_neg Bool.false_ne_true, hreq]
    exact if_neg Nat.one_ne_zero
  case linkStatus =>
    intro s c hs hlen hlt hfit
    obtain ⟨k, hk⟩ : ∃ k : Fin 6, c.p 0 = k.val := ⟨⟨c.p 0, hlt⟩, rfl⟩
    rw [hk] at hfit ⊢
    obtain ⟨x, hx⟩ := linkStatus_fitted hlen hk hfit
    exact ⟨x, completes_of_finish rfl hs hx⟩
  case enable =>
    intro s c k hs hk hfit hlic hidle hfits hrole hled hready hup
    exact completes_of_finish rfl hs (linkEnable_up hk hfit hlic hidle hfits hrole hled hready hup)
  case retrain =>
    intro s c k hs hk hfit hst
    exact completes_of_finish rfl hs ((Dev.onLink_fitted hk hfit _).trans (if_neg (not_not.2 hst)))
  case clear =>
    intro s c k hs hk hfit
    exact completes_of_finish rfl hs (Dev.onLink_fitted hk hfit _)
  case timeout =>
    intro s hst hlate
    have hreply : formingTimeout s.dev = if s.dev.grp.forming = 0 then s.dev.toSingle s.dev.follows
        else s.dev.formFails.release Wait.isForm .timeout 0 0 0 := by
      rw [formingTimeout, if_neg (by omega)]
    constructor
    · exact fun h => completes_onDev (f := formingTimeout) rfl (hreply.trans (if_pos h))
    · exact fun h => completes_onDev (f := formingTimeout) rfl (hreply.trans (if_neg h))
  case abort => exact fun s k m hst => completes_onDev (f := fun d => (d.takeMsg k m).aborted) rfl (if_pos (.inl hst))
  case rejoin =>
    intro s x hcoord hst hcheck d
    have hrejoin := groupRejoin_passes (e := d) hcoord hst hcheck rfl
    constructor
    · exact fun h => completes_of_devStep (f := groupRejoin x) rfl (hrejoin.trans (if_neg h))
    · exact fun h => completes_of_devStep (f := groupRejoin x) rfl (hrejoin.trans (if_pos h))
  case marker =>
    intro s k m d left hst hearly e
    refine completes_of_devStep (f := tmark k m) rfl ?_
    unfold tmark
    dsimp only
    rw [if_neg (show ¬ (d.grpSt ≠ 1 ∧ d.grpSt ≠ 3) by omega)]
    exact if_neg (Nat.not_lt.2 hearly)
  case lead => exact fun s hst hask => completes_onDev (f := fun d => if d.grpSt = 2 ∧ d.grp.asking = false then d.leadMarker else d) rfl (if_pos ⟨hst, hask⟩)
  case lost =>
    intro s hst hfollow
    exact completes_onDev (f := markersLost) rfl (if_neg (by rintro (h | h) <;> contradiction))
  case routes =>
    intro s hst
    exact completes_onDev (f := fun d => if d.mirState = 3 then d else
      d.reroute.forEach (d.reroute.groupChips.filter (fun x => (d.reroute.outFor x).isSome)) (fun x d' => d'.sendGrp x (.cuts d'.ownCuts))) rfl (if_neg hst)
  case messages =>
    intro s k m d
    refine ⟨?discover, ?commit, ?gone, ?reset⟩
    case discover => exact fun h => completes_of_devStep (f := grp k m .discover) rfl (if_pos h)
    case commit => exact fun hst hforming => completes_of_devStep (f := grp k m .commit) rfl (if_pos ⟨hst, hforming⟩)
    case gone => exact fun hst => completes_of_devStep (f := grp k m .dissolve) rfl (if_pos hst)
    case reset => exact fun c => completes_of_devStep (f := grp k m (.chipReset c)) rfl rfl
  case claim =>
    intro s n k hroute m
    refine completes_onDev (f := fun d => match d.routeLink (d.rf R.TRV_GRP_STAT F.TRV_GRP_STAT_LEADER) with
      | none => d
      | some k => d.sendReq k { typ := 0x03, src := BitVec.ofNat 6 d.selfChip, dst := BitVec.ofNat 6 (d.rf R.TRV_GRP_STAT F.TRV_GRP_STAT_LEADER),
                                tag := BitVec.ofNat 8 (d.link k).freeTag, arg := BitVec.ofNat 64 n.val, data := [] }) rfl ?_
    rw [hroute]

end Sys2Proof.Machine

namespace Sys2Proof.Machine

/-! ### Events of the links -/

/-- LINK_TRAINING_STEP acts on a powered link while the firmware does not recover (Table 18.10). -/
theorem linkTrainingStep_detect {d : Dev} {k : Fin 6} {r : LinkStep} (hmir : d.mirState ≠ 3) (hon : d.domOn (24 + k.val) = true)
    (hst : (d.link k).st = .detect) (hok : r.outcome = .ok) : linkTrainingStep k r d = d.enterIdent k := by
  unfold linkTrainingStep
  dsimp only
  rw [if_neg (by simp [hmir, hon]), if_neg (by rw [hok]; decide), hst]
  exact if_pos hok

/-- KEYX ends with the partner's keys, or retires the link with AUTH (R305). -/
theorem linkTrainingStep_keyx {d : Dev} {k : Fin 6} {r : LinkStep} (hmir : d.mirState ≠ 3) (hon : d.domOn (24 + k.val) = true)
    (hst : (d.link k).st = .keyx) (hok : r.outcome = .ok) :
    linkTrainingStep k r d = ((d.link k).partner.bind (fun p => d.keyExchange k p r.key)).elim (d.retireLink k 1)
      (fun x => (d.updLink k (fun l => { l with keys := x })).linkActive k) := by
  unfold linkTrainingStep
  dsimp only
  rw [if_neg (by simp [hmir, hon]), if_neg (by rw [hok]; decide), hst]
  dsimp only
  rw [if_neg (not_not.2 hok)]
  cases (d.link k).partner.bind (fun p => d.keyExchange k p r.key) with
  | none => rfl
  | some x => rfl

/-- A sequenced flit is taken in its order, or a replay is asked for (R301). -/
theorem flitReceive_sequenced {d : Dev} {k : Fin 6} {f : BitVec 160} (hcar : (d.link k).carries = true) (hgood : flitGood f = true) (hvc : flitVc f < 6) :
    flitReceive k f d = if flitSeq f = (d.link k).rxSeq then d.acceptFlit k f else d.updLink k (fun l => { l with nak := true }) := by
  unfold flitReceive
  dsimp only
  rw [hcar, if_neg (by decide), hgood, if_neg (by decide), if_neg (by omega), if_neg (by omega)]

/-- An LCTL payload without a NAK acknowledges and credits (Table 10.5). -/
theorem lctl_credits {d : Dev} {k : Fin 6} {p : BitVec 128} (hcar : (d.link k).carries = true) (hnak : bit p 8 = false) :
    lctl k p d = (d.updLink k (fun l => { l with
      replay := ackUpTo (p.extractLsb' 0 8) l.replay
      got := #v[bits p 23 16, bits p 31 24, bits p 39 32, bits p 47 40, bits p 55 48] })).pump k window := by
  unfold lctl
  rw [hcar, if_neg (by decide)]
  dsimp only
  rw [hnak, if_neg (by decide)]

/-- The oldest received block is settled by its own good tag (R307). -/
theorem tagCheck_good {d : Dev} {k : Fin 6} {b : RxBlock} {tl : List RxBlock} (hrx : (d.link k).rxClosed = b :: tl)
    (htag : b.tag = tagOf (d.link k).keys.rxKey (d.link k).keys.rxNonce b.num b.flits) :
    tagCheck k b.tag d = d.updLink k (fun l => { l with rxClosed := tl }) := by
  unfold tagCheck
  rw [hrx]
  dsimp only
  rw [if_neg (not_not.2 rfl), Dev.link_upd_same]
  exact if_pos htag

/-- LINK_Q_TIMEOUT abandons an outstanding request (R303); one of the storage link ends the job that sent it (R291). -/
theorem linkQTimeout_abandons {d e : Dev} {k : Fin 6} {t : BitVec 8} (hany : (d.link k).asked.any (fun q => q.tag == t.toNat) = true)
    (he : e = (d.updLink k (fun l => { l with asked := l.asked.filter (fun q => q.tag != t.toNat) })).bump (R.TRV_Q_TMO k) F.TRV_Q_TMO_TMO) :
    linkQTimeout k t d = if k = storageLink then (e.jobOfTag t.toNat).elim e e.siteLost else e := by
  subst he
  unfold linkQTimeout
  rw [if_pos hany]
  dsimp only
  split
  · split
    · next j hj => rw [hj, Option.elim_some]
    · next hj => rw [hj, Option.elim_none]
  · rfl

/-- Settles O50: each event reaches the branch of its premises (R300 to R313). -/
theorem linkEventsTakeEffect : Obligations.LinkEventsTakeEffect := by
  refine ⟨?detect, ?keyx, ?inOrder, ?outOfOrder, ?badCrc, ?lctl, ?lctlSend, ?replay, ?close, ?tag, ?timeout, ?retrain, ?echo⟩
  case detect =>
    intro s k r hmir hon hst hok
    exact completes_onDev (f := linkTrainingStep k r) rfl (linkTrainingStep_detect hmir hon hst hok)
  case keyx =>
    intro s k r hmir hon hst hok
    refine completes_onDev (f := linkTrainingStep k r) rfl ?_
    rw [linkTrainingStep_keyx hmir hon hst hok]
    cases (s.dev.link k).partner.bind (fun p => s.dev.keyExchange k p r.key) with
    | none => rfl
    | some x => rfl
  case inOrder =>
    intro s k f hcar hgood hvc hseq
    exact completes_onDev (f := flitReceive k f) rfl ((flitReceive_sequenced hcar hgood hvc).trans (if_pos hseq))
  case outOfOrder =>
    intro s k f hcar hgood hvc hseq
    exact completes_onDev (f := flitReceive k f) rfl ((flitReceive_sequenced hcar hgood hvc).trans (if_neg hseq))
  case badCrc =>
    intro s k f hcar hbad
    refine completes_onDev (f := flitReceive k f) rfl ?_
    unfold flitReceive
    dsimp only
    rw [hcar, if_neg (by decide), hbad]
    exact if_pos rfl
  case lctl =>
    intro s k p hcar hnak
    exact completes_onDev (f := Machine.lctl k p) rfl (lctl_credits hcar hnak)
  case lctlSend =>
    intro s k hcar l p
    refine completes_onDev (g := fun d => d.putFlit k 6 (mkFlit 6 false false 0 p)) rfl ?_
    dsimp only
    rw [hcar]
    exact if_neg (by decide)
  case replay => exact fun s k => completes_onDev (f := fun d => d.doReplay k) rfl rfl
  case close => exact fun s k => completes_onDev (f := fun d => (d.closeBlock k).pump k window) rfl rfl
  case tag =>
    intro s k b tl hrx htag
    exact completes_onDev (f := tagCheck k b.tag) rfl (tagCheck_good hrx htag)
  case timeout =>
    intro s k t hany e
    have habandons := linkQTimeout_abandons hany (e := e) rfl
    constructor
    · intro hk
      exact completes_of_devStep (f := linkQTimeout k t) rfl (habandons.trans (if_neg hk))
    · intro hk
      refine completes_of_devStep (f := linkQTimeout k t) rfl ?_
      rw [habandons, if_pos hk]
      cases e.jobOfTag t.toNat with
      | none => rfl
      | some j => rfl
  case retrain =>
    exact fun s k => ⟨completes_onDev (f := fun d => d.enterRetrain k) rfl rfl, completes_onDev (f := fun d => d.enterRetrain k) rfl rfl⟩
  case echo => exact fun s k m => completes_onDev (f := fun d => (d.takeMsg k m).answer k m 0x42 m.arg m.data) rfl rfl

end Sys2Proof.Machine

namespace Sys2Proof.Machine

/-! ### Requests over the links -/

/-- An address outside the memory windows holds no message (R303). -/
theorem Dev.linkHeld_of_register {a : Nat} {w : Option (List Byte)} {errs : List MemErr} {x : Mach} (ha : linkAccess a w errs x = none)
    (d : Dev) (write : Bool) : d.linkHeld a write = false := by
  have hscp : ¬ (scpWindow ≤ a ∧ a < scpWindow + scpBytes) := by
    intro h
    rw [linkAccess, if_pos h] at ha
    cases ha
  have hstack : ¬ stackWindow ≤ a := by
    intro h
    rw [linkAccess, if_neg hscp, if_pos h] at ha
    cases ha
  have hplace : d.linkStack a = none := if_neg hstack
  have hout : (decide (scpWindow ≤ a) && decide (a < scpWindow + scpBytes)) = false := by
    rw [← Bool.decide_and]
    exact decide_eq_false hscp
  rw [Dev.linkHeld, hplace]
  dsimp only
  rw [hout, Bool.false_and, Bool.false_and]

/-- A request that nothing holds is served: a read of memory answers its data, one of registers their words (Table 10.7). -/
theorem regRead_memory {k : Fin 6} {m : LinkMsg} {errs : List MemErr} {x y : Mach} {q : Requester} {b : List Byte}
    (hheld : x.dev.linkHeld m.arg.toNat false = false)
    (hy : linkAccess m.arg.toNat none errs { x with dev := x.dev.takeMsg k m } = some y)
    (hans : answered { x with dev := x.dev.takeMsg k m } y = some (.memData q b false)) :
    regRead k m errs x = { y with dev := y.dev.answer k m 0x81 m.arg b } := by
  unfold regRead
  dsimp only
  rw [hheld, if_neg Bool.false_ne_true, hy]
  dsimp only
  rw [hans]

theorem regRead_registers {k : Fin 6} {m : LinkMsg} {errs : List MemErr} {x : Mach}
    (hreg : linkAccess m.arg.toNat none errs { x with dev := x.dev.takeMsg k m } = none) :
    let r := (x.dev.takeMsg k m).readFour m.arg.toNat 4
    regRead k m errs x = { x with dev := r.2.answer k m 0x81 m.arg r.1 } := by
  intro r
  unfold regRead
  dsimp only
  rw [Dev.linkHeld_of_register hreg, if_neg Bool.false_ne_true, hreg]

theorem regWrite_memory {k : Fin 6} {m : LinkMsg} {x y : Mach} {q : Requester} (hheld : x.dev.linkHeld m.arg.toNat true = false)
    (hy : linkAccess m.arg.toNat (some (slice 0 16 m.data)) [] { x with dev := x.dev.takeMsg k m } = some y)
    (hans : answered { x with dev := x.dev.takeMsg k m } y = some (.memDone q)) :
    regWrite k m x = { y with dev := y.dev.status k m .ok } := by
  unfold regWrite
  dsimp only
  rw [hheld, if_neg Bool.false_ne_true, hy]
  dsimp only
  rw [hans]

theorem regWrite_registers {k : Fin 6} {m : LinkMsg} {x y : Mach}
    (hreg : linkAccess m.arg.toNat (some (slice 0 16 m.data)) [] { x with dev := x.dev.takeMsg k m } = none)
    (hy : ({ x with dev := x.dev.takeMsg k m } : Mach).writeFour m.arg.toNat (slice 0 16 m.data) 4 = y) :
    regWrite k m x = { y with dev := y.dev.status k m .ok } := by
  unfold regWrite
  dsimp only
  rw [Dev.linkHeld_of_register hreg, if_neg Bool.false_ne_true, hreg]
  dsimp only
  rw [hy]

/-- The lowest claimant of a group-wide lock that is granted it is told so (R331). -/
theorem lockClaim_granted {k : Fin 6} {m : LinkMsg} {d e : Dev} {w : BitVec 32} (h : 48 ≤ m.arg.toNat ∧ m.arg.toNat < 64)
    (hlow : (d.takeMsg k m).lowerClaim m = false)
    (hacq : (d.takeMsg k m).lockAcquire ⟨m.arg.toNat, h.2⟩ (0x40 + m.src.toNat) = (.acquired, w, e)) :
    lockClaim k m d = e.status k m .ok := by
  unfold lockClaim
  dsimp only
  rw [dif_pos h, hlow, if_neg Bool.false_ne_true, hacq]

/-- Its owner's release is answered OK (R388). -/
theorem lockRelease_owner {k : Fin 6} {m : LinkMsg} {d : Dev} (h : 48 ≤ m.arg.toNat ∧ m.arg.toNat < 64)
    (hown : ((d.takeMsg k m).locks[m.arg.toNat]'h.2).owner = 0x40 + m.src.toNat) :
    lockRelease k m d = ((d.takeMsg k m).lockRelease ⟨m.arg.toNat, h.2⟩ (0x40 + m.src.toNat) true).status k m .ok := by
  unfold lockRelease
  dsimp only
  rw [dif_pos h, hown, beq_self_eq_true, if_pos rfl]

/-- A response ends its request (R303); one from the storage partner carries on the job that sent it (R291). -/
theorem linkResponse_ends {k : Fin 6} {m : LinkMsg} {d e : Dev} {q : QReq}
    (hq : ((d.takeMsg k m).link k).asked.find? (fun q => q.tag == m.tag.toNat) = some q) (htyp : q.typ ≠ 0x03)
    (he : e = (d.takeMsg k m).updLink k (fun l => { l with asked := l.asked.erase q })) :
    linkResponse k m d = if k = storageLink ∧ (q.typ = 0x06 ∨ q.typ = 0x07)
      then (e.jobOfTag q.tag).elim e (fun j => e.siteReply { j with tag := none } m) else e := by
  subst he
  unfold linkResponse
  dsimp only
  rw [hq]
  dsimp only
  rw [if_neg htyp]
  split
  · split
    · next j hj => rw [hj, Option.elim_some]
    · next hj => rw [hj, Option.elim_none]
  · rfl

/-! ### Events of the trunk -/

/-- An event that no route takes is dropped and counted (R325). -/
theorem Dev.trunkFromLink_unrouted {d : Dev} {k : Fin 6} {s1 : Bool} {ev : BitVec 64} {es : List (BitVec 64)} {l : List (List (BitVec 64))}
    (hrx : (d.link k).rxS[if s1 then (1 : Fin 2) else 0] = (ev :: es) :: l) (hno : (d.routeOf ev).1 = 0) :
    d.trunkFromLink k s1 = (d.popRx k (if s1 then 1 else 0)).bump (R.TRV_RT_DROP k) F.TRV_RT_DROP_DROP := by
  unfold Dev.trunkFromLink
  dsimp only
  rw [hrx]
  exact if_pos (.inr (.inl hno))

/-- An event routed to another link that takes it goes out there with HOPS raised (R189, R324). -/
theorem Dev.trunkFromLink_forwards {d : Dev} {k o : Fin 6} {s1 : Bool} {ev : BitVec 64} {es : List (BitVec 64)} {l : List (List (BitVec 64))}
    (hne : k ≠ o) (hrx : (d.link k).rxS[if s1 then (1 : Fin 2) else 0] = (ev :: es) :: l) (hroute : d.routeOf ev = (o.val + 2, true)) (hwell : malformed ev = false)
    (hhops : fget evHops ev ≠ 31) (hcar : d.carries o = true) (htakes : (d.link o).takes (d.chanOn o (some (k, s1))) = true) :
    d.trunkFromLink k s1 = (d.popRx k (if s1 then 1 else 0)).toLink o (d.chanOn o (some (k, s1))) (addHops ev 2) := by
  have hout : (d.routeOf ev).1 = o.val + 2 := congrArg Prod.fst hroute
  have hmask : (d.routeOf ev).2 = true := congrArg Prod.snd hroute
  have hgoes : ¬ (malformed ev = true ∨ (d.routeOf ev).1 = 0 ∨ (d.routeOf ev).2 = false ∨ (d.routeOf ev).1 = k.val + 2 ∨ fget evHops ev = 31) := by
    rw [hwell, hout, hmask]
    rintro (h | h | h | h | h)
    · cases h
    · omega
    · cases h
    · exact hne (Fin.ext (by omega))
    · exact hhops h
  have hrange : 2 ≤ (d.routeOf ev).1 ∧ (d.routeOf ev).1 < 8 := by omega
  have hlink : (⟨(d.routeOf ev).1 - 2, by omega⟩ : Fin 6) = o := Fin.ext (by simp [hout])
  unfold Dev.trunkFromLink
  dsimp only
  rw [hrx]
  dsimp only
  rw [if_neg hgoes, dif_pos hrange, hlink, hcar, if_neg (by decide), if_pos htakes]

/-- Settles O51: each request and event reaches the branch of its premises (R189, R303, R324, R331, R386, R499). -/
theorem linkMessagesTakeEffect : Obligations.LinkMessagesTakeEffect := by
  refine ⟨?readRegisters, ?readMemory, ?writeMemory, ?writeRegisters, ?claim, ?release, ?attach, ?storage, ?tunnel, ?response, ?unrouted, ?forwarded⟩
  case readRegisters =>
    intro s k m x hreg r
    have hm := regRead_registers (errs := []) (x := { dev := s.dev, mem := s.mem }) hreg
    exact completes_of_memStep rfl hm
  case readMemory =>
    intro s k m errs y q b hheld x hy hans
    have hm := regRead_memory (x := { dev := s.dev, mem := s.mem }) hheld hy hans
    exact completes_of_memStep rfl hm
  case writeMemory =>
    intro s k m y q hheld x hy hans
    have hm := regWrite_memory (x := { dev := s.dev, mem := s.mem }) hheld hy hans
    exact completes_of_memStep rfl hm
  case writeRegisters =>
    intro s k m x hreg y
    have hm := regWrite_registers (y := y) (x := { dev := s.dev, mem := s.mem }) hreg rfl
    exact completes_of_memStep rfl hm
  case claim =>
    intro s k m h w e hlow hacq
    exact completes_of_devStep (f := lockClaim k m) rfl (lockClaim_granted h hlow hacq)
  case release =>
    intro s k m h hown
    exact completes_of_devStep (f := Machine.lockRelease k m) rfl (lockRelease_owner h hown)
  case attach =>
    intro s k m hrole hmode hbusy d f
    refine completes_of_devStep (f := mbxCmd k m) rfl ?_
    rw [mbxCmd, if_neg (by rintro (h | h); exacts [h hrole, h hmode]), if_neg (Nat.not_le.2 hbusy)]
  case storage =>
    intro s k m hrole
    exact ⟨completes_onDev rfl (if_pos hrole), completes_onDev rfl (if_pos hrole)⟩
  case tunnel =>
    intro s k m hop
    exact completes_onDev (f := gdl k m) rfl (if_neg hop)
  case response =>
    intro s k m q hq htyp e
    have hends := linkResponse_ends hq htyp (e := e) rfl
    constructor
    · intro hother
      exact completes_of_devStep (f := linkResponse k m) rfl (hends.trans (if_neg hother))
    · intro hstorage
      refine completes_of_devStep (f := linkResponse k m) rfl ?_
      rw [hends, if_pos hstorage]
      cases e.jobOfTag q.tag with
      | none => rfl
      | some j => rfl
  case unrouted =>
    intro s k s1 ev es l c hrx hno
    exact completes_onDev (f := fun d => d.trunkFromLink k s1) rfl (Dev.trunkFromLink_unrouted hrx hno)
  case forwarded =>
    intro s k o ev es l hne hrx hroute hwell hhops hcar htakes
    exact completes_onDev (f := fun d => d.trunkFromLink k false) rfl
      (Dev.trunkFromLink_forwards (s1 := false) hne hrx hroute hwell hhops hcar htakes)

end Sys2Proof.Machine

namespace Sys2Proof.Machine

/-! ### Power, clock and telemetry commands -/

/-- POWER_STATUS with DATA_LEN 0 answers the two domain masks (R425). -/
theorem powerStatus_masks {c : Cmd} {d : Dev} (hlen : c.dataLen = 0) :
    ∃ x, powerStatus c d = .finish { d with lat := x } .ok (BitVec.ofNat 64 (maskOf ((d.seenDomains c).filter (fun i => d.domSt i == .on))))
      (BitVec.ofNat 64 (maskOf ((d.seenDomains c).filter (fun i => d.domSt i == .retained)))) 0 := by
  unfold powerStatus
  extract_lets l on ret own addrs
  split
  next es e hread =>
    obtain ⟨x, hx⟩ := report_of_read hlen hread (BitVec.ofNat 64 on)
    refine ⟨x, ?_⟩
    rw [hx]

/-- POWER_SET_DOMAIN to on starts the wake of a sleeping domain (R427). -/
theorem powerSetDomain_wakes {c : Cmd} {d : Dev} (hi : c.p 0 < 36) (hne : c.p 0 ≠ 1) (ht : c.p 1 = 0) (hbusy : d.domBusy (c.p 0) = false)
    (hst : d.domSt (c.p 0) = .retained ∨ d.domSt (c.p 0) = .off) : powerSetDomain c d = .hold (d.startWake (c.p 0)) (.power (c.p 0)) := by
  have hheld : d.domSt (c.p 0) ≠ .held := by
    rcases hst with h | h <;> rw [h] <;> decide
  have hon : d.domSt (c.p 0) ≠ .on := by
    rcases hst with h | h <;> rw [h] <;> decide
  unfold powerSetDomain
  dsimp only
  rw [if_neg (Nat.not_le.2 hi), if_neg (by omega), if_neg hne, hbusy, if_neg Bool.false_ne_true, if_neg hheld, if_pos ht, if_neg hon]

/-- POWER_SET_DOMAIN to a deeper state starts a request set where nothing holds it (R435 to R440). -/
theorem powerSetDomain_enters {c : Cmd} {d e : Dev} (hi : c.p 0 < 36) (hne : c.p 0 ≠ 1) (ht : c.p 1 = 1 ∨ c.p 1 = 2)
    (hbusy : d.domBusy (c.p 0) = false) (hst : d.domSt (c.p 0) = .on) (hdeep : onOnly (c.p 0) = false) (hreq : d.pwr.req = none)
    (hstart : d.startRequest (c.p 0) (c.p 1) .command = (e, none)) : powerSetDomain c d = .hold e (.power (c.p 0)) := by
  have hdepth : d.domDepth (c.p 0) = 0 := congrArg DomSt.depth hst
  unfold powerSetDomain
  dsimp only
  rw [if_neg (Nat.not_le.2 hi), if_neg (by omega), if_neg hne, hbusy, if_neg Bool.false_ne_true, if_neg (by rw [hst]; decide),
    if_neg (by omega), hdeep, if_neg Bool.false_ne_true, hdepth, if_neg (by omega), hreq, if_neg (by decide), hstart]

/-- A stack takes either policy (R432). -/
theorem powerSetPolicy_stack {c : Cmd} {d : Dev} (hlo : 31 ≤ c.p 0) (hhi : c.p 0 ≤ 34) (hfit : d.fus.domFitted (c.p 0) = true) (hpol : c.p 1 ≤ 1) :
    powerSetPolicy c d = done (d.updDom (c.p 0) (fun x => { x with policy := c.p 1 == 1 })) := by
  have hdeep : onOnly (c.p 0) = false := by
    have h0 : c.p 0 ≠ 0 := by omega
    have h2 : c.p 0 ≠ 2 := by omega
    have h35 : c.p 0 ≠ 35 := by omega
    simp [onOnly, h0, h2, h35]
  unfold powerSetPolicy
  dsimp only
  rw [if_neg (by omega), hfit, if_neg (by decide), hdeep, if_neg Bool.false_ne_true, if_neg (by omega), if_neg (by omega)]

/-- CLOCK_SET of the Dense clock starts a change within the fuse and the rail (R460, R462). -/
theorem clockSet_dense {c : Cmd} {d : Dev} (h0 : c.p 0 = 0) (hfuse : c.pn 4 4 ≤ d.fus.denseMhz) (hlow : 400 ≤ c.pn 4 4) (hstep : c.pn 4 4 % 25 = 0)
    (hrail : d.fus.railMode = false ∨ c.pn 4 4 ≤ 1400 ∨ 880 ≤ d.rf R.TEL_VCORE F.TEL_VCORE_MV) (hfree : d.clks.change = none) :
    clockSet c d = .hold (d.startDense (c.pn 4 4) true) .dense := by
  have hvolt : ¬ (d.fus.railMode = true ∧ 1400 < c.pn 4 4 ∧ d.rf R.TEL_VCORE F.TEL_VCORE_MV < 880) := by
    rintro ⟨hmode, hfast, hmv⟩
    rcases hrail with h | h | h
    · rw [h] at hmode
      cases hmode
    · omega
    · omega
  rw [clockSet, if_pos h0]
  unfold clockSetDense
  dsimp only
  rw [if_neg (by omega), if_neg (by omega), if_neg hvolt, hfree]
  exact if_neg (by decide)

/-- CLOCK_SET of CLKOUT takes a fitted source and a divisor that keeps it within 100 MHz (R466). -/
theorem clockSet_clkout {c : Cmd} {d : Dev} (h1 : c.p 0 = 1) (hsrc : c.pn 4 4 ≤ 25)
    (hport : 9 ≤ c.pn 4 4 → c.pn 4 4 ≤ 24 → bit d.fus.ports (c.pn 4 4 - 9) = true) (hlo : 1 ≤ c.pn 8 4) (hhi : c.pn 8 4 ≤ 65536)
    (hrate : d.clkoutKhz (c.pn 4 4) ≤ 100000 * c.pn 8 4) :
    clockSet c d = done (((d.setRf R.CLKOUT_CFG F.CLKOUT_CFG_EN (b2n (c.pn 4 4 != 0))).setRf R.CLKOUT_CFG F.CLKOUT_CFG_SRC (c.pn 4 4)).setRf
      R.CLKOUT_CFG F.CLKOUT_CFG_DIV_M1 (c.pn 8 4 - 1)) := by
  have hfitted : ¬ (9 ≤ c.pn 4 4 ∧ c.pn 4 4 ≤ 24 ∧ (!bit d.fus.ports (c.pn 4 4 - 9)) = true) := by
    rintro ⟨h9, h24, habs⟩
    rw [hport h9 h24] at habs
    cases habs
  rw [clockSet, if_neg (by omega), if_pos h1]
  unfold clockSetClkout
  dsimp only
  rw [if_neg hfitted, if_neg (by omega), if_neg (by omega)]

/-- CLOCK_SET of spread takes a depth and a rate that every named PLL allows (R453, R454). -/
theorem clockSet_spread {c : Cmd} {d : Dev} (hlo : 2 ≤ c.p 0) (hhi : c.p 0 ≤ 8)
    (hlim : ∀ p ∈ spreadPlls (c.p 0), c.pn 12 2 ≤ (spreadLimit p).1 ∧ (spreadLimit p).2.1 ≤ c.pn 14 2 ∧ c.pn 14 2 ≤ (spreadLimit p).2.2) :
    clockSet c d = done (d.forEach (spreadPlls (c.p 0)) (fun p d => d.setSpread p (sscWord (c.pn 12 2) (c.pn 14 2)))) := by
  have hdepth : ¬ (spreadPlls (c.p 0)).any (fun p => decide ((spreadLimit p).1 < c.pn 12 2)) = true := by
    rw [List.any_eq_true]
    rintro ⟨p, hp, hdeep⟩
    have hmax := (hlim p hp).1
    exact absurd (of_decide_eq_true hdeep) (Nat.not_lt.2 hmax)
  have hrate : ¬ (spreadPlls (c.p 0)).any (fun p => decide (c.pn 14 2 < (spreadLimit p).2.1) || decide ((spreadLimit p).2.2 < c.pn 14 2)) = true := by
    rw [List.any_eq_true]
    rintro ⟨p, hp, hout⟩
    obtain ⟨-, hslow, hfast⟩ := hlim p hp
    rcases Bool.or_eq_true _ _ ▸ hout with h | h
    · exact absurd (of_decide_eq_true h) (Nat.not_lt.2 hslow)
    · exact absurd (of_decide_eq_true h) (Nat.not_lt.2 hfast)
  rw [clockSet, if_neg (by omega), if_neg (by omega), if_pos hhi]
  unfold clockSetSpread
  dsimp only
  rw [if_neg hdepth, if_neg hrate]

/-- TELEMETRY_READ with DATA_LEN 0 names domains and reports nothing more (R448). -/
theorem telemetryRead_reads {c : Cmd} {d : Dev} (hlen : c.dataLen = 0) (hmask : c.pn 0 8 < 2 ^ 36) :
    ∃ x, telemetryRead c d = .finish { d with lat := x } .ok 0 0 0 := by
  unfold telemetryRead
  extract_lets mask l head
  rw [if_neg (Nat.not_le.2 hmask)]
  split
  next es e hread => exact report_of_read hlen hread _

/-- Settles O52: each command reaches the branch of its premises (R425 to R448, R453 to R466). -/
theorem powerCommandsTakeEffect : Obligations.PowerCommandsTakeEffect := by
  refine ⟨?status, ?wake, ?entry, ?policy, ?dense, ?clkout, ?spread, ?telemetry, ?cap⟩
  case status =>
    intro s c hs hlen
    obtain ⟨x, hx⟩ := powerStatus_masks (d := s.dev) hlen
    exact ⟨x, completes_of_finish rfl hs hx⟩
  case wake => exact fun s c hs hi hne ht hbusy hst => completes_of_hold rfl hs (powerSetDomain_wakes hi hne ht hbusy hst)
  case entry =>
    intro s c e hs hi hne ht hbusy hst hdeep hreq hstart
    exact completes_of_hold rfl hs (powerSetDomain_enters hi hne ht hbusy hst hdeep hreq hstart)
  case policy => exact fun s c hs hlo hhi hfit hpol => completes_of_finish rfl hs (powerSetPolicy_stack hlo hhi hfit hpol)
  case dense => exact fun s c hs h0 hfuse hlow hstep hrail hfree => completes_of_hold rfl hs (clockSet_dense h0 hfuse hlow hstep hrail hfree)
  case clkout =>
    exact fun s c hs h1 hsrc hport hlo hhi hrate => completes_of_finish rfl hs (clockSet_clkout h1 hsrc hport hlo hhi hrate)
  case spread => exact fun s c hs hlo hhi hlim => completes_of_finish rfl hs (clockSet_spread hlo hhi hlim)
  case telemetry =>
    intro s c hs hlen hmask
    obtain ⟨x, hx⟩ := telemetryRead_reads (d := s.dev) hlen hmask
    exact ⟨x, completes_of_finish rfl hs hx⟩
  case cap => exact fun s c hs hcap => completes_of_finish rfl hs (if_neg (Nat.not_lt.2 hcap))

end Sys2Proof.Machine

namespace Sys2Proof.Machine

/-- A row that acts on the device and its memory does what the function that says it does here. -/
theorem completes_onMach {i : Instr} {s : State} {f g : Mach → Mach} (hi : exec i s = memStep s f)
    (hm : f { dev := s.dev, mem := s.mem } = g { dev := s.dev, mem := s.mem }) : Completes i s (s.onMach g) := by
  rw [Completes, hi, memStep, State.onMach, State.onMach, hm]

/-! ### What leaves the running request set -/

/-- The same request set runs, or none still does. -/
def SameReq (d e : Dev) : Prop := e.pwr.req = d.pwr.req

theorem SameReq.refl (d : Dev) : SameReq d d := rfl

theorem SameReq.trans {a b c : Dev} (x : SameReq a b) (y : SameReq b c) : SameReq a c := Eq.trans y x

theorem SameReq.of_pwr {d e : Dev} (h : e.pwr = d.pwr) : SameReq d e := congrArg Power.req h

theorem Dev.updDom_sameReq (d : Dev) (i : Nat) (f : Dom → Dom) : SameReq d (d.updDom i f) := by
  unfold Dev.updDom
  split
  · rfl
  · rfl

theorem Dev.grantRamps_sameReq (d : Dev) : SameReq d d.grantRamps := rfl

theorem Dev.beginWake_sameReq (d : Dev) (i : Nat) : SameReq d (d.beginWake i) := by
  unfold Dev.beginWake
  split
  · exact Dev.updDom_sameReq d i _
  · exact Dev.updDom_sameReq d i _
  · exact Dev.updDom_sameReq d i _
  · rfl

theorem Dev.startWake_sameReq (d : Dev) (i : Nat) : SameReq d (d.startWake i) :=
  (Dev.forEach_rel SameReq.refl SameReq.trans (fun j d => d.beginWake_sameReq j) (domDeps i ++ [i]) d).trans (Dev.grantRamps_sameReq _)

theorem Dev.wakeEvent_sameReq (d : Dev) (i : Nat) : SameReq d (d.wakeEvent i) := by
  unfold Dev.wakeEvent Dev.demandWake
  split
  · rfl
  · split
    · exact Dev.updDom_sameReq d i _
    · split
      · rfl
      · exact Dev.startWake_sameReq d i

theorem Dev.wakeSurveyor_sameReq (d : Dev) : SameReq d d.wakeSurveyor := by
  unfold Dev.wakeSurveyor
  split
  · rfl
  · exact Dev.wakeEvent_sameReq d 1

theorem Dev.notice_sameReq (d : Dev) (f : Func) (kind : Nat) (arg : BitVec 64) : SameReq d (d.notice f kind arg) := by
  unfold Dev.notice
  split
  · rfl
  · split
    · have hkept : RegsHost d (d.writeNotice f { kind := kind, count := 1, arg := arg }) := (d.writeNotice_keepsSt f _).1.1
      exact (SameReq.of_pwr hkept.pwr_eq).trans (Dev.wakeSurveyor_sameReq _)
    · exact SameReq.trans (SameReq.of_pwr (Dev.updRing_pwr d f _)) (Dev.wakeSurveyor_sameReq _)

theorem Dev.markWater_pwr (d : Dev) (g : Fin 8) : (d.markWater g).pwr = d.pwr :=
  (Dev.raiseTo_pwr _ _ _ _).trans (Dev.raiseTo_pwr _ _ _ _)

theorem Dev.accept_pwr (d : Dev) (g : Fin 8) (q : Nat) (ev : BitVec 64) : (d.accept g q ev).pwr = d.pwr := by
  unfold Dev.accept
  dsimp only
  split
  · exact Dev.bump_pwr d _ _ _
  split
  · exact Dev.bump_pwr d _ _ _
  split
  · exact Dev.bump_pwr d _ _ _
  split
  · exact Dev.bump_pwr d _ _ _
  split
  · exact Dev.bump_pwr d _ _ _
  split
  · split
    · exact Dev.bump_pwr d _ _ _
    · exact Dev.markWater_pwr _ g
  · exact Dev.markWater_pwr _ g

theorem Dev.stackUp_sameReq (d : Dev) (s : Nat) : SameReq d (d.stackUp s) := by
  have hregions : ∀ (r : Nat) (e : Dev), SameReq e (if e.rgnValid s r then e.setWm s r (e.rgnLo s r) else e) := by
    intro r e
    split
    · exact SameReq.of_pwr ((Dev.updStk_pwr _ _ _).trans (Dev.setRf_pwr _ _ _ _))
    · exact SameReq.refl e
  exact SameReq.trans (SameReq.of_pwr (Dev.updStk_pwr d _ _)) (Dev.forEach_rel SameReq.refl SameReq.trans hregions (List.range 16) _)

/-- What a domain does when it is ready starts no request set. -/
theorem Dev.domainUp_sameReq (d : Dev) (i prior : Nat) : SameReq d (d.domainUp i prior) := by
  unfold Dev.domainUp
  split
  · dsimp only
    split
    · exact SameReq.of_pwr (Dev.updGal_pwr d _ _)
    · exact SameReq.trans (SameReq.of_pwr (Dev.updGal_pwr d _ _))
        (Dev.forEach_rel SameReq.refl SameReq.trans (fun e d => SameReq.of_pwr (d.accept_pwr _ _ _)) _ _)
  split
  · exact SameReq.of_pwr (Dev.bump_pwr d _ _ _)
  split
  · split
    · exact SameReq.trans (SameReq.of_pwr (Dev.updLink_pwr d _ _)) (Dev.notice_sameReq _ pf 5 _)
    · exact SameReq.refl d
  split
  · exact SameReq.of_pwr rfl
  split
  · exact Dev.stackUp_sameReq d _
  · exact SameReq.refl d

/-! ### Entries and wakes -/

/-- The head of a request set begins DRAIN when QUIESCE is over (Table 15.4). -/
theorem domainEntryStage_quiesced {m : Mach} {i : Nat} {q : ReqSet} {tl : List Nat} (hreq : m.dev.pwr.req = some q) (hgo : q.refusal = none)
    (htodo : q.todo = i :: tl) (hst : m.dev.domSt i = .entering) (hstage : m.dev.domStage i = 1) (hquiet : m.dev.quiet i = true) :
    domainEntryStage i false m = { m with dev := m.dev.toStage q i 2 } := by
  have hend : m.dev.stageEnd q i false = m.dev.toStage q i 2 := by
    unfold Dev.stageEnd
    rw [hstage]
    exact if_pos (.inl hquiet)
  unfold domainEntryStage
  rw [hreq]
  dsimp only
  rw [hgo, htodo]
  dsimp only
  rw [if_neg (not_not.2 rfl), hst, if_neg (by decide), if_neg (not_not.2 rfl), hstage, if_neg (by decide), hend]

/-- At the end of RESET it reaches its state, and the next of the set follows. -/
theorem domainEntryStage_lowers {m : Mach} {i : Nat} {q : ReqSet} {tl : List Nat} (hreq : m.dev.pwr.req = some q) (hgo : q.refusal = none)
    (htodo : q.todo = i :: tl) (hst : m.dev.domSt i = .entering) (hstage : m.dev.domStage i = 5) :
    domainEntryStage i false m = { lowerDom i q.target m with dev := (lowerDom i q.target m).dev.nextDom q tl (i :: q.lowered) } := by
  unfold domainEntryStage
  rw [hreq]
  dsimp only
  rw [hgo, htodo]
  dsimp only
  rw [if_neg (not_not.2 rfl), hst, if_neg (by decide), if_neg (not_not.2 rfl), hstage, if_pos rfl]

/-- An access on demand starts the wake of a domain in retention (R430, R432). -/
theorem Dev.wakeEvent_retained {d : Dev} {i : Nat} (hst : d.domSt i = .retained) (hentry : d.inEntry i = false) (hpol : d.domPolicy i = true) :
    d.wakeEvent i = d.startWake i := by
  unfold Dev.wakeEvent Dev.demandWake
  rw [hst, if_neg (by decide), hentry, if_neg Bool.false_ne_true, hpol]
  exact if_neg (by rintro (h | ⟨-, -, h⟩) <;> cases h)

/-- A domain whose dependencies are on and whose regulator step has begun becomes on, and ends the wait for it (R430, R431). -/
theorem wakeReady_ready {d e : Dev} {i : Nat} (hst : d.domSt i = .waking) (hdeps : (domDeps i).all (fun j => d.domSt j == .on) = true)
    (hreq : d.pwr.req = none) (hramp : d.domPrior i = 2 → d.grantRamps.pwr.ramps.contains i = true)
    (he : e = d.grantRamps.bump (R.PWR_DOM_CNT i) F.PWR_DOM_CNT_WAKES) :
    wakeReady i [] d = ((((e.domTo i .on).grantRamps).domainUp i (d.domPrior i)).release (Wait.isPower i) .ok 1 0 0).endUnwind := by
  have hst' : d.grantRamps.domSt i = .waking := hst
  have hprior : d.grantRamps.domPrior i = d.domPrior i := rfl
  have hno : ¬ (d.grantRamps.domSt i ≠ .waking ∨ ((domDeps i).any (fun j => d.grantRamps.domSt j ≠ .on)) = true ∨
      (d.grantRamps.domPrior i = 2 ∧ (!d.grantRamps.pwr.ramps.contains i) = true)) := by
    rintro (h | h | ⟨hoff, h⟩)
    · exact h hst'
    · obtain ⟨j, hj, hoff⟩ := List.any_eq_true.1 h
      have hon : d.domSt j = .on := beq_iff_eq.1 (List.all_eq_true.1 hdeps j hj)
      exact of_decide_eq_true hoff hon
    · rw [hramp hoff] at h
      cases h
  have herrs : (if d.domPrior i = 2 then saveErrsOf i [] else []) = [] := by
    split
    · rfl
    · rfl
  have hcount : SameReq d e := by
    rw [he]
    exact (Dev.grantRamps_sameReq d).trans (SameReq.of_pwr (Dev.bump_pwr d.grantRamps _ _ _))
  have hon : SameReq e (e.domTo i .on).grantRamps := (Dev.updDom_sameReq e i _).trans (Dev.grantRamps_sameReq _)
  have hsame : SameReq d (((e.domTo i .on).grantRamps).domainUp i (d.domPrior i)) := (hcount.trans hon).trans (Dev.domainUp_sameReq _ i _)
  unfold wakeReady
  dsimp only
  rw [if_neg hno, hprior, herrs, if_neg (by rintro ⟨h, -⟩; cases h)]
  have hsaved : d.grantRamps.saveErrors i [] = d.grantRamps := rfl
  rw [hsaved]
  unfold Dev.domReady
  dsimp only
  rw [← he, show (((e.domTo i .on).grantRamps).domainUp i (d.domPrior i)).pwr.req = none from Eq.trans hsame hreq]
  exact congrArg Dev.endUnwind (if_neg Bool.false_ne_true)

/-! ### Limits and telemetry -/

theorem Dev.domMv_pwr (d : Dev) (i : Nat) : (d.domMv i).2.pwr = d.pwr := by
  unfold Dev.domMv
  split
  · rfl
  split
  · rfl
  split
  · rfl
  · rfl

theorem Dev.telDomain_pwr (d : Dev) (i amps : Nat) : (d.telDomain i amps).pwr = d.pwr := by
  unfold Dev.telDomain
  dsimp only
  rw [Dev.setReg_pwr, Dev.setReg_pwr, Dev.domMv_pwr, Dev.setReg_pwr]

/-- A telemetry frame enters the history of package power, and the millisecond of throttling starts anew (R446, R448). -/
theorem telemetryFrame_history (r : TelFrame) (d : Dev) :
    (telemetryFrame r d).pwr.history = (r.pkg % 65536 :: d.pwr.history).take 10 ∧ (telemetryFrame r d).pwr.throttledMs = false := by
  unfold telemetryFrame
  extract_lets d1 d2 d3 d4 acted d5
  have h2 : d2.pwr = d.pwr := (Dev.setReg_pwr d1 _ _).trans (Dev.setReg_pwr d _ _)
  have h3 : d3.pwr = d2.pwr := Dev.forEach_rel (P := fun a b => b.pwr = a.pwr) (fun _ => rfl) (fun x y => y.trans x)
    (fun i d => d.telDomain_pwr i (r.amps.getD i 0)) (List.range 36) d2
  have h4 : d4.pwr = d3.pwr := Dev.setReg_pwr d3 _ _
  have h5 : d5.pwr = d4.pwr := by
    unfold d5
    split
    · exact Dev.bump_pwr d4 _ _ _
    · rfl
  have hhist : d5.pwr.history = d.pwr.history := congrArg Power.history (h5.trans (h4.trans (h3.trans h2)))
  exact ⟨congrArg (fun l => (r.pkg % 65536 :: l).take 10) hhist, rfl⟩

/-- A temperature below every threshold is recorded and changes no clock (R447). -/
theorem tjSample_cool {m : Mach} {region t : Nat} (hlow : t < m.dev.rf R.PWR_CTL F.PWR_CTL_TJ_HI) (hcool : t < 105)
    (hstacks : (List.range 4).any (fun k => (m.dev.setReg R.PWR_TJ (BitVec.ofNat 32 (region * 256 + t))).rf (R.STK_STAT k) F.STK_STAT_HOT == 1) = false) :
    let d := (m.dev.setReg R.PWR_TJ (BitVec.ofNat 32 (region * 256 + t))).updPwr (fun p => { p with hotSlot := false })
    tjSample region t m = { m with dev := d } := by
  intro d
  have hhi : decide (m.dev.rf R.PWR_CTL F.PWR_CTL_TJ_HI ≤ t) = false := decide_eq_false (Nat.not_le.2 hlow)
  have hhot : decide (105 ≤ t) = false := decide_eq_false (Nat.not_le.2 hcool)
  unfold tjSample
  dsimp only
  rw [if_neg (show ¬ 115 ≤ t by omega), hhi, hhot]
  simp only [Bool.and_false, Bool.or_false, Bool.false_eq_true, false_and, if_false, Dev.updPwr_rf, hstacks]
  rfl

/-- Settles O53: each event reaches the branch of its premises (R428 to R448, R509, R510). -/
theorem powerEventsTakeEffect : Obligations.PowerEventsTakeEffect := by
  refine ⟨?quiesce, ?lower, ?event, ?demand, ?ready, ?planeIdle, ?surveyorIdle, ?request, ?limit, ?cap, ?temperature, ?telemetry, ?under, ?back,
    ?erase, ?sink⟩
  case quiesce =>
    intro s i q tl hreq hgo htodo hst hstage hquiet
    have hm := domainEntryStage_quiesced (m := { dev := s.dev, mem := s.mem }) hreq hgo htodo hst hstage hquiet
    exact completes_onMach (f := fun m => (domainEntryStage i.val false m).drainStacks i) rfl (congrArg (Mach.drainStacks · i.val) hm)
  case lower =>
    intro s i q tl hreq hgo htodo hst hstage
    have hm := domainEntryStage_lowers (m := { dev := s.dev, mem := s.mem }) hreq hgo htodo hst hstage
    exact completes_onMach (f := fun m => (domainEntryStage i.val false m).drainStacks i) rfl (congrArg (Mach.drainStacks · i.val) hm)
  case event => exact fun s i hentry => completes_onDev (f := wakeEventIn i.val) rfl (if_pos hentry)
  case demand => exact fun s i hst hentry hpol => completes_onDev (f := domainWake i.val) rfl (Dev.wakeEvent_retained hst hentry hpol)
  case ready =>
    intro s i hst hdeps hreq hramp d e
    have he := wakeReady_ready hst hdeps hreq hramp (e := d) rfl
    exact completes_onMach (f := fun m => (Mach.drainStacks { m with dev := wakeReady i.val [] m.dev } i).serveWrites) rfl
      (congrArg (fun x => (Mach.drainStacks { dev := x, mem := s.mem } i.val).serveWrites) he)
  case planeIdle =>
    intro s p hst hret hidle hfirst hreq
    refine completes_onDev (f := dnsIdleTimer p) rfl ?_
    have hretains : s.dev.domSt (12 + p.val) = .on ∧ s.dev.rf (R.DNS_PWR_CFG p) F.DNS_PWR_CFG_IDLE_RET ≠ 0 ∧
        (s.dev.rf (R.DNS_PWR_CFG p) F.DNS_PWR_CFG_IDLE_OFF = 0 ∨
          s.dev.rf (R.DNS_PWR_CFG p) F.DNS_PWR_CFG_IDLE_RET ≤ s.dev.rf (R.DNS_PWR_CFG p) F.DNS_PWR_CFG_IDLE_OFF * 1000) := ⟨hst, hret, hfirst⟩
    unfold dnsIdleTimer
    dsimp only
    rw [if_pos hretains, hidle, if_neg (by decide), hreq]
    exact if_neg (by decide)
  case surveyorIdle =>
    intro s hmir hst hcmd hreq
    refine completes_onDev (f := Machine.surveyorIdle) rfl (if_neg ?_)
    rw [hmir, hst, hcmd, hreq]
    decide
  case request =>
    intro s i t hi ht
    exact completes_onDev (f := pwrReqGo i.val t.val) rfl (if_neg (by omega))
  case limit =>
    intro s mean inst hmean hinst hstop
    refine completes_onDev (f := currentLimit mean inst) rfl ?_
    unfold currentLimit
    dsimp only
    rw [decide_eq_true hmean, decide_eq_false (Nat.not_lt.2 hinst), hstop]
    simp only [Bool.true_or, Bool.false_and, Bool.or_false, Bool.or_true]
  case cap =>
    intro s hserv hmax hmin
    refine completes_onDev (f := capLoop) rfl ?_
    unfold capLoop
    rw [hserv, if_neg (by decide)]
    dsimp only
    rw [if_neg (Nat.not_lt.2 hmax), if_neg (by omega)]
  case temperature =>
    intro s r t hlow hcool hslot hstacks
    have hm := tjSample_cool (m := { dev := s.dev, mem := s.mem }) (region := r.val) hlow hcool hstacks
    exact ⟨_, completes_of_memStep rfl hm, rfl, rfl⟩
  case telemetry =>
    intro s r
    obtain ⟨hhist, hthrot⟩ := telemetryFrame_history r s.dev
    exact ⟨_, completes_of_devStep (f := telemetryFrame r) rfl rfl, hhist, hthrot⟩
  case under => exact fun s => completes_onMach rfl (if_pos (.inl rfl))
  case back => exact fun s => completes_onDev (f := fun d => d.updBoot (fun b => { b with coldInternal := false })) rfl rfl
  case erase =>
    intro s g hst hq
    refine completes_onMach (f := faultedEraseTimeout g) rfl (if_neg ?_)
    rintro (h | h)
    · exact h hst
    · exact hq (List.isEmpty_iff.1 h)
  case sink => exact fun s g hst => completes_onDev (f := discardSinkTimeout g) rfl (if_neg (not_not.2 hst))

end Sys2Proof.Machine

namespace Sys2Proof.Machine

/-! ### Clock monitors and relocks -/

theorem Dev.clockStable_clk (d : Dev) (m : Nat) (b : Bool) : (d.clockStable m b).clk = d.clk := by
  unfold Dev.clockStable
  dsimp only
  split
  · dsimp only [Dev.setRf_clk]
  · exact Dev.setRf_clk d _ _ _

/-- A window in band makes its clock stable when it is the fourth in a row, and is counted else (R456, R457). -/
theorem monitorWindow_inBand {m : Fin 30} {count : Nat} {amp : Bool} {x : Mach} {d : Dev} (hrel : (x.dev.mon m).relock = false)
    (hon : x.dev.domOn (monDomain m) = true) (hd : d = x.dev.setRf (R.CLK_MON_STAT m) F.CLK_MON_STAT_COUNT (count % 2 ^ 24))
    (hband : d.inBand m count = true) :
    monitorWindow m count amp x = if min 4 ((x.dev.mon m).good + 1) = 4 ∧ (x.dev.mon m).stable = false then { x with dev := d.clockStable m true }
      else { x with dev := d.updMon m (fun y => { y with good := min 4 ((x.dev.mon m).good + 1), bad := 0 }) } := by
  subst hd
  have hacts : ¬ ((x.dev.mon m).relock = true ∨ x.dev.domOn (monDomain m) = false) := by
    rw [hrel, hon]
    decide
  unfold monitorWindow
  dsimp only
  rw [if_neg hacts, if_pos hband]

/-- The reference is back: powered time moves to it, the interval is logged, and a warm start follows (Table 16.4). -/
theorem resonatorRestart_restarts {x : Mach} {t : Nat} {d e : Dev} (hrc : x.dev.clks.rcSince = some t)
    (hd : d = (x.dev.setRf R.CLK_STAT F.CLK_STAT_PT_RC 0).updClk (fun c => { c with rcSince := none }))
    (he : e = (d.clockStable 0 true).collect (Flt.refLoss (((d.clockStable 0 true).clk - t) / 100))) (hboot : e.boot.resume = none) :
    resonatorRestart true x = warmHold { x with dev := e } := by
  rw [Dev.clockStable_clk] at he
  subst hd
  unfold resonatorRestart
  rw [hrc]
  dsimp only
  rw [← he, hboot]
  exact if_neg (by decide)

/-- A relock that ends well while a Dense change waits for it gives the new frequency (R461). -/
theorem relockDone_dense {x : Mach} {c : DenseChg} (hrel : (x.dev.mon 2).relock = true) (hstep : x.dev.denseStep = 5)
    (hchg : x.dev.clks.change = some c) : relockDone 1 true x = { x with dev := x.dev.denseRelocked c true } := by
  have hmon : monOfPll 1 = 2 := rfl
  unfold relockDone
  dsimp only
  rw [hmon, hrel, if_neg (by rintro (h | ⟨h, -⟩) <;> cases h), if_pos ⟨rfl, hstep⟩, hchg]

/-- PLL-S is ungated (R457). -/
theorem relockDone_system {x : Mach} (hrel : (x.dev.mon 1).relock = true) : relockDone 0 true x = { x with dev := x.dev.pllUp 1 } := by
  have hmon : monOfPll 0 = 1 := rfl
  unfold relockDone
  dsimp only
  rw [hmon, hrel, if_neg (by rintro (h | ⟨h, -⟩) <;> cases h), if_neg (by rintro ⟨h, -⟩; cases h)]
  rfl

/-- Settles O54: each event reaches the branch of its premises (R456 to R461, Tables 16.3 to 16.5). -/
theorem clockEventsTakeEffect : Obligations.ClockEventsTakeEffect := by
  refine ⟨?counted, ?stable, ?loss, ?restart, ?drained, ?busy, ?dense, ?system⟩
  case counted =>
    intro s m count hrel hon d hband hfew
    have hstill : ¬ (min 4 ((s.dev.mon m).good + 1) = 4 ∧ (s.dev.mon m).stable = false) := by
      rintro ⟨hfour, hoff⟩
      rcases hfew with h | h
      · omega
      · rw [h] at hoff
        cases hoff
    have hm := (monitorWindow_inBand (amp := true) (x := { dev := s.dev, mem := s.mem }) hrel hon (d := d) rfl hband).trans (if_neg hstill)
    exact completes_of_memStep rfl hm
  case stable =>
    intro s m count hrel hon d hband hgood hstable
    have hfour : min 4 ((s.dev.mon m).good + 1) = 4 ∧ (s.dev.mon m).stable = false := ⟨by rw [hgood]; rfl, hstable⟩
    have hm := (monitorWindow_inBand (amp := true) (x := { dev := s.dev, mem := s.mem }) hrel hon (d := d) rfl hband).trans (if_pos hfour)
    exact completes_of_memStep rfl hm
  case loss =>
    intro s hrc hcold
    refine completes_onDev rfl (if_neg ?_)
    rw [hrc, hcold]
    decide
  case restart =>
    intro s t hrc d e hboot
    have hm := resonatorRestart_restarts (x := { dev := s.dev, mem := s.mem }) hrc (d := d) rfl (e := e) rfl hboot
    exact completes_of_memStep rfl hm
  case drained =>
    intro s c hchg hstep hstill
    refine completes_onDev (f := denseDrain false) rfl ?_
    unfold denseDrain
    rw [hchg]
    dsimp only
    rw [if_neg (not_not.2 hstep), if_pos hstill]
  case busy =>
    intro s c hchg hstep hstill
    refine completes_onDev (f := denseDrain true) rfl ?_
    unfold denseDrain
    rw [hchg]
    dsimp only
    rw [if_neg (not_not.2 hstep), hstill, if_neg Bool.false_ne_true, if_pos rfl]
  case dense =>
    intro s c hrel hstep hchg
    have hm := relockDone_dense (x := { dev := s.dev, mem := s.mem }) hrel hstep hchg
    exact completes_of_memStep rfl hm
  case system =>
    intro s hrel
    have hm := relockDone_system (x := { dev := s.dev, mem := s.mem }) hrel
    exact completes_of_memStep rfl hm

end Sys2Proof.Machine

namespace Sys2Proof.Machine

/-! ### Resets, starts and recoveries -/

/-- WARM_N resets a device that serves, starts or waits for a PLL (R475). -/
theorem warmN_resets {m : Mach} {ns : Nat} (hns : 10000 ≤ ns) (hcold : m.dev.boot.inCold = false) (htest : m.dev.boot.testMode = false)
    (hres : m.dev.boot.resume = none) (hmir : m.dev.mirState ≠ 4) : warmN ns m = warmHold m := by
  unfold warmN
  rw [Dev.pulseCounts_of_long _ hns]
  dsimp only
  rw [hcold, htest, hres, if_neg (by decide), if_neg (by decide), if_neg (by rintro ⟨h, -⟩; exact hmir h)]

/-- Stages 0 to 10 follow the release of both sources of COLD_N (R467). -/
theorem coldStart_released {m : Mach} {x : StartInputs} (hcold : m.dev.boot.inCold = true) (hint : m.dev.boot.coldInternal = false) :
    coldStart x m = runStages true x (stagesFrom 0) { m with dev := m.dev.updBoot (fun b => { b with coldPin := false, inCold := false }) } := by
  unfold coldStart
  dsimp only [Dev.updBoot]
  rw [if_pos hcold, hint]
  exact if_neg (by decide)

/-- WARM_N's release starts a warm start while the reference stands (R476). -/
theorem warmStart_runs {m : Mach} {x : StartInputs} (hat : m.dev.boot.warmAt = none) (hcold : m.dev.boot.inCold = false)
    (hheld : m.dev.boot.warmHeld = true) (href : m.dev.clks.rcSince = none) : warmStart x m = runWarm x m := by
  unfold warmStart
  dsimp only
  rw [hat, if_neg (show ¬ ((none : Option Nat).isSome = true ∧ m.dev.boot.inCold = false) by rintro ⟨h, -⟩; cases h), hcold,
    if_neg Bool.false_ne_true, hheld, if_pos rfl, href]
  exact if_neg (by decide)

/-- The boot watchdog starts the device warm a first time (R480). -/
theorem bootWatchdog_retries {m : Mach} (hmir : m.dev.mirState = 1) (hstage : 5 ≤ m.dev.rf R.LNT_MIR_STATE F.LNT_MIR_STATE_STAGE)
    (hheld : m.dev.boot.warmHeld = false) (hcold : m.dev.boot.inCold = false) (htrial : m.dev.boot.trial = false)
    (hfirst : m.dev.boot.retried = false) : bootWatchdog m = warmHold { m with dev := m.dev.updBoot (fun b => { b with retried := true }) } := by
  unfold bootWatchdog
  dsimp only
  rw [if_pos ⟨hmir, hstage, hheld, hcold⟩, htrial, if_neg Bool.false_ne_true, hfirst, if_neg Bool.false_ne_true]

/-- The trial slot becomes the CONFIRMED one, with no fuse to blow (R481). -/
theorem trialConfirm_confirms {d : Dev} (hmir : d.mirState = 2) (hlong : d.onlineLong = true) (htrial : d.boot.trial = true)
    (hsec : d.boot.secver ≤ d.fus.secver) :
    trialConfirm d = ((d.updLed (fun l => l.writeBoot d.boot.slot none)).setRf R.LNT_BOOT_STAT F.LNT_BOOT_STAT_TRIAL 0).updBoot
      (fun b => { b with trial := false }) := by
  have hfuses : ¬ (d.fus.secver < d.boot.secver ∧ (d.boot.slot = (d.led.writeBoot d.boot.slot none).bootRec.confirmed)) :=
    fun h => absurd h.1 (Nat.not_lt.2 hsec)
  unfold trialConfirm
  rw [if_neg (by rw [hmir, hlong]; decide)]
  dsimp only
  rw [if_pos htrial]
  exact if_neg hfuses

/-- A trigger in ONLINE outside a trial starts the Surveyor's recovery (R506, Table 18.8). -/
theorem surveyorReset_recovers {m : Mach} {reason : Nat} (hwhy : reason ≠ 1) (hmir : m.dev.mirState = 2) (htrial : m.dev.boot.trial = false) :
    surveyorReset reason m = { m with dev := m.dev.recoverSurveyor reason } := by
  have hserves : ¬ (¬ (m.dev.mirState = 2 ∨ m.dev.mirState = 5 ∨ (m.dev.mirState = 3 ∧ reason ≠ 1)) ∨
      (reason = 1 ∧ m.dev.rf R.FLT_WDT F.FLT_WDT_EN = 0)) := by
    rintro (h | ⟨h, -⟩)
    · exact h (.inl hmir)
    · exact hwhy h
  unfold surveyorReset
  dsimp only
  rw [if_neg hserves, htrial]
  exact if_neg Bool.false_ne_true

/-- Settles O55: each start, reset and recovery reaches the branch of its premises (R467 to R481, R506). -/
theorem startCommandsTakeEffect : Obligations.StartCommandsTakeEffect := by
  refine ⟨?cold, ?warm, ?coldStart, ?warmStart, ?watchdog, ?confirm, ?recovery, ?panic, ?back, ?beat, ?thermal⟩
  case cold =>
    intro s ns hns
    exact completes_of_memStep (f := coldN ns) rfl (coldN_of_long hns { dev := s.dev, mem := s.mem })
  case warm =>
    intro s ns hns hcold htest hres hmir
    exact completes_onMach (f := warmN ns) rfl (warmN_resets (m := { dev := s.dev, mem := s.mem }) hns hcold htest hres hmir)
  case coldStart =>
    intro s x hcold hint
    exact completes_onMach (f := Machine.coldStart x) rfl (coldStart_released (m := { dev := s.dev, mem := s.mem }) hcold hint)
  case warmStart =>
    intro s x hat hcold hheld href
    exact completes_onMach (f := Machine.warmStart x) rfl (warmStart_runs (m := { dev := s.dev, mem := s.mem }) hat hcold hheld href)
  case watchdog =>
    intro s hmir hstage hheld hcold htrial hfirst
    exact completes_onMach (f := bootWatchdog) rfl
      (bootWatchdog_retries (m := { dev := s.dev, mem := s.mem }) hmir hstage hheld hcold htrial hfirst)
  case confirm =>
    intro s hmir hlong htrial hsec
    exact completes_onDev (f := trialConfirm) rfl (trialConfirm_confirms hmir hlong htrial hsec)
  case recovery =>
    intro s r hr hmir htrial
    have hm : (if r.val = 0 then { dev := s.dev, mem := s.mem } else surveyorReset r.val { dev := s.dev, mem := s.mem })
        = { dev := s.dev.recoverSurveyor r, mem := s.mem } :=
      (if_neg (by omega)).trans (surveyorReset_recovers (by omega) hmir htrial)
    exact completes_of_memStep (f := fun m => if r.val = 0 then m else surveyorReset r.val m) rfl hm
  case panic =>
    intro s hmir htrial
    exact completes_of_memStep (f := surveyorReset 4) rfl
      (surveyorReset_recovers (m := { dev := s.dev, mem := s.mem }) (by decide) hmir htrial)
  case back =>
    intro s hmir
    refine completes_onDev (f := recoveryReturn 0) rfl ?_
    unfold recoveryReturn
    rw [if_neg (not_not.2 hmir), if_neg (not_not.2 rfl)]
  case beat =>
    intro s hmir hon
    refine completes_onDev (f := Machine.beat) rfl ?_
    unfold Machine.beat
    rw [if_neg (by rintro ⟨h, -⟩; exact h hmir), if_pos hon]
  case thermal =>
    intro s t hmir hwhy ht
    exact completes_onMach rfl (if_pos ⟨hmir, hwhy, ht⟩)

end Sys2Proof.Machine

namespace Sys2Proof.Machine

/-! ### Doorbells and ring states -/

theorem RingSt.latches_of_ne_off {st : RingSt} (h : st ≠ .off) : st.latches = true := by
  cases st with
  | off => exact absurd rfl h
  | _ => rfl

/-- A new command doorbell value within the ring latches (R375). -/
theorem cmdDoorbell_latches {d : Dev} {f : Func} {v : BitVec 32} (hst : (d.ring f).st ≠ .off) (hnew : v ≠ (d.ring f).cmdPi)
    (hpi : (v - (d.ring f).cmdPi).toNat ≤ d.cmdSize f) (hci : (v - (d.ring f).cmdCi).toNat ≤ d.cmdSize f) :
    cmdDoorbell f v d = (d.updRing f (fun r => { r with cmdPi := v })).wakeSurveyor := by
  unfold cmdDoorbell
  dsimp only
  rw [RingSt.latches_of_ne_off hst, beq_eq_false_iff_ne.2 hnew, if_neg (by decide), if_pos ⟨hpi, hci⟩]

theorem resDoorbell_latches {d : Dev} {f : Func} {v : BitVec 32} (hst : (d.ring f).st ≠ .off) (hnew : v ≠ (d.ring f).resCi)
    (hci : (v - (d.ring f).resCi).toNat ≤ d.resSize f) (hpi : ((d.ring f).resPi - v).toNat ≤ d.resSize f) :
    resDoorbell f v d = (d.updRing f (fun r => { r with resCi := v })).wakeSurveyor := by
  unfold resDoorbell
  dsimp only
  rw [RingSt.latches_of_ne_off hst, beq_eq_false_iff_ne.2 hnew, if_neg (by decide), if_pos ⟨hci, hpi⟩]

theorem Dev.wakeSurveyor_ring (d : Dev) (f : Func) : d.wakeSurveyor.ring f = d.ring f := by
  obtain ⟨p, hp⟩ := d.wakeSurveyor_shape
  rw [hp]
  rfl

/-- Freed completion slots of an ACTIVE ring take the pending notices (R375, R380). -/
theorem cplDoorbell_latches {d e : Dev} {f : Func} {v : BitVec 32} (hst : (d.ring f).st = .active) (hnew : v ≠ (d.ring f).cplCi)
    (hci : (v - (d.ring f).cplCi).toNat ≤ d.cplSize f) (hpi : ((d.ring f).cplPi - v).toNat ≤ d.cplSize f)
    (he : e = (d.updRing f (fun r => { r with cplCi := v })).wakeSurveyor) : cplDoorbell f v d = e.flushNotices f (e.ring f).notices := by
  have hnotices : (e.ring f).notices = (d.ring f).notices := by
    rw [he, Dev.wakeSurveyor_ring, Dev.ring_upd_same]
  unfold cplDoorbell
  dsimp only
  rw [RingSt.latches_of_ne_off (by rw [hst]; decide), beq_eq_false_iff_ne.2 hnew, if_neg (by decide), if_pos ⟨hci, hpi⟩, if_pos hst, hnotices, he]

/-- Writing EN = 0 takes ACTIVE rings to QUIESCING (R382). -/
theorem Dev.quiesce_active {d : Dev} {f : Func} (hst : (d.ring f).st = .active) :
    d.quiesce f = ((d.setRf (R.MBX_RING_CTL f) F.MBX_RING_CTL_EN 0).orphanAll f).updRing f
      (fun r => { r with st := .quiescing, reason := 0, quiesced := false }) := by
  unfold Dev.quiesce
  dsimp only
  exact if_pos (.inl hst)

/-! ### Accesses through the BARs -/

/-- An access within BAR4 is the host master's access of the stacks (R369). -/
theorem barAccess_stack {a : BarAccess} {m : Mach} (hbar : a.bar4 = true) (hin : a.off + a.len ≤ 2 ^ 37) :
    let errs : List MemErr := a.errs.map (fun e => { addr := e.1, ue := e.2 })
    barAccess a m = stackAccess { req := .master 2 a.func, sa := a.off, len := a.len, write := a.write, errs := errs } m := by
  intro errs
  unfold barAccess
  dsimp only
  rw [hbar, if_pos rfl, if_pos rfl]
  exact if_neg (Nat.not_lt.2 hin)

/-- An access within BAR2 is the host master's access of the scratchpad (R368). -/
theorem barAccess_scratchpad {a : BarAccess} {m : Mach} (hbar : a.bar4 = false) (hin : a.off + a.len ≤ 0x1000000) :
    let errs : List MemErr := a.errs.map (fun e => { addr := e.1, ue := e.2 })
    barAccess a m = scpAccess { m := 2, func := a.func, off := a.off, len := a.len, write := a.write, errs := errs } m := by
  intro errs
  unfold barAccess
  dsimp only
  rw [hbar, if_neg Bool.false_ne_true, if_neg Bool.false_ne_true]
  exact if_neg (Nat.not_lt.2 hin)

/-- An access within BAR0 of a powered host interface is served if it fits, and counts and errs else (R370). -/
theorem bar0Access_reaches {a : Bar0Access} {d : Dev} (hup : d.host.linkUp = true) (hon : d.domOn 30 = true)
    (hin : a.off + a.size ≤ barSize a.func 0) :
    bar0Access a d = if barFits a then d.bar0Do a else
      a.write.elim ((d.bump R.HST_BAR_ERR F.HST_BAR_ERR_ERR).emit (.barError a.func)) (fun _ => d.bump R.HST_BAR_ERR F.HST_BAR_ERR_ERR) := by
  have hreach : ¬ ((!d.host.linkUp) = true ∨ (!d.domOn 30) = true ∨ barSize a.func 0 < a.off + a.size) := by
    rw [hup, hon]
    rintro (h | h | h)
    · cases h
    · cases h
    · omega
  unfold bar0Access
  rw [if_neg hreach]
  cases a.write with
  | none => rfl
  | some v => rfl

theorem barFits_of {a : Bar0Access} (hsize : a.size = 4 ∨ a.size = 8) (halign : a.off % a.size = 0) : barFits a = true := by
  rw [barFits, Bool.and_eq_true, Bool.or_eq_true, beq_iff_eq, beq_iff_eq, beq_iff_eq]
  exact ⟨hsize, halign⟩

theorem not_barFits_of {a : Bar0Access} (hbad : (a.size ≠ 4 ∧ a.size ≠ 8) ∨ a.off % a.size ≠ 0) : ¬ barFits a = true := by
  rw [barFits, Bool.and_eq_true, Bool.or_eq_true, beq_iff_eq, beq_iff_eq, beq_iff_eq]
  rintro ⟨hsize, halign⟩
  omega

/-- Settles O56: each row of the host interface reaches the branch of its premises (R366 to R389). -/
theorem hostEventsTakeEffect : Obligations.HostEventsTakeEffect := by
  refine ⟨?resets, ?flr, ?vf, ?d3hot, ?bar4, ?bar2, ?read, ?write, ?badRead, ?badWrite, ?cmd, ?cpl, ?res, ?enable, ?disable, ?off,
    ?cplTimer, ?resTimer, ?acquire, ?release⟩
  case resets => exact fun s => ⟨completes_onDev (f := hotReset) rfl rfl, completes_onDev (f := hotReset) rfl rfl⟩
  case flr => exact fun s f => completes_onDev (f := Machine.flr f) rfl rfl
  case vf =>
    intro s
    refine completes_onDev rfl ?_
    have hvfs : vfs = [0, 1, 2, 3, 4, 5, 6, 7] := rfl
    rw [hvfs]
  case d3hot => exact fun s f => completes_onDev rfl rfl
  case bar4 =>
    intro s a hbar hin errs
    exact completes_onMach (f := barAccess a) rfl (barAccess_stack hbar hin)
  case bar2 =>
    intro s a hbar hin errs
    exact completes_onMach (f := barAccess a) rfl (barAccess_scratchpad hbar hin)
  case read =>
    intro s a hup hon hin hsize halign hread
    refine completes_onDev (f := bar0Access a) rfl ?_
    rw [bar0Access_reaches hup hon hin, if_pos (barFits_of hsize halign), Dev.bar0Do, hread]
    rfl
  case write =>
    intro s a v hup hon hin hsize halign hwrite
    refine completes_onDev (f := bar0Access a) rfl ?_
    rw [bar0Access_reaches hup hon hin, if_pos (barFits_of hsize halign), Dev.bar0Do, hwrite]
    rfl
  case badRead =>
    intro s a hup hon hin hbad hread
    refine completes_onDev (f := bar0Access a) rfl ?_
    rw [bar0Access_reaches hup hon hin, if_neg (not_barFits_of hbad), hread, Option.elim_none]
  case badWrite =>
    intro s a v hup hon hin hbad hwrite
    refine completes_onDev (f := bar0Access a) rfl ?_
    rw [bar0Access_reaches hup hon hin, if_neg (not_barFits_of hbad), hwrite, Option.elim_some]
  case cmd =>
    intro s f v hst hnew hpi hci
    exact completes_onDev (f := cmdDoorbell f v) rfl (cmdDoorbell_latches hst hnew hpi hci)
  case cpl =>
    intro s f v hst hnew hci hpi
    exact completes_onDev (f := cplDoorbell f v) rfl (cplDoorbell_latches hst hnew hci hpi rfl)
  case res =>
    intro s f v hst hnew hci hpi
    exact completes_onDev (f := resDoorbell f v) rfl (resDoorbell_latches hst hnew hci hpi)
  case enable =>
    intro s f hst hok
    refine completes_onDev (f := ringEnable f) rfl ?_
    unfold ringEnable
    dsimp only
    rw [if_pos hst, if_pos hok]
  case disable =>
    intro s f hst
    exact completes_onDev (f := fun d => d.quiesce f) rfl (Dev.quiesce_active hst)
  case off =>
    intro s f hst hkeep
    refine completes_onDev (f := fun d => (quiesceComplete f d).vfRegions f) rfl (congrArg (Dev.vfRegions · f) ?_)
    unfold quiesceComplete
    rw [if_pos hst, hkeep]
    exact congrArg (Dev.vfEvent · f) (if_neg Bool.false_ne_true)
  case cplTimer => exact fun s f hsome => completes_onDev rfl (if_pos hsome)
  case resTimer => exact fun s f hsome => completes_onDev rfl (if_pos hsome)
  case acquire =>
    intro s u n hg hfree life broken
    refine (exec_lckAcq hg (Lock.acquire_free hfree _ _)).trans ?_
    unfold broken
    cases (s.dev.locks[n]).broken with
    | false => rfl
    | true => rfl
  case release =>
    intro s u n v hown hbit
    exact completes_onDev (f := fun d => d.lockRelease n (ownerId u) (bit v 0)) rfl (Dev.lockRelease_owner hbit hown)

end Sys2Proof.Machine

namespace Sys2Proof.Machine

/-! ### The command path -/

/-- An ACTIVE ring with a command, room for it and five completion slots is ready to fetch (R376). -/
theorem Dev.fetchReady_of {d : Dev} {f : Func} (hst : (d.ring f).st = .active) (hne : (d.ring f).cmdCi ≠ (d.ring f).cmdPi)
    (hroom : d.inProgress f < (if f = pf then 32 else 8)) (hslots : 5 ≤ d.cplFree f) : d.fetchReady f = true := by
  have hlimit : d.inProgress f < fetchLimit f := hroom
  rw [Dev.fetchReady, hst, bne_iff_ne.2 hne, decide_eq_true hlimit, decide_eq_true hslots]
  rfl

/-- A staged command that need not wait starts, off the list of its function, and is served by its opcode (R377). -/
theorem commandStart_serves {m : Mach} {f : Func} {x : Fetched} {t : List Fetched} {b : Buf} {env : CmdEnv} {o : Opcode} {c : Cmd}
    (hx : (m.dev.ring f).fetched = x :: t) (horph : x.orphan = false)
    (hc : c = { issuer := .fn f, idx := x.idx, desc := x.desc, buf := b, env := env }) (hfetch : m.dev.mayFetch c.opcode = true)
    (hwait : m.dev.mustWait c x = false) (hon : m.dev.domOn 1 = true) (ho : opcodeOf c.opcode = some o) :
    commandStart (.fn f) b env m = o.serve c { m with dev := m.dev.updRing f (fun r => { r with fetched := r.fetched.drop 1 }) } := by
  have hlist : m.dev.fetchedOf (.fn f) = x :: t := hx
  unfold commandStart
  rw [hlist]
  dsimp only
  rw [← hc, hfetch, hwait, if_neg (by decide), hon, if_neg (by decide), horph, if_neg Bool.false_ne_true, serveAny, ho]
  rfl

/-- Settles O57: each row of the command path reaches the branch of its premises (R373, R376 to R380). -/
theorem commandTransportTakesEffect : Obligations.CommandTransportTakesEffect := by
  refine ⟨?fetch, ?start, ?completion, ?posted⟩
  case fetch =>
    intro s f desc hst hne hroom hslots hmay
    refine completes_onDev (f := commandFetch f (.got desc)) rfl ?_
    unfold commandFetch
    rw [Dev.fetchReady_of hst hne hroom hslots, if_neg (by decide)]
    dsimp only
    rw [if_pos hmay]
    rfl
  case start =>
    intro s f x t b env o hx horph c hfetch hwait hon ho
    exact completes_onMach (f := commandStart (.fn f) b env) rfl
      (commandStart_serves (m := { dev := s.dev, mem := s.mem }) hx horph rfl hfetch hwait hon ho)
  case completion =>
    intro s f c t hdone horph hst hroom
    exact completes_onDev (f := completionWrite (.fn f)) rfl (completionWrite_writes hdone horph (.inl hst) hroom)
  case posted =>
    intro s f k arg hk
    exact completes_onDev rfl (if_neg hk)

end Sys2Proof.Machine

namespace Sys2Proof.Machine

/-! ### Accesses of the stacks and the scratchpad -/

/-- A read that its region admits and nothing holds is served. -/
theorem stackAccess_read_served {m : Mach} {a : StackAccess} {k : Fin 4} {l : Nat} {r : Fin 16}
    (hplace : stackPlace m.dev.fus.high a.sa = some (k, l)) (hheld : m.dev.stackHeld k = false) (hready : m.dev.stackReady k = true)
    (hread : a.write = none) (hadmit : m.dev.admitStack a.req k a.sa a.len false = some r) : stackAccess a m = m.serveStack k r a := by
  unfold stackAccess
  simp only [hplace, hheld, hready, hread, Option.isSome_none, hadmit]
  rfl

/-- A served read answers the units that it spans (R343). -/
theorem Mach.serveStack_read {m : Mach} {k : Fin 4} {r : Fin 16} {a : StackAccess} (hca : a.ca ≠ 2) (hread : a.write = none) :
    let x := (m.caCounted k a).readUnits k r a.errs (unitsOf a.sa a.len)
    m.serveStack k r a = { x.2.2 with dev := x.2.2.dev.emit (.memData a.req (slice (a.sa % 64) a.len x.1) (!x.2.1.isEmpty)) } := by
  intro x
  unfold Mach.serveStack
  dsimp only
  rw [if_neg hca, hread]
  rfl

/-- A served write below the watermark is ordinary (R344). -/
theorem Mach.serveStack_write_below {m : Mach} {k : Fin 4} {r : Fin 16} {a : StackAccess} {b : List Byte} (hca : a.ca ≠ 2) (hw : a.write = some b)
    (hbelow : (a.sa + b.length + 63) / 64 ≤ m.dev.rgnWm k r) :
    let x := ((m.caCounted k a).fillTo k r ((m.caCounted k a).dev.rgnWm k r)).storeBytes k a.sa b
    m.serveStack k r a = { x with dev := x.dev.emit (.memDone a.req) } := by
  intro x
  have hwm := Mach.caCounted_rgnWm m k a r
  rw [Mach.serveStack_write hca hw, Mach.writeRegion_below (hwm ▸ hbelow)]
  rfl

/-- A command whose retry fails too ends the access in an error (Table 11.1). -/
theorem Mach.serveStack_parity {m : Mach} {k : Fin 4} {r : Fin 16} {a : StackAccess} (hca : a.ca = 2) :
    m.serveStack k r a = { m with dev := (m.dev.updStk k (fun y => { y with caErrs := y.caErrs + 2 })).emit (.memError a.req) } := by
  unfold Mach.serveStack
  dsimp only
  rw [hca, if_neg (show ¬ (2 : Fin 3) = 0 by decide), if_pos rfl]
  rfl

/-- An admitted access to a held stack waits at its node (R348). -/
theorem stackAccess_read_held {m : Mach} {a : StackAccess} {k : Fin 4} {l : Nat} {r : Fin 16}
    (hplace : stackPlace m.dev.fus.high a.sa = some (k, l)) (hheld : m.dev.stackHeld k = true) (hread : a.write = none)
    (hadmit : m.dev.admitStack a.req k a.sa a.len false = some r) : stackAccess a m = { m with dev := m.dev.queueStack k r a } := by
  unfold stackAccess
  simp only [hplace, hheld, hread, Option.isSome_none, hadmit]
  rfl

/-- A read of the scratchpad that is admitted answers the bytes of its written lines (R352, R353). -/
theorem scpAccess_read {m : Mach} {a : ScpAccess} {d : Dev} (hread : a.write = none) (hlen : a.off + a.len ≤ scpBytes)
    (hadmit : m.dev.masterAdmits a.m a.func (scpWindow + a.off) (scpWindow + a.off + a.len) false = true)
    (hcopy : m.dev.scp.copying = none) (hmarch : m.dev.march = none) (hdeg : m.dev.rf R.SCP_STAT F.SCP_STAT_DEGRADED = 0)
    (hd : d = m.dev.scpReadLines a.errs (scpLines a.off a.len)) :
    scpAccess a m = { m with dev := d.emit (.memData (.master a.m a.func) (Mach.scpBytesRead { m with dev := d } a.off a.len)
      (d.scp.poison.any (fun p => decide (p < a.off + a.len) && decide (a.off < p + 8)))) } := by
  have hserved : scpAccess a m = m.serveScp a :=
    scpAccess_served (by simpa [scpLen, hread] using hlen) (by simpa [scpLen, hread] using hadmit) hcopy hmarch
  rw [hserved]
  unfold Mach.serveScp
  dsimp only
  rw [hdeg, if_neg (by rintro ⟨h, -⟩; cases h), hread, ← hd]
  rfl

/-! ### The march engine and training -/

/-- A march without a failing memory that keeps the contents ends, and the traffic that waited goes on (R359). -/
theorem marchDone_pass {m : Mach} {r : MarchResult} {x : March} {d : Dev} (hrun : m.dev.march = some x) (hpass : r.mems = 0) (hkeep : x.preserve = true)
    (hd : d = ({ m.dev with march := none }.setReg R.SCP_MT_STAT 0).setReg R.SCP_MT_FAIL 0) :
    marchDone r m = match marchTarget x.target with
      | some .scratchpad => Mach.resumeScp { m with dev := d }
      | some (.stack k) => Mach.drainStack { m with dev := d } k
      | _ => { m with dev := d } := by
  have hstat : BitVec.ofNat 32 (b2n false * 2 ^ 30 + r.mems.toNat) = 0 := by rw [hpass]; rfl
  have hfail : (r.mems != 0) = false := by rw [hpass]; rfl
  unfold marchDone
  rw [hrun]
  dsimp only
  rw [hfail, hstat, hkeep]
  cases marchTarget x.target with
  | none =>
    rw [hd]
    rfl
  | some t =>
    rw [hd]
    cases t with
    | scratchpad => rfl
    | stack k => rfl
    | gallery g => rfl

/-- A MEM_TEST that waits for a march of a target completes with what the engine found (R359). -/
def Mach.marchReleased (m : Mach) (t : Nat) : Mach :=
  let d := m.dev
  { m with dev := d.release (Wait.isMarch t) .ok ((d.reg R.SCP_MT_STAT).setWidth 64) ((d.reg R.SCP_MT_FAIL).setWidth 64) 0 }

theorem marchEnds_releases {m : Mach} {r : MarchResult} {x : March} (hrun : m.dev.march = some x) :
    marchEnds r m = (marchDone r m).marchReleased x.target := by
  unfold marchEnds
  rw [hrun, Mach.marchReleased]

/-- Settings that the firmware saved are used by a fast training (R340). -/
theorem stackTrainStep_cal {d : Dev} {k : Fin 4} {r : TrainResult} (hst : (d.stk k).st = .cal) (hgood : (d.stk k).fast = false ∨ r.badPcs = 0) :
    stackTrainStep k r d = (d.retirePcs k r.badPcs).updStk k (fun x =>
      { x with st := .verify, settings := if x.fast then ((d.led.stackRecs[k]).map (·.settings)).getD [] else r.settings }) := by
  have hslow : ¬ ((d.stk k).fast = true ∧ r.badPcs ≠ 0) := by
    rintro ⟨hfast, hbad⟩
    rcases hgood with h | h
    · rw [h] at hfast
      cases hfast
    · exact hbad h
  unfold stackTrainStep
  rw [hst]
  dsimp only
  rw [if_neg hslow]
  cases d.led.stackRecs[k] with
  | none => rfl
  | some x => rfl

/-- A stack's background test that passes moves on to the next block (R357). -/
theorem backgroundBlock_stack {d : Dev} {t : Fin 5} {k : Fin 4} (ht : t.val = k.val + 1) (hbg : d.rf (R.STK_CTL k) F.STK_CTL_BG_EN = 1)
    (hready : d.stackReady k = true) :
    backgroundBlock t .pass d = d.updStk k (fun y => { y with bgPos := (d.blockAt k (d.stk k).bgPos + 1) % (d.stackCap / 4096) }) := by
  have hne : ¬ t.val = 0 := by omega
  have hval : t.val - 1 = k.val := by omega
  unfold backgroundBlock
  rw [dif_neg hne]
  simp only [hval]
  exact if_pos ⟨hbg, hready⟩

/-- Settles O58: each row of the memories reaches the branch of its premises (R337 to R360). -/
theorem memoryCommandsTakeEffect : Obligations.MemoryCommandsTakeEffect := by
  refine ⟨?read, ?write, ?parity, ?held, ?fill, ?filled, ?refresh, ?temp, ?scpTest, ?stackTest, ?scpWrite, ?scpRead, ?copied, ?march, ?marched,
    ?phyinit, ?lane, ?cal⟩
  case read =>
    intro s a k l r hplace hheld hready hread hca hadmit
    have hserved := stackAccess_read_served (m := { dev := s.dev, mem := s.mem }) hplace hheld hready hread hadmit
    exact completes_onMach (f := stackAccess a) rfl (hserved.trans (Mach.serveStack_read hca hread))
  case write =>
    intro s a k l r b hplace hheld hready hw hca hadmit hbelow
    have hserved := stackAccess_write_served (m := { dev := s.dev, mem := s.mem }) hplace hheld hready hw hadmit
    exact completes_onMach (f := stackAccess a) rfl (hserved.trans (Mach.serveStack_write_below hca hw hbelow))
  case parity =>
    intro s a k l r hplace hheld hready hread hca hadmit
    have hserved := stackAccess_read_served (m := { dev := s.dev, mem := s.mem }) hplace hheld hready hread hadmit
    exact completes_of_memStep (f := stackAccess a) rfl (hserved.trans (Mach.serveStack_parity hca))
  case held =>
    intro s a k l r hplace hheld hread hadmit
    exact completes_of_memStep (f := stackAccess a) rfl (stackAccess_read_held (m := { dev := s.dev, mem := s.mem }) hplace hheld hread hadmit)
  case fill =>
    intro s k r hvalid hready
    exact completes_onDev (f := fun d => d.startFill k r) rfl (if_pos ⟨hvalid, hready⟩)
  case filled =>
    intro s k r hfilling
    refine completes_onMach (f := fillEnds k r) rfl ?_
    unfold fillEnds fillComplete
    dsimp only
    rw [if_pos hfilling]
  case refresh => exact fun s k hready => completes_onDev rfl (if_pos hready)
  case temp =>
    intro s k t hst ht
    refine completes_onDev (f := stackTemp k t) rfl ?_
    unfold stackTemp
    dsimp only
    rw [if_pos hst, decide_eq_false (Nat.not_lt.2 ht), if_neg (by omega)]
    rfl
  case scpTest =>
    intro s hbg
    refine completes_onDev (f := backgroundBlock 0 .pass) rfl ?_
    unfold backgroundBlock
    rw [dif_pos (show (0 : Fin 5).val = 0 from rfl), if_pos hbg]
  case stackTest =>
    intro s k hbg hready
    exact completes_onDev (f := backgroundBlock k.succ .pass) rfl (backgroundBlock_stack (Fin.val_succ k) hbg hready)
  case scpWrite =>
    intro s a b hw hlen hadmit hcopy hmarch hdeg
    exact completes_onMach (f := scpAccess a) rfl (scpAccess_write (m := { dev := s.dev, mem := s.mem }) hw hlen hadmit hcopy hmarch hdeg)
  case scpRead =>
    intro s a hread hlen hadmit hcopy hmarch hdeg d bytes
    exact completes_of_memStep (f := scpAccess a) rfl
      (scpAccess_read (m := { dev := s.dev, mem := s.mem }) hread hlen hadmit hcopy hmarch hdeg rfl)
  case copied =>
    intro s b hcopy
    refine completes_onMach (f := scpCopyDone) rfl ?_
    unfold scpCopyDone
    dsimp only
    rw [hcopy]
    rfl
  case march =>
    intro s t p x hx hfree hform hblock
    refine completes_onDev rfl ?_
    rw [hx]
    exact if_pos ⟨hfree, hform, hblock⟩
  case marched =>
    intro s r x hrun hpass hkeep m e d
    have hdone := marchDone_pass (m := { dev := s.dev, mem := s.mem }) hrun hpass hkeep rfl
    exact completes_of_memStep (f := marchEnds r) rfl ((marchEnds_releases hrun).trans (congrArg (Mach.marchReleased · x.target) hdone))
  case phyinit =>
    intro s k r hst hgood
    refine completes_onDev (f := stackTrainStep k r) rfl ?_
    unfold stackTrainStep
    rw [hst]
    dsimp only
    rw [hgood, if_neg Bool.false_ne_true]
  case lane =>
    intro s k r hst
    refine completes_onDev (f := stackTrainStep k r) rfl ?_
    unfold stackTrainStep
    rw [hst]
  case cal =>
    intro s k r hst hgood saved
    exact completes_onDev (f := stackTrainStep k r) rfl (stackTrainStep_cal hst hgood)

end Sys2Proof.Machine

namespace Sys2Proof.Machine

/-! ### Guideline frames and the collector -/

/-- A bank of registers filled in order holds each one's own word. -/
theorem Dev.forEach_setReg_reg {a : Nat → Nat} (hinj : ∀ i j, a i = a j → i = j) (v : Nat → Word) (j : Nat) :
    ∀ (l : List Nat) (d : Dev), (d.forEach l (fun i d => d.setReg (a i) (v i))).reg (a j) = if j ∈ l then v j else d.reg (a j)
  | [], d => (if_neg (List.not_mem_nil)).symm
  | i :: t, d => by
    have ih := Dev.forEach_setReg_reg hinj v j t (d.setReg (a i) (v i))
    refine ih.trans ?_
    by_cases ht : j ∈ t
    · rw [if_pos ht, if_pos (List.mem_cons_of_mem i ht)]
    · rw [if_neg ht]
      by_cases hi : j = i
      · rw [hi, Dev.reg_setReg_same, if_pos List.mem_cons_self]
      · rw [Dev.reg_setReg_ne _ (fun h => hi (hinj j i h)), if_neg (by rw [List.mem_cons]; exact not_or.2 ⟨hi, ht⟩)]

theorem Dev.forEach_setReg_gdl {a : Nat → Nat} (v : Nat → Word) (l : List Nat) (d : Dev) :
    (d.forEach l (fun i d => d.setReg (a i) (v i))).gdl = d.gdl :=
  Dev.forEach_rel (P := fun d e => e.gdl = d.gdl) (fun _ => rfl) (fun x y => y.trans x) (fun i d => d.setReg_gdl (a i) (v i)) l d

theorem R.GDL_RX_inj (i j : Nat) (h : R.GDL_RX i = R.GDL_RX j) : i = j := by
  unfold R.GDL_RX at h
  omega

theorem R.GDL_RX_ne_stat (i : Nat) : R.GDL_RX i ≠ R.GDL_STAT := by
  unfold R.GDL_RX R.GDL_STAT
  omega

/-- The frame of a RESP without a value (Table 18.5). -/
def respBytes (st : Nat) (status : BitVec 8) : List Byte := [0x01, BitVec.ofNat 8 st, 0x03, 1, status]

/-- GDL_RX filled with a RESP without a value, RX_VALID set (Table 18.12). -/
def Dev.respHeld (d : Dev) (st : Nat) (status : BitVec 8) : Dev :=
  (d.forEach (List.range 7) (fun i d => d.setReg (R.GDL_RX i) (BitVec.ofNat 32 (leAt (respBytes st status) (4 * i) 4)))).setRf R.GDL_STAT
    F.GDL_STAT_RX_VALID 1

theorem Dev.respHeld_valid (d : Dev) (st : Nat) (status : BitVec 8) : (d.respHeld st status).rf R.GDL_STAT F.GDL_STAT_RX_VALID = 1 :=
  Dev.rf_setRf_same _ _ _ _ (by decide)

theorem Dev.respHeld_rx (d : Dev) (st : Nat) (status : BitVec 8) {j : Nat} (hj : j < 7) :
    (d.respHeld st status).reg (R.GDL_RX j) = BitVec.ofNat 32 (leAt (respBytes st status) (4 * j) 4) := by
  unfold Dev.respHeld
  rw [Dev.reg_setRf_ne _ (R.GDL_RX_ne_stat j), Dev.forEach_setReg_reg R.GDL_RX_inj, if_pos (List.mem_range.2 hj)]

theorem Dev.respHeld_gdl (d : Dev) (st : Nat) (status : BitVec 8) : (d.respHeld st status).gdl = d.gdl := by
  unfold Dev.respHeld
  rw [Dev.setRf_gdl, Dev.forEach_setReg_gdl]

/-- The first word of the frame names its stations, op and length. -/
theorem respBytes_head (st : Nat) (status : BitVec 8) : leAt (respBytes st status) (4 * 0) 4 = leAt [0x01, BitVec.ofNat 8 st, 0x03, 1] 0 4 := by
  have hslice : slice (4 * 0) 4 (respBytes st status) = slice 0 4 [0x01, BitVec.ofNat 8 st, 0x03, 1] := rfl
  rw [leAt, leAt, hslice]

theorem respBytes_status (st : Nat) (status : BitVec 8) : leAt (respBytes st status) (4 * 1) 4 = status.toNat := by
  have hslice : slice (4 * 1) 4 (respBytes st status) = [status, 0, 0, 0] := rfl
  rw [leAt, hslice]
  simp [ofLe]

/-- The Guideline's own state is no register. -/
theorem Dev.setGdl_reg (d : Dev) (g : Guideline) (a : Nat) : ({ d with gdl := g } : Dev).reg a = d.reg a := rfl

theorem Dev.setGdl_rf (d : Dev) (g : Guideline) (a : Nat) (f : Fld) : ({ d with gdl := g } : Dev).rf a f = d.rf a f := rfl

/-- The Surveyor's RESP is held in GDL_RX, RX_VALID set, and its request is over (R496, Table 18.12). -/
theorem guidelineResp_held {d : Dev} {h : GdlHead} {status : BitVec 8} (hcrc : h.crcOk = true) (hsurv : h.surveyor = true) :
    let e := d.respHeld h.station.val status
    guidelineResp h status.toNat none d = { e with gdl := { d.gdl with reqs := dropReq h.station.val d.gdl.reqs } } := by
  intro e
  have hgdl : e.gdl = d.gdl := d.respHeld_gdl h.station.val status
  rw [← hgdl]
  unfold guidelineResp
  rw [hcrc, if_neg (by decide), hsurv, if_neg (by decide)]
  dsimp only [List.length_cons, List.length_nil, List.cons_append, List.nil_append]
  rw [BitVec.ofNat_toNat, BitVec.setWidth_eq]
  rfl

/-- A READ on the ring answers the register's word (R497). -/
theorem guidelineRead_reads {d : Dev} {h : GdlHead} {off a : Nat} {r : RegAt} (hcrc : h.crcOk = true) (hon : d.stationOn h.station.val = true)
    (hreg : stationReg h.station.val off = some (a, r)) :
    guidelineRead h off d = (d.readReg a).2.respond h 0 (leBytes 4 (d.readReg a).1.toNat) := by
  unfold guidelineRead
  rw [Dev.onFrame_served hcrc hon, hreg]

/-- A WRITE on the ring acts on the register by its access codes (R497). -/
theorem guidelineWrite_writes {m : Mach} {h : GdlHead} {off a : Nat} {v : Word} {r : RegAt} (hcrc : h.crcOk = true)
    (hon : m.dev.stationOn h.station.val = true) (hreg : stationReg h.station.val off = some (a, r)) :
    guidelineWrite h off v m = { writeNow a r v m with dev := (writeNow a r v m).dev.respond h 0 } := by
  unfold guidelineWrite
  rw [hcrc, hon, if_neg (by decide), hreg]

/-- A frame that the Surveyor may originate leaves, and its RESP is awaited (R497). -/
theorem Dev.sendGuideline_sends {d : Dev} {bytes : List Byte} (hbytes : bytes = (List.range 7).flatMap (fun i => leBytes 4 (d.reg (R.GDL_TX i)).toNat))
    (hlen : leAt bytes 3 1 ≤ 24) (hop : [0x01, 0x02, 0x05, 0x06, 0x08].contains (leAt bytes 2 1) = true) :
    d.sendGuideline = { d with
      outbox := Output.gdlFrame { dst := leAt bytes 0 1, src := leAt bytes 1 1, op := leAt bytes 2 1, payload := slice 4 (leAt bytes 3 1) bytes } :: d.outbox
      gdl := { d.gdl with reqs := d.gdl.reqs ++ [{ by_ := 1, dst := leAt bytes 0 1 }] } } := by
  have hgo : ¬ (24 < leAt bytes 3 1 ∨ (!([0x01, 0x02, 0x05, 0x06, 0x08] : List Nat).contains (leAt bytes 2 1)) = true) := by
    rw [hop]
    rintro (h | h)
    · omega
    · cases h
  unfold Dev.sendGuideline
  dsimp only
  rw [← hbytes, if_neg hgo]
  rfl

/-- Settles O59: each row of the collector and the Guideline reaches the branch of its premises (R495 to R509). -/
theorem faultCommandsTakeEffect : Obligations.FaultCommandsTakeEffect := by
  refine ⟨?record, ?frame, ?drain, ?free, ?read, ?write, ?resp, ?sink, ?haltGallery, ?haltBlock, ?ping, ?note, ?timeout, ?go⟩
  case record => exact fun s x => completes_onDev (f := fun d => d.faultIn x) rfl rfl
  case frame =>
    intro s h x hcrc hon
    refine completes_onDev rfl ?_
    rw [hcrc, if_neg (by decide), if_pos hon]
  case drain =>
    intro s hdrains hsome
    refine completes_onDev rfl ?_
    rw [if_pos hdrains, Dev.drain, if_neg (by rw [List.isEmpty_iff]; exact hsome), if_pos rfl]
    rfl
  case free => exact fun s n => completes_onDev rfl rfl
  case read =>
    intro s h off a r hcrc hon hreg
    exact completes_onDev (f := guidelineRead h off.toNat) rfl (guidelineRead_reads hcrc hon hreg)
  case write =>
    intro s h off v a r hcrc hon hreg
    exact completes_onMach (f := guidelineWrite h off.toNat v) rfl
      (guidelineWrite_writes (m := { dev := s.dev, mem := s.mem }) hcrc hon hreg)
  case resp =>
    intro s h status hcrc hsurv
    have hheld := guidelineResp_held (d := s.dev) (status := status) hcrc hsurv
    refine ⟨_, completes_of_devStep (f := guidelineResp h status.toNat none) rfl hheld, ?valid, ?head, ?status, rfl, rfl⟩
    case valid => rw [Dev.setGdl_rf, Dev.respHeld_valid]
    case head => rw [Dev.setGdl_reg, Dev.respHeld_rx _ _ _ (by decide), respBytes_head]
    case status => rw [Dev.setGdl_reg, Dev.respHeld_rx _ _ _ (by decide), respBytes_status]
  case sink =>
    intro s h b hcrc hon hlo hhi
    refine completes_onDev (f := guidelineDrain h b) rfl ?_
    unfold guidelineDrain
    rw [Dev.onFrame_served hcrc hon, if_pos ⟨hlo, hhi⟩]
  case haltGallery =>
    intro s h hcrc hon hlo hhi
    refine completes_onDev (f := halt h) rfl ?_
    unfold halt
    rw [Dev.onFrame_served hcrc hon]
    dsimp only
    rw [if_pos ⟨hlo, hhi⟩]
  case haltBlock =>
    intro s h hcrc hon hother hnew
    refine completes_onDev (f := halt h) rfl ?_
    unfold halt
    rw [Dev.onFrame_served hcrc hon]
    dsimp only
    rw [if_neg (by omega), hnew, if_neg Bool.false_ne_true]
  case ping =>
    intro s h hcrc hone hon
    refine completes_onDev (f := Machine.ping h) rfl ?_
    unfold Machine.ping
    rw [hcrc, if_neg (by decide), if_neg hone, if_pos hon]
  case note => exact fun s c => completes_onDev rfl rfl
  case timeout => exact fun s dst => completes_onDev (f := guidelineTimeout false dst.val) rfl (if_neg Bool.false_ne_true)
  case go =>
    intro s bytes hlen hop
    exact completes_of_devStep (f := fun d => d.sendGuideline) rfl (Dev.sendGuideline_sends rfl hlen hop)

end Sys2Proof.Machine

namespace Sys2Proof.Machine

/-! ### Register writes -/

/-- A write through VN-M reaches a block whose domain is on (R432). -/
theorem Dev.reach_on {d : Dev} {i : Nat} (hon : d.domOn i = true) (f : Dev → Dev) : d.reach i f = f d := if_pos hon

/-- A row that only reaches a block acts on it where its domain is on. -/
theorem completes_of_reach {i : Instr} {s : State} {n : Nat} {f : Dev → Dev} (hi : exec i s = devStep s (fun d => d.reach n f))
    (hon : s.dev.domOn n = true) : Completes i s (s.onDev f) := completes_onDev hi (Dev.reach_on hon f)

/-- A Gallery that does not run takes a configuration reset (R156). -/
theorem Dev.startCfgReset_begins {d : Dev} {g : Fin 8} (hrun : (d.gal g).st ≠ .run) (hstop : (d.gal g).st ≠ .stopping) :
    d.startCfgReset g = d.updGal g (fun x => { x with cfgBusy := true }) := by
  unfold Dev.startCfgReset
  split
  next h => exact absurd h hrun
  next h => exact absurd h hstop
  next => rfl

/-! ### The SMBus target -/

/-- Out of cold reset the target answers a read (Table 19.10). -/
theorem smbusRead_up {d : Dev} (hcold : d.boot.inCold = false) (b : Dev → List Byte) : smbusRead b d = d.emit (.smbus (b d)) :=
  if_pos (by rw [Dev.smbusUp, hcold]; rfl)

theorem smbusReg_read {d : Dev} (hcold : d.boot.inCold = false) (rd : Dev → List Byte) (put : Nat → Dev → Dev) :
    smbusReg rd put none d = d.emit (.smbus (rd d)) := by
  unfold smbusReg
  rw [Dev.smbusUp, hcold, if_neg (by decide)]

/-- A write whose PEC passes acts (R532). -/
theorem smbusReg_write {d : Dev} {pec : Option Bool} (hcold : d.boot.inCold = false) (hpec : d.pecOk pec = (true, d)) (rd : Dev → List Byte)
    (put : Nat → Dev → Dev) (v : Nat) : smbusReg rd put (some (v, pec)) d = put v d := by
  unfold smbusReg
  rw [Dev.smbusUp, hcold, if_neg (by decide)]
  dsimp only
  rw [hpec]
  exact if_pos rfl

theorem Dev.pecOk_of {d : Dev} {pec : Option Bool} (h : pec = some true ∨ (pec = none ∧ d.rf R.LNT_SMB_CFG F.LNT_SMB_CFG_PEC_REQ = 0)) :
    d.pecOk pec = (true, d) := by
  rcases h with rfl | ⟨rfl, hreq⟩
  · rfl
  · rw [Dev.pecOk, hreq]
    rfl

/-! ### The TAP -/

/-- With TRST_N high the TAP takes an instruction (R531). -/
theorem Dev.tapTakes_high {d : Dev} (htrst : d.pins.trst = false) (ir : JtagIr) (out : List Bool) :
    d.tapTakes ir out = { d.emit (.tdo out) with pins := { d.pins with ir := ir } } :=
  if_neg (by rw [htrst]; decide)

/-- Settles O60: each row of the registers, the SMBus target and the TAP reaches the branch of its premises (R19, R156, R432, R531 to R534). -/
theorem registerAndPinCommandsTakeEffect : Obligations.RegisterAndPinCommandsTakeEffect := by
  refine ⟨?register, ?runEn, ?cfgReset, ?gallery, ?mesh, ?link, ?stack, ?scratchpad, ?clock, ?always, ?reads, ?alerts, ?slew, ?response, ?tap,
    ?sample, ?extest, ?trst⟩
  case register =>
    intro s a v r hreg
    have hexec : exec (.registerWrite a v) s = memStep s (writeReg a.toNat r v) := by
      change execRegisterWrite a v s = _
      rw [execRegisterWrite, hreg]
    exact completes_onMach hexec rfl
  case runEn => exact fun s g b hon => completes_of_reach (f := fun d => d.writeRunEn g b) rfl hon
  case cfgReset =>
    intro s g hon hrun hstop
    exact completes_onDev (f := fun d => d.reach (4 + g.val) (fun d => d.startCfgReset g)) rfl
      ((Dev.reach_on hon _).trans (Dev.startCfgReset_begins hrun hstop))
  case gallery =>
    exact fun s g hon => ⟨completes_of_reach rfl hon, completes_of_reach rfl hon, completes_of_reach rfl hon, completes_of_reach rfl hon,
      completes_of_reach rfl hon⟩
  case mesh => exact fun s hon => completes_of_reach rfl hon
  case link => exact fun s k hon => completes_of_reach rfl hon
  case stack => exact fun s k hon => completes_of_reach rfl hon
  case scratchpad => exact fun s hon => completes_of_reach rfl hon
  case clock => exact fun s hon => completes_of_reach rfl hon
  case always => exact fun s => ⟨completes_onDev rfl rfl, completes_onDev rfl rfl, completes_onDev rfl rfl⟩
  case reads =>
    intro s hcold
    refine ⟨?id, ?state, ?tj, ?pkg, ?ptime, ?stat, ?mask, ?slewRead, ?timeout⟩
    case id => exact completes_onDev rfl (smbusRead_up hcold _)
    case state => exact completes_onDev rfl (smbusRead_up hcold _)
    case tj => exact completes_onDev rfl (smbusRead_up hcold _)
    case pkg => exact completes_onDev rfl (smbusRead_up hcold _)
    case ptime => exact completes_onDev rfl (smbusRead_up hcold _)
    case stat => exact completes_onDev (f := smbusAlertStat none) rfl (smbusReg_read hcold _ _)
    case mask => exact completes_onDev (f := smbusAlertMask none) rfl (smbusReg_read hcold _ _)
    case slewRead => exact completes_onDev (f := smbusIoSlew none) rfl (smbusReg_read hcold _ _)
    case timeout => exact completes_onDev rfl (if_pos (by rw [Dev.smbusUp, hcold]; rfl))
  case alerts =>
    intro s v pec hcold hpec
    have hok := Dev.pecOk_of hpec
    exact ⟨completes_onDev (f := smbusAlertStat (some (v, pec))) rfl (smbusReg_write hcold hok _ _ _),
      completes_onDev (f := smbusAlertMask (some (v, pec))) rfl (smbusReg_write hcold hok _ _ _)⟩
  case slew =>
    intro s v hcold
    exact completes_onDev (f := smbusIoSlew (some (v, some true))) rfl (smbusReg_write hcold rfl _ _ _)
  case response =>
    intro s hcold halert
    exact completes_onDev (f := smbusAlertResponse) rfl (if_pos (by rw [Dev.smbusUp, hcold, halert]; rfl))
  case tap =>
    intro s htrst
    have htakes := Dev.tapTakes_high htrst .bypass [false]
    refine ⟨completes_onDev (f := fun d => d.tapTakes .idcode (scanBits d.idcode)) rfl (Dev.tapTakes_high htrst _ _), ?bypass⟩
    case bypass =>
      have hm : (if (false && s.dev.boot.lab && !s.dev.pins.trst) = true
          then testMode { dev := s.dev.tapTakes .bypass [false], mem := s.mem } else { dev := s.dev.tapTakes .bypass [false], mem := s.mem })
          = { dev := { s.dev.emit (.tdo [false]) with pins := { s.dev.pins with ir := .bypass } }, mem := s.mem } := by
        rw [Bool.false_and, Bool.false_and, if_neg Bool.false_ne_true, htakes]
      exact completes_of_memStep rfl hm
  case sample =>
    intro s levels pre htrst
    refine completes_onDev rfl ?_
    rw [htrst, if_neg Bool.false_ne_true, Dev.tapTakes_high htrst]
  case extest =>
    intro s htrst hcold
    refine completes_onMach (f := Machine.extest) rfl ?_
    unfold Machine.extest
    rw [htrst, hcold, if_neg (by decide), Dev.tapTakes_high htrst]
  case trst => exact fun s => ⟨completes_onDev rfl rfl, completes_onDev rfl rfl⟩

end Sys2Proof.Machine
